-- ==== Sys2Proof/Word.lean ====
section
/-!
DEFINITION. The machine's words (R4): a register word, a byte, a 64-bit address or pair, and the
plainest fields of them.
-/

-- The package is also compiled as one text, with a large stack for every thread: one declaration at a time keeps that
-- within the memory of the check.
set_option Elab.async false

namespace Sys2Proof

/-- A 32-bit register word of one lane (R66). -/
abbrev Word := BitVec 32

/-- One byte of memory. -/
abbrev Byte := BitVec 8

/-- A 64-bit value: an address or a register pair (R67). -/
abbrev Addr := BitVec 64

/-- A register number, 0 to 127 (R23). -/
abbrev Reg := BitVec 7

/-- A set of lanes of one group, bit i for lane i. -/
abbrev LaneSet := BitVec 64

/-- The 64-bit value of a register pair, low word first (R4). -/
def pair (lo hi : Word) : Addr := hi ++ lo

/-- The low word of a 64-bit value. -/
def lo32 (a : Addr) : Word := a.extractLsb' 0 32

/-- The high word of a 64-bit value. -/
def hi32 (a : Addr) : Word := a.extractLsb' 32 32

end Sys2Proof
end

