-- ==== Sys2Proof/Config.lean ====
section
/-!
DEFINITION. What is fixed for the DX-KX9-A1 (R2), and the free values: opaque constants that stand for
what the spec leaves open or defers to another standard. No proof can see a value of them.
-/
namespace Sys2Proof.Config

/-- The group width W of this part (R2, R35 WIDTH). -/
def width : Nat := 64

/-- Dies of the module (R1). -/
def dies : Nat := 4

/-- Logical cores of a die: a mesh of 16 columns by 8 rows (R1, R2). -/
def coresPerDie : Nat := 128

/-- Columns of a die's logical mesh (R1). -/
def meshColumns : Nat := 16

/-- Rows of a die's logical mesh (R1). -/
def meshRows : Nat := 8

/-- Quads of a core (R1). -/
def quadsPerCore : Nat := 4

/-- A-buffer bytes of a core (R2, R124). -/
def abufBytes : Nat := 524288

/-- W-buffer bytes of a core (R2, R124). -/
def wbufBytes : Nat := 1048576

/-- Main-memory bytes, 576 GiB (R377). -/
def memBytes : Nat := 576 * 2 ^ 30

/-- Bytes of one HBM4E stack, 48 GiB (R377). -/
def stackBytes : Nat := 48 * 2 ^ 30

/-- The stack that holds a physical address (R377). -/
def stackOf (pa : Nat) : Nat := pa / stackBytes

/-- The die that homes a physical address (R377). -/
def dieOf (pa : Nat) : Nat := stackOf pa / 3

/-- Cycles of 1 µs of the 1.6 GHz clock (R4). -/
def cyclesPerUs : Nat := 1600

/-- Free value: the SFU's fixed mapping where R104 and R105 give no exact result (R105): for a function code, an
interval on which the function is monotonic and a result's encoding, the input's encoding from which the function
gives that result. -/
opaque sfu : Nat → Nat → Nat → Nat

/-- Free value: whether a sector that an L1 still holds has been evicted meanwhile (R135 gives no
eviction rule; R160 allows either value): by the machine's step number, core and sector. -/
opaque l1Evicted : Nat → Nat → Nat → Bool

/-- Free value: whether a translation uses the entry a TLB holds or the changed entry in memory (R132): by
the machine's step number and the virtual address. -/
opaque tlbOld : Nat → Nat → Bool

/-- Free value: whether a demand fill's eviction takes the way of a prefetch fill in its cycle (R137): by the machine's step
number and the line. -/
opaque prefetchMeets : Nat → Nat → Bool

/-- Free value: which of the bytes that an engine command or a stream has left to move goes next, with its unit (R158 gives
their words no order): by the machine's step number, the command, and how many are left. -/
opaque wordNext : Nat → Nat → Nat → Nat

/-- Free value: after which source word the reading of an engine's unit breaks off for the time, 0 where it does not (R158
lets a destination word's source words be read at different times): by the machine's step number and the command. -/
opaque readBreak : Nat → Nat → Nat

/-- Free value: the bytes that memory written under one key gives under another (R127, R266, R356; log 16): by the machine's
step number and the physical address. -/
opaque underKey : Nat → Nat → Byte

/-- Free value: the bytes a result takes where the spec fixes no value. -/
opaque freeWord : Nat → Word

/-- Free value: which of several alike free entries the device takes, by the machine's step number (log 22). -/
opaque pick : Nat → Nat

/-- Free value: what an instruction reads from a queue port that is bound as a write stream, by port and lane
(R344 gives a read of such a port no value). -/
opaque portWord : Nat → Nat → Word

/-- What a decoder makes of a compressed image before scaling: the status of R348, the component count,
the size, and the samples in row-major order, components innermost. -/
structure Image where
  status : Nat
  comps : Nat
  width : Nat
  height : Nat
  samples : List Nat
  deriving DecidableEq, Repr, Inhabited

/-- Free value: the result of ITU-T T.81 decoding of a byte stream (R346 defers to T.81 and T.871; one fixed
mapping). -/
opaque decodeT81 : List Byte → Image

/-- Free value: the result of ITU-T T.6 decoding with a maximum width and height (R346 defers to T.6). -/
opaque decodeT6 : List Byte → Nat → Nat → Image

/-- Free value: whether both signatures, the digest and the security version of a firmware or recovery
image verify (R361 defers to RSA-PSS, SLH-DSA and SHA-384). -/
opaque imageVerifies : List Byte → Bool

/-- Free value: the 64 B key that a 384 B wrapped key holds under the transport key of reset number n (R362, R363). -/
opaque unwrapKey : Nat → List Byte → List Byte

/-- Free value: whether a wrapped key unwraps at all under the transport key of reset number n (R363). -/
opaque unwrapOk : Nat → List Byte → Bool

/-- What an attestation report is over (R362): the digest and the security version are those of the firmware image, and the
transport public key is that of the boot, told by the reset number. -/
structure Attested where
  nonce : List Byte
  image : List Byte
  signature : Addr
  boot : Nat
  deriving DecidableEq, Repr

/-- Free value: the signed report (R362); its layout is not given. -/
opaque attestReport : Attested → List Byte

/-- Free value: the window count that a record of a transmit lane shows, by the machine's step number and the lane (R298
shows one and R292 counts at the receiver; log 118). -/
opaque sentCount : Nat → Nat → Nat

/-- Free value: the HBM4E row that holds a physical address (R359 names rows and gives them no size). -/
opaque rowOf : Nat → Nat

/-- Free value: the random key drawn into slot 0 at reset number n (R363). -/
opaque bootKey : Nat → List Byte

/-- The temperature limit, in tenths of a degree: the 45 °C of R2 and R364 (log 87). -/
def temperatureLimit : Nat := 450

/-- Free value: the payloads of the DATA flits that carry one request or answer (R284 gives the payload no layout; log
17), by the machine's step number. -/
opaque flits : Nat → List (List Byte)

end Sys2Proof.Config
end

