-- ==== Sys2Proof/Syntax.lean ====
section
/-!
DEFINITION. The syntax of the machine's steps: every row of the opcode table, an instruction of the
assembly language or an event or command of the device, is one constructor of `Instr`. The operand
structures hold an instruction word's fields (R23 to R34); which of them an instruction uses, and which
must be zero, is WellFormed's matter. An event's or command's operands are not part of the term: they are
the record `EvArgs`, which the state holds while the event runs.
-/
namespace Sys2Proof

/-- Format S fields, and word 1 of a long instruction (R23). -/
structure SOp where
  d : Reg
  a : Reg
  xa : BitVec 2
  b : Reg
  xb : BitVec 2
  m : Bool
  deriving DecidableEq, Repr

/-- Format S with a function code in b (R25) or no b operand: SFU, UNI, SHFL, REDL, SCAN and VOTE. -/
structure UOp where
  d : Reg
  a : Reg
  xa : BitVec 2
  m : Bool
  deriving DecidableEq, Repr

/-- Format SI (R23). -/
structure IOp where
  d : Reg
  a : Reg
  xa : BitVec 2
  imm : BitVec 9
  m : Bool
  deriving DecidableEq, Repr

/-- The L3F family: word 1 without its funct, and the 32-bit immediate (R34, R118). -/
structure L3Op where
  d : Reg
  a : Reg
  xa : BitVec 2
  m : Bool
  imm : Word
  deriving DecidableEq, Repr

/-- The MEM family (R27). -/
structure MemOp where
  w : SOp
  space : BitVec 2
  reuse : BitVec 2
  scope : BitVec 3
  order : BitVec 2
  imm : BitVec 15
  deriving DecidableEq, Repr

/-- The MAT family (R28). -/
structure MatOp where
  w : SOp
  slotA : BitVec 3
  slotB : BitVec 3
  srcA : BitVec 2
  srcB : BitVec 2
  n : BitVec 2
  k : BitVec 8
  acc : Bool
  deriving DecidableEq, Repr

/-- The CTL family (R29). -/
structure CtlOp where
  w : SOp
  imm : BitVec 24
  deriving DecidableEq, Repr

/-- The SYNC family (R30). -/
structure SyncOp where
  w : SOp
  level : BitVec 2
  index : BitVec 5
  side : Bool
  deriving DecidableEq, Repr

/-- The XFER family (R31), less T and D, which select the constructor. -/
structure XferOp where
  w : SOp
  q : Bool
  quire : BitVec 5
  dst : BitVec 2
  src : BitVec 2
  c : Bool
  deriving DecidableEq, Repr

/-- The FAB family (R32), less the sub-op and M, which select the constructor except for RESHARD. -/
structure FabOp where
  w : SOp
  pat : BitVec 3
  ctr : BitVec 8
  sub : BitVec 3
  deriving DecidableEq, Repr

/-- The SYS family (R33), word 2 [23:0] whole. -/
structure SysOp where
  w : SOp
  f : BitVec 24
  deriving DecidableEq, Repr

/-- A quad of the module (R1). -/
structure QuadId where
  die : Nat
  core : Nat
  quad : Nat
  deriving DecidableEq, Repr, Inhabited

/-- The kinds of remote request (R307). -/
inductive ReqKind where
  | rst | rcpy | rred | rld | ratom | rsig
  deriving DecidableEq, Repr

/-- One lane or one piece of a remote request: its target address and its bytes. An RLD part carries no
bytes and asks for 4; an RATOM part carries its operand, for CAS the expected and the new value. -/
structure ReqPart where
  addr : Addr
  data : List Byte
  deriving DecidableEq, Repr

/-- What every contribution to a chunk carries (R318, R325, R326): whether RRED sent it, which counts on arrival and
whose result lies over rank 0's slot; staging offset, slot size C, length L, count n, rank, op, slot word and result
address; `pos` is where `data` stands in the rank's slot. -/
structure Contribution where
  rred : Bool
  offset : Nat
  chunk : Nat
  len : Nat
  n : Nat
  rank : Nat
  op : Nat
  slot : Word
  result : Addr
  pos : Nat
  data : List Byte
  deriving DecidableEq, Repr

/-- A request that arrives at the fabric port (R307, R308). -/
structure Req where
  src : Nat
  srcCtx : Nat
  dstCtx : Nat
  tag : Nat
  rank : Nat
  kind : ReqKind
  ctr : BitVec 8
  sub : BitVec 3
  parts : List ReqPart
  inc : Word
  contrib : Option Contribution
  deriving DecidableEq, Repr

/-- A member's refusal of an operation (R308, R312): the cause, the first refused byte's address, and the
cell's cause byte of a CELL_FAILED. -/
structure Refused where
  cause : Byte
  addr : Addr
  cell : Byte
  deriving DecidableEq, Repr

/-- A function of the device that trains on its own (R357), with its unit number. -/
inductive FnUnit where
  | mgmt
  | die (n : Nat)
  | stack (n : Nat)
  | jpeg (n : Nat)
  | bilevel (n : Nat)
  | dma (n : Nat)
  | laser (n : Nat)
  deriving DecidableEq, Repr

/-- The units whose corrected errors are counted (R355 kind 0x21, R359). -/
inductive ErrFn where
  | hbm | l2 | l1 | regfile | buffer | core
  deriving DecidableEq, Repr

/-- One unit's corrected errors in a 1 s window (R359). -/
structure ErrCount where
  fn : ErrFn
  die : Nat
  unit : Nat
  addr : Addr
  count : Nat
  deriving DecidableEq, Repr

/-- The limits of R364 (R355 kind 0x30). -/
inductive LimitKind where
  | power | temperature | junction
  deriving DecidableEq, Repr

/-- A 64 B command entry, little-endian (R352). -/
abbrev Entry := BitVec 512

/-- The operands of events and commands: what arrives, and which unit it concerns. An event uses the fields
its constructor names. -/
structure EvArgs where
  /-- the quad -/
  q : QuadId := default
  /-- a group of the module, by id -/
  g : Nat := 0
  /-- a split of the group, by label -/
  split : Nat := 0
  /-- an outstanding operation of the group -/
  seq : Nat := 0
  lanes : LaneSet := 0
  die : Nat := 0
  ctx : Nat := 0
  va : Addr := 0
  pa : Nat := 0
  /-- whether an eviction takes the prefetched way first (R137) -/
  dropped : Bool := false
  /-- a launch, by id -/
  launch : Nat := 0
  /-- a node input queue, or a submission queue -/
  queue : Nat := 0
  /-- an engine command, by id -/
  cmd : Nat := 0
  n : Nat := 0
  port : Reg := 0
  /-- the step is a vector segment's, not an array pass's (R182) -/
  vec : Bool := false
  /-- the peer port's index -/
  peer : Nat := 0
  lane : Nat := 0
  /-- a flit's 128 B -/
  raw : List Byte := []
  /-- the laser source module -/
  module : Nat := 0
  /-- the receiving side of the link -/
  rx : Bool := false
  req : Option Req := none
  /-- an outstanding remote operation, by id -/
  op : Nat := 0
  rank : Nat := 0
  values : List Word := []
  refused : Option Refused := none
  /-- an offset in a BAR -/
  off : Nat := 0
  data : List Byte := []
  val : Addr := 0
  fn : FnUnit := .mgmt
  ok : Bool := false
  errs : List ErrCount := []
  limit : LimitKind := .power
  measured : Nat := 0
  scale : Nat := 0
  entry : Entry := 0
  deriving DecidableEq, Repr

/-- Every row of the opcode table. -/
inductive Instr where
  /-- NOP (R37): The all-zero word has no effect beyond its energy debit. -/
  | nop
  /-- IADD (R95): Adds two registers modulo 2^32. -/
  | iadd (o : SOp)
  /-- ISUB (R95): Subtracts modulo 2^32. -/
  | isub (o : SOp)
  /-- IMUL (R95): Multiplies, keeping the low 32 bits. -/
  | imul (o : SOp)
  /-- IMULHI (R95): Writes the high 32 bits of the signed product. -/
  | imulhi (o : SOp)
  /-- IMULHU (R95): Writes the high 32 bits of the unsigned product. -/
  | imulhu (o : SOp)
  /-- IMAD (R95): Adds the product of two registers to the destination modulo 2^32. -/
  | imad (o : SOp)
  /-- IADDI (R96): Adds a signed 9-bit immediate. -/
  | iaddi (o : IOp)
  /-- AND (R95): Bitwise and. -/
  | and (o : SOp)
  /-- OR (R95): Bitwise or. -/
  | or (o : SOp)
  /-- XOR (R95): Bitwise exclusive or. -/
  | xor (o : SOp)
  /-- ANDN (R95): And with the complement of the second source. -/
  | andn (o : SOp)
  /-- SHL (R95): Shifts left by a register amount. -/
  | shl (o : SOp)
  /-- SHR (R95): Shifts right with zero fill. -/
  | shr (o : SOp)
  /-- SAR (R95): Shifts right with sign fill. -/
  | sar (o : SOp)
  /-- SHLI (R96): Shifts left by an immediate 0 to 31. -/
  | shli (o : IOp)
  /-- SHRI (R96): Shifts right by an immediate with zero fill. -/
  | shri (o : IOp)
  /-- SARI (R96): Shifts right by an immediate with sign fill. -/
  | sari (o : IOp)
  /-- IMIN (R95): Signed minimum. -/
  | imin (o : SOp)
  /-- IMAX (R95): Signed maximum. -/
  | imax (o : SOp)
  /-- UMIN (R95): Unsigned minimum. -/
  | umin (o : SOp)
  /-- UMAX (R95): Unsigned maximum. -/
  | umax (o : SOp)
  /-- ISEQ (R95): Writes 1 if equal, else 0. -/
  | iseq (o : SOp)
  /-- ISNE (R95): Writes 1 if not equal, else 0. -/
  | isne (o : SOp)
  /-- ISLT (R95): Writes 1 if signed less than. -/
  | islt (o : SOp)
  /-- ISLE (R95): Writes 1 if signed less or equal. -/
  | isle (o : SOp)
  /-- ISLTU (R95): Writes 1 if unsigned less than. -/
  | isltu (o : SOp)
  /-- ISLEU (R95): Writes 1 if unsigned less or equal. -/
  | isleu (o : SOp)
  /-- FADD (R98): FP32 add, rounded RNE. -/
  | fadd (o : SOp)
  /-- FSUB (R98): FP32 subtract. -/
  | fsub (o : SOp)
  /-- FMUL (R98): FP32 multiply. -/
  | fmul (o : SOp)
  /-- FMAC (R99): Fused FP32 multiply-add into the destination with one rounding. -/
  | fmac (o : SOp)
  /-- FMIN (R98): FP32 minimum, NaN-ignoring. -/
  | fmin (o : SOp)
  /-- FMAX (R98): FP32 maximum, NaN-ignoring. -/
  | fmax (o : SOp)
  /-- FSEQ (R98): FP32 equality compare. -/
  | fseq (o : SOp)
  /-- FSLT (R98): FP32 less-than compare. -/
  | fslt (o : SOp)
  /-- FSLE (R98): FP32 less-or-equal compare. -/
  | fsle (o : SOp)
  /-- FSUN (R98): Writes 1 if either input is NaN. -/
  | fsun (o : SOp)
  /-- BADD2 (R100): Adds two packed BF16 pairs. -/
  | badd2 (o : SOp)
  /-- BMUL2 (R100): Multiplies two packed BF16 pairs. -/
  | bmul2 (o : SOp)
  /-- BMAC2 (R100): Fused multiply-add on packed BF16 pairs. -/
  | bmac2 (o : SOp)
  /-- SEL (R101): Writes a in mask-on lanes and b in active mask-off lanes. -/
  | sel (o : SOp)
  /-- ADD64 (R97): Adds 64-bit register pairs. -/
  | add64 (o : SOp)
  /-- EX2 (R104): SFU 2^x, landing later. -/
  | ex2 (o : UOp)
  /-- LG2 (R104): SFU log2 x. -/
  | lg2 (o : UOp)
  /-- RCP (R104): SFU reciprocal. -/
  | rcp (o : UOp)
  /-- RSQ (R104): SFU reciprocal square root. -/
  | rsq (o : UOp)
  /-- SQRT (R104): SFU square root. -/
  | sqrt (o : UOp)
  /-- SINPI (R104): SFU sin(pi x). -/
  | sinpi (o : UOp)
  /-- COSPI (R104): SFU cos(pi x). -/
  | cospi (o : UOp)
  /-- TANH (R104): SFU tanh. -/
  | tanh (o : UOp)
  /-- SIGM (R104): SFU logistic sigmoid. -/
  | sigm (o : UOp)
  /-- ERF (R104): SFU error function. -/
  | erf (o : UOp)
  /-- POPC (R102): Counts one bits. -/
  | popc (o : UOp)
  /-- CLZ (R102): Counts leading zero bits. -/
  | clz (o : UOp)
  /-- BREV (R102): Reverses bit order. -/
  | brev (o : UOp)
  /-- IABS (R102): Integer absolute value. -/
  | iabs (o : UOp)
  /-- INEG (R102): Integer negation. -/
  | ineg (o : UOp)
  /-- FABS (R102): Clears bit 31. -/
  | fabs (o : UOp)
  /-- FNEG (R102): Inverts bit 31. -/
  | fneg (o : UOp)
  /-- FRINT_RNE (R102): Rounds FP32 to an integer, ties to even. -/
  | frintRne (o : UOp)
  /-- FRINT_RZ (R102): Rounds FP32 towards zero to an integer. -/
  | frintRz (o : UOp)
  /-- FRINT_RP (R102): Rounds FP32 towards +infinity to an integer. -/
  | frintRp (o : UOp)
  /-- FRINT_RM (R102): Rounds FP32 towards -infinity to an integer. -/
  | frintRm (o : UOp)
  /-- CVTFI (R102): Converts FP32 to a clamped signed integer. -/
  | cvtfi (o : UOp)
  /-- CVTFU (R102): Converts FP32 to a clamped unsigned integer. -/
  | cvtfu (o : UOp)
  /-- CVTIF (R102): Converts a signed integer to FP32. -/
  | cvtif (o : UOp)
  /-- CVTUF (R102): Converts an unsigned integer to FP32. -/
  | cvtuf (o : UOp)
  /-- CVTFB (R102): Converts FP32 to BF16 with RNE. -/
  | cvtfb (o : UOp)
  /-- CVTBF (R102): Widens BF16 to FP32 exactly. -/
  | cvtbf (o : UOp)
  /-- SHFL (R106): Writes a crossbar-selected register to every mask-on lane. -/
  | shfl (o : UOp)
  /-- SHFLX (R107): Moves data between lanes by a per-lane index. -/
  | shflx (o : SOp)
  /-- REDL_IADD (R109): Tree-reduces lanes by integer add. -/
  | redlIadd (o : UOp)
  /-- REDL_FADD (R109): Tree-reduces lanes by FP32 add. -/
  | redlFadd (o : UOp)
  /-- REDL_IMAX (R109): Tree-reduces lanes by signed maximum. -/
  | redlImax (o : UOp)
  /-- REDL_IMIN (R109): Tree-reduces lanes by signed minimum. -/
  | redlImin (o : UOp)
  /-- REDL_FMAX (R109): Tree-reduces lanes by FMAX. -/
  | redlFmax (o : UOp)
  /-- REDL_FMIN (R109): Tree-reduces lanes by FMIN. -/
  | redlFmin (o : UOp)
  /-- REDL_AND (R109): Tree-reduces lanes by and. -/
  | redlAnd (o : UOp)
  /-- REDL_OR (R109): Tree-reduces lanes by or. -/
  | redlOr (o : UOp)
  /-- REDL_XOR (R109): Tree-reduces lanes by exclusive or. -/
  | redlXor (o : UOp)
  /-- SCAN_IADD (R110): Inclusive prefix scan by integer add. -/
  | scanIadd (o : UOp)
  /-- SCAN_FADD (R110): Inclusive prefix scan by FP32 add. -/
  | scanFadd (o : UOp)
  /-- SCAN_IMAX (R110): Inclusive prefix scan by signed maximum. -/
  | scanImax (o : UOp)
  /-- SCAN_IMIN (R110): Inclusive prefix scan by signed minimum. -/
  | scanImin (o : UOp)
  /-- SCAN_FMAX (R110): Inclusive prefix scan by FMAX. -/
  | scanFmax (o : UOp)
  /-- SCAN_FMIN (R110): Inclusive prefix scan by FMIN. -/
  | scanFmin (o : UOp)
  /-- SCAN_AND (R110): Inclusive prefix scan by and. -/
  | scanAnd (o : UOp)
  /-- SCAN_OR (R110): Inclusive prefix scan by or. -/
  | scanOr (o : UOp)
  /-- SCAN_XOR (R110): Inclusive prefix scan by exclusive or. -/
  | scanXor (o : UOp)
  /-- SCAN_X_IADD (R110): Exclusive prefix scan by integer add. -/
  | scanXIadd (o : UOp)
  /-- SCAN_X_FADD (R110): Exclusive prefix scan by FP32 add. -/
  | scanXFadd (o : UOp)
  /-- SCAN_X_IMAX (R110): Exclusive prefix scan by signed maximum. -/
  | scanXImax (o : UOp)
  /-- SCAN_X_IMIN (R110): Exclusive prefix scan by signed minimum. -/
  | scanXImin (o : UOp)
  /-- SCAN_X_FMAX (R110): Exclusive prefix scan by FMAX. -/
  | scanXFmax (o : UOp)
  /-- SCAN_X_FMIN (R110): Exclusive prefix scan by FMIN. -/
  | scanXFmin (o : UOp)
  /-- SCAN_X_AND (R110): Exclusive prefix scan by and. -/
  | scanXAnd (o : UOp)
  /-- SCAN_X_OR (R110): Exclusive prefix scan by or. -/
  | scanXOr (o : UOp)
  /-- SCAN_X_XOR (R110): Exclusive prefix scan by exclusive or. -/
  | scanXXor (o : UOp)
  /-- VOTE_ANY (R111): Sets CC.Z if the predicate holds in some mask-on lane. -/
  | voteAny (o : UOp)
  /-- VOTE_ALL (R111): Sets CC.Z if the predicate holds in every mask-on lane. -/
  | voteAll (o : UOp)
  /-- VOTE_COUNT (R111): Writes the number of mask-on lanes where the predicate holds. -/
  | voteCount (o : UOp)
  /-- VOTE_FIRST (R111): Writes the lowest mask-on lane where the predicate holds. -/
  | voteFirst (o : UOp)
  /-- VOTE_BALLOT (R111): Writes the 64-bit predicate mask into a pair. -/
  | voteBallot (o : UOp)
  /-- UCMP (R113): Compares two uniform integers into CC flags. -/
  | ucmp (o : SOp)
  /-- UFCMP (R113): Compares two uniform FP32 values into CC flags. -/
  | ufcmp (o : SOp)
  /-- CSRR (R114): Reads a CSR into every mask-on lane. -/
  | csrr (o : SOp)
  /-- CSRW (R115): Writes a 32-bit CSR from the lowest mask-on lane. -/
  | csrw (o : SOp)
  /-- FCPYS (R98): Copies the sign of b onto a. -/
  | fcpys (o : SOp)
  /-- LD_B (R142): Loads a zero-extended byte. -/
  | ldB (o : MemOp)
  /-- LD_BS (R142): Loads a sign-extended byte. -/
  | ldBs (o : MemOp)
  /-- LD_H (R142): Loads a zero-extended half word. -/
  | ldH (o : MemOp)
  /-- LD_HS (R142): Loads a sign-extended half word. -/
  | ldHs (o : MemOp)
  /-- LD_W (R142): Loads a word. -/
  | ldW (o : MemOp)
  /-- LD_D (R142): Loads 8 bytes into a register pair. -/
  | ldD (o : MemOp)
  /-- LD_Q (R142): Loads 16 bytes into four registers. -/
  | ldQ (o : MemOp)
  /-- ST_B (R143): Stores a byte. -/
  | stB (o : MemOp)
  /-- ST_H (R143): Stores a half word. -/
  | stH (o : MemOp)
  /-- ST_W (R143): Stores a word. -/
  | stW (o : MemOp)
  /-- ST_D (R143): Stores 8 bytes from a pair. -/
  | stD (o : MemOp)
  /-- ST_Q (R143): Stores 16 bytes from four registers. -/
  | stQ (o : MemOp)
  /-- ATOM_ADD (R145): Atomic add returning old values. -/
  | atomAdd (o : MemOp)
  /-- ATOM_MIN (R145): Atomic signed minimum. -/
  | atomMin (o : MemOp)
  /-- ATOM_MAX (R145): Atomic signed maximum. -/
  | atomMax (o : MemOp)
  /-- ATOM_UMIN (R145): Atomic unsigned minimum. -/
  | atomUmin (o : MemOp)
  /-- ATOM_UMAX (R145): Atomic unsigned maximum. -/
  | atomUmax (o : MemOp)
  /-- ATOM_AND (R145): Atomic and. -/
  | atomAnd (o : MemOp)
  /-- ATOM_OR (R145): Atomic or. -/
  | atomOr (o : MemOp)
  /-- ATOM_XOR (R145): Atomic exclusive or. -/
  | atomXor (o : MemOp)
  /-- ATOM_XCHG (R148): Atomic exchange, linearisable with FMAXA updates. -/
  | atomXchg (o : MemOp)
  /-- ATOM_CAS (R145): Atomic compare and swap. -/
  | atomCas (o : MemOp)
  /-- ATOM_INCB (R145): Atomic increment bounded by the operand. -/
  | atomIncb (o : MemOp)
  /-- ATOM_FADD (R146): Atomic FP32 add with lanes combined per address. -/
  | atomFadd (o : MemOp)
  /-- ATOM_BADD2 (R146): Atomic packed BF16 add. -/
  | atomBadd2 (o : MemOp)
  /-- ATOM_FMAXA (R147): Atomic maximum magnitude. -/
  | atomFmaxa (o : MemOp)
  /-- RED_ADD (R149): Reduction add with no return. -/
  | redAdd (o : MemOp)
  /-- RED_FADD (R149): Reduction FP32 add with no return. -/
  | redFadd (o : MemOp)
  /-- RED_FMAXA (R149): Reduction maximum magnitude with no return. -/
  | redFmaxa (o : MemOp)
  /-- STC (R150): Atomically advances a pointer word and appends contributing lanes' data. -/
  | stc (o : MemOp)
  /-- LDE (R152): Reads consecutive words into contributing lanes by rank. -/
  | lde (o : MemOp)
  /-- PREF (R153): Prefetches lines into L2 or L1 without faulting. -/
  | pref (o : MemOp)
  /-- CCLEAN (R154): Cleans a byte range at L1 or L2. -/
  | cclean (o : MemOp)
  /-- CINV (R154): Invalidates a byte range at L1 or L2. -/
  | cinv (o : MemOp)
  /-- CFLUSH (R154): Cleans and invalidates a byte range. -/
  | cflush (o : MemOp)
  /-- FENCE (R155): Orders the lane's accesses at a scope as acquire, release or both. -/
  | fence (o : MemOp)
  /-- DEFER (R219): Writes a deferral extent, followers first, tagging its cells DEF. -/
  | defer (o : MemOp)
  /-- RESOLVE (R220): Writes whole cells and sets them VAL, waking waiters. -/
  | resolve (o : MemOp)
  /-- CELLQ (R221): Reads a cell's state without touching it. -/
  | cellq (o : MemOp)
  /-- CELLFAIL (R222): Sets cells to ERR with a program cause. -/
  | cellfail (o : MemOp)
  /-- MODE_M (R193): Enters matrix mode with an accumulator base and column count. -/
  | modeM (o : MatOp)
  /-- MODE_V (R194): Leaves matrix mode after the MMA counter drains. -/
  | modeV (o : MatOp)
  /-- MRESV (R195): Posts an array reservation without waiting. -/
  | mresv (o : MatOp)
  /-- MBATON (R196): Passes array ownership to another group of the team. -/
  | mbaton (o : MatOp)
  /-- MMA (R197): Posts one matrix pass accumulating A times B into the tile. -/
  | mma (o : MatOp)
  /-- GMMA (R198): Runs a segmented matrix product from a segment table. -/
  | gmma (o : MatOp)
  /-- MDRAIN (R200): Converts the tile to an A operand in the A-buffer or latch. -/
  | mdrain (o : MatOp)
  /-- MFILL (R201): Loads accumulators from the A-buffer. -/
  | mfill (o : MatOp)
  /-- DOTB (R199): Computes an MMA's sum on the vector path into registers. -/
  | dotb (o : MatOp)
  /-- MSTAT (R202): Writes a snapshot of the group's matrix state. -/
  | mstat (o : MatOp)
  /-- BR (R81): Branches if the split's CC meets the condition. -/
  | br (o : CtlOp)
  /-- BRZ (R82): Branches if the register is zero in every mask-on lane. -/
  | brz (o : CtlOp)
  /-- BRNZ (R82): Branches if the register is non-zero in some mask-on lane. -/
  | brnz (o : CtlOp)
  /-- CALL (R83): Writes the link address and branches. -/
  | call (o : CtlOp)
  /-- RET (R83): Branches to a uniform register-pair address. -/
  | ret (o : CtlOp)
  /-- JMPR (R83): Branches to a register-pair address plus an offset. -/
  | jmpr (o : CtlOp)
  /-- SPLIT (R84): Divides the split's lanes by a predicate, with a join record. -/
  | split (o : CtlOp)
  /-- MERGE (R85): Reconverges splits at their join record. -/
  | merge (o : CtlOp)
  /-- YIELD (R87): Resets the group's issue age. -/
  | yield (o : CtlOp)
  /-- YIELDC (R87): Frees the window and continues at a label when next windowed. -/
  | yieldc (o : CtlOp)
  /-- EXIT (R86): Drains counters, reports deferred faults and ends the split, ending the group when none remain. -/
  | exit (o : CtlOp)
  /-- SPAWN (R264): Creates a ready child team. -/
  | spawn (o : CtlOp)
  /-- TRAP (R273): Raises SOFTWARE on purpose. -/
  | trap (o : CtlOp)
  /-- TRAPRET (R274): Ends the handler and resumes at EPC. -/
  | trapret (o : CtlOp)
  /-- WAITC (R90): Parks until a counter counts at most n and reports deferred faults. -/
  | waitc (o : CtlOp)
  /-- SLEEP (R88): Parks the group for at least n cycles. -/
  | sleep (o : CtlOp)
  /-- BKPT (R89): Traps BREAKPOINT with a tag. -/
  | bkpt (o : CtlOp)
  /-- BARARV (R233): Arrives at a fixed barrier and continues. -/
  | bararv (o : SyncOp)
  /-- BARWAIT (R233): Waits for the group's pending barrier generation. -/
  | barwait (o : SyncOp)
  /-- BARSYNC (R233): Arrives and waits at a fixed barrier. -/
  | barsync (o : SyncOp)
  /-- GSYNC (R234): Arrives at a team barrier in a masked generation and waits. -/
  | gsync (o : SyncOp)
  /-- SBEXP (R235): Sets a quire side's expected arrivals and pending bytes. -/
  | sbexp (o : SyncOp)
  /-- SBARV (R236): Makes one arrival at a quire side. -/
  | sbarv (o : SyncOp)
  /-- SBWAIT (R237): Parks while a quire side's phase equals the parity. -/
  | sbwait (o : SyncOp)
  /-- SBTRY (R237): Tests a quire side's phase without parking. -/
  | sbtry (o : SyncOp)
  /-- CPY (R338): Copies a flat byte range. -/
  | cpy (o : XferOp)
  /-- CPY2D (R338): Copies strided rows. -/
  | cpy2d (o : XferOp)
  /-- GATH2D (R339): Gathers one indexed row per lane. -/
  | gath2d (o : XferOp)
  /-- SCAT2D (R339): Scatters one row per lane to an indexed place. -/
  | scat2d (o : XferOp)
  /-- CHAIN (R341): Copies elements through a short list of element-wise operations. -/
  | chain (o : XferOp)
  /-- QBIND_R (R343): Binds a port to a read stream or channel. -/
  | qbindR (o : XferOp)
  /-- QBIND_W (R343): Binds a port to a write stream. -/
  | qbindW (o : XferOp)
  /-- QEND (R345): Ends a port binding. -/
  | qend (o : XferOp)
  /-- ENQ (R246): Appends records to a node input queue, parking for room. -/
  | enq (o : XferOp)
  /-- ENQ_TRY (R246): Appends all records if room exists and sets CC.Z, else appends none. -/
  | enqTry (o : XferOp)
  /-- DECODE (R346): Decodes a JPEG or T.6 image into patch records. -/
  | decode (o : XferOp)
  /-- CPYW (R338): Copies into the W-buffer of the team or of every team of the cluster. -/
  | cpyw (o : XferOp)
  /-- PSET (R314): Writes a checked pattern into a pattern slot. -/
  | pset (o : FabOp)
  /-- RST (R315): Stores each lane's word at every member. -/
  | rst (o : FabOp)
  /-- RST_BLOCK (R315): Stores a 256 B local block at every member. -/
  | rstBlock (o : FabOp)
  /-- RLD (R316): Loads from the single member of a pattern. -/
  | rld (o : FabOp)
  /-- RATOM_ADD (R317): Remote atomic add at the single member. -/
  | ratomAdd (o : FabOp)
  /-- RATOM_FADD (R317): Remote atomic FP32 add. -/
  | ratomFadd (o : FabOp)
  /-- RATOM_FMAXA (R317): Remote atomic maximum magnitude. -/
  | ratomFmaxa (o : FabOp)
  /-- RATOM_CAS (R317): Remote atomic compare and swap. -/
  | ratomCas (o : FabOp)
  /-- RATOM_INCB (R317): Remote atomic bounded increment. -/
  | ratomIncb (o : FabOp)
  /-- RRED_ADD (R318): Deposits an integer-add contribution into combine staging. -/
  | rredAdd (o : FabOp)
  /-- RRED_FADD (R318): Deposits an FP32-add contribution. -/
  | rredFadd (o : FabOp)
  /-- RRED_FMAXA (R318): Deposits a maximum-magnitude contribution. -/
  | rredFmaxa (o : FabOp)
  /-- RCPY (R315): Copies L local bytes to every member. -/
  | rcpy (o : FabOp)
  /-- RSIG (R319): Adds a value to an arrival counter at every member. -/
  | rsig (o : FabOp)
  /-- RWAIT (R320): Waits for an arrival counter to reach members times bytes. -/
  | rwait (o : FabOp)
  /-- RESHARD (R332): Starts this device's part of a layout exchange. -/
  | reshard (o : FabOp)
  /-- PCOUNT (R321): Writes the member count of a pattern. -/
  | pcount (o : FabOp)
  /-- COORD (R321): Writes this device's rank and linear index. -/
  | coord (o : FabOp)
  /-- SETX (R71): Writes one crossbar preset of XSET. -/
  | setx (o : SysOp)
  /-- BUDGET (R117): Reads the energy budget and refill. -/
  | budget (o : SysOp)
  /-- CLOCK (R116): Reads the die's cycle count. -/
  | clock (o : SysOp)
  /-- CSRMV_READ (R275): Reads a 64-bit CSR into a pair in a handler. -/
  | csrmvRead (o : SysOp)
  /-- CSRMV_WRITE (R275): Writes a 64-bit CSR from a pair in a handler. -/
  | csrmvWrite (o : SysOp)
  /-- LDI (R119): Loads a 32-bit immediate. -/
  | ldi (o : L3Op)
  /-- IADDL (R119): Adds a 32-bit immediate. -/
  | iaddl (o : L3Op)
  /-- ANDL (R119): Ands a 32-bit immediate. -/
  | andl (o : L3Op)
  /-- ORL (R119): Ors a 32-bit immediate. -/
  | orl (o : L3Op)
  /-- XORL (R119): Exclusive-ors a 32-bit immediate. -/
  | xorl (o : L3Op)
  /-- CVTQ (R120): Quantises FP32 lanes into a slot's format. -/
  | cvtq (o : L3Op)
  /-- CVTX (R121): Expands per-lane codes back into FP32. -/
  | cvtx (o : L3Op)
  /-- AMAXB (R122): Writes block maximum magnitude and scale byte. -/
  | amaxb (o : L3Op)
  /-- FMAL (R119): Fused multiply-add with an FP32 immediate. -/
  | fmal (o : L3Op)
  /-- PACK (R123): Packs one code per lane into a bit stream. -/
  | pack (o : L3Op)
  /-- UNPACK (R123): Unpacks a bit stream into one code per lane. -/
  | unpack (o : L3Op)
  /-- LEA (R119): Adds a signed immediate to a 64-bit pair. -/
  | lea (o : L3Op)
  /-- CLAUSE_ISSUE (R250): The quad picks a windowed, unparked group and issues its next clause after checking the whole clause header. Operands: q, split. -/
  | clauseIssue
  /-- WAIT_ZERO_END (R20): A clause held by its WZ set, or a group parked by an S marker, resumes when the named counters reach zero. Operands: g. -/
  | waitZeroEnd
  /-- RESULT_LAND (R18): A variable-latency register result lands in its lanes and its counter falls in issue order. Operands: g, seq, lanes. -/
  | resultLand
  /-- WINDOW_GRANT (R75): The quad grants a free or reclaimed fast window to the highest-class, longest-waiting resident group. Operands: q. -/
  | windowGrant
  /-- ENERGY_REFILL (R267): Every 1 us the management core sets each context's budget on each core to min(cap, budget + refill), ending energy stalls. No operands. -/
  | energyRefill
  /-- SLEEP_EXPIRE (R88): A group parked by SLEEP is unparked when its cycle count has passed. Operands: g. -/
  | sleepExpire
  /-- TRAP_ENTRY (R269): After the LD, SFU and MMA counters drain, the trapped group releases the array, writes EPC and ESTATE and starts its handler or ends fatally. Operands: g. -/
  | trapEntry
  /-- PAGE_WALK (R128): A TLB miss is served by a four-level page walk once a walker is free, ending in a translation or in TRANSLATION. Operands: die, ctx, va. -/
  | pageWalk
  /-- L2_PREFETCH (R137): A home L2 slice's own prefetcher fills a line, and the fill is dropped and counted if an eviction takes its way. Operands: pa, dropped. -/
  | l2Prefetch
  /-- SHOOTDOWN_COMPLETE (R133): When every TLB has dropped the page and every pin is released the command completes and parked requests replay under the new entry. Operands: ctx, va. -/
  | shootdownComplete
  /-- LAUNCH_READY (R378): A queued launch whose older records are placed becomes READY, acquires, and makes its checks, count read and variant choice in order. Operands: launch. -/
  | launchReady
  /-- CLUSTER_PLACE (R258): The scheduler places a cluster whose teams all fit on a rectangle of one ready die and zeroes their buffers. Operands: launch. -/
  | clusterPlace
  /-- QUEUE_TIMEOUT (R242): When the oldest undispatched record of a node queue has waited for the timeout, a gathering forms of every undispatched record. Operands: ctx, queue. -/
  | queueTimeout
  /-- GATHERING_PLACE (R245): A gathering's team is placed and every group receives the records in v1 to v16, freeing their queue entries. Operands: ctx, queue. -/
  | gatheringPlace
  /-- ENQ_RESUME (R246): A parked blocking ENQ continues appending when entries free or traps QUEUE_DEAD if the queue closes. Operands: g. -/
  | enqResume
  /-- EVALUATOR_LAUNCH (R213): The scheduler takes an evaluation record, checks the deferral record and places the evaluator team on the home die. Operands: die. -/
  | evaluatorLaunch
  /-- GROUP_RELOAD (R216): A spilled group is reloaded once its cell has left EVL and room exists, and tests its wait afresh. Operands: g. -/
  | groupReload
  /-- PARKED_RECHECK (R211): A group parked on a cell checks its instruction again from the start once an awaited cell has left EVL. Operands: g. -/
  | parkedRecheck
  /-- WAIT_TABLE_RETRY (R211): A touch that found the slice wait table full is re-issued after 4096 cycles. Operands: g. -/
  | waitTableRetry
  /-- COPY_PROGRESS (R230): An engine command performs a piece of its destination bytes and decrements its quire's pending bytes. Operands: cmd, n. -/
  | copyProgress
  /-- COPY_COMPLETE (R337): An engine command has performed every byte it writes and its CPY count falls. Operands: cmd. -/
  | copyComplete
  /-- QPORT_READ (R344): An instruction reading a bound queue port consumes one chunk of words, stalls for data, or sets CC.E or traps at the end. Operands: g, port. -/
  | qportRead
  /-- QPORT_WRITE (R344): An instruction writing a bound queue port appends its MaskOn lanes' values to the stream. Operands: g, port. -/
  | qportWrite
  /-- ARRAY_GRANT (R184): The arbiter grants a free array to the reservation of highest class, oldest first. Operands: q. -/
  | arrayGrant
  /-- PASS_START (R185): The owner's posted MMA or GMMA pass pins its B range and starts on the array. Operands: q. -/
  | passStart
  /-- STEP_END (R182): An accumulation step ends, continuing, suspending or completing the pass as R185 lays down. Operands: q, vec. -/
  | stepEnd
  /-- PASS_TIME_LIMIT (R182): A pass that has run for 64 us ends at its next step boundary and is suspended. Operands: q. -/
  | passTimeLimit
  /-- RESERVATION_PROMOTE (R184): A reservation that has waited 65 536 cycles rises one class and may pre-empt the owner. Operands: q, g. -/
  | reservationPromote
  /-- MATRIX_GAP_END (R177): After the 32-cycle gap that a waiting multiplying instruction caused, the quad resumes posted passes. Operands: q. -/
  | matrixGapEnd
  /-- FLIT_DATA (R289): A received DATA flit is delivered in sequence, discarded as a duplicate, or discarded with a NACK. Operands: peer, raw. -/
  | flitData
  /-- FLIT_IDLE (R289): A received IDLE flit updates acknowledgement state and leaves the expected sequence unchanged. Operands: peer, raw. -/
  | flitIdle
  /-- FLIT_NACK (R290): On a NACK the transmitter resends every held flit from the named sequence onward. Operands: peer, raw. -/
  | flitNack
  /-- FLIT_RESTRIPE (R293): The transmitter adopts the RESTRIPE of greatest epoch and resends from S on the new stripe. Operands: peer, raw. -/
  | flitRestripe
  /-- FLIT_RETRAIN (R291): A RETRAIN flit tells the transmitter to start, finish or abandon retraining of a lane. Operands: peer, raw. -/
  | flitRetrain
  /-- FLIT_LOST (R285): A flit with a failed CRC, reserved type or non-zero reserved bits is treated as lost. Operands: peer, raw. -/
  | flitLost
  /-- IDLE_TIMER (R289): After 1 us without a flit on the reverse link the receiver sends an IDLE flit carrying its acknowledgement. Operands: peer. -/
  | idleTimer
  /-- REPLAY_TIMEOUT (R290): After 100 us without the acknowledgement advancing the transmitter resends from its oldest held flit. Operands: peer. -/
  | replayTimeout
  /-- RESTRIPE_REPEAT (R293): The receiver repeats its RESTRIPE every 2 us until a flit of the new epoch arrives. Operands: peer. -/
  | restripeRepeat
  /-- LIGHT_DETECTED (R291): Light on a wavelength moves an OFF lane to LOCKING. Operands: peer, lane. -/
  | lightDetected
  /-- LOSS_OF_LIGHT (R295): A receiver detecting loss of light sets the lane OFF and starts a restripe without it. Operands: peer, lanes. -/
  | lossOfLight
  /-- LOCK_WINDOW (R291): A lane holding lock through a 1 ms window below threshold is added at the next restripe. Operands: peer, lane. -/
  | lockWindow
  /-- LOCK_TIMEOUT (R291): A LOCKING lane without lock within 1 ms returns to OFF. Operands: peer, lane. -/
  | lockTimeout
  /-- THRESHOLD_CROSSED (R292): A lane whose corrected-symbol count exceeds the threshold in its window becomes SUSPECT and is restriped out. Operands: peer, lane, n. -/
  | thresholdCrossed
  /-- UNCORRECTABLE_CODEWORD (R291): An uncorrectable FEC codeword makes an ACTIVE lane SUSPECT. Operands: peer, lane. -/
  | uncorrectableCodeword
  /-- RETRAIN_TIMEOUT (R291): A lane retraining for 100 ms counts another retrain or becomes RETIRED. Operands: peer, lane. -/
  | retrainTimeout
  /-- LASER_FAILURE (R296): A laser source module reports failure, its four planes go dark and one module event and the lane events are raised. Operands: module. -/
  | laserFailure
  /-- LASER_REPLACED (R296): A replacement module lights and its planes' lanes pass through OFF and LOCKING to rejoin. Operands: module. -/
  | laserReplaced
  /-- LINK_HOLD_EXPIRE (R297): A link DOWN for 100 ms becomes DARK and discards its replay buffer with deferred REMOTE_UNREACHABLE. Operands: peer, rx. -/
  | linkHoldExpire
  /-- REMOTE_WRITE_ARRIVE (R308): A remote write request is checked, translated and performed, logged or refused at the target and counted. Operands: req. -/
  | remoteWriteArrive
  /-- REMOTE_READ_ARRIVE (R308): An RLD request is checked and translated at the target and returns values, retry, park or refusal. Operands: req. -/
  | remoteReadArrive
  /-- REMOTE_ATOMIC_ARRIVE (R317): An RATOM request is applied as one group operation at the target's home slice and counted. Operands: req. -/
  | remoteAtomicArrive
  /-- REMOTE_SIGNAL_ARRIVE (R319): An RSIG adds its operand to the named arrival counter at the member under right G. Operands: req. -/
  | remoteSignalArrive
  /-- REMOTE_ACK (R313): An acknowledgement from a member arrives at the sender and the operation leaves FAB once all members acknowledge. Operands: op, rank. -/
  | remoteAck
  /-- REMOTE_REPLY (R316): RLD or RATOM replies arrive at the sender and write the destination in every MaskOn lane. Operands: op, rank, values. -/
  | remoteReply
  /-- REMOTE_REFUSAL (R312): A refusal from a member completes the operation with a deferred fault at the sender. Operands: op, rank, refused. -/
  | remoteRefusal
  /-- REMOTE_RETRY (R308): The sender retries a told-to-retry read after 4096 cycles. Operands: op. -/
  | remoteRetry
  /-- CONTRIBUTION_ARRIVE (R326): A contribution arrives at combine staging and fills, holds or is refused at its chunk entry. Operands: req. -/
  | contributionArrive
  /-- COMBINE_GATHERING (R327): A combine queue forms a gathering of its undispatched records whenever no earlier gathering awaits placement. Operands: ctx, die. -/
  | combineGathering
  /-- PREEMPT_SAVED (R278): When every resource of a pre-empting context is saved and freed the endpaper header is written and the command completes. Operands: ctx. -/
  | preemptSaved
  /-- RESUME_COMPLETE (R280): When every saved team is placed and restored the context is ACTIVE and the resume completes. Operands: ctx. -/
  | resumeComplete
  /-- CONTEXT_ENDED (R268): When every team and engine command of an ending context has ended its records and counters are discarded and its number freed. Operands: ctx. -/
  | contextEnded
  /-- HOST_READ (R356): A host read through BAR 2 is performed at the home slice with no tag check. Operands: off, n. -/
  | hostRead
  /-- HOST_WRITE (R204): A host write through BAR 2 stores its bytes and sets the written cells VAL. Operands: off, data. -/
  | hostWrite
  /-- SQTAIL (R351): A write of a submission-queue tail makes the device read entries up to it in order. Operands: queue, val. -/
  | sqtail
  /-- CMDTAIL (R352): A write of the command-queue tail makes the device read and perform commands in order. Operands: val. -/
  | cmdtail
  /-- EVHEAD (R354): A write of the event head frees event-ring entries for the device. Operands: val. -/
  | evhead
  /-- WINBASE (R356): A write of WINBASE moves the BAR 2 window and sets its key index. Operands: val. -/
  | winbase
  /-- CMDBASE (R351): A write of CMDBASE, taken only while the command ring is empty, sets its base and size and zeroes head and tail. Operands: val. -/
  | cmdbase
  /-- EVBASE (R351): A write of EVBASE, taken only while the event ring is empty, sets its base and size and zeroes head and tail. Operands: val. -/
  | evbase
  /-- REGISTER_WRITE_IGNORED (R350): A write to a read-only or reserved BAR 0 offset is ignored. Operands: off, val. -/
  | registerWriteIgnored
  /-- SET_QUEUE (R353): Sets a submission ring's base and size and zeroes its head and tail. Operands: entry. -/
  | setQueue
  /-- CREATE_CONTEXT (R265): Reads a context descriptor, checks it and creates the context and its node input queues. Operands: entry. -/
  | createContext
  /-- END_CONTEXT (R268): Ends every launch of the context with status 0x01 and moves it to ENDING. Operands: entry. -/
  | endContext
  /-- PREEMPT (R278): Stops the context at its stopping points and begins saving it to the endpaper, or refuses if the endpaper is too small. Operands: entry. -/
  | preempt
  /-- RESUME (R280): Places the saved teams of a pre-empted context again on their original dies. Operands: entry. -/
  | resume
  /-- GRID_MAP (R299): Sets the context's grid map from a 264 B structure or refuses and keeps the old one. Operands: entry. -/
  | gridMap
  /-- ACCESS_TABLE (R307): Replaces every access range of one source device and context. Operands: entry. -/
  | accessTable
  /-- LOAD_KEY (R363): Unwraps a key under the transport key into a key slot not named by a live context. Operands: entry. -/
  | loadKey
  /-- CLEAR_KEY (R363): Clears a key slot not named by a live context. Operands: entry. -/
  | clearKey
  /-- ATTEST (R362): Writes a report with the nonce, firmware digest, signature and transport key signed by both identity keys. Operands: entry. -/
  | attest
  /-- MIGRATE (R133): Moves an unlocked page to MIGRATING by removing write permission from every cached translation. Operands: entry. -/
  | migrate
  /-- MIGRATE_COMMIT (R133): Commits a migrating page's new entry and starts a shootdown. Operands: entry. -/
  | migrateCommit
  /-- MIGRATE_ABORT (R133): Restores write permission to a migrating page and replays parked writes at the old page. Operands: entry. -/
  | migrateAbort
  /-- UNMAP_REMAP (R133): Installs a new leaf entry for a page and starts a shootdown. Operands: entry. -/
  | unmapRemap
  /-- ENGINE_RETRY (R277): A stalled engine command continues from its faulting unit. Operands: entry. -/
  | engineRetry
  /-- ENGINE_ABORT (R277): A stalled engine command completes with a deferred ENGINE_FAULT. Operands: entry. -/
  | engineAbort
  /-- TRAP_REPLAY (R276): A forwarded trapped group issues again at EPC with no handler run. Operands: entry. -/
  | trapReplay
  /-- TRAP_DELIVER (R276): A forwarded trap continues trap entry from its second step. Operands: entry. -/
  | trapDeliver
  /-- SET_LOG (R309): Gives the context's remote fault log its base and size. Operands: entry. -/
  | setLog
  /-- LOG_REPLAY (R310): Performs a LOGGING unit's entries in log order, counting and acknowledging them. Operands: entry. -/
  | logReplay
  /-- LOG_DISCARD (R310): Drops a LOGGING unit's entries uncounted and refuses their operations with TRANSLATION. Operands: entry. -/
  | logDiscard
  /-- STAGING_REGION (R325): Gives the context its combine staging region. Operands: entry. -/
  | stagingRegion
  /-- CLOSE_NODE_QUEUE (R243): Moves a node input queue to DRAINING, forming one last gathering. Operands: entry. -/
  | closeNodeQueue
  /-- LINK_THRESHOLD (R292): Sets the device's corrected-symbol threshold per lane window. Operands: entry. -/
  | linkThreshold
  /-- CHANNEL_THRESHOLD (R252): Sets the communication-queue threshold of every HBM4E channel. Operands: entry. -/
  | channelThreshold
  /-- POWER_LIMIT (R364): Sets the module's power limit from 1000 W to 2800 W. Operands: entry. -/
  | powerLimit
  /-- REENABLE_LANE (R291): Moves a RETIRED lane to OFF and clears its retrain count. Operands: entry. -/
  | reenableLane
  /-- SET_DEVICE_INDEX (R353): Sets the device index while no context is live. Operands: entry. -/
  | setDeviceIndex
  /-- RECOVERY_IMAGE (R361): Verifies a recovery image and leaves recovery through a module reset on success. Operands: entry. -/
  | recoveryImage
  /-- UNKNOWN_COMMAND (R352): A command with an unassigned opcode completes with status 0x01. Operands: entry. -/
  | unknownCommand
  /-- MODULE_RESET (R361): The module leaves reset, the ROM verifies firmware and functions begin training. Operands: data. -/
  | moduleReset
  /-- FUNCTION_TRAINED (R357): A function finishes training as READY or FAILED, updating READY and raising a readiness event. Operands: fn, ok. -/
  | functionTrained
  /-- ERROR_WINDOW (R359): At each 1 s window the management core counts corrected errors and acts on lasting-faulty units. Operands: errs. -/
  | errorWindow
  /-- SPARE_COLUMN_SWAP (R359): When the die next holds no placed team it brings in the spare column in place of a faulty core's column. Operands: die. -/
  | spareColumnSwap
  /-- POWER_EXCEEDED (R364): Measured power or temperature above its limit scales refills down and raises a power or thermal event. Operands: limit, measured, scale. -/
  | powerExceeded
  /-- JUNCTION_OVERTEMP (R364): A junction above 110 C raises one event and holds the module in RESET. Operands: measured. -/
  | junctionOvertemp
  /-- REFILLS_RESTORED (R355): When measured power and temperature fall back within their limits, the management core restores the scaled refill amounts and raises a power or thermal event with action 1. Operands: limit, measured. -/
  | refillsRestored
  deriving DecidableEq, Repr

end Sys2Proof
end

