-- ==== Sys2Proof/WellFormed.lean ====
section
/-!
DEFINITION. Which instruction terms are encodable: how each instruction uses the fields of word 1 (the
field tables of R79, R92, R118, R139, R191, R218, R232, R264, R275, R313, R332, R336), and the limits on
its other fields. A word that breaks one of them traps ILLEGAL_ENCODING (R26, R37).
-/
namespace Sys2Proof

/-- How an instruction uses one register field of word 1. -/
inductive FieldUse where
  /-- not used: must be zero (R26, R92) -/
  | zero
  /-- a number that is not a register: a function code, CSR number, level, offset part -/
  | num
  /-- n registers are read from here on; the first is a multiple of `al` -/
  | rd (n al : Nat)
  /-- n registers are written from here on -/
  | wr (n al : Nat)
  /-- n registers are read and written -/
  | rw (n al : Nat)
  deriving DecidableEq, Repr

/-- The use of word 1: fields d, a and b, whether xa and xb may be non-zero, and whether m may be 1. -/
structure Shape where
  d : FieldUse := .zero
  a : FieldUse := .zero
  sa : Bool := false
  b : FieldUse := .zero
  sb : Bool := false
  m : Bool := true
  deriving DecidableEq, Repr

namespace FieldUse

/-- The registers the field names that are read. -/
def reads (u : FieldUse) (r : Reg) : List Nat :=
  match u with
  | rd n _ | rw n _ => (List.range n).map (r.toNat + ·)
  | _ => []

/-- The registers the field names that are written. -/
def writes (u : FieldUse) (r : Reg) : List Nat :=
  match u with
  | wr n _ | rw n _ => (List.range n).map (r.toNat + ·)
  | _ => []

/-- Alignment of a pair or group (R37, R67), range, and zero where unused (R26). -/
def ok (u : FieldUse) (r : Reg) : Bool :=
  match u with
  | zero => r == 0
  | num => true
  | rd n al | wr n al | rw n al => r.toNat % al == 0 && decide (r.toNat + n ≤ 128)

end FieldUse

/-- One register read, one written, and so on. -/
def rd1 : FieldUse := .rd 1 1
def rd2 : FieldUse := .rd 2 2
def wr1 : FieldUse := .wr 1 1
def wr2 : FieldUse := .wr 2 2

/-- Three-register ALU form (R92). -/
def shape3 : Shape := { d := wr1, a := rd1, sa := true, b := rd1, sb := true }
/-- As `shape3`, with the destination an addend (R91). -/
def shape3acc : Shape := { shape3 with d := .rw 1 1 }
/-- One-source form (R102, R106, R119). -/
def shape2 : Shape := { d := wr1, a := rd1, sa := true }

def ldShape (n al : Nat) : Shape := { d := .wr n al, a := rd2, sa := true }
def stShape (n al : Nat) : Shape := { a := rd2, sa := true, b := .rd n al, sb := true }
def atomShape (n : Nat) : Shape := { d := wr1, a := rd2, sa := true, b := .rd n n, sb := true }
def maintShape : Shape := { d := .num, a := rd2, sa := true, b := rd1, sb := true, m := false }
def noMask : Shape := { m := false }
def copyShape (d : FieldUse) : Shape := { d := d, a := rd2, sa := true, b := rd2, sb := true }

/-- CSR numbers of 64 bits: XSET, LINEAGE, TRAPADDR, EPC (R35). -/
def csr64 (r : Reg) : Bool := r.toNat == 0x14 || r.toNat == 0x15 || r.toNat == 0x21 || r.toNat == 0x22

/-- CSR numbers that CSRR may read: every assigned one but CYCLE (R35, R36). -/
def csrReadable (r : Reg) : Bool :=
  decide (r.toNat ≤ 0x0C) || decide (0x10 ≤ r.toNat ∧ r.toNat ≤ 0x16) || decide (0x20 ≤ r.toNat ∧ r.toNat ≤ 0x23)

/-- The 16-bit presets that XSET may hold: kind 0 to 5, bits [1:0] zero (R9, R71). -/
def presetOk (p : BitVec 16) : Bool := p.extractLsb' 0 2 == 0 && decide ((p.extractLsb' 13 3).toNat ≤ 5)

/-- How each instruction uses word 1. Events have no word. -/
def shape : Instr → Shape
  | .imad _ | .fmac _ | .bmac2 _ => shape3acc
  | .iadd _ | .isub _ | .imul _ | .imulhi _ | .imulhu _ | .and _ | .or _ | .xor _ | .andn _ | .shl _ | .shr _
  | .sar _ | .imin _ | .imax _ | .umin _ | .umax _ | .iseq _ | .isne _ | .islt _ | .isle _ | .isltu _ | .isleu _
  | .fadd _ | .fsub _ | .fmul _ | .fmin _ | .fmax _ | .fseq _ | .fslt _ | .fsle _ | .fsun _ | .badd2 _ | .bmul2 _
  | .sel _ | .shflx _ | .fcpys _ => shape3
  | .add64 _ => { d := wr2, a := rd2, sa := true, b := rd2, sb := true }
  | .iaddi _ | .shli _ | .shri _ | .sari _ => shape2
  | .ucmp _ | .ufcmp _ => { a := rd1, sa := true, b := rd1, sb := true }
  | .csrr o => { d := if csr64 o.a then wr2 else wr1, a := .num }
  | .csrw _ => { d := .num, a := rd1, sa := true }
  | .voteAny _ | .voteAll _ => { a := rd1, sa := true }
  | .voteBallot _ => { d := wr2, a := rd1, sa := true }
  | .ex2 _ | .lg2 _ | .rcp _ | .rsq _ | .sqrt _ | .sinpi _ | .cospi _ | .tanh _ | .sigm _ | .erf _
  | .popc _ | .clz _ | .brev _ | .iabs _ | .ineg _ | .fabs _ | .fneg _ | .frintRne _ | .frintRz _ | .frintRp _
  | .frintRm _ | .cvtfi _ | .cvtfu _ | .cvtif _ | .cvtuf _ | .cvtfb _ | .cvtbf _ | .shfl _
  | .redlIadd _ | .redlFadd _ | .redlImax _ | .redlImin _ | .redlFmax _ | .redlFmin _ | .redlAnd _ | .redlOr _
  | .redlXor _ | .scanIadd _ | .scanFadd _ | .scanImax _ | .scanImin _ | .scanFmax _ | .scanFmin _ | .scanAnd _
  | .scanOr _ | .scanXor _ | .scanXIadd _ | .scanXFadd _ | .scanXImax _ | .scanXImin _ | .scanXFmax _
  | .scanXFmin _ | .scanXAnd _ | .scanXOr _ | .scanXXor _ | .voteCount _ | .voteFirst _ => shape2
  | .ldi _ => { d := wr1 }
  | .iaddl _ | .andl _ | .orl _ | .xorl _ | .cvtq _ | .cvtx _ | .pack _ | .unpack _ => shape2
  | .fmal _ => { shape2 with d := .rw 1 1 }
  | .amaxb _ => { shape2 with d := wr2 }
  | .lea _ => { d := wr2, a := rd2, sa := true }
  | .ldB _ | .ldBs _ | .ldH _ | .ldHs _ | .ldW _ | .lde _ | .cellq _ => ldShape 1 1
  | .ldD _ => ldShape 2 2
  | .ldQ _ => ldShape 4 4
  | .stB _ | .stH _ | .stW _ | .redAdd _ | .redFadd _ | .redFmaxa _ | .resolve _ | .cellfail _ => stShape 1 1
  | .defer _ => { stShape 1 1 with m := false }
  | .stD _ => stShape 2 2
  | .stQ _ => stShape 4 4
  | .atomCas _ => atomShape 2
  | .atomAdd _ | .atomMin _ | .atomMax _ | .atomUmin _ | .atomUmax _ | .atomAnd _ | .atomOr _ | .atomXor _
  | .atomXchg _ | .atomIncb _ | .atomFadd _ | .atomBadd2 _ | .atomFmaxa _ => atomShape 1
  | .stc _ => { d := .wr 3 2, a := rd2, sa := true, b := rd1, sb := true }
  | .pref _ => { d := .num, a := rd2, sa := true, m := false }
  | .cclean _ | .cinv _ | .cflush _ => maintShape
  | .fence _ => noMask
  | .modeM _ => { d := .num, m := false }
  | .modeV _ | .mresv _ => noMask
  | .mbaton _ => { a := rd1, m := false }
  | .mma o => { d := .num, a := rd1, b := if o.srcB == 1 then rd2 else rd1 }
  | .gmma _ => { d := .num, a := rd1, b := rd1 }
  | .mdrain _ | .mfill _ => { a := rd1 }
  | .dotb o => { d := .wr (16 * (o.n.toNat + 1)) 16, a := rd1, b := rd1 }
  | .mstat _ => { d := wr1, m := false }
  | .br _ => { d := .num, m := false }
  | .brz _ | .brnz _ => { a := rd1, sa := true }
  | .call o => { d := if o.w.d == 0 then .num else wr2, m := false }
  | .ret _ | .jmpr _ => { a := rd2, m := false }
  | .split _ => { d := .num, a := rd1, sa := true, b := .num, m := false }
  | .merge _ | .yield _ | .yieldc _ | .exit _ | .trap _ | .trapret _ | .waitc _ | .sleep _ | .bkpt _ => noMask
  | .spawn _ => { a := rd2, b := rd2, m := false }
  | .bararv _ | .barwait _ | .barsync _ | .sbarv _ => noMask
  | .gsync _ => { a := rd1, m := false }
  | .sbexp o => if o.side then { d := .num, m := false } else { d := .num, b := rd1, sb := true, m := false }
  | .sbwait _ => { a := rd1, sa := true, m := false }
  | .sbtry _ => { d := wr1, a := rd1, sa := true, m := false }
  | .cpy _ | .cpyw _ => copyShape rd1
  | .cpy2d _ | .gath2d _ | .scat2d _ | .decode _ => copyShape (.rd 4 4)
  | .chain _ => copyShape rd2
  | .qbindR _ | .qbindW _ => { d := .num, a := rd2, sa := true, b := rd1, sb := true }
  | .qend _ => { d := .num }
  | .enq _ | .enqTry _ => { a := rd1, sa := true, b := .rd 16 1 }
  | .pset _ => { a := .rd 3 1, sa := true }
  | .rst _ => { a := rd2, sa := true, b := rd1, sb := true }
  | .rstBlock _ => { a := rd2, sa := true, b := rd2, sb := true }
  | .rld _ => { d := wr1, a := rd2, sa := true }
  | .ratomCas _ => { d := wr1, a := rd2, sa := true, b := rd2, sb := true }
  | .ratomAdd _ | .ratomFadd _ | .ratomFmaxa _ | .ratomIncb _ =>
      { d := wr1, a := rd2, sa := true, b := rd1, sb := true }
  | .rredAdd _ | .rredFadd _ | .rredFmaxa _ => copyShape rd2
  | .rcpy _ => copyShape rd1
  | .rsig _ | .rwait _ => { b := rd1, sb := true }
  | .reshard _ => { a := rd2, sa := true, b := rd2, sb := true }
  | .pcount _ => { d := wr1 }
  | .coord _ => { d := wr2 }
  | .setx _ => noMask
  | .budget _ | .clock _ => { d := wr2 }
  | .csrmvRead _ => { d := wr2 }
  | .csrmvWrite _ => { a := rd2, sa := true }
  | _ => {}

/-- The register fields of word 1, as they stand in the term. -/
def UOp.w (o : UOp) : SOp := ⟨o.d, o.a, o.xa, 0, 0, o.m⟩
def IOp.w (o : IOp) : SOp := ⟨o.d, o.a, o.xa, 0, 0, o.m⟩
def L3Op.w (o : L3Op) : SOp := ⟨o.d, o.a, o.xa, 0, 0, o.m⟩

/-- The fields of word 1 that an instruction carries; none for an event. -/
def word1 : Instr → Option SOp
  | .nop => some ⟨0, 0, 0, 0, 0, false⟩
  | .iadd o | .isub o | .imul o | .imulhi o | .imulhu o | .imad o | .and o | .or o | .xor o | .andn o | .shl o
  | .shr o | .sar o | .imin o | .imax o | .umin o | .umax o | .iseq o | .isne o | .islt o | .isle o | .isltu o
  | .isleu o | .fadd o | .fsub o | .fmul o | .fmac o | .fmin o | .fmax o | .fseq o | .fslt o | .fsle o | .fsun o
  | .badd2 o | .bmul2 o | .bmac2 o | .sel o | .add64 o | .shflx o | .ucmp o | .ufcmp o | .csrr o | .csrw o
  | .fcpys o => some o
  | .iaddi o | .shli o | .shri o | .sari o => some o.w
  | .ex2 o | .lg2 o | .rcp o | .rsq o | .sqrt o | .sinpi o | .cospi o | .tanh o | .sigm o | .erf o | .popc o
  | .clz o | .brev o | .iabs o | .ineg o | .fabs o | .fneg o | .frintRne o | .frintRz o | .frintRp o
  | .frintRm o | .cvtfi o | .cvtfu o | .cvtif o | .cvtuf o | .cvtfb o | .cvtbf o | .shfl o | .redlIadd o
  | .redlFadd o | .redlImax o | .redlImin o | .redlFmax o | .redlFmin o | .redlAnd o | .redlOr o | .redlXor o
  | .scanIadd o | .scanFadd o | .scanImax o | .scanImin o | .scanFmax o | .scanFmin o | .scanAnd o | .scanOr o
  | .scanXor o | .scanXIadd o | .scanXFadd o | .scanXImax o | .scanXImin o | .scanXFmax o | .scanXFmin o
  | .scanXAnd o | .scanXOr o | .scanXXor o | .voteAny o | .voteAll o | .voteCount o | .voteFirst o
  | .voteBallot o => some o.w
  | .ldi o | .iaddl o | .andl o | .orl o | .xorl o | .cvtq o | .cvtx o | .amaxb o | .fmal o | .pack o
  | .unpack o | .lea o => some o.w
  | .ldB o | .ldBs o | .ldH o | .ldHs o | .ldW o | .ldD o | .ldQ o | .stB o | .stH o | .stW o | .stD o | .stQ o
  | .atomAdd o | .atomMin o | .atomMax o | .atomUmin o | .atomUmax o | .atomAnd o | .atomOr o | .atomXor o
  | .atomXchg o | .atomCas o | .atomIncb o | .atomFadd o | .atomBadd2 o | .atomFmaxa o | .redAdd o | .redFadd o
  | .redFmaxa o | .stc o | .lde o | .pref o | .cclean o | .cinv o | .cflush o | .fence o | .defer o | .resolve o
  | .cellq o | .cellfail o => some o.w
  | .modeM o | .modeV o | .mresv o | .mbaton o | .mma o | .gmma o | .mdrain o | .mfill o | .dotb o | .mstat o =>
      some o.w
  | .br o | .brz o | .brnz o | .call o | .ret o | .jmpr o | .split o | .merge o | .yield o | .yieldc o | .exit o
  | .spawn o | .trap o | .trapret o | .waitc o | .sleep o | .bkpt o => some o.w
  | .bararv o | .barwait o | .barsync o | .gsync o | .sbexp o | .sbarv o | .sbwait o | .sbtry o => some o.w
  | .cpy o | .cpy2d o | .gath2d o | .scat2d o | .chain o | .qbindR o | .qbindW o | .qend o | .enq o | .enqTry o
  | .decode o | .cpyw o => some o.w
  | .pset o | .rst o | .rstBlock o | .rld o | .ratomAdd o | .ratomFadd o | .ratomFmaxa o | .ratomCas o
  | .ratomIncb o | .rredAdd o | .rredFadd o | .rredFmaxa o | .rcpy o | .rsig o | .rwait o | .reshard o
  | .pcount o | .coord o => some o.w
  | .setx o | .budget o | .clock o | .csrmvRead o | .csrmvWrite o => some o.w
  | _ => none

/-- An event or command of the device: a row of the table that no instruction word stands for. -/
def Instr.isEvent (i : Instr) : Bool := (word1 i).isNone

/-- The registers an instruction reads, by its fields (R66). -/
def Instr.reads (i : Instr) : List Nat :=
  match word1 i with
  | some w => (shape i).d.reads w.d ++ (shape i).a.reads w.a ++ (shape i).b.reads w.b
  | none => []

/-- The registers an instruction writes, by its fields (R66). -/
def Instr.writes (i : Instr) : List Nat :=
  match word1 i with
  | some w => (shape i).d.writes w.d ++ (shape i).a.writes w.a ++ (shape i).b.writes w.b
  | none => []

/-- Word 1 against the instruction's shape. -/
def shapeOk (sh : Shape) (w : SOp) : Bool :=
  sh.d.ok w.d && sh.a.ok w.a && sh.b.ok w.b && (sh.sa || w.xa == 0) && (sh.sb || w.xb == 0) && (sh.m || !w.m)

/-- Spaces 0 to `hi`; buffers take no reuse, scope or order (R139). -/
def memSpace (o : MemOp) (hi : Nat) : Bool :=
  decide (o.space.toNat ≤ hi) && (o.space == 0 || (o.reuse == 0 && o.scope == 0 && o.order == 0))

/-- The order is one of the two allowed, and the scope is 0 exactly with relaxed order (R139). -/
def memOrder (o : MemOp) (allowed : Nat → Bool) : Bool :=
  allowed o.order.toNat && (if o.order == 0 then o.scope == 0 else decide (1 ≤ o.scope.toNat ∧ o.scope.toNat ≤ 6))

def loadOk (o : MemOp) : Bool := memSpace o 2 && memOrder o (fun r => r == 0 || r == 1)
def storeOk (o : MemOp) : Bool := memSpace o 1 && memOrder o (fun r => r == 0 || r == 2)
def redOk (o : MemOp) : Bool := memSpace o 0 && memOrder o (fun r => r == 0 || r == 2)
def atomOk (o : MemOp) : Bool := memSpace o 0 && memOrder o (fun _ => true)
def plainOk (o : MemOp) : Bool := o.space == 0 && o.scope == 0 && o.order == 0

/-- The fields of family 0x39 that only products use are zero (R191, R200, R201). -/
def matPlain (o : MatOp) : Bool := o.slotB == 0 && o.srcB == 0 && o.k == 0 && !o.acc
def matBare (o : MatOp) : Bool := matPlain o && o.slotA == 0 && o.srcA == 0 && o.n == 0
/-- Product fields (R28, R191): depth non-zero, sources assigned, a zero with the bypass. -/
def prodOk (o : MatOp) (maxB : Nat) : Bool :=
  o.k != 0 && decide (o.srcA.toNat ≤ 1) && decide (o.srcB.toNat ≤ maxB) && (o.srcA == 0 || o.w.a == 0)
/-- The arrival control of MMA and GMMA: zero unless enabled (R191). -/
def arrivalOk (o : MatOp) : Bool := o.w.d == 0 || o.w.d.getLsbD 6

/-- Spaces of an XFER command (R336), and its quire fields. -/
def xferOk (o : XferOp) (dsts srcs : List Nat) (q c : Bool) : Bool :=
  dsts.contains o.dst.toNat && srcs.contains o.src.toNat && (q || !o.q) && (o.q || o.quire == 0) && (c || !o.c)

/-- Fields of family 0x3D that are not used are zero (R313). -/
def fabOk (o : FabOp) (pat ctr : Bool) : Bool := (pat || o.pat == 0) && (ctr || o.ctr == 0) && o.sub == 0

/-- CSRMV's word 2 [22:0]: an allowed CSR, reserved bits zero (R275). -/
def csrmvOk (o : SysOp) (dir : Bool) : Bool :=
  o.f.getLsbD 23 == dir && o.f.extractLsb' 0 16 == 0 && csr64 (o.f.extractLsb' 16 7)

/-- The limits of an instruction beyond its use of word 1. -/
def extraOk : Instr → Bool
  | .shli o | .shri o | .sari o => decide (o.imm.toNat ≤ 31)
  | .sel o => o.m
  | .csrr o => csrReadable o.a
  | .csrw o => csrReadable o.d && !csr64 o.d
  | .ldi o => o.a == 0 && o.xa == 0
  | .cvtq o | .cvtx o | .amaxb o => decide (o.imm.toNat ≤ 7)
  | .pack o | .unpack o => decide (o.imm.toNat ≤ 3)
  | .ldB o | .ldBs o | .ldH o | .ldHs o | .ldW o | .ldD o | .ldQ o | .lde o => loadOk o
  | .stB o | .stH o | .stW o | .stD o | .stQ o => storeOk o
  | .atomAdd o | .atomMin o | .atomMax o | .atomUmin o | .atomUmax o | .atomAnd o | .atomOr o | .atomXor o
  | .atomXchg o | .atomCas o | .atomIncb o | .atomFadd o | .atomBadd2 o | .atomFmaxa o => atomOk o
  | .redAdd o | .redFadd o | .redFmaxa o | .stc o => redOk o
  | .pref o | .cclean o | .cinv o | .cflush o => plainOk o && decide (o.w.d.toNat ≤ 1)
  | .fence o => o.space == 0 && o.imm == 0 && o.reuse == 0 && o.order != 0 && memOrder o (fun _ => true)
  | .defer o | .cellfail o => plainOk o && o.reuse == 0
  | .resolve o | .cellq o => plainOk o
  | .modeM o => matPlain o && o.slotA == 0 && o.srcA == 0 && o.w.d.toNat % 16 == 0 && decide (16 ≤ o.w.d.toNat) &&
      decide (o.w.d.toNat + 16 * (o.n.toNat + 1) ≤ 128)
  | .modeV o | .mresv o | .mbaton o | .mstat o => matBare o
  | .mma o => prodOk o 1 && arrivalOk o
  | .gmma o => prodOk o 1 && arrivalOk o
  | .dotb o => prodOk o 0 && decide (16 ≤ o.w.d.toNat)
  | .mdrain o => matPlain o && decide (o.srcA.toNat ≤ 1) && (o.srcA == 0 || o.w.a == 0)
  | .mfill o => matPlain o && o.slotA == 0 && o.srcA == 0
  | .br o => decide (o.w.d.toNat ≤ 16)
  | .ret o | .merge o | .yield o | .exit o | .trapret o => o.imm == 0
  | .waitc o => o.imm.extractLsb' 11 13 == 0 && decide ((o.imm.extractLsb' 8 3).toNat ≤ 5)
  | .bararv o | .barwait o | .barsync o =>
      !o.side && (o.level == 0 && decide (o.index.toNat < 16) || o.level == 1 && decide (o.index.toNat < 8) ||
        o.level == 2 && decide (o.index.toNat < 4))
  | .gsync o => o.level == 0 && !o.side && decide (o.index.toNat < 16)
  | .sbexp o | .sbarv o | .sbwait o | .sbtry o => o.level == 3
  | .cpy o | .cpy2d o => xferOk o [0, 1, 2] [0, 1] true false
  | .gath2d o => xferOk o [0, 1] [0, 1] true false
  | .scat2d o => xferOk o [0] [0, 1] true false
  | .chain o => xferOk o [0] [0] true false
  | .qbindR o => xferOk o [0] [0, 1] false false && decide (124 ≤ o.w.d.toNat)
  | .qbindW o => xferOk o [0, 1] [0] true false && decide (124 ≤ o.w.d.toNat)
  | .qend o => xferOk o [0] [0] false false && decide (124 ≤ o.w.d.toNat)
  | .enq o | .enqTry o => xferOk o [0] [0] false false
  | .decode o => xferOk o [0, 1] [0] true false
  | .cpyw o => xferOk o [2] [0, 1] true true
  | .pset o | .rld o | .pcount o | .coord o => fabOk o true false
  | .rst o | .rstBlock o | .ratomAdd o | .ratomFadd o | .ratomFmaxa o | .ratomCas o | .ratomIncb o | .rredAdd o
  | .rredFadd o | .rredFmaxa o | .rcpy o | .rsig o | .rwait o => fabOk o true true
  | .reshard o => o.pat == 0 && decide (o.sub.toNat ≤ 2)
  | .setx o => o.f.extractLsb' 22 2 != 0 && o.f.extractLsb' 16 6 == 0 && presetOk (o.f.extractLsb' 0 16)
  | .budget o | .clock o => o.f == 0
  | .csrmvRead o => csrmvOk o false
  | .csrmvWrite o => csrmvOk o true
  | _ => true

/-- A well-formed instruction: one the encoding admits (R26, R37). Every event is well-formed. -/
def wf (i : Instr) : Bool :=
  match word1 i with
  | some w => shapeOk (shape i) w && extraOk i
  | none => true

end Sys2Proof
end

