-- ==== Sys2Proof/Decode.lean ====
section
/-!
DEFINITION. Decoding and encoding of instruction words (R23 to R34, R37): total on any bytes; a word that
is no instruction is rejected by the name of the trap it meets.
-/
namespace Sys2Proof

/-- Why bytes are no instruction: the trap of R37 they meet, or too few bytes for a word. -/
inductive DecodeErr where
  | opcode
  | encoding
  | short
  deriving DecidableEq, Repr

/-- An instruction if its fields meet WellFormed, else ILLEGAL_ENCODING (R26, R37). -/
def mk (i : Instr) : Except DecodeErr Instr := if wf i then .ok i else .error .encoding

/-- Opcode field of a word (R23). -/
def opOf (w : Word) : Nat := (w.extractLsb' 26 6).toNat

/-- The S-format fields of a word (R23). -/
def unpackS (w : Word) : SOp :=
  ⟨w.extractLsb' 19 7, w.extractLsb' 12 7, w.extractLsb' 10 2, w.extractLsb' 3 7, w.extractLsb' 1 2, w.getLsbD 0⟩

/-- A word of format S (R23). -/
def packS (op : Nat) (o : SOp) : Word :=
  (BitVec.ofNat 6 op ++ o.d ++ o.a ++ o.xa ++ o.b ++ o.xb ++ BitVec.ofBool o.m : BitVec 32)

/-- The SI-format fields of a word (R23). -/
def unpackI (w : Word) : IOp :=
  ⟨w.extractLsb' 19 7, w.extractLsb' 12 7, w.extractLsb' 10 2, w.extractLsb' 1 9, w.getLsbD 0⟩

/-- A word of format SI (R23). -/
def packI (op : Nat) (o : IOp) : Word :=
  (BitVec.ofNat 6 op ++ o.d ++ o.a ++ o.xa ++ o.imm ++ BitVec.ofBool o.m : BitVec 32)

def memOf (w1 w2 : Word) : MemOp :=
  ⟨unpackS w1, w2.extractLsb' 22 2, w2.extractLsb' 20 2, w2.extractLsb' 17 3, w2.extractLsb' 15 2, w2.extractLsb' 0 15⟩

def matOf (w1 w2 : Word) : MatOp :=
  ⟨unpackS w1, w2.extractLsb' 21 3, w2.extractLsb' 18 3, w2.extractLsb' 16 2, w2.extractLsb' 14 2,
    w2.extractLsb' 12 2, w2.extractLsb' 4 8, w2.getLsbD 3⟩

def ctlOf (w1 w2 : Word) : CtlOp := ⟨unpackS w1, w2.extractLsb' 0 24⟩

def syncOf (w1 w2 : Word) : SyncOp := ⟨unpackS w1, w2.extractLsb' 22 2, w2.extractLsb' 17 5, w2.getLsbD 16⟩

def xferOf (w1 w2 : Word) : XferOp :=
  ⟨unpackS w1, w2.getLsbD 23, w2.extractLsb' 18 5, w2.extractLsb' 16 2, w2.extractLsb' 14 2, w2.getLsbD 11⟩

def fabOf (w1 w2 : Word) : FabOp :=
  ⟨unpackS w1, w2.extractLsb' 21 3, w2.extractLsb' 13 8, w2.extractLsb' 10 3⟩

def sysOf (w1 w2 : Word) : SysOp := ⟨unpackS w1, w2.extractLsb' 0 24⟩

/-- The functs or codes of Short. -/
def pickShort (f : Nat) (o : SOp) : Except DecodeErr Instr :=
  match f with
  | 1 => mk (.iadd o)
  | 2 => mk (.isub o)
  | 3 => mk (.imul o)
  | 4 => mk (.imulhi o)
  | 5 => mk (.imulhu o)
  | 6 => mk (.imad o)
  | 8 => mk (.and o)
  | 9 => mk (.or o)
  | 10 => mk (.xor o)
  | 11 => mk (.andn o)
  | 12 => mk (.shl o)
  | 13 => mk (.shr o)
  | 14 => mk (.sar o)
  | 18 => mk (.imin o)
  | 19 => mk (.imax o)
  | 20 => mk (.umin o)
  | 21 => mk (.umax o)
  | 22 => mk (.iseq o)
  | 23 => mk (.isne o)
  | 24 => mk (.islt o)
  | 25 => mk (.isle o)
  | 26 => mk (.isltu o)
  | 27 => mk (.isleu o)
  | 28 => mk (.fadd o)
  | 29 => mk (.fsub o)
  | 30 => mk (.fmul o)
  | 31 => mk (.fmac o)
  | 32 => mk (.fmin o)
  | 33 => mk (.fmax o)
  | 34 => mk (.fseq o)
  | 35 => mk (.fslt o)
  | 36 => mk (.fsle o)
  | 37 => mk (.fsun o)
  | 38 => mk (.badd2 o)
  | 39 => mk (.bmul2 o)
  | 40 => mk (.bmac2 o)
  | 41 => mk (.sel o)
  | 42 => mk (.add64 o)
  | 46 => mk (.shflx o)
  | 50 => mk (.ucmp o)
  | 51 => mk (.ufcmp o)
  | 52 => mk (.csrr o)
  | 53 => mk (.csrw o)
  | 54 => mk (.fcpys o)
  | _ => .error .opcode

/-- The functs or codes of Imm. -/
def pickImm (f : Nat) (o : IOp) : Except DecodeErr Instr :=
  match f with
  | 7 => mk (.iaddi o)
  | 15 => mk (.shli o)
  | 16 => mk (.shri o)
  | 17 => mk (.sari o)
  | _ => .error .opcode

/-- The functs or codes of Sfu. -/
def pickSfu (f : Nat) (o : UOp) : Except DecodeErr Instr :=
  match f with
  | 0 => mk (.ex2 o)
  | 1 => mk (.lg2 o)
  | 2 => mk (.rcp o)
  | 3 => mk (.rsq o)
  | 4 => mk (.sqrt o)
  | 5 => mk (.sinpi o)
  | 6 => mk (.cospi o)
  | 7 => mk (.tanh o)
  | 8 => mk (.sigm o)
  | 9 => mk (.erf o)
  | _ => .error .opcode

/-- The functs or codes of Uni. -/
def pickUni (f : Nat) (o : UOp) : Except DecodeErr Instr :=
  match f with
  | 0 => mk (.popc o)
  | 1 => mk (.clz o)
  | 2 => mk (.brev o)
  | 3 => mk (.iabs o)
  | 4 => mk (.ineg o)
  | 5 => mk (.fabs o)
  | 6 => mk (.fneg o)
  | 7 => mk (.frintRne o)
  | 8 => mk (.frintRz o)
  | 9 => mk (.frintRp o)
  | 10 => mk (.frintRm o)
  | 11 => mk (.cvtfi o)
  | 12 => mk (.cvtfu o)
  | 13 => mk (.cvtif o)
  | 14 => mk (.cvtuf o)
  | 15 => mk (.cvtfb o)
  | 16 => mk (.cvtbf o)
  | _ => .error .opcode

/-- The functs or codes of Shfl. -/
def pickShfl (f : Nat) (o : UOp) : Except DecodeErr Instr :=
  match f with
  | 0 => mk (.shfl o)
  | _ => .error .opcode

/-- The functs or codes of Redl. -/
def pickRedl (f : Nat) (o : UOp) : Except DecodeErr Instr :=
  match f with
  | 0 => mk (.redlIadd o)
  | 1 => mk (.redlFadd o)
  | 2 => mk (.redlImax o)
  | 3 => mk (.redlImin o)
  | 4 => mk (.redlFmax o)
  | 5 => mk (.redlFmin o)
  | 6 => mk (.redlAnd o)
  | 7 => mk (.redlOr o)
  | 8 => mk (.redlXor o)
  | _ => .error .opcode

/-- The functs or codes of Scan. -/
def pickScan (f : Nat) (o : UOp) : Except DecodeErr Instr :=
  match f with
  | 0 => mk (.scanIadd o)
  | 1 => mk (.scanFadd o)
  | 2 => mk (.scanImax o)
  | 3 => mk (.scanImin o)
  | 4 => mk (.scanFmax o)
  | 5 => mk (.scanFmin o)
  | 6 => mk (.scanAnd o)
  | 7 => mk (.scanOr o)
  | 8 => mk (.scanXor o)
  | 64 => mk (.scanXIadd o)
  | 65 => mk (.scanXFadd o)
  | 66 => mk (.scanXImax o)
  | 67 => mk (.scanXImin o)
  | 68 => mk (.scanXFmax o)
  | 69 => mk (.scanXFmin o)
  | 70 => mk (.scanXAnd o)
  | 71 => mk (.scanXOr o)
  | 72 => mk (.scanXXor o)
  | _ => .error .opcode

/-- The functs or codes of Vote. -/
def pickVote (f : Nat) (o : UOp) : Except DecodeErr Instr :=
  match f with
  | 0 => mk (.voteAny o)
  | 1 => mk (.voteAll o)
  | 2 => mk (.voteCount o)
  | 3 => mk (.voteFirst o)
  | 4 => mk (.voteBallot o)
  | _ => .error .opcode

/-- The functs or codes of L3. -/
def pickL3 (f : Nat) (o : L3Op) : Except DecodeErr Instr :=
  match f with
  | 0 => mk (.ldi o)
  | 1 => mk (.iaddl o)
  | 2 => mk (.andl o)
  | 3 => mk (.orl o)
  | 4 => mk (.xorl o)
  | 5 => mk (.cvtq o)
  | 6 => mk (.cvtx o)
  | 7 => mk (.amaxb o)
  | 8 => mk (.fmal o)
  | 9 => mk (.pack o)
  | 10 => mk (.unpack o)
  | 11 => mk (.lea o)
  | _ => .error .opcode

/-- The functs or codes of Mem. -/
def pickMem (f : Nat) (o : MemOp) : Except DecodeErr Instr :=
  match f with
  | 0 => mk (.ldB o)
  | 1 => mk (.ldBs o)
  | 2 => mk (.ldH o)
  | 3 => mk (.ldHs o)
  | 4 => mk (.ldW o)
  | 5 => mk (.ldD o)
  | 6 => mk (.ldQ o)
  | 8 => mk (.stB o)
  | 9 => mk (.stH o)
  | 10 => mk (.stW o)
  | 11 => mk (.stD o)
  | 12 => mk (.stQ o)
  | 16 => mk (.atomAdd o)
  | 17 => mk (.atomMin o)
  | 18 => mk (.atomMax o)
  | 19 => mk (.atomUmin o)
  | 20 => mk (.atomUmax o)
  | 21 => mk (.atomAnd o)
  | 22 => mk (.atomOr o)
  | 23 => mk (.atomXor o)
  | 24 => mk (.atomXchg o)
  | 25 => mk (.atomCas o)
  | 26 => mk (.atomIncb o)
  | 27 => mk (.atomFadd o)
  | 28 => mk (.atomBadd2 o)
  | 29 => mk (.atomFmaxa o)
  | 32 => mk (.redAdd o)
  | 33 => mk (.redFadd o)
  | 34 => mk (.redFmaxa o)
  | 40 => mk (.stc o)
  | 41 => mk (.lde o)
  | 48 => mk (.pref o)
  | 49 => mk (.cclean o)
  | 50 => mk (.cinv o)
  | 51 => mk (.cflush o)
  | 52 => mk (.fence o)
  | 56 => mk (.defer o)
  | 57 => mk (.resolve o)
  | 58 => mk (.cellq o)
  | 59 => mk (.cellfail o)
  | _ => .error .opcode

/-- The functs or codes of Mat. -/
def pickMat (f : Nat) (o : MatOp) : Except DecodeErr Instr :=
  match f with
  | 0 => mk (.modeM o)
  | 1 => mk (.modeV o)
  | 2 => mk (.mresv o)
  | 3 => mk (.mbaton o)
  | 4 => mk (.mma o)
  | 5 => mk (.gmma o)
  | 6 => mk (.mdrain o)
  | 7 => mk (.mfill o)
  | 8 => mk (.dotb o)
  | 9 => mk (.mstat o)
  | _ => .error .opcode

/-- The functs or codes of Ctl. -/
def pickCtl (f : Nat) (o : CtlOp) : Except DecodeErr Instr :=
  match f with
  | 0 => mk (.br o)
  | 1 => mk (.brz o)
  | 2 => mk (.brnz o)
  | 3 => mk (.call o)
  | 4 => mk (.ret o)
  | 5 => mk (.jmpr o)
  | 6 => mk (.split o)
  | 7 => mk (.merge o)
  | 8 => mk (.yield o)
  | 9 => mk (.yieldc o)
  | 10 => mk (.exit o)
  | 11 => mk (.spawn o)
  | 12 => mk (.trap o)
  | 13 => mk (.trapret o)
  | 14 => mk (.waitc o)
  | 15 => mk (.sleep o)
  | 16 => mk (.bkpt o)
  | _ => .error .opcode

/-- The functs or codes of Sync. -/
def pickSync (f : Nat) (o : SyncOp) : Except DecodeErr Instr :=
  match f with
  | 0 => mk (.bararv o)
  | 1 => mk (.barwait o)
  | 2 => mk (.barsync o)
  | 3 => mk (.sbexp o)
  | 4 => mk (.sbarv o)
  | 5 => mk (.sbwait o)
  | 6 => mk (.sbtry o)
  | 7 => mk (.gsync o)
  | _ => .error .opcode

/-- Codes of family 0x3C: the funct with T and D (R31). -/
def pickXfer (f : Nat) (t d : Bool) (o : XferOp) : Except DecodeErr Instr :=
  match f with
  | 0 => if t || d then .error .encoding else mk (.cpy o)
  | 1 => if t || d then .error .encoding else mk (.cpy2d o)
  | 2 => if t || d then .error .encoding else mk (.gath2d o)
  | 3 => if t || d then .error .encoding else mk (.scat2d o)
  | 4 => if t || d then .error .encoding else mk (.chain o)
  | 5 => if t then .error .encoding else if d then mk (.qbindW o) else mk (.qbindR o)
  | 6 => if t || d then .error .encoding else mk (.qend o)
  | 7 => if d then .error .encoding else if t then mk (.enqTry o) else mk (.enq o)
  | 8 => if t || d then .error .encoding else mk (.decode o)
  | 9 => if t || d then .error .encoding else mk (.cpyw o)
  | _ => .error .opcode

/-- An RATOM by its sub-op (R32). -/
def pickRatom (o : FabOp) : Except DecodeErr Instr :=
  match o.sub.toNat with
  | 0 => mk (.ratomAdd { o with sub := 0 })
  | 1 => mk (.ratomFadd { o with sub := 0 })
  | 2 => mk (.ratomFmaxa { o with sub := 0 })
  | 3 => mk (.ratomCas { o with sub := 0 })
  | 4 => mk (.ratomIncb { o with sub := 0 })
  | _ => .error .encoding

/-- An RRED by its sub-op (R32). -/
def pickRred (o : FabOp) : Except DecodeErr Instr :=
  match o.sub.toNat with
  | 0 => mk (.rredAdd { o with sub := 0 })
  | 1 => mk (.rredFadd { o with sub := 0 })
  | 2 => mk (.rredFmaxa { o with sub := 0 })
  | _ => .error .encoding

/-- Codes of family 0x3D: the funct with M (R32). -/
def pickFab (f : Nat) (m : Bool) (o : FabOp) : Except DecodeErr Instr :=
  match f with
  | 0 => if m then .error .encoding else mk (.pset o)
  | 1 => if m then mk (.rstBlock o) else mk (.rst o)
  | 2 => if m then .error .encoding else mk (.rld o)
  | 3 => if m then .error .encoding else pickRatom o
  | 4 => if m then .error .encoding else pickRred o
  | 5 => if m then .error .encoding else mk (.rcpy o)
  | 6 => if m then .error .encoding else mk (.rsig o)
  | 7 => if m then .error .encoding else mk (.rwait o)
  | 8 => if m then .error .encoding else mk (.reshard o)
  | 9 => if m then .error .encoding else mk (.pcount o)
  | 10 => if m then .error .encoding else mk (.coord o)
  | _ => .error .opcode

/-- Codes of family 0x3E (R33). -/
def pickSys (f : Nat) (o : SysOp) : Except DecodeErr Instr :=
  match f with
  | 0x10 => mk (.setx o)
  | 0x11 => mk (.budget o)
  | 0x12 => mk (.clock o)
  | 0x13 => if o.f.getLsbD 23 then mk (.csrmvWrite o) else mk (.csrmvRead o)
  | _ => .error .opcode

/-- A reserved field of word 2 must be zero, after the funct is known to be assigned (R26, R38). -/
def reserved (ok : Bool) (r : Except DecodeErr Instr) : Except DecodeErr Instr :=
  match r with
  | .error .opcode => .error .opcode
  | r => if ok then r else .error .encoding

/-- Opcodes of two words (R23). -/
def isLong (w : Word) : Bool := decide (0x38 ≤ opOf w)

/-- A function code stands in b, and xb must be zero (R25). -/
def withFn (w : Word) (pick : Nat → UOp → Except DecodeErr Instr) : Except DecodeErr Instr :=
  let o := unpackS w
  reserved (o.xb == 0) (pick o.b.toNat ⟨o.d, o.a, o.xa, o.m⟩)

/-- A word of an opcode below 0x38 (R24, R37). -/
def decodeShort (w : Word) : Except DecodeErr Instr :=
  match opOf w with
  | 0x00 => if w == 0 then .ok .nop else .error .encoding
  | 0x07 | 0x0F | 0x10 | 0x11 => pickImm (opOf w) (unpackI w)
  | 0x2B => withFn w pickSfu
  | 0x2C => withFn w pickUni
  | 0x2D => if (unpackS w).b == 0 then withFn w pickShfl else .error .encoding
  | 0x2F => withFn w pickRedl
  | 0x30 => withFn w pickScan
  | 0x31 => withFn w pickVote
  | n => pickShort n (unpackS w)

/-- The two words of a long instruction (R26 to R34). -/
def decodeLong (w1 w2 : Word) : Except DecodeErr Instr :=
  let f := (w2.extractLsb' 24 8).toNat
  match opOf w1 with
  | 0x38 => pickMem f (memOf w1 w2)
  | 0x39 => reserved (w2.extractLsb' 0 3 == 0) (pickMat f (matOf w1 w2))
  | 0x3A => pickCtl f (ctlOf w1 w2)
  | 0x3B => reserved (w2.extractLsb' 0 16 == 0) (pickSync f (syncOf w1 w2))
  | 0x3C => reserved (w2.extractLsb' 0 11 == 0) (pickXfer f (w2.getLsbD 13) (w2.getLsbD 12) (xferOf w1 w2))
  | 0x3D => reserved (w2.extractLsb' 0 9 == 0) (pickFab f (w2.getLsbD 9) (fabOf w1 w2))
  | 0x3E => pickSys f (sysOf w1 w2)
  | 0x3F =>
      let o := unpackS w1
      reserved (o.xb == 0) (pickL3 o.b.toNat ⟨o.d, o.a, o.xa, o.m, w2⟩)
  | _ => .error .opcode

/-- A little-endian word of four bytes, with the bytes after it (R4). -/
def takeWord : List Byte → Option (Word × List Byte)
  | b0 :: b1 :: b2 :: b3 :: r => some (b3 ++ b2 ++ b1 ++ b0, r)
  | _ => none

/-- The four bytes of a word, little-endian (R4). -/
def wordBytes (w : Word) : List Byte :=
  [w.extractLsb' 0 8, w.extractLsb' 8 8, w.extractLsb' 16 8, w.extractLsb' 24 8]

/-- The instruction that a list of bytes begins with, and the bytes after it. -/
def decodeBytes (bs : List Byte) : Except DecodeErr (Instr × List Byte) :=
  match takeWord bs with
  | none => .error .short
  | some (w1, r) =>
    if isLong w1 then
      match takeWord r with
      | none => .error .short
      | some (w2, r2) => (decodeLong w1 w2).map (·, r2)
    else (decodeShort w1).map (·, r)

/-- The instruction of two words, the second read only by a long instruction. -/
def decodeWords (w1 w2 : Word) : Except DecodeErr Instr :=
  if isLong w1 then decodeLong w1 w2 else decodeShort w1

/-- Bytes of an instruction by its first word (R23). -/
def lengthOf (w1 : Word) : Nat := if isLong w1 then 8 else 4

/-- The engine class of a word (R15, R24 to R34): none where the opcode or funct is unassigned (R14). DESIGN CHOICE
(log 100): R14 names only opcode and funct; a short word whose function code in b is unassigned (SFU, UNI, REDL, SCAN,
VOTE) has no class either. -/
def engClass (w1 w2 : Word) : Option Nat :=
  match decodeWords w1 w2 with
  | .error .opcode => none
  | _ =>
    match opOf w1 with
    | 0x2B => some 1
    | 0x38 => some 2
    | 0x39 => some 3
    | 0x3A | 0x3B | 0x3E => some 5
    | 0x3C => some 4
    | 0x3D => some 6
    | _ => some 0

/-- Whether a word is a control transfer (R16): every CTL funct but YIELD, WAITC, SLEEP and BKPT, and the
SYNC functs that can park. -/
def isTransfer (w1 w2 : Word) : Bool :=
  let f := (w2.extractLsb' 24 8).toNat
  match opOf w1 with
  | 0x3A => decide (f ≤ 0x10) && f != 0x08 && f != 0x0E && f != 0x0F && f != 0x10
  | 0x3B => f == 1 || f == 2 || f == 5 || f == 7
  | _ => false

/-- A function code in place of a b operand. -/
def fnOp (fn : Nat) (o : UOp) : SOp := ⟨o.d, o.a, o.xa, BitVec.ofNat 7 fn, 0, o.m⟩
def sW (op : Nat) (o : SOp) : Word := packS op o
def iW (op : Nat) (o : IOp) : Word := packI op o
def uW (op fn : Nat) (o : UOp) : Word := packS op (fnOp fn o)
def f8 (f : Nat) : BitVec 8 := BitVec.ofNat 8 f
def l3W (fn : Nat) (o : L3Op) : List Word := [packS 0x3F (fnOp fn ⟨o.d, o.a, o.xa, o.m⟩), o.imm]
def memW (f : Nat) (o : MemOp) : List Word :=
  [packS 0x38 o.w, (f8 f ++ o.space ++ o.reuse ++ o.scope ++ o.order ++ o.imm : BitVec 32)]
def matW (f : Nat) (o : MatOp) : List Word :=
  [packS 0x39 o.w, (f8 f ++ o.slotA ++ o.slotB ++ o.srcA ++ o.srcB ++ o.n ++ o.k ++ BitVec.ofBool o.acc ++
    (0 : BitVec 3) : BitVec 32)]
def ctlW (f : Nat) (o : CtlOp) : List Word := [packS 0x3A o.w, (f8 f ++ o.imm : BitVec 32)]
def syncW (f : Nat) (o : SyncOp) : List Word :=
  [packS 0x3B o.w, (f8 f ++ o.level ++ o.index ++ BitVec.ofBool o.side ++ (0 : BitVec 16) : BitVec 32)]
def xferW (f : Nat) (t d : Bool) (o : XferOp) : List Word :=
  [packS 0x3C o.w, (f8 f ++ BitVec.ofBool o.q ++ o.quire ++ o.dst ++ o.src ++ BitVec.ofBool t ++ BitVec.ofBool d ++
    BitVec.ofBool o.c ++ (0 : BitVec 11) : BitVec 32)]
def fabW (f : Nat) (sub : BitVec 3) (m : Bool) (o : FabOp) : List Word :=
  [packS 0x3D o.w, (f8 f ++ o.pat ++ o.ctr ++ sub ++ BitVec.ofBool m ++ (0 : BitVec 9) : BitVec 32)]
def sysW (f : Nat) (o : SysOp) : List Word := [packS 0x3E o.w, (f8 f ++ o.f : BitVec 32)]

/-- The words of an instruction (R23 to R34); an event has none. -/
def encode : Instr → List Word
  | .nop => [0]
  | .iadd o => [sW 1 o]
  | .isub o => [sW 2 o]
  | .imul o => [sW 3 o]
  | .imulhi o => [sW 4 o]
  | .imulhu o => [sW 5 o]
  | .imad o => [sW 6 o]
  | .iaddi o => [iW 7 o]
  | .and o => [sW 8 o]
  | .or o => [sW 9 o]
  | .xor o => [sW 10 o]
  | .andn o => [sW 11 o]
  | .shl o => [sW 12 o]
  | .shr o => [sW 13 o]
  | .sar o => [sW 14 o]
  | .shli o => [iW 15 o]
  | .shri o => [iW 16 o]
  | .sari o => [iW 17 o]
  | .imin o => [sW 18 o]
  | .imax o => [sW 19 o]
  | .umin o => [sW 20 o]
  | .umax o => [sW 21 o]
  | .iseq o => [sW 22 o]
  | .isne o => [sW 23 o]
  | .islt o => [sW 24 o]
  | .isle o => [sW 25 o]
  | .isltu o => [sW 26 o]
  | .isleu o => [sW 27 o]
  | .fadd o => [sW 28 o]
  | .fsub o => [sW 29 o]
  | .fmul o => [sW 30 o]
  | .fmac o => [sW 31 o]
  | .fmin o => [sW 32 o]
  | .fmax o => [sW 33 o]
  | .fseq o => [sW 34 o]
  | .fslt o => [sW 35 o]
  | .fsle o => [sW 36 o]
  | .fsun o => [sW 37 o]
  | .badd2 o => [sW 38 o]
  | .bmul2 o => [sW 39 o]
  | .bmac2 o => [sW 40 o]
  | .sel o => [sW 41 o]
  | .add64 o => [sW 42 o]
  | .shflx o => [sW 46 o]
  | .ucmp o => [sW 50 o]
  | .ufcmp o => [sW 51 o]
  | .csrr o => [sW 52 o]
  | .csrw o => [sW 53 o]
  | .fcpys o => [sW 54 o]
  | .ex2 o => [uW 43 0 o]
  | .lg2 o => [uW 43 1 o]
  | .rcp o => [uW 43 2 o]
  | .rsq o => [uW 43 3 o]
  | .sqrt o => [uW 43 4 o]
  | .sinpi o => [uW 43 5 o]
  | .cospi o => [uW 43 6 o]
  | .tanh o => [uW 43 7 o]
  | .sigm o => [uW 43 8 o]
  | .erf o => [uW 43 9 o]
  | .popc o => [uW 44 0 o]
  | .clz o => [uW 44 1 o]
  | .brev o => [uW 44 2 o]
  | .iabs o => [uW 44 3 o]
  | .ineg o => [uW 44 4 o]
  | .fabs o => [uW 44 5 o]
  | .fneg o => [uW 44 6 o]
  | .frintRne o => [uW 44 7 o]
  | .frintRz o => [uW 44 8 o]
  | .frintRp o => [uW 44 9 o]
  | .frintRm o => [uW 44 10 o]
  | .cvtfi o => [uW 44 11 o]
  | .cvtfu o => [uW 44 12 o]
  | .cvtif o => [uW 44 13 o]
  | .cvtuf o => [uW 44 14 o]
  | .cvtfb o => [uW 44 15 o]
  | .cvtbf o => [uW 44 16 o]
  | .shfl o => [uW 45 0 o]
  | .redlIadd o => [uW 47 0 o]
  | .redlFadd o => [uW 47 1 o]
  | .redlImax o => [uW 47 2 o]
  | .redlImin o => [uW 47 3 o]
  | .redlFmax o => [uW 47 4 o]
  | .redlFmin o => [uW 47 5 o]
  | .redlAnd o => [uW 47 6 o]
  | .redlOr o => [uW 47 7 o]
  | .redlXor o => [uW 47 8 o]
  | .scanIadd o => [uW 48 0 o]
  | .scanFadd o => [uW 48 1 o]
  | .scanImax o => [uW 48 2 o]
  | .scanImin o => [uW 48 3 o]
  | .scanFmax o => [uW 48 4 o]
  | .scanFmin o => [uW 48 5 o]
  | .scanAnd o => [uW 48 6 o]
  | .scanOr o => [uW 48 7 o]
  | .scanXor o => [uW 48 8 o]
  | .scanXIadd o => [uW 48 64 o]
  | .scanXFadd o => [uW 48 65 o]
  | .scanXImax o => [uW 48 66 o]
  | .scanXImin o => [uW 48 67 o]
  | .scanXFmax o => [uW 48 68 o]
  | .scanXFmin o => [uW 48 69 o]
  | .scanXAnd o => [uW 48 70 o]
  | .scanXOr o => [uW 48 71 o]
  | .scanXXor o => [uW 48 72 o]
  | .voteAny o => [uW 49 0 o]
  | .voteAll o => [uW 49 1 o]
  | .voteCount o => [uW 49 2 o]
  | .voteFirst o => [uW 49 3 o]
  | .voteBallot o => [uW 49 4 o]
  | .ldi o => l3W 0 o
  | .iaddl o => l3W 1 o
  | .andl o => l3W 2 o
  | .orl o => l3W 3 o
  | .xorl o => l3W 4 o
  | .cvtq o => l3W 5 o
  | .cvtx o => l3W 6 o
  | .amaxb o => l3W 7 o
  | .fmal o => l3W 8 o
  | .pack o => l3W 9 o
  | .unpack o => l3W 10 o
  | .lea o => l3W 11 o
  | .ldB o => memW 0 o
  | .ldBs o => memW 1 o
  | .ldH o => memW 2 o
  | .ldHs o => memW 3 o
  | .ldW o => memW 4 o
  | .ldD o => memW 5 o
  | .ldQ o => memW 6 o
  | .stB o => memW 8 o
  | .stH o => memW 9 o
  | .stW o => memW 10 o
  | .stD o => memW 11 o
  | .stQ o => memW 12 o
  | .atomAdd o => memW 16 o
  | .atomMin o => memW 17 o
  | .atomMax o => memW 18 o
  | .atomUmin o => memW 19 o
  | .atomUmax o => memW 20 o
  | .atomAnd o => memW 21 o
  | .atomOr o => memW 22 o
  | .atomXor o => memW 23 o
  | .atomXchg o => memW 24 o
  | .atomCas o => memW 25 o
  | .atomIncb o => memW 26 o
  | .atomFadd o => memW 27 o
  | .atomBadd2 o => memW 28 o
  | .atomFmaxa o => memW 29 o
  | .redAdd o => memW 32 o
  | .redFadd o => memW 33 o
  | .redFmaxa o => memW 34 o
  | .stc o => memW 40 o
  | .lde o => memW 41 o
  | .pref o => memW 48 o
  | .cclean o => memW 49 o
  | .cinv o => memW 50 o
  | .cflush o => memW 51 o
  | .fence o => memW 52 o
  | .defer o => memW 56 o
  | .resolve o => memW 57 o
  | .cellq o => memW 58 o
  | .cellfail o => memW 59 o
  | .modeM o => matW 0 o
  | .modeV o => matW 1 o
  | .mresv o => matW 2 o
  | .mbaton o => matW 3 o
  | .mma o => matW 4 o
  | .gmma o => matW 5 o
  | .mdrain o => matW 6 o
  | .mfill o => matW 7 o
  | .dotb o => matW 8 o
  | .mstat o => matW 9 o
  | .br o => ctlW 0 o
  | .brz o => ctlW 1 o
  | .brnz o => ctlW 2 o
  | .call o => ctlW 3 o
  | .ret o => ctlW 4 o
  | .jmpr o => ctlW 5 o
  | .split o => ctlW 6 o
  | .merge o => ctlW 7 o
  | .yield o => ctlW 8 o
  | .yieldc o => ctlW 9 o
  | .exit o => ctlW 10 o
  | .spawn o => ctlW 11 o
  | .trap o => ctlW 12 o
  | .trapret o => ctlW 13 o
  | .waitc o => ctlW 14 o
  | .sleep o => ctlW 15 o
  | .bkpt o => ctlW 16 o
  | .bararv o => syncW 0 o
  | .barwait o => syncW 1 o
  | .barsync o => syncW 2 o
  | .sbexp o => syncW 3 o
  | .sbarv o => syncW 4 o
  | .sbwait o => syncW 5 o
  | .sbtry o => syncW 6 o
  | .gsync o => syncW 7 o
  | .cpy o => xferW 0 false false o
  | .cpy2d o => xferW 1 false false o
  | .gath2d o => xferW 2 false false o
  | .scat2d o => xferW 3 false false o
  | .chain o => xferW 4 false false o
  | .qbindR o => xferW 5 false false o
  | .qbindW o => xferW 5 false true o
  | .qend o => xferW 6 false false o
  | .enq o => xferW 7 false false o
  | .enqTry o => xferW 7 true false o
  | .decode o => xferW 8 false false o
  | .cpyw o => xferW 9 false false o
  | .pset o => fabW 0 o.sub false o
  | .rst o => fabW 1 o.sub false o
  | .rstBlock o => fabW 1 o.sub true o
  | .rld o => fabW 2 o.sub false o
  | .ratomAdd o => fabW 3 0 false o
  | .ratomFadd o => fabW 3 1 false o
  | .ratomFmaxa o => fabW 3 2 false o
  | .ratomCas o => fabW 3 3 false o
  | .ratomIncb o => fabW 3 4 false o
  | .rredAdd o => fabW 4 0 false o
  | .rredFadd o => fabW 4 1 false o
  | .rredFmaxa o => fabW 4 2 false o
  | .rcpy o => fabW 5 o.sub false o
  | .rsig o => fabW 6 o.sub false o
  | .rwait o => fabW 7 o.sub false o
  | .reshard o => fabW 8 o.sub false o
  | .pcount o => fabW 9 o.sub false o
  | .coord o => fabW 10 o.sub false o
  | .setx o => sysW 16 o
  | .budget o => sysW 17 o
  | .clock o => sysW 18 o
  | .csrmvRead o => sysW 19 o
  | .csrmvWrite o => sysW 19 o
  | _ => []

/-- The bytes of an instruction as memory holds them: each word little-endian, the first lowest (R4). -/
def encodeBytes (i : Instr) : List Byte := (encode i).flatMap wordBytes

/-- The bytes of a table word: `nbits` bits of `w`, bit 0 the least significant of the first word, zero
above, up to the longest instruction of two words. -/
def tableBytes (nbits w : Nat) : List Byte :=
  (List.range 8).map fun k => BitVec.ofNat 8 (w % 2 ^ nbits / 2 ^ (8 * k))

/-- The instruction the decoder reads from a table word. -/
def decodeTableWord (nbits w : Nat) : Option Instr :=
  match decodeBytes (tableBytes nbits w) with
  | .ok (i, _) => some i
  | .error _ => none

end Sys2Proof
end

