-- ==== Sys2Proof/Machine/State.lean ====
section
/-!
DEFINITION. The state of the machine as plain data: every piece of state the spec gives the module, the
reasons a step can stop, and the state right after reset. Tables that the hardware holds sparsely (memory,
registers, buffers) are lists of key and value in one canonical form: keys rising, no entry equal to what an
unlisted key reads as.
-/
namespace Sys2Proof.Machine

/-! ### The group -/

/-- The outstanding-operation counters of a group (R17), in the code order of WAITC (R90). -/
inductive Counter where
  | ld | sfu | mma | cpy | fab | spn
  deriving DecidableEq, Repr

/-- A trap as an instruction raises it (R8, R10, R270): its cause, TRAPADDR, the lane field of ESTATE, the
forwarded cause, and the count of records an ENQ had appended. -/
structure TrapInfo where
  cause : Byte
  addr : Addr
  lane : Byte := 0xFF
  fwd : Byte := 0
  count : Byte := 0
  deriving DecidableEq, Repr

/-- An outstanding operation of a group (R17, R90). `writes` are the register results that have not landed,
by register key; `done` says that the operation has completed though an older one of its class has not. -/
structure Op where
  seq : Nat
  cls : Counter
  /-- its place among all the operations of its class that the group has issued -/
  nth : Nat := 0
  writes : List (Nat × Word) := []
  /-- registers, by key, whose results have not come back yet (R316) -/
  due : List Nat := []
  done : Bool := false
  fault : Option TrapInfo := none
  /-- the end of a wait for it invalidates the L1 (R163, R168) -/
  acquire : Bool := false
  /-- the engine command, remote operation or child team it stands for -/
  ref : Nat := 0
  /-- the quire and side at which an MMA or GMMA still has to arrive (R191) -/
  arrival : Option (Nat × Bool) := none
  /-- the segment whose fault it carries (R189) -/
  faultSeg : Nat := 0
  deriving DecidableEq, Repr

/-- A deferred fault that no wait has reported yet (R90). -/
structure Deferred where
  seq : Nat
  cls : Counter
  nth : Nat
  info : TrapInfo
  deriving DecidableEq, Repr

/-- A split: its header address, lanes, flags Z N C V E, and innermost join record (R76). -/
structure Split where
  label : Nat
  pc : Addr
  lanes : LaneSet
  cc : BitVec 5 := 0
  join : Option Nat := none
  /-- parked at its join record by MERGE -/
  parked : Bool := false
  deriving DecidableEq, Repr

/-- The kind of a join record (R76). -/
inductive JoinKind where
  | split | serial
  deriving DecidableEq, Repr

/-- A join record (R76). -/
structure Join where
  idx : Nat
  merge : Addr
  parent : Option Nat
  kind : JoinKind
  count : Nat
  rest : LaneSet := 0
  restPc : Addr := 0
  restCc : BitVec 5 := 0
  done : LaneSet := 0
  doneCc : BitVec 5 := 0
  /-- the word after the MERGE that the done lanes reached -/
  donePc : Addr := 0
  /-- made by a trap handler (R274) -/
  handler : Bool := false
  deriving DecidableEq, Repr

/-- A clause in progress: its header and that word's address, the split it issues from, how many of its
instructions have issued, and where the next one stands (R13, R76). -/
structure Clause where
  header : Word
  addr : Addr
  split : Nat
  idx : Nat := 0
  pc : Addr
  /-- the energy debit of the instruction at `pc` has been made (R22) -/
  debited : Bool := false
  /-- the words of the instruction at `pc`, once it has been fetched and until it is over -/
  words : Option (Word × Word) := none
  deriving DecidableEq, Repr

/-- What a parked group waits for (R74). -/
inductive Wait where
  /-- the WZ set of the clause at its header (R20) -/
  | wz (named : BitVec 6)
  /-- an S marker (R20) -/
  | marker
  /-- a condition that the instruction itself checks again: a counter, a barrier, a quire, the array, a
  port, an aliased register, a page being moved -/
  | retry
  /-- the page of its next clause, which is being invalidated (R133) -/
  | header
  /-- the cycle at which SLEEP ends (R88) -/
  | sleep (wake : Nat)
  /-- cells under evaluation, by 64 B unit (R211) -/
  | cell (units : List Nat)
  /-- a full wait table, until the cycle of the next retry, with the cells that the touch met (R211) -/
  | tableFull (wake : Nat) (units : List Nat)
  /-- room in a node input queue (R246) -/
  | enq
  deriving DecidableEq, Repr

/-- The states of a group (R74). -/
inductive GStatus where
  | resident
  | windowed
  | parked (w : Wait)
  | spilled (w : Wait)
  | trapped
  deriving DecidableEq, Repr

/-- Where a group resumes after a trap (R269): the clause, the split, its lanes and join; whether the clause
check or the header fetch raised it, so that no instruction stands at EPC; and the instruction's length. -/
structure Resume where
  clause : Option Clause
  epc : Addr
  split : Nat
  lanes : LaneSet
  join : Option Nat
  byInstr : Bool
  len : Nat
  info : TrapInfo
  /-- the records that an interrupted ENQ has appended (R246) -/
  appended : Nat := 0
  deriving DecidableEq, Repr

/-- How far trap entry has come (R269, R276). -/
inductive Entry0 where
  /-- not in trap entry -/
  | none
  /-- raised, waiting for the counters -/
  | raised
  /-- forwarded, waiting for the driver's reply -/
  | forwarded
  /-- the driver answered while the context was pre-empted: replay or deliver after resume (R276) -/
  | replied (replay : Bool)
  deriving DecidableEq, Repr

/-- How a queue port is bound (R343). -/
inductive PortDir where
  | read | write
  deriving DecidableEq, Repr

/-- A bound queue port, v124 to v127 (R343, R344). Stream fields are as QBIND read them. -/
structure Port where
  reg : Nat
  dir : PortDir
  /-- the stream's engine command -/
  cmd : Nat := 0
  /-- read: the chunk that QPORT_READ has latched for the instruction that waits, by lane -/
  taken : Option (List (Nat × Word)) := none
  /-- write: what an instruction has written and QPORT_WRITE has not appended, by lane -/
  given : List (Nat × Word) := []
  /-- an instruction stalls on the port -/
  wanted : Bool := false
  deriving DecidableEq, Repr

/-- A group (R65 to R68, R74, R76). Registers are a sparse table keyed 64 × register + lane, 0 unlisted. -/
structure Group where
  gid : Nat
  team : Nat
  index : Nat
  /-- the CSR CLASS -/
  cls : BitVec 2
  /-- the class in force: a handler's write of CLASS takes effect at TRAPRET (R271) -/
  sched : BitVec 2
  /-- registers owned, c (R66) -/
  nregs : Nat
  regs : List (Nat × Word) := []
  /-- lanes that launch made active (R8, R245) -/
  lanes : LaneSet
  status : GStatus := .resident
  /-- holds a fast window -/
  window : Bool := false
  /-- the next clause reloads the window (R21) -/
  interval : Bool := true
  splits : List Split := []
  joins : List Join := []
  clause : Option Clause := none
  xset : BitVec 64 := 0
  mode : Word := 0
  lineage : BitVec 64 := 0
  mthresh : Word := 8
  trapCause : Byte := 0
  trapAddr : Addr := 0
  epc : Addr := 0
  /-- ESTATE.H: a handler runs (R270) -/
  handling : Bool := false
  /-- the STC claim that ESTATE.C shows: base and count (R151) -/
  claim : Option (Addr × Nat) := none
  /-- the handler has written 0 to ESTATE.C: TRAPRET abandons the claim (R270) -/
  dropClaim : Bool := false
  estFwd : Byte := 0
  estCount : Byte := 0
  estLane : Byte := 0
  entry : Entry0 := .none
  resume : Option Resume := none
  /-- a double trap, fatal at the end of trap entry (R269) -/
  double : Bool := false
  ops : List Op := []
  deferred : List Deferred := []
  nextSeq : Nat := 0
  /-- operations of each class that the group has issued so far (R90) -/
  issued : List (Counter × Nat) := []
  /-- completed operations whose bytes no wait has acquired yet: class and place (R163, R168) -/
  acqs : List (Counter × Nat) := []
  /-- how far the instruction at the clause's pc has come: arrivals made, sleep ended -/
  prog : Nat := 0
  /-- records the ENQ at the clause's pc has appended (R246) -/
  enqDone : Nat := 0
  /-- a parked ENQ's queue and the records that it has still to append (R246) -/
  enq : Option (Nat × List (List Word)) := none
  /-- its pending generation at each fixed barrier: level, index, generation (R225) -/
  pending : List (Nat × Nat × Nat) := []
  ports : List Port := []
  /-- pattern slots p0 to p7: three words each (R304) -/
  patterns : List (Word × Word × Word) := []
  /-- the cycle its age counts from (R250) -/
  ageFrom : Nat := 0
  /-- the cycle at which it parked, or became resident -/
  since : Nat := 0
  /-- waits for a gap between passes (R177) -/
  gapWait : Bool := false
  /-- the instruction at the clause's pc has found that it cannot issue yet (R250) -/
  stalled : Bool := false
  /-- a wait that a change of a quire phase or a cell has ended -/
  woken : Bool := false
  /-- the flip that ended its SBWAIT had counted bytes of global memory (R169) -/
  wokenGlobal : Bool := false
  deriving DecidableEq, Repr

/-! ### Team, cluster, barriers -/

/-- One side of a quire (R227). -/
structure QSide where
  phase : Bool := false
  owedEach : Nat := 1
  owed : Nat := 1
  bytes : Int := 0
  broken : Bool := false
  /-- bytes of global memory counted since the last flip, and in the phase that it ended (R169) -/
  glob : Bool := false
  acq : Bool := false
  deriving DecidableEq, Repr

/-- A quire (R227). -/
structure Quire where
  full : QSide := {}
  empty : QSide := {}
  deriving DecidableEq, Repr

/-- What launched a team (R238, R260). -/
inductive Origin where
  | host
  | child (parent : Nat) (seq : Nat)
  | gathering (queue : Nat)
  | evaluator (id : Nat)
  | combine (die : Nat)
  deriving DecidableEq, Repr

/-- A placed team (R65, R257). Its buffer bytes are sparse, 0 unlisted (R126). -/
structure Team where
  tid : Nat
  ctx : Nat
  launch : Nat
  cluster : Nat
  index : Nat
  place : QuadId
  origin : Origin
  ngroups : Nat
  nregs : Nat
  abytes : Nat
  wbytes : Nat
  /-- where its runs of 128 B units begin in the core's buffers -/
  abase : Nat := 0
  wbase : Nat := 0
  nbars : Nat
  quires : List Quire
  slots : List Word
  arg : Addr
  depth : Nat
  nclusters : Nat
  grid : Bool
  abuf : List Host.Cell := []
  wbuf : List Host.Cell := []
  /-- every group is spilled and the footprint is saved and freed (R215) -/
  saved : Bool := false
  deriving DecidableEq, Repr

/-- A placed cluster (R258): its CLUSTER index, die, and rectangle. -/
structure Cluster where
  cid : Nat
  launch : Nat
  index : Nat
  die : Nat
  row : Nat
  col : Nat
  rows : Nat
  cols : Nat
  deriving DecidableEq, Repr

/-- A fixed barrier in use (R225, R226): its level and owner (team, cluster or launch id), its open
generation, the GSYNC mask, the arrivals and the early bits, by group id. -/
structure Barrier where
  level : Nat
  owner : Nat
  idx : Nat
  gen : Nat := 0
  mask : Option (BitVec 16) := none
  arrived : List Nat := []
  early : List Nat := []
  deriving DecidableEq, Repr

/-! ### The array of a quad -/

/-- A posted pass, or a segment of a GMMA that waits its turn or runs on the vector path (R182, R185, R186,
R198). -/
structure Pass where
  gid : Nat
  seq : Nat
  /-- segment number of a GMMA -/
  seg : Nat := 0
  /-- on the vector path -/
  vec : Bool := false
  slotA : Word
  slotB : Word
  /-- A from the bypass latch -/
  latch : Bool
  oa : Nat
  /-- B through L2 at a global address -/
  l2 : Bool
  ob : Addr
  n : Nat
  k : Nat
  rows : LaneSet
  acc : Bool
  /-- the cycle at which it was posted -/
  at' : Nat
  step : Nat := 0
  running : Bool := false
  suspended : Bool := false
  /-- the cycle at which it last started (R182) -/
  started : Nat := 0
  /-- pinned pages of the B range, by virtual address (R188) -/
  pins : List Addr := []
  /-- cells it waits for -/
  cells : List Nat := []
  /-- the wait table was full: the cycle at which it touches its cells again (R211) -/
  retryAt : Option Nat := none
  deriving DecidableEq, Repr

/-- Who may own an array: a group, or the posted queue of a FIFO context (R183 to R185). -/
inductive Holder where
  | group (g : Nat)
  | fifo (ctx : Nat)
  deriving DecidableEq, Repr

/-- An entry of a quad's reservation table, or the owner with the class and age it was granted under (R184,
R185). -/
structure Resv where
  who : Holder
  cls : Nat
  since : Nat
  /-- the cycle of the last rise -/
  raised : Nat
  /-- the owner has been spilled: its ownership ends with its posted passes (R185) -/
  leaving : Bool := false
  deriving DecidableEq, Repr

/-- The content of a quad's bypass latch (R181): an A operand of depth n. -/
structure Latch where
  slot : Nat
  n : Nat
  team : Nat
  data : List Host.Cell
  deriving DecidableEq, Repr

/-- The array of a quad (R183 to R185, R196). -/
structure QArray where
  place : QuadId
  owner : Option Resv := none
  /-- the running pass stops at its next step (R185 STOPPING) -/
  stopping : Bool := false
  /-- the running pass has met the 64 us limit (R182) -/
  limit : Bool := false
  posted : List Pass := []
  segs : List Pass := []
  resvs : List Resv := []
  /-- batons passed by groups whose posted passes have not ended, each with its recipient (R196) -/
  batons : List (Nat × Option Nat) := []
  /-- no pass starts before MATRIX_GAP_END (R177) -/
  gap : Option Nat := none
  latch : Option Latch := none
  deriving DecidableEq, Repr

/-! ### Memory, translation, caches -/

/-- What an atomic or RED makes of a word (R145 to R147, R149). -/
inductive AtomOp where
  | add | min | max | umin | umax | and | or | xor | xchg | cas | incb | fadd | badd2 | fmaxa
  deriving DecidableEq, Repr

/-- What an access does when it is performed (R157). -/
inductive Deed where
  /-- it reads, for the outstanding operation `seq`, into the registers from `d` (R142) -/
  | load (seq d : Nat) (signed : Bool)
  /-- it writes; the words of an STC leave the issuing core's L1 (`drop`, R135) -/
  | store (data : List Byte) (drop : Bool)
  /-- it updates a word for its lanes in ascending order, each with its operands, and gives their operation `seq` the old
  values in register `d`, unless it is a RED (R144, R149) -/
  | atom (op : AtomOp) (args : List (Nat × Word × Word)) (res : Option (Nat × Nat))
  /-- a FENCE, which reads and writes nothing (R164) -/
  | fence
  deriving DecidableEq, Repr

/-- An access that an instruction has issued and that has not been performed (R157; log 6): whose it is, the bytes, what the
page and the instruction say of it, and what it does. -/
structure Flight where
  core : Nat
  gid : Nat
  team : Nat
  lanes : LaneSet
  /-- the step at which its instruction issued -/
  at' : Nat
  /-- 0 global memory, 1 and 2 the team's buffers, with `pa` the offset -/
  space : Nat := 0
  host : Bool := false
  cached : Bool := false
  cell : Bool := false
  pa : Nat := 0
  n : Nat := 0
  /-- the key of its page (R127) -/
  key : List Byte := []
  reuse : Nat := 0
  order : Nat := 0
  scope : Nat := 0
  /-- a store that the issuing core's L1 shows and its home has not performed (R160) -/
  shown : Bool := false
  deed : Deed
  deriving DecidableEq, Repr

/-- The tag of a cell (R203). -/
inductive Tag where
  | val | def' | evl | err
  deriving DecidableEq, Repr

/-- A sector of an L1 (R135): the core, the 32 B sector's physical address / 32, and its bytes; a prefetched line of cells
comes with their tags (R153). -/
structure Sector where
  core : Nat
  idx : Nat
  data : List Byte
  tag : Tag := .val
  /-- the key under which the bytes were read -/
  key : List Byte := []
  deriving DecidableEq, Repr

/-- An L2 line (R136): slice, set and way, the line's physical address / 128, and its RRPV. -/
structure Line where
  slice : Nat
  way : Nat
  idx : Nat
  rrpv : Nat
  dirty : Bool := false
  deriving DecidableEq, Repr

/-- A translation that a TLB holds (R131, R132): the die, the context, the page's base, its size in bytes,
and the leaf entry. `core` is none in the die's shared TLB. -/
structure Tlb where
  die : Nat
  core : Option Nat
  ctx : Nat
  base : Nat
  size : Nat
  leaf : Addr
  deriving DecidableEq, Repr

/-- The state of a page beyond what its table entry says (R133). -/
inductive PageState where
  | migrating
  | invalidating (entry : Addr)
  deriving DecidableEq, Repr

/-- A page in MIGRATING or INVALIDATING (R133), with the opcode and tag of the command that ends with it. -/
structure PageLife where
  ctx : Nat
  base : Nat
  size : Nat
  st : PageState
  op : Nat := 0
  tag : Addr
  deriving DecidableEq, Repr

/-- The memory system. Bytes are by physical address, host bytes by bus address; tags and poison by 64 B
unit; an unlisted byte reads 0 (DESIGN CHOICE, log 1) and an unlisted tag VAL. -/
structure Memory where
  bytes : List Host.Cell := []
  tags : List (Nat × Tag) := []
  /-- the key that a 128 B line was last written under, where that is not the empty key of a slot that holds none (R127,
  R363; log 16) -/
  keyed : List (Nat × List Byte) := []
  poison : List Nat := []
  host : List Host.Cell := []
  sectors : List Sector := []
  lines : List Line := []
  tlbs : List Tlb := []
  pages : List PageLife := []
  /-- dropped prefetches by die (R137, R360) -/
  dropped : List (Nat × Nat) := []
  /-- L2 slices mapped out: die and slice within it (R256, R359) -/
  slicesOut : List (Nat × Nat) := []
  deriving DecidableEq, Repr

/-! ### Cells under evaluation -/

/-- An allocated evaluation id (R212): its context, the head's unit (physical address / 64), the extent, and the queued
or running evaluator. -/
structure Eval where
  id : Nat
  die : Nat
  ctx : Nat
  head : Nat
  /-- cells of the extent -/
  len : Nat
  headVa : Addr
  cls : Nat
  lineage : BitVec 64
  /-- the record still stands in the die's evaluation queue (R213) -/
  queued : Bool := true
  ready : Nat
  /-- the defect-map signature as the record was pushed (R249, R256) -/
  sig : Addr := 0
  deriving DecidableEq, Repr

/-- Who waits on a cell: a group, an engine command, a pass of a group, a remote operation. -/
inductive Waiter where
  | group (g : Nat)
  | engine (c : Nat)
  | pass (g seq seg : Nat)
  | remote (r : Nat)
  deriving DecidableEq, Repr

/-- An entry of a slice's wait table (R211). -/
structure WaitEntry where
  slice : Nat
  unit : Nat
  who : Waiter
  deriving DecidableEq, Repr

/-! ### Queues, launches, contexts -/

/-- A record of a node input queue: its 16 words and the cycle of its append (R241). -/
structure Rec where
  words : List Word
  at' : Nat
  deriving DecidableEq, Repr

/-- A gathering that awaits placement (R242): the queue's records it takes, oldest first, and its launch. -/
structure Gathering where
  recs : List Rec
  lid : Nat
  deriving DecidableEq, Repr

/-- A node input queue (R239, R240, R243). -/
structure NodeQueue where
  num : Nat
  kernel : Addr
  capacity : Nat
  coalesce : Nat
  timeout : Nat
  storage : Addr
  /-- undispatched records, oldest first -/
  recs : List Rec := []
  gatherings : List Gathering := []
  closing : Bool := false
  closed : Bool := false
  /-- groups with an ENQ that holds records still to append, oldest first -/
  parked : List Nat := []
  closeTag : Addr := 0
  deriving DecidableEq, Repr

/-- The states of a launch (R260). -/
inductive LaunchState where
  | submitted | waiting | queued | ready | running | done
  deriving DecidableEq, Repr

/-- A launch record's fields (R253). -/
structure LaunchRec where
  image : Addr
  arg : Addr
  colophon : Addr
  countAddr : Addr
  count : Nat
  rows : Nat
  cols : Nat
  groups : Nat
  regs16 : Nat
  quires : Nat
  bars : Nat
  flags : Byte
  abytes : Nat
  wbytes : Nat
  slots : List Word
  deps : List Addr
  event : Addr
  reserved : Bool
  /-- the record's address is a multiple of 64 -/
  aligned : Bool := true
  deriving DecidableEq, Repr

/-- A combine queue's record (R327): sequence number and chunk offset. -/
structure CombineRec where
  seq : Nat
  die : Nat
  offset : Nat
  words : List Word
  deriving DecidableEq, Repr

/-- A host launch, a spawned child, or a formed combine gathering that awaits placement (R260, R264, R327). -/
structure Launch where
  lid : Nat
  ctx : Nat
  origin : Origin
  sq : Nat := 0
  /-- order of submission, and the cycle of becoming ready -/
  order : Nat := 0
  ready : Nat := 0
  st : LaunchState
  rcd : LaunchRec
  /-- dependence words that have not been read non-zero yet (R260) -/
  await : List Addr := []
  cls : Nat
  entry : Addr := 0
  variant : Option Nat := none
  /-- ready dies of the signature that the variant choice read (R256) -/
  dies : List Nat := []
  clusters : Nat := 0
  placed : Nat := 0
  depth : Nat := 0
  lineage : BitVec 64 := 0
  /-- the id of the parent's cluster, for a child -/
  parent : Option Nat := none
  /-- the count read has faulted and waits for the driver (R261) -/
  stalled : Bool := false
  /-- checks of R378 passed -/
  checked : Bool := false
  /-- the records of a combine team (R327) -/
  recs : List CombineRec := []
  deriving DecidableEq, Repr

/-- The states of a context (R268). -/
inductive CtxState where
  | active | preempting | preempted | resuming | ending
  deriving DecidableEq, Repr

/-- A range of the access table (R307), of one source device and context. -/
structure AccessRange where
  src : Nat
  srcCtx : Nat
  base : Nat
  len : Nat
  rights : Byte
  deriving DecidableEq, Repr

/-- An RWAIT in its counter's queue (R306). -/
structure RWaiter where
  counter : Nat
  gid : Nat
  target : Nat
  deriving DecidableEq, Repr

/-- An entry of the remote fault log (R309): its sequence number, where it stands in the ring, counting from the first
entry ever written, its bytes there, the request it is a piece of, and that piece. -/
structure LogEntry where
  seq : Nat
  pos : Nat
  size : Nat
  /-- the arrival that it belongs to, by the model's id -/
  rid : Nat
  va : Addr
  data : List Byte
  req : Req
  deriving DecidableEq, Repr

/-- The state of a chunk entry (R326). -/
inductive ChunkState where
  | filling | combining
  deriving DecidableEq, Repr

/-- An entry of the chunk table (R326). -/
structure Chunk where
  offset : Nat
  len : Nat
  n : Nat
  op : Nat
  slot : Word
  counter : Nat
  result : Addr
  done : Nat := 0
  st : ChunkState := .filling
  deriving DecidableEq, Repr

/-- The grid map (R299): axis sizes, and the device and context of each used entry. -/
structure GridMap where
  axes : Nat
  sizes : List Nat
  entries : List (Nat × Nat)
  deriving DecidableEq, Repr

/-- A team saved by pre-emption, with its groups (R278, R279), its share of barriers and latch, its reservations and,
where one of its groups owns the array, the ownership, which a group keeps through every wait but trap entry and spill
(R187). -/
structure SavedTeam where
  team : Team
  groups : List Group
  barriers : List Barrier
  latch : Option Latch
  posted : List Pass
  segs : List Pass
  resvs : List Resv
  owner : Option Resv := none
  /-- the batons that its groups have passed and that wait for posted passes to end (R196) -/
  batons : List (Nat × Option Nat) := []
  deriving DecidableEq, Repr

/-- A context (R265, R267, R268, R299, R305 to R310, R325, R326). -/
structure Context where
  num : Nat
  st : CtxState
  root : Nat
  endBase : Nat
  endSize : Nat
  handler : Addr
  strict : Bool
  fifo : Bool
  ceiling : Nat
  evalClass : Nat
  key : Nat
  shared : List Nat
  refill : Nat
  cap : Nat
  forward : Word
  combine : Addr
  /-- budget by core, for every core where the context has had a team (R267) -/
  budgets : List (Nat × Int) := []
  queues : List NodeQueue := []
  /-- arrival counters that are not 0 (R305) -/
  counters : List (Nat × Nat) := []
  rwaits : List RWaiter := []
  map : GridMap
  access : List AccessRange := []
  logBase : Addr := 0
  logSize : Nat := 0
  logSeq : Nat := 0
  logTail : Nat := 0
  log : List LogEntry := []
  /-- bases of the 64 KiB units in LOGGING or REPLAYING, and of those in REPLAYING (R310) -/
  units : List Nat := []
  replaying : List Nat := []
  /-- requests whose entries have been performed, of operations that still have entries in the log (R310) -/
  logAcks : List Req := []
  logFull : Bool := false
  staging : Addr := 0
  stagingSize : Nat := 0
  chunks : List Chunk := []
  combineSeq : Nat := 0
  combines : List CombineRec := []
  saved : List SavedTeam := []
  savedClusters : List Cluster := []
  /-- the tag of the pre-empt, resume or end command in progress -/
  tag : Addr := 0
  /-- the tags of end commands held until the state is left (R268) -/
  endHeld : List Addr := []
  deriving DecidableEq, Repr

/-! ### Engines -/

/-- The engine commands (R336, R343, R346). -/
inductive EngineKind where
  | copy | copy2d | gather | scatter | chain | decode | copyw | readPort | writePort
  deriving DecidableEq, Repr

/-- A run of bytes that a command moves: from a source byte to a destination byte, `len` of them. -/
structure Run where
  src : Addr
  dst : Addr
  len : Nat
  deriving DecidableEq, Repr

/-- How an engine command stands (R277, R337). -/
inductive EngineState where
  | running
  /-- a translation or permission fault: cause and address -/
  | faulted (cause : Byte) (addr : Addr)
  /-- waits for a cell, by unit -/
  | cell (unit : Nat)
  deriving DecidableEq, Repr

/-- An engine command in progress (R336 to R348). Space 3 stands for the command's own `data`, addressed by offset: the
bytes between a stream and its port, or a DECODE's stream and result. -/
structure Engine where
  cid : Nat
  kind : EngineKind
  ctx : Nat
  gid : Nat
  seq : Nat
  team : Nat
  place : QuadId
  cls : Nat
  lineage : BitVec 64
  st : EngineState := .running
  srcSpace : Nat
  dstSpace : Nat
  quire : Option Nat := none
  /-- every run, in order, and what is left of them to move -/
  runs : List Run
  rest : List Run
  /-- the unit in progress, and the bytes of its source read so far (R158, R337) -/
  cur : Option Run := none
  got : List Byte := []
  /-- the offset of its stream at which `data` begins -/
  base : Nat := 0
  /-- CHAIN: element sizes, element codes, and the operations with their constants -/
  inBytes : Nat := 1
  outBytes : Nat := 1
  inFmt : Nat := 0
  outFmt : Nat := 0
  chain : List (Nat × Word) := []
  /-- the teams whose buffers and quires it writes -/
  teams : List Nat := []
  data : List Byte := []
  /-- a port's channel, whether its writer has ended, why its producer died, whether QEND has ended it -/
  channel : Bool := false
  closed : Bool := false
  dead : Option Byte := none
  ending : Bool := false
  /-- DECODE: the parameter group, until the image has been read -/
  params : List Word := []
  /-- address of the issuing instruction (R355) -/
  pc : Addr := 0
  deriving DecidableEq, Repr

/-! ### Fabric and links -/

/-- What one member of a remote operation has answered (R308, R312): requests that await its answer, and its first
refusal. -/
structure Member where
  rank : Nat
  dev : Nat
  ctx : Nat
  coord : Addr
  owed : Nat := 0
  refused : Option Refused := none
  deriving DecidableEq, Repr

/-- Bytes that a remote operation has still to read from its source and send to some members (R315, R318, R333). -/
structure Send where
  ranks : List Nat
  src : Addr
  dst : Addr
  len : Nat
  contrib : Option Contribution := none
  /-- bytes of the packed blocks that it carries, 32 where they are aligned MXFP6 blocks; 0 where it carries none (R52, R53) -/
  block : Nat := 0
  deriving DecidableEq, Repr

/-- A remote operation that this device sent (R313, R334). `req` is what each of its requests carries, and for RLD
and RATOM the request itself. -/
structure RemoteOp where
  oid : Nat
  ctx : Nat
  gid : Nat
  seq : Nat
  ldSeq : Option Nat := none
  d : Nat := 0
  lanes : LaneSet := 0
  req : Req
  members : List Member
  unsent : List Send := []
  st : EngineState := .running
  retryAt : Option Nat := none
  /-- an RLD that a pre-emption has withdrawn (R278) -/
  withdrawn : Bool := false
  /-- RESHARD, RRED, or a multicast RST or RCPY (R249) -/
  collective : Bool := false
  place : QuadId
  cls : Nat
  lineage : BitVec 64
  pc : Addr
  funct : Nat
  deriving DecidableEq, Repr

/-- What the port answers to a request (R308, R310). -/
inductive Reply where
  | ack
  | values (ws : List Word)
  | refused (r : Refused)
  | retry
  deriving DecidableEq, Repr

/-- An answer to another device: to which device, operation and rank. -/
structure Answer where
  dev : Nat
  tag : Nat
  rank : Nat
  what : Reply
  deriving DecidableEq, Repr

/-- A request held at the port (R310, R326), and whether the access table has passed it (R307). -/
structure Held where
  req : Req
  judged : Bool := false
  deriving DecidableEq, Repr

/-- A request that waits at this device for cells or a page, by unit (R308, R211). -/
structure Parked where
  rid : Nat
  req : Req
  units : List Nat
  deriving DecidableEq, Repr

/-- The states of a lane of a link (R291). -/
inductive LaneState where
  | off | locking | active | suspect | retraining | retired
  deriving DecidableEq, Repr

/-- A lane of a link as the receiver holds it (R291, R292). -/
structure LinkLane where
  lane : Nat
  st : LaneState := .off
  /-- held lock through a window and waits for the restripe that adds it -/
  waits : Bool := false
  /-- corrected symbols in the open window, and in the last closed one -/
  count : Nat := 0
  last : Nat := 0
  /-- the number of the open window: windows are aligned to multiples of 1 ms of CYCLE -/
  window : Nat := 0
  /-- cycles of the retrains in the last 10 s -/
  retrains : List Nat := []
  /-- the cycle from which its time in a state is measured -/
  since : Nat := 0
  deriving DecidableEq, Repr

/-- The states of a link (R297). -/
inductive LinkState where
  | dark | training | up | degraded | down
  deriving DecidableEq, Repr

/-- What a DATA flit carries (log 17). -/
inductive Load where
  | request (r : Req)
  | answer (a : Answer)
  deriving DecidableEq, Repr

/-- A held DATA flit: sequence number, 112 B of payload, and what it carries (R288). -/
structure Flit where
  seq : Nat
  payload : List Byte
  load : Load
  deriving DecidableEq, Repr

/-- A flit sent on a link: its 128 bytes, the global number of its first beat, and the lanes of the stripe that carries it
(R284, R286). -/
structure Sent where
  raw : List Byte
  g : Nat
  mask : LaneSet
  deriving DecidableEq, Repr

/-- One direction of a link, from this device (`rx` false) or to it (R281, R288, R289, R293, R297). -/
structure Link where
  peer : Nat
  rx : Bool
  st : LinkState := .dark
  lanes : List LinkLane := []
  epoch : Nat := 0
  mask : LaneSet := 0
  point : Nat := 0
  /-- transmit: the next sequence number, the held flits, when the acknowledgement last advanced -/
  next : Nat := 0
  replay : List Flit := []
  ackAt : Nat := 0
  /-- flits sent on the link and not yet collected by the optics, and the next global beat number (R286) -/
  out : List Sent := []
  beat : Nat := 0
  /-- receive: the expected sequence number, the last NACK with its cycle, a restripe not yet in force: epoch, point,
  mask -/
  expect : Nat := 0
  nackAt : Option (Nat × Nat) := none
  pendingEpoch : Option (Nat × Nat × LaneSet) := none
  restripeAt : Nat := 0
  sentAt : Nat := 0
  /-- payloads delivered to the fabric port, in order -/
  delivered : List (List Byte) := []
  /-- the cycle at which it went DOWN -/
  downAt : Nat := 0
  /-- lost lanes and sends no DATA until the RESTRIPE (R296) -/
  holdData : Bool := false
  /-- the cause (R298) of the change of stripe under way -/
  why : Nat := 0
  deriving DecidableEq, Repr

/-- The states of a laser source module (R298). -/
inductive LaserState where
  | absent | lit | failed
  deriving DecidableEq, Repr

/-! ### The device -/

/-- The states of a function (R357). -/
inductive FnState where
  | reset | training | ready | failed
  deriving DecidableEq, Repr

/-- A ring in host memory (R351): base, log2 of its entries, head and tail. -/
structure Ring where
  base : Addr := 0
  k : Nat := 0
  head : Nat := 0
  tail : Nat := 0
  deriving DecidableEq, Repr

/-- A unit's corrected-error history (R359): the windows of the last ten that exceeded 64. -/
structure ErrUnit where
  fn : ErrFn
  die : Nat
  unit : Nat
  /-- the row, for HBM4E (R359) -/
  row : Nat := 0
  hot : List Nat := []
  lasting : Bool := false
  /-- corrected errors in the last closed window (R355) -/
  last : Nat := 0
  deriving DecidableEq, Repr

/-- What the device does of its own to a context's memory, or to the host because of it, in this order within a context:
bytes written, 1 added to an event word, an interrupt of a submission queue (R262, R309, R349). -/
inductive DevAct where
  | write (ctx : Nat) (va : Addr) (bs : List Byte)
  | add (ctx : Nat) (va : Addr)
  | irq (ctx sq : Nat)
  deriving DecidableEq, Repr

/-- The host interface, the management core, and what the driver sets for the device (R350 to R364). -/
structure Device where
  /-- accesses of its own that wait for a page under R133, oldest first -/
  acts : List DevAct := []
  index : Nat := 0
  /-- installed planes of the domain: 16, 32 or 64 (R282) -/
  planes : Nat := 64
  /-- indices that no device of the domain has: the wavelengths that lead to them stay dark (R281; log 117) -/
  absent : List Nat := []
  /-- in recovery: firmware did not verify (R361) -/
  recovery : Bool := false
  /-- held in RESET after a junction over 110 °C (R364) -/
  heldReset : Bool := false
  functions : List (FnUnit × FnState) := []
  signature : Addr := 0
  sq : List (Nat × Ring) := []
  cmd : Ring := {}
  ev : Ring := {}
  evHeld : List (List Byte) := []
  evLost : Nat := 0
  winbase : Addr := 0
  /-- MSI-X messages raised, oldest first (R349) -/
  msix : List Nat := []
  /-- loaded key slots: the 64 B keys (R363) -/
  keys : List (Nat × List Byte) := []
  resets : Nat := 0
  linkThreshold : Nat := 4096
  channelThreshold : Nat := 48
  powerLimit : Nat := 2800
  /-- refill scale in units of 2^-16 (R355, R364) -/
  scale : Nat := 65536
  errUnits : List ErrUnit := []
  /-- the number of the open 1 s window of corrected errors (R359) -/
  errWindow : Nat := 0
  corrected : List (Nat × Nat) := []
  uncorrected : List (Nat × Nat) := []
  retiredColumn : List (Nat × Nat) := []
  /-- cores on which no further team is placed: die and logical core (R359) -/
  badCores : List (Nat × Nat) := []
  lasers : List (Nat × LaserState) := []
  /-- data of the last host read through BAR 2 (R356) -/
  readData : List Byte := []
  report : List Byte := []
  /-- the firmware image that runs (R361, R362) -/
  image : List Byte := []
  /-- the limits that the last measurement exceeded (R364) -/
  exceeded : List LimitKind := []
  deriving DecidableEq, Repr

/-! ### The whole machine -/

/-- An error that the device cannot correct appears (R138, R360): in a unit of memory, in a register that the group whose turn
it is reads next, or in its team's typed buffer at an offset. -/
inductive Upset where
  | memory (unit : Nat)
  | register
  | buffer (offset : Nat)
  deriving DecidableEq, Repr

/-- What the world around the machine does next: an uncorrectable error appears, time passes, another group's turn comes,
accesses begin or cease to wait on their way, one of those that wait is shown by its core's L1 or is performed, or an event
or command of the table happens with its operands (log 2, log 6). -/
inductive Act where
  | upset (u : Upset)
  | elapse (n : Nat)
  | select (g : Nat)
  | hold (on : Bool)
  | expose (k : Nat)
  | perform (k : Nat)
  | event (i : Instr) (args : EvArgs)
  deriving DecidableEq, Repr

/-- The state of the module. `agenda`, `cur`, `ev`, `free` and the id counter are the model's own. -/
structure State where
  /-- what happens next, in order (log 2) -/
  agenda : List Act := []
  /-- the group whose instructions issue now, by id (log 2) -/
  cur : Option Nat := none
  /-- operands of the event or command that runs now (log 2) -/
  ev : EvArgs := {}
  /-- the machine's step number, which free values are drawn by (log 3) -/
  free : Nat := 0
  /-- the next unused id of a group, team, cluster, launch, command or operation -/
  nextId : Nat := 1
  /-- CYCLE (R116) -/
  cycle : Nat := 0
  mem : Memory := {}
  /-- accesses on their way, oldest first; none where each access is performed as it issues (log 6) -/
  flights : Option (List Flight) := none
  groups : List Group := []
  teams : List Team := []
  clusters : List Cluster := []
  barriers : List Barrier := []
  arrays : List QArray := []
  launches : List Launch := []
  contexts : List Context := []
  evals : List Eval := []
  waits : List WaitEntry := []
  engines : List Engine := []
  fabric : List RemoteOp := []
  /-- requests handed to the links, oldest first: the device and the request (log 17) -/
  sent : List (Nat × Req) := []
  /-- requests that wait at this device (R308) -/
  remotes : List Parked := []
  /-- requests held at the port, in order of arrival (R310, R326) -/
  held : List Held := []
  links : List Link := []
  dev : Device := {}
  /-- commands read from the ring and not yet performed, oldest first (R352) -/
  commands : List Entry := []
  /-- answers to requests of other devices, oldest first -/
  replies : List Answer := []
  deriving DecidableEq, Repr

/-- Why the machine stops with a fault. -/
inductive Fault where
  /-- raised by every instruction's meaning when no group is in a position to issue: no current group, no
  clause in progress, no team or context of it. Safe: no such issue happens on the hardware. -/
  | noIssuer
  deriving DecidableEq, Repr

/-- Why an instruction has no meaning here. -/
inductive Refusal where
  /-- raised by an arm of exec whose meaning is not written yet. Safe. -/
  | notModelled (mnemonic : String)
  deriving DecidableEq, Repr

/-- The module right after reset: every function in RESET, nothing placed, no context, no ring, every
counter 0 (R257, R351, R357, R361). Values the spec does not give are in the log (4). -/
def State.reset : State := {}

end Sys2Proof.Machine
end

