-- ==== Sys2Proof/Machine/Sparse.lean ====
section
/-!
DEFINITION. Sparse tables: lists of key and value, keys rising, that never list the value an unlisted key
reads as; and lists of records found by a key. Little-endian byte strings.
-/
namespace Sys2Proof.Machine

/-- The value at key `a`; `d` is what an unlisted key reads as. -/
def lookup {α : Type} (d : α) : List (Nat × α) → Nat → α
  | [], _ => d
  | (k, v) :: r, a => if k = a then v else lookup d r a

/-- A table without key `a`. -/
def erase {α : Type} : List (Nat × α) → Nat → List (Nat × α)
  | [], _ => []
  | (k, v) :: r, a => if k = a then erase r a else (k, v) :: erase r a

/-- A table with a new key in its place in rising order. -/
def insertKey {α : Type} : List (Nat × α) → Nat → α → List (Nat × α)
  | [], a, x => [(a, x)]
  | (k, v) :: r, a, x => if a < k then (a, x) :: (k, v) :: r else (k, v) :: insertKey r a x

/-- The table with value `x` at key `a`; the default is not listed. -/
def put {α : Type} [DecidableEq α] (d : α) (m : List (Nat × α)) (a : Nat) (x : α) : List (Nat × α) :=
  if x = d then erase m a else insertKey (erase m a) a x

/-- The canonical form: keys rising, no default listed. -/
def canonical {α : Type} [DecidableEq α] (d : α) : List (Nat × α) → Bool
  | [] => true
  | (k, v) :: r => decide (v ≠ d) && r.all (fun e => decide (k < e.1)) && canonical d r

/-- Every table of the memory is in canonical form. -/
def Memory.wf (m : Memory) : Bool :=
  canonical 0 m.bytes && canonical .val m.tags && canonical [] m.keyed && canonical 0 m.host && canonical 0 m.dropped

/-- The byte of main memory at a physical address. -/
def Memory.byteAt (m : Memory) (pa : Nat) : Byte := lookup 0 m.bytes pa

/-- The values at `n` keys from `a`. -/
def lookups {α : Type} (d : α) (m : List (Nat × α)) (a n : Nat) : List α :=
  (List.range n).map fun k => lookup d m (a + k)

/-- The table with the values of a list at keys from `a`. -/
def puts {α : Type} [DecidableEq α] (d : α) : List (Nat × α) → Nat → List α → List (Nat × α)
  | m, _, [] => m
  | m, a, x :: r => puts d (put d m a x) (a + 1) r

/-- A number's little-endian bytes (R4). -/
def leBytes (n v : Nat) : List Byte := (List.range n).map fun k => BitVec.ofNat 8 (v / 2 ^ (8 * k))

/-- The number of little-endian bytes (R4). -/
def ofLe : List Byte → Nat
  | [] => 0
  | b :: r => b.toNat + 256 * ofLe r

/-- Bytes `a` to `a + n - 1` of a record as a number. -/
def field (bs : List Byte) (a n : Nat) : Nat := ofLe ((bs.drop a).take n)

/-- The 32-bit words of a byte list (R4). -/
def wordsOf (bs : List Byte) : List Word := (List.range (bs.length / 4)).map fun k => BitVec.ofNat 32 (field bs (4 * k) 4)

/-- A record of `n` bytes with the named fields, each at its offset, and zeros elsewhere. -/
def record (n : Nat) (fs : List (Nat × List Byte)) : List Byte :=
  (List.range n).map fun k =>
    match fs.find? (fun f => decide (f.1 ≤ k) && decide (k < f.1 + f.2.length)) with
    | some f => f.2.getD (k - f.1) 0
    | none => 0

/-- Bits [lo + n - 1 : lo] of a number. -/
def bits (v lo n : Nat) : Nat := v / 2 ^ lo % 2 ^ n

/-- A two's complement number of n bits (R7 sint). -/
def sint (v n : Nat) : Int :=
  let x : Nat := v % 2 ^ n
  if x < 2 ^ (n - 1) then x else (x : Int) - 2 ^ n

end Sys2Proof.Machine
end

