-- ==== Sys2Proof/Machine/Ops.lean ====
section
/-!
DEFINITION. The named operations over the state: groups, registers, counters, event records, traps: raising
one, trap entry and the return from a trap, and the end of an instruction.
-/
namespace Sys2Proof.Machine

/-! ### Finding and replacing -/

def State.group (s : State) (g : Nat) : Option Group := s.groups.find? (fun x => x.gid == g)
def State.team (s : State) (t : Nat) : Option Team := s.teams.find? (fun x => x.tid == t)
def State.cluster (s : State) (c : Nat) : Option Cluster := s.clusters.find? (fun x => x.cid == c)
def State.context (s : State) (c : Nat) : Option Context := s.contexts.find? (fun x => x.num == c)
def State.launch (s : State) (l : Nat) : Option Launch := s.launches.find? (fun x => x.lid == l)
def State.engine (s : State) (c : Nat) : Option Engine := s.engines.find? (fun x => x.cid == c)
def State.remoteOp (s : State) (o : Nat) : Option RemoteOp := s.fabric.find? (fun x => x.oid == o)
def State.link (s : State) (p : Nat) (rx : Bool) : Option Link := s.links.find? (fun x => x.peer == p && x.rx == rx)

/-- The array of a quad: FREE and empty where none is listed. -/
def State.array (s : State) (q : QuadId) : QArray :=
  (s.arrays.find? (fun x => x.place == q)).getD { place := q }

/-- A record replaced by one of the same key. -/
def replace {α : Type} (same : α → Bool) (x : α) (l : List α) : List α := l.map fun y => if same y then x else y

def State.setGroup (s : State) (g : Group) : State :=
  { s with groups := replace (fun x => x.gid == g.gid) g s.groups }
def State.setTeam (s : State) (t : Team) : State := { s with teams := replace (fun x => x.tid == t.tid) t s.teams }
def State.setContext (s : State) (c : Context) : State :=
  { s with contexts := replace (fun x => x.num == c.num) c s.contexts }
def State.setLaunch (s : State) (l : Launch) : State :=
  { s with launches := replace (fun x => x.lid == l.lid) l s.launches }
def State.setEngine (s : State) (e : Engine) : State :=
  { s with engines := replace (fun x => x.cid == e.cid) e s.engines }
def State.setRemoteOp (s : State) (o : RemoteOp) : State :=
  { s with fabric := replace (fun x => x.oid == o.oid) o s.fabric }
def State.setLink (s : State) (l : Link) : State :=
  { s with links := replace (fun x => x.peer == l.peer && x.rx == l.rx) l s.links }
def State.setArray (s : State) (a : QArray) : State :=
  if s.arrays.any (fun x => x.place == a.place) then
    { s with arrays := replace (fun x => x.place == a.place) a s.arrays }
  else { s with arrays := s.arrays ++ [a] }
def State.setMem (s : State) (m : Memory) : State := { s with mem := m }
def State.setDev (s : State) (d : Device) : State := { s with dev := d }

/-- A group changed in place. -/
def State.onGroup (s : State) (g : Nat) (f : Group → Group) : State :=
  match s.group g with
  | some x => s.setGroup (f x)
  | none => s

/-- A fresh id (the model's own). -/
def State.fresh (s : State) : Nat × State := (s.nextId, { s with nextId := s.nextId + 1 })

/-- The index of a core in the module. -/
def coreIdx (q : QuadId) : Nat := q.die * Config.coresPerDie + q.core

/-! ### Registers -/

/-- The key of register `v` in lane `i`. -/
def regKey (v i : Nat) : Nat := 64 * v + i

/-- The port that register number v names, while one is bound there (R67, R343). -/
def Group.port (g : Group) (v : Nat) : Option Port := if v < 124 then none else g.ports.find? (fun p => p.reg == v)

/-- Read(v, i): register v in lane i; v0 reads 0; a bound read port gives the chunk latched for the
instruction (R8, R66, R344). -/
def Group.read (g : Group) (v i : Nat) : Word :=
  if v = 0 then 0
  else match g.port v with
    | none => lookup 0 g.regs (regKey v i)
    | some p => match p.dir with
      | .read => lookup 0 (p.taken.getD []) i
      | .write => Config.portWord v i

/-- Write(v, i, x): a write to v0 is discarded; a write to a bound write port goes to its stream, one to a
bound read port nowhere (R8, R66, R67, R344). -/
def Group.write (g : Group) (v i : Nat) (x : Word) : Group :=
  if v = 0 then g
  else match g.port v with
    | none => { g with regs := put 0 g.regs (regKey v i) x }
    | some p => match p.dir with
      | .read => g
      | .write =>
          { g with ports := replace (fun q => q.reg == v) { p with given := insertKey (erase p.given i) i x } g.ports }

/-- Register v written in each lane of a list. -/
def Group.writeLanes (g : Group) (v : Nat) (ls : List Nat) (f : Nat → Word) : Group :=
  ls.foldl (fun g i => g.write v i (f i)) g

/-- The lanes of a set, ascending (R7). -/
def lanesOf (m : LaneSet) : List Nat := (List.range 64).filter fun i => m.getLsbD i

/-- The set of lanes that a test holds in. -/
def laneSet (p : Nat → Bool) : LaneSet :=
  BitVec.ofNat 64 ((List.range 64).foldl (fun a i => if p i then a + 2 ^ i else a) 0)

/-! ### Counters and outstanding operations -/

/-- What a counter reports: the operations of its class from the oldest that has not completed (R90). -/
def Group.counter (g : Group) (c : Counter) : Nat :=
  ((g.ops.filter (fun o => o.cls == c)).dropWhile (fun o => o.done)).length

/-- Completed operations at the front of each class leave the counters; their faults become deferred faults
in order of issue (R90). -/
def Group.settleClass (g : Group) (c : Counter) : Group :=
  let mine := g.ops.filter (fun o => o.cls == c)
  let gone := mine.takeWhile (fun o => o.done)
  let faults := gone.filterMap fun o => o.fault.map fun f => ({ seq := o.seq, cls := c, nth := o.nth, info := f } : Deferred)
  { g with
    acqs := g.acqs ++ (gone.filter Op.acquire).map fun o => (c, o.nth)
    ops := g.ops.filter (fun o => !(o.cls == c && gone.any (fun p => p.seq == o.seq)))
    deferred := g.deferred ++ faults }

/-- The operations of a class that a group has issued (R90). -/
def Group.issuedOf (g : Group) (c : Counter) : Nat := ((g.issued.find? fun x => x.1 == c).map Prod.snd).getD 0

/-- An operation issued: it takes the next place in its class. -/
def Group.addOp (g : Group) (o : Op) : Group :=
  let n := g.issuedOf o.cls + 1
  { g with
    ops := g.ops ++ [{ o with seq := g.nextSeq, nth := n }]
    nextSeq := g.nextSeq + 1
    issued := (o.cls, n) :: g.issued.filter fun x => x.1 != o.cls }

/-- The places of a class that a wait for at most n operations covers: all but the n most recently issued (R90). -/
def Group.covers (g : Group) (c : Counter) (n nth : Nat) : Bool := decide (nth + n ≤ g.issuedOf c)

/-- The deferred fault issued earliest among those that a wait covers, and the group without it (R90). -/
def Group.takeFault (g : Group) (covered : Deferred → Bool) : Option (TrapInfo × Group) :=
  let first := (g.deferred.filter covered).foldl (fun a d => match a with
    | none => some d
    | some (b : Deferred) => if d.seq < b.seq then some d else some b) none
  first.map fun d => (d.info, { g with deferred := g.deferred.filter fun x => x != d })

/-- Whether some of an operation's register results have not landed. -/
def Op.pending (o : Op) : Bool := !o.writes.isEmpty

/-- An operation completed with the fault it carries, if any (R90). DESIGN CHOICE (log 113): an operation that has a fault
already, a copy with an underflow of its quire that is then aborted or fails (R231, R277), keeps the first one, which WAITC
reports; the second is lost. -/
def Group.complete (g : Group) (seq : Nat) (fault : Option TrapInfo) : Group :=
  match g.ops.find? (fun o => o.seq == seq) with
  | none => g
  | some o =>
    let o := { o with done := true, fault := o.fault <|> fault }
    ({ g with ops := replace (fun p => p.seq == seq) o g.ops }).settleClass o.cls

/-- No register-writing result is outstanding: LD, SFU and MMA are zero (R20). -/
def Group.drained (g : Group) : Bool := g.counter .ld == 0 && g.counter .sfu == 0 && g.counter .mma == 0

/-- Every counter is zero (R86). -/
def Group.quiet (g : Group) : Bool :=
  g.drained && g.counter .cpy == 0 && g.counter .fab == 0 && g.counter .spn == 0

/-! ### Event records -/

/-- The capacity of a ring; none before its base and size are set (R351). -/
def Ring.slots (r : Ring) : Nat := if r.k < 4 then 0 else 2 ^ r.k

/-- Entries between head and tail (R351). -/
def Ring.used (r : Ring) : Nat := (r.tail + 2 ^ 32 - r.head) % 2 ^ 32

/-- Host memory with a byte string at a bus address. -/
def Memory.putHost (m : Memory) (a : Nat) (bs : List Byte) : Memory := { m with host := puts 0 m.host a bs }

/-- One record written to the event ring, if it has room (R354). -/
def State.pushEvent (s : State) (r : List Byte) : State :=
  let ev := s.dev.ev
  { s with
    mem := s.mem.putHost (ev.base.toNat + 64 * (ev.tail % 2 ^ ev.k)) r
    dev := { s.dev with ev := { ev with tail := (ev.tail + 1) % 2 ^ 32 }, msix := s.dev.msix ++ [64] } }

/-- An event record raised: to the ring, else held (4096 at most), else counted as lost (R354). -/
def State.raise (s : State) (r : List Byte) : State :=
  if s.dev.evHeld.isEmpty && decide (s.dev.ev.used < s.dev.ev.slots) then s.pushEvent r
  else if s.dev.evHeld.length < 4096 then { s with dev := { s.dev with evHeld := s.dev.evHeld ++ [r] } }
  else { s with dev := { s.dev with evLost := s.dev.evLost + 1 } }

/-- A command-completion event (R355 kind 0x01). -/
def completionEvent (status ctx opcode reason : Nat) (tag : Addr) : List Byte :=
  record 64 [(0, [1]), (1, leBytes 1 status), (2, leBytes 2 ctx), (4, leBytes 1 opcode), (5, leBytes 1 reason),
    (8, leBytes 8 tag.toNat)]

/-! ### ESTATE and traps -/

/-- ESTATE.C: an STC claim is held, and the handler has not given it up (R151, R270). -/
def Group.holdsClaim (g : Group) : Bool := g.claim.isSome && !g.dropClaim

/-- ESTATE (R270). -/
def Group.estate (g : Group) : Word :=
  BitVec.ofBool g.handling ++ BitVec.ofBool g.holdsClaim ++ (0 : BitVec 6) ++ g.estFwd ++ g.estCount ++ g.estLane

/-- ESTATE as trap entry will write it, for the event record of a forwarded trap (R270, R276). -/
def Group.estateOf (g : Group) (i : TrapInfo) : Word :=
  BitVec.ofBool g.handling ++ BitVec.ofBool g.holdsClaim ++ (0 : BitVec 6) ++ i.fwd ++ i.count ++ i.lane

/-- The record of a fatal or forwarded trap (R272, R276, R355 kinds 0x10 and 0x11). The handle of a group is
its id. -/
def State.trapRecord (s : State) (kind : Nat) (g : Group) (r : Resume) : List Byte :=
  let t := s.team g.team
  let ctx := (t.map Team.ctx).getD 0
  let q := (t.map Team.place).getD default
  let cl := (t.bind fun t => s.cluster t.cluster).map Cluster.index
  record 64 [(0, leBytes 1 kind), (1, [r.info.cause]), (2, leBytes 2 ctx), (4, leBytes 4 (g.estateOf r.info).toNat),
    (8, leBytes 8 (if kind = 0x11 then g.gid else 0)), (16, leBytes 8 r.info.addr.toNat),
    (24, leBytes 8 r.epc.toNat), (32, leBytes 1 q.die), (33, leBytes 1 q.core), (34, leBytes 1 q.quad),
    (35, leBytes 1 ((t.map Team.index).getD 0)), (36, leBytes 1 g.index), (37, leBytes 2 (cl.getD 0))]

/-- Trap(cause, addr) (R8) taken by a group: TRAPCAUSE and TRAPADDR are set, the group stops as TRAPPED, and
the resume point is kept for trap entry (R269). A trap while a handler runs is a double trap. -/
def Group.trapped (g : Group) (r : Resume) : Group :=
  { g with
    trapCause := r.info.cause
    trapAddr := r.info.addr
    status := .trapped
    entry := .raised
    resume := some r
    double := g.handling
    prog := 0
    enqDone := 0
    enq := none
    stalled := false
    gapWait := false }

/-- Where a group traps at its instruction. ESTATE holds the number of records that an ENQ has appended already, whatever traps
it (R246, R270). -/
def Group.resumeAt (g : Group) (cl : Clause) (i : TrapInfo) (byInstr : Bool) (epc : Addr) (len : Nat) : Resume :=
  let sp := g.splits.find? (fun x => x.label == cl.split)
  { clause := some cl, epc := epc, split := cl.split, lanes := (sp.map Split.lanes).getD 0
    join := sp.bind Split.join, byInstr := byInstr, len := len, info := { i with count := BitVec.ofNat 8 g.enqDone }
    appended := g.enqDone }

/-- A group that traps is no parked ENQ any more: later ENQs of its queue wait for it no longer (R246). -/
def State.leaveEnq (s : State) (g : Group) : State :=
  if g.enq.isSome then
    { s with contexts := s.contexts.map fun c =>
        { c with queues := c.queues.map fun q => { q with parked := q.parked.filter (· != g.gid) } } }
  else s

/-- A trap raised by an instruction, at its clause's pc (R38), or by a parked group's wait (R226, R231). -/
def State.trapGroup (s : State) (g : Group) (len : Nat) (i : TrapInfo) : State :=
  match g.clause with
  | some cl => (s.leaveEnq g).setGroup (g.trapped (g.resumeAt cl i true cl.pc len))
  | none => s

/-- Trap entry from step 2 on (R269): waits for the counters, leaves the array to `release`, writes EPC and
ESTATE, and starts the handler, or ends the unit by `fatal`. -/
def State.enterTrap (release : State → Nat → State) (fatal : State → Nat → State) (s : State) (gid : Nat) : State :=
  match s.group gid with
  | none => s
  | some g =>
    match g.resume, (s.team g.team).bind (fun t => s.context t.ctx) with
    | some r, some c =>
      if !g.drained then s else
      let s := release s gid
      let g := ((s.group gid).getD g)
      let g := { g with epc := r.epc, estFwd := r.info.fwd, estCount := r.info.count, estLane := r.info.lane, entry := .none }
      if c.handler == 0 || g.double then fatal (s.setGroup g) gid
      else
        let sp := g.splits.map fun x => if x.label == r.split then { x with pc := c.handler } else x
        s.setGroup { g with
          handling := true, splits := sp, clause := none, interval := true
          status := if g.window then .windowed else .resident
          ageFrom := s.cycle, since := s.cycle, prog := 0 }
    | _, _ => s

/-- Bit n of the forward set (R265). -/
def Context.forwards (c : Context) (cause : Byte) : Bool := c.forward.getLsbD cause.toNat

/-- Trap entry (R269): step 1 forwards the trap to the driver (R276), the rest is `enterTrap`. -/
def State.trapEntry (release fatal : State → Nat → State) (s : State) (gid : Nat) : State :=
  match s.group gid with
  | none => s
  | some g =>
    match g.resume, (s.team g.team).bind (fun t => s.context t.ctx) with
    | some r, some c =>
      if g.entry == .raised && g.status == .trapped then
        if c.forwards r.info.cause && !g.double then
          (s.setGroup { g with entry := .forwarded }).raise (s.trapRecord 0x11 g r)
        else s.enterTrap release fatal gid
      else s
    | _, _ => s

/-- The group issues again inside the recorded clause (R274, R276): the first clause is an interval start and
WZ is not applied again. -/
def Group.resumeInside (g : Group) (cl : Clause) (cycle : Nat) : Group :=
  { g with
    clause := some { cl with debited := false, words := none }, status := .resident, window := false, interval := true
    enqDone := (g.resume.map Resume.appended).getD 0, resume := none, entry := .none, since := cycle, ageFrom := cycle }

/-- The step-past case of TRAPRET and its clause (R274): the recorded clause with its instruction done. -/
def Resume.past (r : Resume) : Option Clause :=
  match r.clause with
  | none => none
  | some cl =>
    if r.byInstr && decide (cl.idx + 1 < (cl.header.extractLsb' 28 4).toNat) then
      some { cl with idx := cl.idx + 1, pc := r.epc + BitVec.ofNat 64 r.len, words := none }
    else none

/-! ### One instruction at a time -/

/-- The group in a position to issue: its split, clause, team and context. -/
structure Issue where
  s : State
  g : Group
  sp : Split
  cl : Clause
  t : Team
  c : Context
  deriving DecidableEq, Repr

/-- The current group inside a clause, where it is in a state that a test admits (R74, R76). -/
def State.inClause (s : State) (ok : Group → Bool) : Option Issue :=
  match s.cur.bind s.group with
  | none => none
  | some g =>
    match g.clause, s.team g.team with
    | some cl, some t =>
      match g.splits.find? (fun x => x.label == cl.split), s.context t.ctx with
      | some sp, some c =>
        if ok g then some ⟨s, g, sp, cl, t, c⟩ else none
      | _, _ => none
    | _, _ => none

/-- The current group, if an instruction can issue from it: WINDOWED, in a clause (R74). -/
def State.issue (s : State) : Option Issue := s.inClause fun g => g.window && g.status == .windowed

/-- The current group, if it is PARKED, with a window or without, on a condition that its instruction tests (R74). -/
def State.waiter (s : State) : Option Issue := s.inClause fun g => g.status == .parked .retry

/-- How an instruction ends: done, with the machine as it leaves it; a control transfer of its split; a state
in which the split's fate is already settled; parked; stalled without parking; or trapped. -/
inductive Eff where
  | done (s : State)
  | goto (s : State) (pc : Addr)
  | settled (s : State)
  | park (s : State) (w : Wait)
  | stall (s : State)
  | trap (s : State) (i : TrapInfo)
  deriving DecidableEq, Repr

/-- The number of instructions of a clause (R13). -/
def Clause.count (c : Clause) : Nat := (c.header.extractLsb' 28 4).toNat
/-- The mask register of a clause (R13). -/
def Clause.mr (c : Clause) : Nat := (c.header.extractLsb' 18 7).toNat
/-- The switch marker of a clause (R13). -/
def Clause.marker (c : Clause) : Bool := c.header.getLsbD 17

/-- The latched chunks of the read ports that an instruction names are used up by it (R344). -/
def Group.usePorts (g : Group) (vs : List Nat) : Group :=
  { g with ports := g.ports.map fun p => if vs.contains p.reg then { p with taken := none, wanted := false } else p }

/-- A wait over: windowed again, or waiting for a window; age and waiting time count from here (R74, R250). -/
def Group.unpark (g : Group) (cycle : Nat) : Group :=
  { g with status := if g.window then .windowed else .resident, since := cycle, ageFrom := cycle }

/-- The clause in progress is over: an S marker parks the group until its register results have returned (R16,
R20). -/
def Group.closeClause (g : Group) (cl : Clause) (cycle : Nat) : Group :=
  let g := { g with clause := none, prog := 0, enqDone := 0, enq := none, gapWait := false, woken := false, wokenGlobal := false, stalled := false }
  if cl.marker && !g.drained then { g with status := .parked .marker, since := cycle } else { g with status := .windowed }

/-- A clause taken up again after a trap: its instruction is fetched and debited anew. -/
def Clause.again (cl : Clause) : Clause := { cl with debited := false, words := none }

/-- An address that a control transfer takes from a register: bits [63:56] are ignored (R80). -/
def codeAddr (a : Addr) : Addr := (a.extractLsb' 0 56).setWidth 64

/-- The CC that the trapping split has when its handler ends; that of the split that ends it where the trapping
split has exited meanwhile (R274; log 10). -/
def Group.trapCc (g : Group) (r : Resume) (own : Nat) : BitVec 5 :=
  (((g.splits.find? fun x => x.label == r.split) <|> (g.splits.find? fun x => x.label == own)).map Split.cc).getD 0

/-- TRAPRET (R274) of a group whose handler runs, in a handler's clause: splits and joins that the handler made
go, the trapping split regains its lanes and join and keeps its CC, and the group resumes at EPC, inside the recorded
clause or at a header. A claim is kept in the first case alone, unless the handler gave it up (R270). The S marker of
the handler's clause still parks the group (R20). -/
def Group.trapReturn (g : Group) (own : Clause) (cycle : Nat) : Group :=
  match g.resume with
  | none => g
  | some r =>
    let others := g.splits.filter fun x => x.lanes &&& r.lanes == 0
    let sp : Split :=
      { label := r.split, pc := codeAddr g.epc, lanes := r.lanes, cc := g.trapCc r own.split, join := r.join }
    let kept := if g.dropClaim then none else g.claim
    let g := { g with
      splits := sp :: others, joins := g.joins.filter (fun j => !j.handler), handling := false, clause := none
      status := if own.marker && !g.drained then .parked .marker else .resident
      window := false, interval := true, since := cycle, ageFrom := cycle, prog := 0
      resume := none, entry := .none, sched := g.cls, dropClaim := false, claim := none, enqDone := 0, enq := none }
    if g.epc == r.epc && r.byInstr then
      match r.clause with
      | some cl => { g with clause := some cl.again, claim := kept, enqDone := r.appended }
      | none => { g with claim := kept }
    else
      match (if g.epc == r.epc + BitVec.ofNat 64 r.len then r.past else none) with
      | some cl => { g with clause := some cl.again }
      | none => g

/-- The end of a clause whose split continues at `pc`, a header (R16). -/
def Group.endClause (g : Group) (cl : Clause) (pc : Addr) (cycle : Nat) : Group :=
  ({ g with splits := g.splits.map fun (x : Split) => if x.label == cl.split then { x with pc := pc } else x }).closeClause
    cl cycle

/-- The instruction at the clause's pc is over: the next one of the clause, or the end of the clause. -/
def Group.advance (g : Group) (len cycle : Nat) : Group :=
  match g.clause with
  | none => g
  | some cl =>
    let pc := cl.pc + BitVec.ofNat 64 len
    if cl.idx + 1 < cl.count then
      { g with
        clause := some { cl with idx := cl.idx + 1, pc := pc, debited := false, words := none }
        prog := 0, enqDone := 0, enq := none, gapWait := false, woken := false, wokenGlobal := false, stalled := false, status := .windowed }
    else g.endClause cl pc cycle

/-- The state after an instruction of `len` bytes of group `gid` ends in a way. -/
def Eff.finish (gid len : Nat) : Eff → State
  | .done s => s.onGroup gid fun g => g.advance len s.cycle
  | .goto s pc => s.onGroup gid fun g =>
      match g.clause with
      | some cl => g.endClause cl pc s.cycle
      | none => g
  | .settled s => s
  | .park s w => s.onGroup gid fun g =>
      { g with status := .parked w, since := match g.status with | .parked _ => g.since | _ => s.cycle }
  | .stall s => s.onGroup gid fun g => { g with stalled := true }
  | .trap s i =>
      match s.group gid with
      | some g => s.trapGroup g len i
      | none => s

/-- What a change of the machine makes of the state that an instruction leaves as it issues. -/
def Eff.after (f : State → State) : Eff → Eff
  | .done s => .done (f s)
  | .goto s pc => .goto (f s) pc
  | .settled s => .settled (f s)
  | .park s w => .park s w
  | .stall s => .stall s
  | .trap s i => .trap s i

/-- A parked group's test of its condition: it goes on waiting, or traps, or its wait is over (R74). -/
def Eff.retried (I : Issue) (len : Nat) : Eff → State
  | .park s w => (Eff.park s w).finish I.g.gid len
  | .stall s => (Eff.park s .retry).finish I.g.gid len
  | .trap s i => (Eff.trap s i).finish I.g.gid len
  | _ => I.s.setGroup (I.g.unpark I.s.cycle)

/-- A trap without an address or a lane (R8, R270). -/
def trap0 (cause : Byte) : TrapInfo := { cause := cause, addr := 0 }

end Sys2Proof.Machine
end

