-- ==== Sys2Proof/Machine/Operands.lean ====
section
/-!
DEFINITION. Operand forms: active and mask-on lanes, the crossbar, uniform values, effective addresses, and
what every instruction is checked for before its own effect (R8, R9, R37, R38, R66, R67, R140).
-/
namespace Sys2Proof.Machine

/-- The lanes of the issuing split that launch made active (R8). -/
def Issue.active (I : Issue) : LaneSet := I.g.lanes &&& I.sp.lanes

/-- MaskOn (R8): every active lane, or with m = 1 those whose mask register is not 0. -/
def Issue.maskOn (I : Issue) (m : Bool) : LaneSet :=
  if m then I.active &&& laneSet (fun i => I.g.read I.cl.mr i != 0) else I.active

/-- The lowest-numbered lane of a set. -/
def lowest (m : LaneSet) : Option Nat := (lanesOf m).head?

/-- The 16-bit preset x of XSET, for x from 1 to 3 (R70). -/
def presetOf (xset : BitVec 64) (x : Nat) : BitVec 16 := xset.extractLsb' (16 * (x - 1)) 16

/-- src(i): the lane that a preset makes lane i read (R9, R70). -/
def srcLane (p : BitVec 16) (i : Nat) : Nat :=
  let w := Config.width
  let seg := (p.extractLsb' 2 3).toNat
  let k7 := (p.extractLsb' 5 7).toNat
  let k := if p.getLsbD 12 then w >>> k7 else k7
  let n := if seg = 0 ∨ w < 2 ^ seg then w else 2 ^ seg
  let j := i % n
  let base := i - j
  match (p.extractLsb' 13 3).toNat with
  | 0 => base + (j + k) % n
  | 1 => base + (j + n - k % n) % n
  | 2 => base + k % n
  | 3 => base + (j ^^^ k) % n
  | 4 => base + (n - 1 - j)
  | 5 => base + (n - 1 - (j + k) % n)
  | _ => i

/-- Xbar(x, v, i) (R8). -/
def Group.xbar (g : Group) (x : BitVec 2) (v i : Nat) : Word :=
  if x = 0 then g.read v i else g.read v (srcLane (presetOf g.xset x.toNat) i)

def Issue.xbar (I : Issue) (x : BitVec 2) (v : Reg) (i : Nat) : Word := I.g.xbar x v.toNat i

/-- A register pair through the crossbar: both words from the selected lane (R67, R139). -/
def Issue.xpair (I : Issue) (x : BitVec 2) (v : Reg) (i : Nat) : Addr :=
  pair (I.g.xbar x v.toNat i) (I.g.xbar x (v.toNat + 1) i)

/-- The lane that uniform values come from: the lowest active one (R67). -/
def Issue.lane0 (I : Issue) : Nat := (lowest I.active).getD 0

/-- The lowest mask-on lane (R313, R336). -/
def Issue.laneU (I : Issue) (m : Bool) : Nat := (lowest (I.maskOn m)).getD 0

/-- A signed immediate as a 64-bit number (R7, R140). -/
def simm {n : Nat} (x : BitVec n) : Addr := x.signExtend 64

/-- EA(i) (R140). -/
def Issue.ea (I : Issue) (w : SOp) (imm : BitVec 15) (i : Nat) : Addr := I.xpair w.xa w.a i + simm imm

/-- The branch target of imm24 (R29, R80): words from the instruction's first word. -/
def Issue.target (I : Issue) (imm : BitVec 24) : Addr := I.cl.pc + (simm imm <<< 2)

/-! ### Checks before an instruction's own effect -/

/-- Trap causes (R10). -/
abbrev ILLEGAL_OPCODE : Byte := 0x01
abbrev ILLEGAL_ENCODING : Byte := 0x02
abbrev ILLEGAL_CLAUSE : Byte := 0x03
abbrev PRIVILEGED : Byte := 0x04
abbrev MISALIGNED : Byte := 0x05
abbrev TRANSLATION : Byte := 0x06
abbrev PERMISSION : Byte := 0x07
abbrev BUFFER_BOUNDS : Byte := 0x08
abbrev CELL_CYCLE : Byte := 0x09
abbrev CELL_DEPTH : Byte := 0x0A
abbrev CELL_FAILED : Byte := 0x0B
abbrev CELL_BUSY : Byte := 0x0C
abbrev QUEUE_DEAD : Byte := 0x0D
abbrev SYNC_MASK : Byte := 0x0E
abbrev PEND_HAZARD : Byte := 0x0F
abbrev ALIAS_CONFLICT : Byte := 0x10
abbrev MATRIX_STATE : Byte := 0x11
abbrev REMOTE_DENIED : Byte := 0x12
abbrev REMOTE_UNREACHABLE : Byte := 0x13
abbrev PATTERN_ARITY : Byte := 0x14
abbrev UNCORRECTABLE : Byte := 0x15
abbrev SPAWN_DEPTH : Byte := 0x16
abbrev BREAKPOINT : Byte := 0x17
abbrev SOFTWARE : Byte := 0x18
abbrev FORMAT_SLOT : Byte := 0x19
abbrev ENGINE_FAULT : Byte := 0x1A
abbrev STAGE_UNDERFLOW : Byte := 0x1B

/-- The bytes of an instruction (R23). -/
def instrBytes (i : Instr) : Nat := 4 * (encode i).length

/-- Whether the instruction takes a mask and has m = 1. -/
def masked (i : Instr) : Bool := ((word1 i).map SOp.m).getD false

/-- The registers an instruction names that must lie below the count: v124 to v127 are exempt while bound
(R66). -/
def Group.outside (g : Group) (v : Nat) : Bool := decide (g.nregs ≤ v) && (g.port v).isNone

/-- A register field names a register at or above the count, or m = 1 and the MR field does (R66). -/
def badRegister (i : Instr) (I : Issue) : Bool :=
  (i.reads ++ i.writes).any (I.g.outside ·) || (masked i && I.g.outside I.cl.mr)

/-- Mode M (R174). -/
def Group.inM (g : Group) : Bool := g.mode.getLsbD 0
/-- First aliased register and column count of the tile (R174, R175). -/
def Group.tileBase (g : Group) : Nat := (g.mode.extractLsb' 8 7).toNat
def Group.tileCols (g : Group) : Nat := 16 * ((g.mode.extractLsb' 16 2).toNat + 1)
/-- Whether v is an aliased register (R175). -/
def Group.aliased (g : Group) (v : Nat) : Bool :=
  g.inM && decide (g.tileBase ≤ v) && decide (v < g.tileBase + g.tileCols)

/-- A variable-latency write to register v in some lane of a set is outstanding (R18). -/
def Group.pendingWrite (g : Group) (v : Nat) (m : LaneSet) : Bool :=
  v != 0 && g.ops.any fun o => ((o.writes.map Prod.fst) ++ o.due).any fun k => k / 64 == v && m.getLsbD (k % 64)

/-- The registers that an instruction reads, with the mask register where it has m = 1 (R8, R66). -/
def Issue.readsOf (I : Issue) (i : Instr) : List Nat := i.reads ++ (if masked i then [I.cl.mr] else [])

/-- STRICT (R19): the instruction reads or writes a register with an outstanding write in a mask-on lane;
aliased registers in mode M are exempt (R176). -/
def pendHazard (i : Instr) (I : Issue) : Bool :=
  I.c.strict && ((I.readsOf i ++ i.writes).any fun v => !I.g.aliased v && I.g.pendingWrite v (I.maskOn (masked i)))

/-- A matrix operation of the group that writes the aliased register v has not completed, or another write to v has not
landed (R176). -/
def Issue.accBusy (I : Issue) (v : Nat) : Bool :=
  let a := I.s.array I.t.place
  I.g.aliased v &&
    ((a.posted ++ a.segs).any (fun p => p.gid == I.g.gid && decide (v < I.g.tileBase + p.n)) || I.g.pendingWrite v (0 - 1))

/-- R176: an access to an aliased register by an instruction other than a MAT instruction waits for the group's earlier
writes to that register. -/
def aliasWait (i : Instr) (I : Issue) : Bool := (I.readsOf i ++ i.writes).any I.accBusy

/-- A trap of an instruction for the group as a whole, with no address. -/
def Issue.trap (I : Issue) (cause : Byte) (addr : Addr := 0) : Eff := .trap I.s { cause := cause, addr := addr }

/-- The number of lanes in a set. -/
def laneCount (m : LaneSet) : Nat := (lanesOf m).length

/-- Where a stream begins in memory or a buffer, and its bound length in bytes (R343). -/
def Engine.start (e : Engine) : Addr := (e.runs.head?.map fun r => if e.kind == .writePort then r.dst else r.src).getD 0
def Engine.length (e : Engine) : Nat := (e.runs.map Run.len).sum

/-- Where a run of a stream stands in it. -/
def Engine.offset (e : Engine) (r : Run) : Nat := if e.kind == .writePort then r.src.toNat else r.dst.toNat

/-- The first offset of a stream that is still to move: up to it a read stream's bytes are buffered, and a write stream's
performed (R344). -/
def Engine.low (e : Engine) : Nat := (e.rest.map e.offset).foldl min (e.base + e.data.length)

/-- The buffered bytes of a read stream, up to the first that is missing (R344). -/
def Engine.ready (e : Engine) : List Byte := e.data.take (e.low - e.base)

/-- The bytes appended to a write stream so far, and those of them not performed yet (R344). -/
def Engine.appended (e : Engine) : Nat := e.base + e.data.length
def Engine.held (e : Engine) : Nat := (e.rest.map fun r => min r.len (e.appended - r.src.toNat)).sum

/-- The lanes in which an instruction that writes every active lane (R101, R150) writes register v: where v is a bound port
its stream takes the words of the mask-on lanes alone (R344; log 97). -/
def Issue.everyLane (I : Issue) (v : Nat) (m : Bool) : LaneSet := if (I.g.port v).isSome then I.maskOn m else I.active

/-- A write port that the instruction writes and whose words would pass the bound length: the stream's end
(R344). -/
def portBeyond (i : Instr) (I : Issue) : Option Addr :=
  (i.writes.filterMap fun v => match I.g.port v with
    | some p => if p.dir == .write then I.s.engine p.cmd else none
    | none => none).findSome? fun e =>
      if e.length < e.appended + 4 * laneCount (I.maskOn (masked i)) && e.dead.isNone then
        some (e.start + BitVec.ofNat 64 e.length)
      else none

/-- The write ports that lack room for the instruction's words: a port holds 4 × W words (R343, R344). -/
def portFull (i : Instr) (I : Issue) : List Nat :=
  i.writes.filter fun v => match I.g.port v with
    | some p => p.dir == .write && (match I.s.engine p.cmd with
        | some e => decide (16 * Config.width < e.held + 4 * laneCount (I.maskOn (masked i))) && e.dead.isNone
        | none => false)
    | none => false

/-- A group whose instruction waits for some of its ports. -/
def Group.want (g : Group) (vs : List Nat) : Group :=
  { g with ports := g.ports.map fun p => if vs.contains p.reg then { p with wanted := true } else p }

/-- A wait for queue ports (R74, R344). -/
def Issue.waitPorts (I : Issue) (vs : List Nat) : Eff := .park (I.s.setGroup (I.g.want vs)) .retry

/-- Some register names a read port whose producer died and whose words are used up: the cause that QUEUE_DEAD forwards
(R344). -/
def Issue.portDead (I : Issue) (vs : List Nat) : Option Byte :=
  vs.findSome? fun v => match I.g.port v with
    | some p =>
      if p.dir == .read && p.taken.isNone then
        (I.s.engine p.cmd).bind fun e => if e.ready.isEmpty then e.dead else none
      else none
    | none => none

/-- The read ports among some registers whose next chunk has not been delivered (R344). -/
def Issue.unread (I : Issue) (vs : List Nat) : List Nat :=
  vs.filter fun v => match I.g.port v with
    | some p => p.dir == .read && p.taken.isNone
    | none => false

/-- What keeps an instruction from reading some registers: a dead port, or a chunk that has not been delivered (R344). -/
def Issue.readWait (I : Issue) (vs : List Nat) : Option Eff :=
  match I.portDead vs with
  | some c => some (.trap I.s { cause := QUEUE_DEAD, addr := 0, fwd := c })
  | none => if (I.unread vs).isEmpty then none else some (I.waitPorts (I.unread vs))

/-- The write ports of an instruction whose last words have not been appended or landed (R344). -/
def portsGiven (i : Instr) (I : Issue) : List Nat :=
  i.writes.filter fun v => match I.g.port v with
    | some p => p.dir == .write && (!p.given.isEmpty || I.g.pendingWrite v (0 - 1))
    | none => false

/-- A MAT instruction: its accesses to aliased registers wait as its own description says (R14, R176). -/
def isMat (i : Instr) : Bool := (encode i).head?.any fun w => opOf w == 0x39

/-- Everything R37 and R38 check before an instruction's own effect, in order: registers below the count, a mask with no
lane on, fields beyond what the launch declares (`enc`), privilege (`priv`), STRICT. A limit on the value of an operand is
the instruction's own and comes after these (R311, R337; log 91). Before the mask is known, a mask register that is a read
port must have been delivered (R344), and an aliased one that an earlier matrix operation writes must have its value
(R176). -/
def prologue (i : Instr) (enc priv : Issue → Bool) (body : Issue → Eff) (I : Issue) : Eff :=
  if badRegister i I then I.trap ILLEGAL_ENCODING
  else match (if masked i then I.readWait [I.cl.mr] else none) with
  | some e => e
  | none =>
    if masked i && !isMat i && I.accBusy I.cl.mr then .stall I.s
    else if masked i && I.maskOn true == 0 then .done I.s
    else if enc I then I.trap ILLEGAL_ENCODING
    else if priv I then I.trap PRIVILEGED
    else if pendHazard i I then I.trap PEND_HAZARD
    else body I

/-- An instruction's own traps that rest on no operand: they come before its waits (R60, R192). -/
def withChecks (check : Issue → Option Byte) (body : Issue → Eff) (I : Issue) : Eff :=
  match check I with
  | some cause => I.trap cause
  | none => body I

/-- The waits for queue ports that an instruction reads or writes; one that completes uses up the chunks of the ports it
reads (R344). -/
def withPorts (i : Instr) (body : Issue → Eff) (I : Issue) : Eff :=
  if (I.readsOf i ++ i.writes).all fun v => (I.g.port v).isNone then body I
  else match I.portDead i.reads, portBeyond i I with
    | some c, _ => .trap I.s { cause := QUEUE_DEAD, addr := 0, fwd := c }
    | none, some a => I.trap BUFFER_BOUNDS a
    | none, none =>
      let vs := I.unread i.reads ++ portsGiven i I ++ portFull i I
      if vs.isEmpty then (body I).after fun s => s.onGroup I.g.gid fun g => g.usePorts (I.readsOf i) else I.waitPorts vs

/-- The waits of an instruction that is no MAT instruction: aliased registers (R176) and queue ports
(R344). -/
def withWaits (i : Instr) (body : Issue → Eff) (I : Issue) : Eff :=
  if aliasWait i I then .stall I.s else withPorts i body I

/-- A pass runs on the group's quad, so that a multiplying instruction waits for a gap (R94, R177). -/
def Issue.arrayRuns (I : Issue) : Bool := (I.s.array I.t.place).posted.any Pass.running

/-- The wait for a gap of a multiplying instruction (R94, R177). -/
def withGap (body : Issue → Eff) (I : Issue) : Eff :=
  if I.arrayRuns then .stall (I.s.setGroup { I.g with gapWait := true }) else body I

/-- No operand value beyond the encoding; no privilege asked for. -/
def never (_ : Issue) : Bool := false

/-- The effect of writing register d in every mask-on lane before the next instruction issues (R17, R91). -/
def Issue.writeD (I : Issue) (d : Reg) (m : Bool) (f : Nat → Word) : Eff :=
  .done (I.s.setGroup (I.g.writeLanes d.toNat (lanesOf (I.maskOn m)) f))

/-- The same for a register pair (R67). -/
def Issue.writePair (I : Issue) (d : Reg) (m : Bool) (f : Nat → Addr) : Eff :=
  let ls := lanesOf (I.maskOn m)
  .done (I.s.setGroup ((I.g.writeLanes d.toNat ls fun i => lo32 (f i)).writeLanes (d.toNat + 1) ls fun i => hi32 (f i)))

/-- The pending writes of `n` registers from `d` in each lane of a list. -/
def pendingOf (d n : Nat) (ls : List Nat) (f : Nat → Nat → Word) : List (Nat × Word) :=
  ls.flatMap fun i => (List.range n).map fun k => (regKey (d + k) i, f k i)

/-- The effect of a variable-latency result: an outstanding operation whose writes land later (R17, R18). -/
def Issue.later (I : Issue) (s : State) (c : Counter) (ws : List (Nat × Word)) (acq : Bool := false) : Eff :=
  .done (s.onGroup I.g.gid fun g => g.addOp { seq := 0, cls := c, writes := ws, done := ws.isEmpty, acquire := acq })

/-- An instruction run for the group in a position to issue, or tested again by one that is PARKED at it (R74); a fault
where there is neither. -/
def runInstr (i : Instr) (body : Issue → Eff) (s : State) : Host.Outcome State Fault Refusal :=
  match s.issue with
  | some I => .next ((body I).finish I.g.gid (instrBytes i))
  | none => match s.waiter with
    | some I => .next ((body I).retried I (instrBytes i))
    | none => .fault .noIssuer

end Sys2Proof.Machine
end

