-- ==== Sys2Proof/Machine/Num.lean ====
section
/-!
DEFINITION. Numbers: the element formats, rounding into a format, exact sums and products, blocks and E2M1S,
format slots and the order of sums (R45 to R64, R93).
-/
namespace Sys2Proof.Machine

/-- A value of a number format: NaN, an infinity, or (-1)^neg × m × 2^e; a zero keeps its sign. -/
inductive Num where
  | nan
  | inf (neg : Bool)
  | fin (neg : Bool) (m : Nat) (e : Int)
  deriving DecidableEq, Repr

/-- An FP element format (R45): exponent and mantissa bits and bias. -/
structure Fmt where
  eb : Nat
  mb : Nat
  bias : Nat
  deriving DecidableEq, Repr

/-- The FP element formats by slot code; E2M1S as E2M1 (R45). -/
def fmtOf : Nat → Fmt
  | 0 => ⟨8, 23, 127⟩
  | 1 => ⟨8, 7, 127⟩
  | 2 => ⟨5, 10, 15⟩
  | 3 => ⟨4, 3, 7⟩
  | 4 => ⟨5, 2, 15⟩
  | 5 => ⟨3, 2, 3⟩
  | 6 => ⟨2, 3, 1⟩
  | _ => ⟨2, 1, 1⟩

/-- Bits of an element (R45). -/
def elemBits : Nat → Nat
  | 0 => 32
  | 1 | 2 => 16
  | 3 | 4 | 9 => 8
  | 5 | 6 => 6
  | _ => 4

/-- The largest finite encoding without its sign (R50). -/
def maxCode : Nat → Nat
  | 0 => 0x7F7FFFFF
  | 1 => 0x7F7F
  | 2 => 0x7BFF
  | 3 => 0x7E
  | 4 => 0x7B
  | 5 | 6 => 0x1F
  | 9 => 0x7F
  | _ => 7

/-- The canonical NaN of a format; code 0 where it has none, 0b1000 for E2M1S (R47, R51). -/
def nanCode : Nat → Nat
  | 0 => 0x7FC00000
  | 1 => 0x7FC0
  | 2 => 0x7E00
  | 3 => 0x7F
  | 4 => 0x7E
  | 8 => 8
  | _ => 0

/-- The value of an encoding (R45 to R48); E2M1S without its special byte. -/
def valueOf (c q : Nat) : Num :=
  if c = 9 then
    let n := sint q 8
    .fin (decide (n < 0)) n.natAbs (-6)
  else
    let f := fmtOf c
    let neg := q.testBit (f.eb + f.mb)
    let ex := q / 2 ^ f.mb % 2 ^ f.eb
    let m := q % 2 ^ f.mb
    let top := ex == 2 ^ f.eb - 1
    if top && (c ≤ 2 || c = 4) then (if m = 0 then .inf neg else .nan)
    else if top && c = 3 && m = 7 then .nan
    else if ex = 0 then .fin neg m (1 - f.bias - f.mb)
    else .fin neg (2 ^ f.mb + m) (ex - f.bias - f.mb)

/-- m / 2^k rounded: RNE, or truncation under RZ (R51). -/
def shiftRound (rz : Bool) (m k : Nat) : Nat :=
  let h := m / 2 ^ k
  let r := m % 2 ^ k
  if rz then h
  else if 2 ^ k < 2 * r ∨ (2 * r = 2 ^ k ∧ h % 2 = 1 ∧ k ≠ 0) then h + 1 else h

/-- The unsigned encoding of m × 2^e rounded to a format's precision with an unbounded exponent range above
(R51): the encodings of a format rise by one from each value to the next. -/
def roundMag (f : Fmt) (rz : Bool) (m : Nat) (e : Int) : Nat :=
  if m = 0 then 0
  else
    let emin : Int := 1 - f.bias - f.mb
    let q : Int := max ((Nat.log2 m : Int) + e - f.mb) emin
    let r := if q ≤ e then m * 2 ^ (e - q).toNat else shiftRound rz m (q - e).toNat
    (q - emin).toNat * 2 ^ f.mb + r

/-- The sign bit of an encoding. -/
def signBit (c : Nat) (neg : Bool) : Nat := if neg then 2 ^ (elemBits c - 1) else 0

/-- Round(fmt, mode, x) (R51): `rz` for RZ, `sat` for .S. -/
def round (c : Nat) (rz sat : Bool) : Num → Nat
  | .nan => nanCode c
  | .inf neg =>
      if c ≤ 2 then signBit c neg + (maxCode c + 1)
      else if c = 4 then signBit c neg + 0x7C
      else if c = 3 then (if sat then signBit c neg + 0x7E else 0x7F)
      else if c = 9 then (if neg then 0x81 else 0x7F)
      else if c = 8 && !sat then 8
      else signBit c neg + maxCode c
  | .fin neg m e =>
      if c = 9 then
        let k := e + 6
        let r := if 0 ≤ k then m * 2 ^ k.toNat else shiftRound rz m (-k).toNat
        let r := min r 127
        if neg then (256 - r) % 256 else r
      else
        let r := roundMag (fmtOf c) rz m e
        let beyond := decide (maxCode c < r)
        if beyond then
          if rz || sat || decide (5 ≤ c) then signBit c neg + maxCode c
          else if c = 3 then 0x7F
          else if c = 4 then signBit c neg + 0x7C
          else signBit c neg + (maxCode c + 1)
        else if c = 8 && r = 0 then 0
        else signBit c neg + r

/-! ### Exact arithmetic -/

/-- The sign of an integer with magnitude, for a sum that is not zero. -/
def ofInt (x : Int) (e : Int) : Num := .fin (decide (x < 0)) x.natAbs e

/-- A signed integer of a finite value at exponent e0 ≤ e. -/
def scaled (neg : Bool) (m : Nat) (e e0 : Int) : Int :=
  let v : Int := (m : Int) * 2 ^ (e - e0).toNat
  if neg then -v else v

/-- The exact sum, with the signs of zeros of R93. -/
def Num.add : Num → Num → Num
  | .nan, _ | _, .nan => .nan
  | .inf a, .inf b => if a = b then .inf a else .nan
  | .inf a, _ => .inf a
  | _, .inf b => .inf b
  | .fin n1 m1 e1, .fin n2 m2 e2 =>
      if m1 = 0 ∧ m2 = 0 then .fin (n1 && n2) 0 0
      else
        let e := min e1 e2
        let t := scaled n1 m1 e1 e + scaled n2 m2 e2 e
        if t = 0 then .fin false 0 0 else ofInt t e

/-- The exact product (R93). -/
def Num.mul : Num → Num → Num
  | .nan, _ | _, .nan => .nan
  | .inf a, .inf b => .inf (a != b)
  | .inf a, .fin n m _ => if m = 0 then .nan else .inf (a != n)
  | .fin n m _, .inf b => if m = 0 then .nan else .inf (n != b)
  | .fin n1 m1 e1, .fin n2 m2 e2 => .fin (n1 != n2) (m1 * m2) (e1 + e2)

/-- The negated value. -/
def Num.neg : Num → Num
  | .nan => .nan
  | .inf n => .inf (!n)
  | .fin n m e => .fin (!n) m e

/-- The value × 2^k. -/
def Num.scale (k : Int) : Num → Num
  | .fin n m e => .fin n m (e + k)
  | x => x

/-- The magnitude. -/
def Num.abs : Num → Num
  | .nan => .nan
  | .inf _ => .inf false
  | .fin _ m e => .fin false m e

/-- x < y as reals; false if either is NaN. -/
def Num.lt : Num → Num → Bool
  | .nan, _ | _, .nan => false
  | .inf a, .inf b => a && !b
  | .inf a, .fin _ _ _ => a
  | .fin _ _ _, .inf b => !b
  | .fin n1 m1 e1, .fin n2 m2 e2 =>
      let e := min e1 e2
      decide (scaled n1 m1 e1 e < scaled n2 m2 e2 e)

/-- x = y as reals; false if either is NaN. -/
def Num.eq (x y : Num) : Bool := x != .nan && y != .nan && !x.lt y && !y.lt x

def Num.isNan (x : Num) : Bool := x == .nan
def Num.isInf : Num → Bool
  | .inf _ => true
  | _ => false
def Num.isFin : Num → Bool
  | .fin _ _ _ => true
  | _ => false
def Num.isZero : Num → Bool
  | .fin _ m _ => m == 0
  | _ => false
def Num.sign : Num → Bool
  | .nan => false
  | .inf n => n
  | .fin n _ _ => n

/-- floor(log2 |x|) of a finite value that is not zero. -/
def Num.log2 : Num → Int
  | .fin _ m e => (Nat.log2 m : Int) + e
  | _ => 0

/-! ### FP32 and BF16 functions of patterns (R93, R98 to R102) -/

/-- fp(x) (R93). -/
def fp (x : Word) : Num := valueOf 0 x.toNat
/-- bf(h) (R93). -/
def bf (h : BitVec 16) : Num := valueOf 1 h.toNat
/-- Round(FP32, RNE, x). -/
def toFp (x : Num) : Word := BitVec.ofNat 32 (round 0 false false x)
/-- Round(BF16, RNE, x). -/
def toBf (x : Num) : BitVec 16 := BitVec.ofNat 16 (round 1 false false x)

def fadd (x y : Word) : Word := toFp ((fp x).add (fp y))
def fsub (x y : Word) : Word := toFp ((fp x).add (fp y).neg)
def fmul (x y : Word) : Word := toFp ((fp x).mul (fp y))
/-- One rounding of c + x × y (R99). -/
def fmac (c x y : Word) : Word := toFp ((fp c).add ((fp x).mul (fp y)))

/-- FMIN (R98). -/
def fmin (x y : Word) : Word :=
  if (fp x).isNan && (fp y).isNan then 0x7FC00000
  else if (fp x).isNan then y
  else if (fp y).isNan then x
  else if (fp x).lt (fp y) then x
  else if (fp y).lt (fp x) then y
  else if (fp x).sign then x else y

/-- FMAX (R98). -/
def fmax (x y : Word) : Word :=
  if (fp x).isNan && (fp y).isNan then 0x7FC00000
  else if (fp x).isNan then y
  else if (fp y).isNan then x
  else if (fp x).lt (fp y) then y
  else if (fp y).lt (fp x) then x
  else if (fp x).sign then y else x

/-- A truth value as a word (R95). -/
def bool01 (b : Bool) : Word := if b then 1 else 0

def fseq (x y : Word) : Word := bool01 ((fp x).eq (fp y))
def fslt (x y : Word) : Word := bool01 ((fp x).lt (fp y))
def fsle (x y : Word) : Word := bool01 ((fp x).lt (fp y) || (fp x).eq (fp y))
def fsun (x y : Word) : Word := bool01 ((fp x).isNan || (fp y).isNan)
def fcpys (x y : Word) : Word := (x &&& 0x7FFFFFFF) ||| (y &&& 0x80000000)

/-- The halves of a word of two BF16 values (R100). -/
def loHalf (x : Word) : BitVec 16 := x.extractLsb' 0 16
def hiHalf (x : Word) : BitVec 16 := x.extractLsb' 16 16
/-- A function of each half (R100). -/
def halves (f : BitVec 16 → BitVec 16 → BitVec 16) (x y : Word) : Word :=
  f (hiHalf x) (hiHalf y) ++ f (loHalf x) (loHalf y)
def badd (x y : BitVec 16) : BitVec 16 := toBf ((bf x).add (bf y))
def bmul (x y : BitVec 16) : BitVec 16 := toBf ((bf x).mul (bf y))
def bmac (c x y : BitVec 16) : BitVec 16 := toBf ((bf c).add ((bf x).mul (bf y)))
def badd2 (x y : Word) : Word := halves badd x y
def bmul2 (x y : Word) : Word := halves bmul x y
def bmac2 (c x y : Word) : Word :=
  bmac (hiHalf c) (hiHalf x) (hiHalf y) ++ bmac (loHalf c) (loHalf x) (loHalf y)

/-- The rounding directions of FRINT (R102). -/
inductive Dir where
  | rne | rz | rp | rm
  deriving DecidableEq, Repr

/-- |x| rounded to an integer in a direction. -/
def toIntMag (d : Dir) (neg : Bool) (m : Nat) (e : Int) : Nat :=
  if 0 ≤ e then m * 2 ^ e.toNat
  else
    let k := (-e).toNat
    let h := m / 2 ^ k
    let exact := m % 2 ^ k = 0
    match d with
    | .rne => shiftRound false m k
    | .rz => h
    | .rp => if exact ∨ neg then h else h + 1
    | .rm => if exact ∨ ¬ neg then h else h + 1

/-- FRINT (R102). -/
def frint (d : Dir) (x : Word) : Word :=
  match fp x with
  | .nan => 0x7FC00000
  | .inf _ => x
  | .fin neg m e => toFp (.fin neg (toIntMag d neg m e) 0)

/-- fp(x) truncated to an integer and clamped; NaN gives 0 (R102). -/
def truncClamp (x : Word) (lo hi : Int) : Int :=
  match fp x with
  | .nan => 0
  | .inf neg => if neg then lo else hi
  | .fin neg m e =>
      let v : Int := toIntMag .rz neg m e
      max lo (min hi (if neg then -v else v))

def cvtfi (x : Word) : Word := BitVec.ofInt 32 (truncClamp x (-2147483648) 2147483647)
def cvtfu (x : Word) : Word := BitVec.ofInt 32 (truncClamp x 0 4294967295)
def cvtif (x : Word) : Word := toFp (ofInt x.toInt 0)
def cvtuf (x : Word) : Word := toFp (.fin false x.toNat 0)
def cvtfb (x : Word) : Word := (toBf (fp x)).setWidth 32
def cvtbf (x : Word) : Word := toFp (bf (loHalf x))

/-- The number of one bits (R102). -/
def popc (x : Word) : Word := BitVec.ofNat 32 ((List.range 32).filter fun j => x.getLsbD j).length
/-- The number of leading zeros (R102). -/
def clz (x : Word) : Word := if x = 0 then 32 else BitVec.ofNat 32 (31 - Nat.log2 x.toNat)
/-- Bits reversed (R102). -/
def brev (x : Word) : Word :=
  BitVec.ofNat 32 ((List.range 32).foldl (fun a j => if x.getLsbD (31 - j) then a + 2 ^ j else a) 0)

/-! ### Format slots (R58 to R60) -/

def slotElem (f : Word) : Nat := (f.extractLsb' 0 4).toNat
def slotScale (f : Word) : Nat := (f.extractLsb' 4 4).toNat
def slotBlock (f : Word) : Nat := (f.extractLsb' 8 2).toNat
def slotMode (f : Word) : Nat := (f.extractLsb' 10 2).toNat
/-- RZ instead of RNE. -/
def slotRz (f : Word) : Bool := slotMode f == 1
def slotSat (f : Word) : Bool := f.getLsbD 12
def slotLayout (f : Word) : Bool := f.getLsbD 13

/-- A well-formed slot word (R58, R59). -/
def slotOk (f : Word) : Bool :=
  f.extractLsb' 14 18 == 0 && decide (slotMode f ≤ 1) && decide (slotElem f ≤ 9) &&
  ((slotScale f == 0 && slotBlock f == 0 && decide (slotElem f ≤ 4)) ||
   (slotScale f == 1 && slotBlock f == 2 && decide (3 ≤ slotElem f))) &&
  (!slotLayout f || slotElem f == 5 || slotElem f == 6)

/-- Slots A and B are valid for a product (R60). -/
def slotsPair (a b : Word) : Bool :=
  (slotElem a == 1 && slotElem b == 1) || (slotElem a == 2 && slotElem b == 2) ||
  (decide (3 ≤ slotElem a) && decide (slotElem a ≤ 9) && decide (3 ≤ slotElem b) && decide (slotElem b ≤ 9))

/-- A slot valid for CVTQ and CVTX (R60). -/
def slotNarrow (f : Word) : Bool := decide (1 ≤ slotElem f) && decide (slotElem f ≤ 9)
/-- A slot valid for AMAXB (R60). -/
def slotBlocked (f : Word) : Bool := decide (3 ≤ slotElem f) && decide (slotElem f ≤ 9) && slotScale f == 1

/-! ### Blocks (R52 to R57) -/

/-- The largest of a list of magnitudes. -/
def largest (xs : List Num) : Num := xs.foldl (fun a x => if a.lt x then x else a) (.fin false 0 0)

/-- amax: the largest finite magnitude, 0 if none (R54). -/
def amax (xs : List Num) : Num := largest ((xs.filter Num.isFin).map Num.abs)

/-- emax of an element format (R54). -/
def emaxOf : Nat → Int
  | 3 => 8
  | 4 => 15
  | 5 => 4
  | 9 => 0
  | _ => 2

/-- The scale exponent X that quantisation takes (R54). -/
def scaleExp (c : Nat) (xs : List Num) : Int :=
  if (amax xs).isZero then -127 else min 127 (max (-127) ((amax xs).log2 - emaxOf c))

/-- The block becomes NaN as a whole (R54). -/
def poisoned (c : Nat) (sat : Bool) (xs : List Num) : Bool :=
  xs.any fun x => (x.isNan && c != 3 && c != 4 && c != 8) || (x.isInf && !sat && c != 4)

/-- The value of an E2M1 code (R50). -/
def e2m1 (q : Nat) : Num := valueOf 7 q
/-- The value of an E4M3 byte. -/
def e4m3 (q : Nat) : Num := valueOf 3 q

/-- A quantised block: codes, scale byte, special byte (R54, R57). -/
structure Block where
  codes : List Nat
  scale : Nat
  special : Nat
  deriving DecidableEq, Repr

/-- |x - y| of finite values. -/
def dist (x y : Num) : Num := (x.add y.neg).abs

/-- The special-value selection of E2M1S (R57), over the scaled inputs and the codes of R54. -/
def selectSpecial (rz sat : Bool) (xs : List Num) (qs : List Nat) : List Nat × Nat :=
  let marks := fun (x : Num) => x.isNan || (x.isInf && !sat)
  if xs.any marks then ((xs.zip qs).map fun p => if marks p.1 then 8 else p.2, 0xFF)
  else
    let err := fun (p : Num × Nat) => match p.1 with
      | .inf _ => Num.inf false
      | x => dist x (e2m1 p.2)
    let top := largest ((xs.zip qs).map err)
    let js := ((xs.zip qs).findIdx? fun p => (err p).eq top).getD 0
    let s := round 3 rz true (xs.getD js (.fin false 0 0))
    let near := fun (p : Num × Nat) => match p.1 with
      | .inf _ => false
      | x => (dist x (e4m3 s)).lt (err p)
    ((xs.zip qs).map fun p => if near p then 8 else p.2, s)

/-- Quantisation of 32 values into a block (R54, R57): element code, RZ, saturate. -/
def quantise (c : Nat) (rz sat : Bool) (xs : List Num) : Block :=
  let x0 := scaleExp c xs
  let poison := poisoned c sat xs
  let ys := xs.map (Num.scale (-x0))
  let code := fun (x : Num) =>
    if x.isNan && c != 3 && c != 4 then 0
    else match x with
      | .inf neg => if c = 4 then round c rz sat x else if c = 9 then (if neg then 0x81 else 0x7F) else signBit c neg + maxCode c
      | _ => round c rz sat x
  let qs := ys.map code
  let scale := if poison && c != 8 then 0xFF else (x0 + 127).toNat
  if c = 8 then
    let r := selectSpecial rz sat ys qs
    ⟨r.1, scale, r.2⟩
  else ⟨qs, scale, 0⟩

/-- The value of an element code before its scale, E2M1S through its special byte (R45 to R48, R56). -/
def elemValue (c special q : Nat) : Num :=
  if c = 8 ∧ q % 16 = 8 then (if special = 0xFF ∨ special = 0x7F then .nan else e4m3 special)
  else valueOf c (q % 2 ^ elemBits c)

/-- The value of an element of a block with an E8M0 scale; a scale of 0xFF is NaN (R49, R55). -/
def blockValue (c scale special q : Nat) : Num :=
  if scale = 0xFF then .nan else (elemValue c special q).scale (scale - 127)

/-! ### Sums (R61 to R63) -/

/-- An operand of a block sum: the element values of 32 products, and the scale byte if the slot has one. -/
structure BlockOperand where
  values : List Num
  scale : Option Nat
  deriving DecidableEq, Repr

/-- X of a block operand: 0 for plain FP8 (R60, R63). -/
def BlockOperand.exp (b : BlockOperand) : Int :=
  match b.scale with
  | some e => (e : Int) - 127
  | none => 0

/-- Whether the scale is 0xFF. -/
def BlockOperand.nanScale (b : BlockOperand) : Bool := b.scale == some 0xFF

/-- The exact sum of a list of finite values. -/
def sumExact (ps : List Num) : Num :=
  let e := ps.foldl (fun a p => match p with | .fin _ m x => if m = 0 then a else min a x | _ => a) 0
  let t : Int := ps.foldl (fun a p => match p with | .fin n m x => if m = 0 then a else a + scaled n m x e | _ => a) 0
  ofInt t e

/-- s of one 32-element block (R63). `int` says that both operands are INT8, whose products count as
positive. -/
def blockSum (int : Bool) (a b : BlockOperand) : Num :=
  let ps := (a.values.zip b.values).map fun p => p.1.mul p.2
  if a.nanScale || b.nanScale || ps.any Num.isNan then .nan
  else if ps.contains (.inf false) && ps.contains (.inf true) then .nan
  else match ps.find? Num.isInf with
    | some x => x
    | none =>
      let s := sumExact ps
      if s.isZero then .fin (!int && ps.all fun p => p.isZero && p.sign) 0 0
      else s.scale (a.exp + b.exp)

/-- c after one product of BF16 or FP16 values (R62). -/
def sumStep (c : Word) (x y : Num) : Word := toFp ((fp c).add (x.mul y))

/-- c after one block (R63). -/
def sumBlock (c : Word) (s : Num) : Word := toFp ((fp c).add s)

/-- c after the 32 products of one accumulation step (R62, R63, R182). DESIGN CHOICE (log 101): a product counts as one
of MXINT8, and so as positive for the sign of a zero sum, where both slots are MXINT8. -/
def stepSum (slotA slotB : Word) (c : Word) (a b : BlockOperand) : Word :=
  if decide (slotElem slotA ≤ 2) then (a.values.zip b.values).foldl (fun c p => sumStep c p.1 p.2) c
  else sumBlock c (blockSum (slotElem slotA == 9 && slotElem slotB == 9) a b)

end Sys2Proof.Machine
end

