-- ==== Sys2Proof/Machine/Flags.lean ====
section
/-!
DEFINITION. The condition flags: their bits, the conditions of BR, and every computation of them (R72, R73,
R111 to R113).
-/
namespace Sys2Proof.Machine

/-- The flags of a split, by name: E V C N Z from bit 4 down (R72). -/
structure Flags where
  z : Bool
  n : Bool
  c : Bool
  v : Bool
  e : Bool
  deriving DecidableEq, Repr

/-- The flags of a CC value (R72). -/
def flagsOf (cc : BitVec 5) : Flags :=
  ⟨cc.getLsbD 0, cc.getLsbD 1, cc.getLsbD 2, cc.getLsbD 3, cc.getLsbD 4⟩

/-- The CC value of flags (R72). -/
def Flags.cc (f : Flags) : BitVec 5 :=
  BitVec.ofBool f.e ++ BitVec.ofBool f.v ++ BitVec.ofBool f.c ++ BitVec.ofBool f.n ++ BitVec.ofBool f.z

/-- Whether a condition code of BR is met (R73). -/
def Flags.meets (f : Flags) (code : Nat) : Bool :=
  match code with
  | 0 => true
  | 1 => f.z
  | 2 => !f.z
  | 3 => f.n
  | 4 => !f.n
  | 5 => f.c
  | 6 => !f.c
  | 7 => f.v
  | 8 => !f.v
  | 9 => f.c && !f.z
  | 10 => !f.c || f.z
  | 11 => f.n == f.v
  | 12 => f.n != f.v
  | 13 => !f.z && f.n == f.v
  | 14 => f.z || f.n != f.v
  | 15 => f.e
  | 16 => !f.e
  | _ => false

/-- UCMP's flags from x - y; E stays (R113). -/
def ucmpFlags (old : Flags) (x y : Word) : Flags :=
  let d := x - y
  let s : Int := x.toInt - y.toInt
  { z := x == y, n := d.msb, c := decide (y ≤ x), v := decide (s < -2147483648 ∨ 2147483647 < s), e := old.e }

/-- UFCMP's flags; E stays (R113). -/
def ufcmpFlags (old : Flags) (x y : Word) : Flags :=
  if (fp x).isNan || (fp y).isNan then { z := false, n := false, c := true, v := true, e := old.e }
  else if (fp x).lt (fp y) then { z := false, n := true, c := false, v := false, e := old.e }
  else if (fp x).eq (fp y) then { z := true, n := false, c := true, v := false, e := old.e }
  else { z := false, n := false, c := true, v := false, e := old.e }

/-- A group with the CC of one of its splits replaced (R72). -/
def Group.setCc (g : Group) (label : Nat) (cc : BitVec 5) : Group :=
  { g with splits := g.splits.map fun (x : Split) => if x.label == label then { x with cc := cc } else x }

/-- CC.Z of a split set, its other flags kept (R111, R246). -/
def Group.setZ (g : Group) (label : Nat) (z : Bool) : Group :=
  { g with splits := g.splits.map fun (x : Split) =>
      if x.label == label then { x with cc := { flagsOf x.cc with z := z }.cc } else x }

/-- CC.E of a split set: a read of a closed port (R344). -/
def Group.setE (g : Group) (label : Nat) : Group :=
  { g with splits := g.splits.map fun (x : Split) =>
      if x.label == label then { x with cc := { flagsOf x.cc with e := true }.cc } else x }

end Sys2Proof.Machine
end

