-- ==== Sys2Proof/Machine/IntAlu.lean ====
section
/-!
DEFINITION. Integer and bitwise lane instructions: the three-register forms, IMAD, the immediate forms and
ADD64 (R91, R92, R94 to R97), and SEL (R101).
-/
namespace Sys2Proof.Machine

/-- An instruction of class ALU that writes registers only (R91). -/
def aluInstr (i : Instr) (body : Issue → Eff) (s : State) : Host.Outcome State Fault Refusal :=
  runInstr i (prologue i never never (withWaits i body)) s

/-- A multiplying vector instruction: it also waits for a gap (R94). -/
def mulInstr (i : Instr) (body : Issue → Eff) (s : State) : Host.Outcome State Fault Refusal :=
  runInstr i (prologue i never never (withWaits i (withGap body))) s

/-- The effect of a three-register form: f of the selected sources in every mask-on lane (R95). -/
def Issue.lane2 (I : Issue) (o : SOp) (f : Word → Word → Word) : Eff :=
  I.writeD o.d o.m fun i => f (I.xbar o.xa o.a i) (I.xbar o.xb o.b i)

/-- The same with the destination's old value as an addend (R91). -/
def Issue.lane3 (I : Issue) (o : SOp) (f : Word → Word → Word → Word) : Eff :=
  I.writeD o.d o.m fun i => f (I.g.read o.d.toNat i) (I.xbar o.xa o.a i) (I.xbar o.xb o.b i)

/-- Bits [63:32] of the signed product (R95). -/
def mulHi (x y : Word) : Word := (x.signExtend 64 * y.signExtend 64).extractLsb' 32 32
/-- Bits [63:32] of the unsigned product (R95). -/
def mulHu (x y : Word) : Word := (x.setWidth 64 * y.setWidth 64).extractLsb' 32 32
/-- x << y; 32 or more gives 0 (R95). -/
def shlWord (x y : Word) : Word := if 32 ≤ y.toNat then 0 else x <<< y.toNat
def sMin (x y : Word) : Word := if y.slt x then y else x
def sMax (x y : Word) : Word := if x.slt y then y else x
def uMin (x y : Word) : Word := if y.ult x then y else x
def uMax (x y : Word) : Word := if x.ult y then y else x

/-- IADD (R95: the sum mod 2^32). -/
def execIadd (o : SOp) (s : State) : Host.Outcome State Fault Refusal :=
  aluInstr (.iadd o) (fun I => I.lane2 o fun x y => x + y) s

/-- ISUB (R95: the difference mod 2^32). -/
def execIsub (o : SOp) (s : State) : Host.Outcome State Fault Refusal :=
  aluInstr (.isub o) (fun I => I.lane2 o fun x y => x - y) s

/-- IMUL (R95: the product mod 2^32). -/
def execImul (o : SOp) (s : State) : Host.Outcome State Fault Refusal :=
  mulInstr (.imul o) (fun I => I.lane2 o fun x y => x * y) s

/-- IMULHI (R95). -/
def execImulhi (o : SOp) (s : State) : Host.Outcome State Fault Refusal :=
  mulInstr (.imulhi o) (fun I => I.lane2 o fun x y => mulHi x y) s

/-- IMULHU (R95). -/
def execImulhu (o : SOp) (s : State) : Host.Outcome State Fault Refusal :=
  mulInstr (.imulhu o) (fun I => I.lane2 o fun x y => mulHu x y) s

/-- AND (R95). -/
def execAnd (o : SOp) (s : State) : Host.Outcome State Fault Refusal :=
  aluInstr (.and o) (fun I => I.lane2 o fun x y => x &&& y) s

/-- OR (R95). -/
def execOr (o : SOp) (s : State) : Host.Outcome State Fault Refusal :=
  aluInstr (.or o) (fun I => I.lane2 o fun x y => x ||| y) s

/-- XOR (R95). -/
def execXor (o : SOp) (s : State) : Host.Outcome State Fault Refusal :=
  aluInstr (.xor o) (fun I => I.lane2 o fun x y => x ^^^ y) s

/-- ANDN (R95). -/
def execAndn (o : SOp) (s : State) : Host.Outcome State Fault Refusal :=
  aluInstr (.andn o) (fun I => I.lane2 o fun x y => x &&& ~~~y) s

/-- SHL (R95: 32 or more gives 0). -/
def execShl (o : SOp) (s : State) : Host.Outcome State Fault Refusal :=
  aluInstr (.shl o) (fun I => I.lane2 o fun x y => shlWord x y) s

/-- SHR (R95: 32 or more gives 0). -/
def execShr (o : SOp) (s : State) : Host.Outcome State Fault Refusal :=
  aluInstr (.shr o) (fun I => I.lane2 o fun x y => x >>> y.toNat) s

/-- SAR (R95: 32 or more gives copies of the sign). -/
def execSar (o : SOp) (s : State) : Host.Outcome State Fault Refusal :=
  aluInstr (.sar o) (fun I => I.lane2 o fun x y => x.sshiftRight y.toNat) s

/-- IMIN (R95). -/
def execImin (o : SOp) (s : State) : Host.Outcome State Fault Refusal :=
  aluInstr (.imin o) (fun I => I.lane2 o fun x y => sMin x y) s

/-- IMAX (R95). -/
def execImax (o : SOp) (s : State) : Host.Outcome State Fault Refusal :=
  aluInstr (.imax o) (fun I => I.lane2 o fun x y => sMax x y) s

/-- UMIN (R95). -/
def execUmin (o : SOp) (s : State) : Host.Outcome State Fault Refusal :=
  aluInstr (.umin o) (fun I => I.lane2 o fun x y => uMin x y) s

/-- UMAX (R95). -/
def execUmax (o : SOp) (s : State) : Host.Outcome State Fault Refusal :=
  aluInstr (.umax o) (fun I => I.lane2 o fun x y => uMax x y) s

/-- ISEQ (R95). -/
def execIseq (o : SOp) (s : State) : Host.Outcome State Fault Refusal :=
  aluInstr (.iseq o) (fun I => I.lane2 o fun x y => bool01 (x == y)) s

/-- ISNE (R95). -/
def execIsne (o : SOp) (s : State) : Host.Outcome State Fault Refusal :=
  aluInstr (.isne o) (fun I => I.lane2 o fun x y => bool01 (x != y)) s

/-- ISLT (R95). -/
def execIslt (o : SOp) (s : State) : Host.Outcome State Fault Refusal :=
  aluInstr (.islt o) (fun I => I.lane2 o fun x y => bool01 (x.slt y)) s

/-- ISLE (R95). -/
def execIsle (o : SOp) (s : State) : Host.Outcome State Fault Refusal :=
  aluInstr (.isle o) (fun I => I.lane2 o fun x y => bool01 (x.sle y)) s

/-- ISLTU (R95). -/
def execIsltu (o : SOp) (s : State) : Host.Outcome State Fault Refusal :=
  aluInstr (.isltu o) (fun I => I.lane2 o fun x y => bool01 (x.ult y)) s

/-- ISLEU (R95). -/
def execIsleu (o : SOp) (s : State) : Host.Outcome State Fault Refusal :=
  aluInstr (.isleu o) (fun I => I.lane2 o fun x y => bool01 (x.ule y)) s

/-- IMAD (R95). -/
def execImad (o : SOp) (s : State) : Host.Outcome State Fault Refusal :=
  mulInstr (.imad o) (fun I => I.lane3 o fun c x y => c + x * y) s

/-- The effect of an immediate form (R96). -/
def Issue.laneImm (I : Issue) (o : IOp) (f : Word → Word) : Eff := I.writeD o.d o.m fun i => f (I.xbar o.xa o.a i)

/-- IADDI (R96). -/
def execIaddi (o : IOp) (s : State) : Host.Outcome State Fault Refusal :=
  aluInstr (.iaddi o) (fun I => I.laneImm o fun x => x + o.imm.signExtend 32) s

/-- SHLI (R96). -/
def execShli (o : IOp) (s : State) : Host.Outcome State Fault Refusal :=
  aluInstr (.shli o) (fun I => I.laneImm o fun x => x <<< o.imm.toNat) s

/-- SHRI (R96). -/
def execShri (o : IOp) (s : State) : Host.Outcome State Fault Refusal :=
  aluInstr (.shri o) (fun I => I.laneImm o fun x => x >>> o.imm.toNat) s

/-- SARI (R96). -/
def execSari (o : IOp) (s : State) : Host.Outcome State Fault Refusal :=
  aluInstr (.sari o) (fun I => I.laneImm o fun x => x.sshiftRight o.imm.toNat) s

/-- ADD64 (R97): 64-bit pairs; a selector moves both words of its pair. -/
def execAdd64 (o : SOp) (s : State) : Host.Outcome State Fault Refusal :=
  aluInstr (.add64 o) (fun I => I.writePair o.d o.m fun i => I.xpair o.xa o.a i + I.xpair o.xb o.b i) s

/-- SEL (R101): a where the mask is on, b in the other active lanes; into a write port too (log 97). -/
def execSel (o : SOp) (s : State) : Host.Outcome State Fault Refusal :=
  aluInstr (.sel o) (fun I => .done (I.s.setGroup (I.g.writeLanes o.d.toNat (lanesOf (I.everyLane o.d.toNat o.m)) fun i =>
    if (I.maskOn o.m).getLsbD i then I.xbar o.xa o.a i else I.xbar o.xb o.b i))) s

/-- NOP (R37): no effect beyond the energy debit. -/
def execNop (s : State) : Host.Outcome State Fault Refusal := runInstr .nop (fun I => .done I.s) s

end Sys2Proof.Machine
end

