-- ==== Sys2Proof/Machine/Sfu.lean ====
section
/-!
DEFINITION. The functions of the SFU (R103 to R105): the exact results, and for every other input a free mapping
that keeps R105's bounds in ulp, its ranges, its symmetries and its monotonicity.
-/
namespace Sys2Proof.Machine

/-! ### The true results

A true result is kept as a dyadic number whose last bit is a sticky one, 320 bits below the point: far below
any place at which a comparison with a multiple of an ulp is decided. -/

def fixBits : Nat := 320
/-- 1.0 in the fixed-point form. -/
def fixOne : Nat := 2 ^ fixBits
/-- m × 2^e in the fixed-point form: exact for every FP32 value. -/
def fixOf (m : Nat) (e : Int) : Nat := m * 2 ^ (fixBits + e).toNat
/-- y / 2^320 × 2^k, and a little more. -/
def sticky (y : Nat) (k : Int) : Num := .fin false (2 * y + 1) (k - fixBits - 1)

/-- The largest r with r × r ≤ n. -/
def isqrt (n : Nat) : Nat :=
  (List.range (Nat.log2 n / 2 + 1)).reverse.foldl (fun r b => if (r + 2 ^ b) * (r + 2 ^ b) ≤ n then r + 2 ^ b else r) 0

/-- ln 2, by the series of 1 / (k × 2^k). -/
def fixLn2 : Nat := (List.range fixBits).foldl (fun a k => a + fixOne / ((k + 1) * 2 ^ (k + 1))) 0

/-- The terms of an alternating or a plain series: each is the last times z, over a divisor, and counts over a
weight. -/
def series (n : Nat) (alt : Bool) (z first : Nat) (divisor weight : Nat → Nat) : Nat :=
  ((List.range n).foldl (fun (a : Int × Nat) k =>
    let v : Int := (a.2 / weight k : Nat)
    (if alt && k % 2 == 1 then a.1 - v else a.1 + v, a.2 * z / fixOne / divisor (k + 1))) ((0, first) : Int × Nat)).1.toNat

/-- arctan (1 / q). -/
def fixAtan (q : Nat) : Nat := series 80 true (fixOne / (q * q)) (fixOne / q) (fun _ => 1) fun k => 2 * k + 1
/-- π, by Machin's formula. -/
def fixPi : Nat := 16 * fixAtan 5 - 4 * fixAtan 239
/-- 2^f of 0 ≤ f ≤ 1. -/
def fixExp2 (f : Nat) : Nat := series 80 false (f * fixLn2 / fixOne) fixOne id fun _ => 1
/-- e^-z, or 0 where it is below 2^-300. -/
def fixExpNeg (z : Nat) : Nat :=
  if 208 * fixOne ≤ z then 0
  else
    let u := z * fixOne / fixLn2
    fixExp2 (fixOne - u % fixOne) / 2 ^ (u / fixOne + 1)
/-- log2 of 1 ≤ v < 2. -/
def fixLog2 (v : Nat) : Nat :=
  let t := (v - fixOne) * fixOne / (v + fixOne)
  2 * series 110 false (t * t / fixOne) t (fun _ => 1) (fun k => 2 * k + 1) * fixOne / fixLn2
/-- sin (π t) of 0 < t < 1/2. -/
def fixSinpi (t : Nat) : Nat :=
  let z := fixPi * t / fixOne
  min (series 50 true (z * z / fixOne) z (fun k => 2 * k * (2 * k + 1)) fun _ => 1) (fixOne - 1)
/-- erf of a positive value; from 6 on, 1 less the smallest step. -/
def fixErf (x : Nat) : Nat :=
  if 6 * fixOne ≤ x then fixOne - 1
  else min (series 220 true (x * x / fixOne) x id (fun k => 2 * k + 1) * 2 * fixOne / isqrt (fixPi * fixOne)) (fixOne - 1)

/-- A value p / q × 2^e with a last bit that says whether more follows. -/
def quotient (p q : Nat) (e : Int) : Num :=
  let k := Nat.log2 q + 64
  let t := p * 2 ^ k
  .fin false (2 * (t / q) + (if t % q = 0 then 0 else 1)) (e - k - 1)

/-- √(m × 2^e) in the same way. -/
def rootOf (m : Nat) (e : Int) : Num :=
  let odd := e % 2 = 1
  let m0 := if odd then 2 * m else m
  let e0 := if odd then e - 1 else e
  let t := m0 * 2 ^ 128
  let r := isqrt t
  .fin false (2 * r + (if r * r = t then 0 else 1)) (e0 / 2 - 64 - 1)

/-- 1 / √(m × 2^e), where it is not exact. -/
def rsqOf (m : Nat) (e : Int) : Num :=
  let odd := e % 2 = 1
  let m0 := if odd then 2 * m else m
  let e0 := if odd then e - 1 else e
  .fin false (2 * isqrt (2 ^ 256 / m0) + 1) (-(e0 / 2) - 128 - 1)

/-! ### The free mapping of R105 -/

/-- One interval on which a function's magnitude is monotonic in the magnitude of its input (R105): its function
code and number, whether the magnitude rises, the bound in ulp, the largest encoding, the encodings that are
results of exact inputs, the true result's magnitude by the input's, and the input at which that is least. -/
structure Curve where
  fn : Nat
  piece : Nat := 0
  up : Bool := true
  ulps : Nat := 2
  cap : Nat := 0x7F7FFFFF
  exact : Nat → Bool
  val : Nat → Num
  start : Nat := 0

/-- ulp(y) of a positive value (R105). -/
def ulpOf (y : Num) : Num := .fin false 1 (max y.log2 (-126) - 23)
def le (x y : Num) : Bool := x.lt y || x.eq y
/-- The value of an FP32 encoding. -/
def codeOf (w : Nat) : Num := valueOf 0 w

/-- y and an encoding's value differ by at most the bound (R105). -/
def Curve.near (c : Curve) (y : Num) (w : Nat) : Bool :=
  le (y.add (codeOf w).neg).abs ((ulpOf y).mul (.fin false c.ulps 0))

/-- The least encoding a result may have: within the bound, and not past an exact result (R105). -/
def Curve.low (c : Curve) (y : Num) : Nat → Nat → Nat
  | 0, w => w
  | n + 1, w => if c.exact w || w == 0 || !c.near y (w - 1) then w else c.low y n (w - 1)

/-- The largest encoding a result may have, from one that is not above y (R105). -/
def Curve.high (c : Curve) (y : Num) : Nat → Nat → Nat
  | 0, w => w
  | n + 1, w =>
      if decide (c.cap ≤ w) || !c.near y (w + 1) then w
      else if c.exact (w + 1) then w + 1 else c.high y n (w + 1)

/-- The interval's mapping has reached the encoding w at the input magnitude x: the input at which it does is
free (R105). -/
def Curve.reached (c : Curve) (x w : Nat) : Bool :=
  let at' := Config.sfu c.fn c.piece w
  if c.up then decide (at' ≤ x) else decide (x ≤ at')

/-- The largest encoding that is not above a true result. -/
def Curve.floor (c : Curve) (y : Num) : Nat :=
  match y with
  | .fin _ m e => min (roundMag (fmtOf 0) true m e) c.cap
  | _ => 0

/-- The input of the interval nearest to x whose true result is below p. -/
def Curve.before (c : Curve) (x : Nat) (p : Num) : Nat :=
  let at' := fun t => if c.up then c.start + t else c.start - t
  let d := if c.up then x - c.start else c.start - x
  at' ((List.range 31).reverse.foldl (fun t b => if t + 2 ^ b ≤ d ∧ (c.val (at' (t + 2 ^ b))).lt p then t + 2 ^ b else t) 0)

/-- The least encoding that bounds and monotonicity leave the result for an input: where the true result has just passed a
power of two, and its ulp has doubled, no less than for the last input before that (R105). -/
def Curve.least (c : Curve) (x : Nat) : Nat :=
  let y := c.val x
  let lo := c.low y 24 (c.floor y)
  let p := Num.fin false 1 y.log2
  if c.floor p ≤ lo + c.ulps then lo
  else
    let z := c.before x p
    if z = c.start then lo else max lo (c.low (c.val z) 24 (c.floor (c.val z)))

/-- The result for an input magnitude whose true result is not exact: of the encodings that the bounds allow, the largest
that the free mapping has reached; so the mapping is monotonic, and every monotonic mapping within the bounds is one of
these (R105). -/
def Curve.result (c : Curve) (x : Nat) : Word :=
  let y := c.val x
  let w := c.floor y
  let lo := c.least x
  BitVec.ofNat 32 ((List.range (c.high y 24 w - lo)).foldl (fun r j => if c.reached x (lo + 1 + j) then lo + 1 + j else r) lo)

/-- The value is exactly representable: rounding towards zero and to nearest agree with it. -/
def exactIn (y : Num) : Bool := (fp (toFp y)).eq y
/-- Encodings of a power of two, and of an integer. -/
def isPower (w : Nat) : Bool :=
  match codeOf w with
  | .fin _ m _ => decide (m = 2 ^ Nat.log2 m)
  | _ => true
def isWhole (w : Nat) : Bool :=
  match codeOf w with
  | .fin _ m e => decide (0 ≤ e ∨ m % 2 ^ (-e).toNat = 0)
  | _ => true

/-- A result with a sign; a result of zero has the sign of the true result. DESIGN CHOICE (log 102): R105's bounds do
not give it. -/
def withSign (neg : Bool) (x : Word) : Word := (x &&& 0x7FFFFFFF) ||| (if neg then 0x80000000 else 0)
/-- The magnitude of an input, as a number that rises with it. -/
def magOf (x : Word) : Nat := (x &&& 0x7FFFFFFF).toNat

/-- An input magnitude in the fixed-point form. -/
def fixAt (x : Nat) : Nat :=
  match codeOf x with
  | .fin _ m e => fixOf m e
  | _ => 0

/-- EX2 (R104, R105). -/
def sfuEx2 (x : Word) : Word :=
  match fp x with
  | .nan => 0x7FC00000
  | .inf neg => if neg then 0 else 0x7F800000
  | .fin neg m e =>
      let i := toIntMag .rz neg m e
      let n : Int := if neg then -(i : Int) else i
      if !neg && decide (128 ≤ i) then 0x7F800000
      else if (ofInt (-150) 0).lt (fp x) == false && !(fp x).eq (ofInt (-150) 0) then 0
      else if (fp x).eq (ofInt n 0) && decide (-149 ≤ n) then toFp (.fin false 1 n)
      else
        let y := fun x =>
          let v := fixAt x
          if neg then sticky (fixExp2 (fixOne - v % fixOne)) (-(v / fixOne : Nat) - 1)
          else sticky (fixExp2 (v % fixOne)) (v / fixOne : Nat)
        { fn := 0, piece := if neg then 1 else 0, up := !neg, exact := isPower, val := y
          start := if neg then 0x7F800000 else 0 : Curve }.result (magOf x)

/-- The magnitude of log2 of a value. -/
def trueLog2 (x : Nat) : Num :=
  match codeOf x with
  | .fin _ m e =>
    let top : Int := (Nat.log2 m : Int) + e
    let f := fixLog2 (m * 2 ^ (fixBits - Nat.log2 m))
    sticky (if 0 ≤ top then top.toNat * fixOne + f else (-top).toNat * fixOne - f - 1) 0
  | y => y

/-- LG2 (R104, R105). -/
def sfuLg2 (x : Word) : Word :=
  match fp x with
  | .nan => 0x7FC00000
  | .inf neg => if neg then 0x7FC00000 else 0x7F800000
  | .fin neg m e =>
      if m = 0 then 0xFF800000
      else if neg then 0x7FC00000
      else
        let top : Int := (Nat.log2 m : Int) + e
        if m = 2 ^ Nat.log2 m then toFp (ofInt top 0)
        else
          let up := decide (0 ≤ top)
          withSign (!up) ({ fn := 1, piece := if up then 0 else 1, up := up, exact := isWhole, val := trueLog2
                            start := 0x3F800000 : Curve }.result (magOf x))

/-- 1/x and 1/√x. -/
def trueRcp (x : Nat) : Num :=
  match codeOf x with
  | .fin _ m e => quotient 1 m (-e)
  | y => y
def trueRsq (x : Nat) : Num :=
  match codeOf x with
  | .fin _ m e => rsqOf m e
  | y => y

/-- RCP (R104, R105). -/
def sfuRcp (x : Word) : Word :=
  match fp x with
  | .nan => 0x7FC00000
  | .inf neg => withSign neg 0
  | .fin neg m e =>
      if m = 0 then withSign neg 0x7F800000
      else
        let y := quotient 1 m (-e)
        withSign neg (if exactIn y then toFp y
          else if le (.fin false 1 128) y then 0x7F800000
          else { fn := 2, up := false, exact := isPower, val := trueRcp, start := 0x7F800000 : Curve }.result (magOf x))

/-- RSQ (R104, R105). -/
def sfuRsq (x : Word) : Word :=
  match fp x with
  | .nan => 0x7FC00000
  | .inf neg => if neg then 0x7FC00000 else 0
  | .fin neg m e =>
      if m = 0 then withSign neg 0x7F800000
      else if neg then 0x7FC00000
      else
        let top : Int := (Nat.log2 m : Int) + e
        if m = 2 ^ Nat.log2 m ∧ top % 2 = 0 then toFp (.fin false 1 (-top / 2))
        else { fn := 3, up := false, exact := isPower, val := trueRsq, start := 0x7F800000 : Curve }.result (magOf x)

/-- √x. -/
def trueSqrt (x : Nat) : Num :=
  match codeOf x with
  | .fin _ m e => rootOf m e
  | y => y

/-- SQRT (R104, R105). -/
def sfuSqrt (x : Word) : Word :=
  match fp x with
  | .nan => 0x7FC00000
  | .inf neg => if neg then 0x7FC00000 else 0x7F800000
  | .fin neg m e =>
      if m = 0 then x
      else if neg then 0x7FC00000
      else
        let y := rootOf m e
        if exactIn y then toFp y
        else { fn := 4, exact := fun w => exactIn ((codeOf w).mul (codeOf w)), val := trueSqrt : Curve }.result (magOf x)

/-- A result between 0 and 1 of a function within 4 ulp, whose exact results there are 0, the named encoding and
1 (R105). -/
def unitCurve (fn piece : Nat) (up : Bool) (mid start : Nat) (true' : Nat → Nat) : Curve :=
  { fn := fn, piece := piece, up := up, ulps := 4, cap := 0x3F800000, exact := fun w => w == 0 || w == mid || w == 0x3F800000
    val := fun x => sticky (true' (fixAt x)) 0, start := start }

/-- The magnitude of SINPI and COSPI in the k-th interval of 1/2: SINPI's rises in the even ones (R105). -/
def sineAt (fn k : Nat) (rise : Bool) (x : Nat) : Word :=
  (unitCurve fn k rise 0 (toFp (.fin false (if rise then k else k + 1) (-1))).toNat fun v =>
    fixSinpi (if rise then v - k * (fixOne / 2) else (k + 1) * (fixOne / 2) - v)).result x

/-- SINPI (R104, R105): odd; at n + 1/2 it is ±1.0, and at an integer a zero with the sign of x. -/
def sfuSinpi (x : Word) : Word :=
  match fp x with
  | .nan | .inf _ => 0x7FC00000
  | .fin neg m e =>
      let v := fixOf m e
      let k := v / (fixOne / 2)
      let r := v % (fixOne / 2)
      if r = 0 then
        if k % 2 = 0 then withSign neg 0
        else withSign (neg != (k % 4 == 3)) 0x3F800000
      else withSign (neg != decide (2 ≤ k % 4)) (sineAt 5 k (k % 2 == 0) (magOf x))

/-- COSPI (R104, R105): even; at n + 1/2 it is +0, and at an integer ±1.0. -/
def sfuCospi (x : Word) : Word :=
  match fp x with
  | .nan | .inf _ => 0x7FC00000
  | .fin _ m e =>
      let v := fixOf m e
      let k := v / (fixOne / 2)
      let r := v % (fixOne / 2)
      if r = 0 then (if k % 2 = 1 then 0 else withSign (k % 4 == 2) 0x3F800000)
      else withSign (k % 4 == 1 || k % 4 == 2) (sineAt 6 k (k % 2 == 1) (magOf x))

/-- TANH and ERF: odd, within [-1, 1] (R104, R105). -/
def sfuOdd (fn : Nat) (true' : Nat → Nat) (x : Word) : Word :=
  match fp x with
  | .nan => 0x7FC00000
  | .inf neg => withSign neg 0x3F800000
  | .fin neg m _ =>
      if m = 0 then x
      else withSign neg ((unitCurve fn 0 true 0 0 true').result (magOf x))

def sfuTanh (x : Word) : Word :=
  sfuOdd 7 (fun v => let t := fixExpNeg (2 * v); min ((fixOne - t) * fixOne / (fixOne + t)) (fixOne - 1)) x
def sfuErf (x : Word) : Word := sfuOdd 9 fixErf x

/-- SIGM: within [+0, 1] (R104, R105). -/
def sfuSigm (x : Word) : Word :=
  match fp x with
  | .nan => 0x7FC00000
  | .inf neg => if neg then 0 else 0x3F800000
  | .fin neg m _ =>
      if m = 0 then 0x3F000000
      else
        (unitCurve 8 (if neg then 1 else 0) (!neg) 0x3F000000 (if neg then 0x7F800000 else 0) fun v =>
          let t := fixExpNeg v
          if neg then t * fixOne / (fixOne + t) else min (fixOne * fixOne / (fixOne + t)) (fixOne - 1)).result (magOf x)

end Sys2Proof.Machine
end

