-- ==== Sys2Proof/Machine/Float.lean ====
section
/-!
DEFINITION. Floating-point lane instructions: FP32 and packed BF16 (R93, R94, R98 to R100), unary operations
and conversions (R102), and the SFU (R103 to R105).
-/
namespace Sys2Proof.Machine

/-- FADD (R98). -/
def execFadd (o : SOp) (s : State) : Host.Outcome State Fault Refusal :=
  aluInstr (.fadd o) (fun I => I.lane2 o fadd) s

/-- FSUB (R98). -/
def execFsub (o : SOp) (s : State) : Host.Outcome State Fault Refusal :=
  aluInstr (.fsub o) (fun I => I.lane2 o fsub) s

/-- FMUL (R98). -/
def execFmul (o : SOp) (s : State) : Host.Outcome State Fault Refusal :=
  mulInstr (.fmul o) (fun I => I.lane2 o fmul) s

/-- FMIN (R98). -/
def execFmin (o : SOp) (s : State) : Host.Outcome State Fault Refusal :=
  aluInstr (.fmin o) (fun I => I.lane2 o fmin) s

/-- FMAX (R98). -/
def execFmax (o : SOp) (s : State) : Host.Outcome State Fault Refusal :=
  aluInstr (.fmax o) (fun I => I.lane2 o fmax) s

/-- FSEQ (R98). -/
def execFseq (o : SOp) (s : State) : Host.Outcome State Fault Refusal :=
  aluInstr (.fseq o) (fun I => I.lane2 o fseq) s

/-- FSLT (R98). -/
def execFslt (o : SOp) (s : State) : Host.Outcome State Fault Refusal :=
  aluInstr (.fslt o) (fun I => I.lane2 o fslt) s

/-- FSLE (R98). -/
def execFsle (o : SOp) (s : State) : Host.Outcome State Fault Refusal :=
  aluInstr (.fsle o) (fun I => I.lane2 o fsle) s

/-- FSUN (R98). -/
def execFsun (o : SOp) (s : State) : Host.Outcome State Fault Refusal :=
  aluInstr (.fsun o) (fun I => I.lane2 o fsun) s

/-- FCPYS (R98). -/
def execFcpys (o : SOp) (s : State) : Host.Outcome State Fault Refusal :=
  aluInstr (.fcpys o) (fun I => I.lane2 o fcpys) s

/-- BADD2 (R100). -/
def execBadd2 (o : SOp) (s : State) : Host.Outcome State Fault Refusal :=
  aluInstr (.badd2 o) (fun I => I.lane2 o badd2) s

/-- BMUL2 (R100). -/
def execBmul2 (o : SOp) (s : State) : Host.Outcome State Fault Refusal :=
  mulInstr (.bmul2 o) (fun I => I.lane2 o bmul2) s

/-- FMAC (R99). -/
def execFmac (o : SOp) (s : State) : Host.Outcome State Fault Refusal :=
  mulInstr (.fmac o) (fun I => I.lane3 o fmac) s

/-- BMAC2 (R100). -/
def execBmac2 (o : SOp) (s : State) : Host.Outcome State Fault Refusal :=
  mulInstr (.bmac2 o) (fun I => I.lane3 o bmac2) s

/-- The effect of a one-source form (R102). -/
def Issue.lane1 (I : Issue) (o : UOp) (f : Word → Word) : Eff := I.writeD o.d o.m fun i => f (I.xbar o.xa o.a i)

/-- POPC (R102). -/
def execPopc (o : UOp) (s : State) : Host.Outcome State Fault Refusal :=
  aluInstr (.popc o) (fun I => I.lane1 o popc) s

/-- CLZ (R102). -/
def execClz (o : UOp) (s : State) : Host.Outcome State Fault Refusal :=
  aluInstr (.clz o) (fun I => I.lane1 o clz) s

/-- BREV (R102). -/
def execBrev (o : UOp) (s : State) : Host.Outcome State Fault Refusal :=
  aluInstr (.brev o) (fun I => I.lane1 o brev) s

/-- IABS (R102). -/
def execIabs (o : UOp) (s : State) : Host.Outcome State Fault Refusal :=
  aluInstr (.iabs o) (fun I => I.lane1 o fun x => if x.msb then -x else x) s

/-- INEG (R102). -/
def execIneg (o : UOp) (s : State) : Host.Outcome State Fault Refusal :=
  aluInstr (.ineg o) (fun I => I.lane1 o fun x => -x) s

/-- FABS (R102). -/
def execFabs (o : UOp) (s : State) : Host.Outcome State Fault Refusal :=
  aluInstr (.fabs o) (fun I => I.lane1 o fun x => x &&& 0x7FFFFFFF) s

/-- FNEG (R102). -/
def execFneg (o : UOp) (s : State) : Host.Outcome State Fault Refusal :=
  aluInstr (.fneg o) (fun I => I.lane1 o fun x => x ^^^ 0x80000000) s

/-- FRINTRNE (R102). -/
def execFrintRne (o : UOp) (s : State) : Host.Outcome State Fault Refusal :=
  aluInstr (.frintRne o) (fun I => I.lane1 o (frint .rne)) s

/-- FRINTRZ (R102). -/
def execFrintRz (o : UOp) (s : State) : Host.Outcome State Fault Refusal :=
  aluInstr (.frintRz o) (fun I => I.lane1 o (frint .rz)) s

/-- FRINTRP (R102). -/
def execFrintRp (o : UOp) (s : State) : Host.Outcome State Fault Refusal :=
  aluInstr (.frintRp o) (fun I => I.lane1 o (frint .rp)) s

/-- FRINTRM (R102). -/
def execFrintRm (o : UOp) (s : State) : Host.Outcome State Fault Refusal :=
  aluInstr (.frintRm o) (fun I => I.lane1 o (frint .rm)) s

/-- CVTFI (R102). -/
def execCvtfi (o : UOp) (s : State) : Host.Outcome State Fault Refusal :=
  aluInstr (.cvtfi o) (fun I => I.lane1 o cvtfi) s

/-- CVTFU (R102). -/
def execCvtfu (o : UOp) (s : State) : Host.Outcome State Fault Refusal :=
  aluInstr (.cvtfu o) (fun I => I.lane1 o cvtfu) s

/-- CVTIF (R102). -/
def execCvtif (o : UOp) (s : State) : Host.Outcome State Fault Refusal :=
  aluInstr (.cvtif o) (fun I => I.lane1 o cvtif) s

/-- CVTUF (R102). -/
def execCvtuf (o : UOp) (s : State) : Host.Outcome State Fault Refusal :=
  aluInstr (.cvtuf o) (fun I => I.lane1 o cvtuf) s

/-- CVTFB (R102). -/
def execCvtfb (o : UOp) (s : State) : Host.Outcome State Fault Refusal :=
  aluInstr (.cvtfb o) (fun I => I.lane1 o cvtfb) s

/-- CVTBF (R102). -/
def execCvtbf (o : UOp) (s : State) : Host.Outcome State Fault Refusal :=
  aluInstr (.cvtbf o) (fun I => I.lane1 o cvtbf) s

/-- The effect of an SFU function: a result in every mask-on lane that lands later, counted in SFU (R103). -/
def Issue.sfu (I : Issue) (o : UOp) (f : Word → Word) : Eff :=
  I.later I.s .sfu (pendingOf o.d.toNat 1 (lanesOf (I.maskOn o.m)) fun _ i => f (I.xbar o.xa o.a i))

/-- EX2 (R104, R105). -/
def execEx2 (o : UOp) (s : State) : Host.Outcome State Fault Refusal :=
  aluInstr (.ex2 o) (fun I => I.sfu o sfuEx2) s

/-- LG2 (R104, R105). -/
def execLg2 (o : UOp) (s : State) : Host.Outcome State Fault Refusal :=
  aluInstr (.lg2 o) (fun I => I.sfu o sfuLg2) s

/-- RCP (R104, R105). -/
def execRcp (o : UOp) (s : State) : Host.Outcome State Fault Refusal :=
  aluInstr (.rcp o) (fun I => I.sfu o sfuRcp) s

/-- RSQ (R104, R105). -/
def execRsq (o : UOp) (s : State) : Host.Outcome State Fault Refusal :=
  aluInstr (.rsq o) (fun I => I.sfu o sfuRsq) s

/-- SQRT (R104, R105). -/
def execSqrt (o : UOp) (s : State) : Host.Outcome State Fault Refusal :=
  aluInstr (.sqrt o) (fun I => I.sfu o sfuSqrt) s

/-- SINPI (R104, R105). -/
def execSinpi (o : UOp) (s : State) : Host.Outcome State Fault Refusal :=
  aluInstr (.sinpi o) (fun I => I.sfu o sfuSinpi) s

/-- COSPI (R104, R105). -/
def execCospi (o : UOp) (s : State) : Host.Outcome State Fault Refusal :=
  aluInstr (.cospi o) (fun I => I.sfu o sfuCospi) s

/-- TANH (R104, R105). -/
def execTanh (o : UOp) (s : State) : Host.Outcome State Fault Refusal :=
  aluInstr (.tanh o) (fun I => I.sfu o sfuTanh) s

/-- SIGM (R104, R105). -/
def execSigm (o : UOp) (s : State) : Host.Outcome State Fault Refusal :=
  aluInstr (.sigm o) (fun I => I.sfu o sfuSigm) s

/-- ERF (R104, R105). -/
def execErf (o : UOp) (s : State) : Host.Outcome State Fault Refusal :=
  aluInstr (.erf o) (fun I => I.sfu o sfuErf) s

end Sys2Proof.Machine
end

