-- ==== Sys2Proof/Machine/Cross.lean ====
section
/-!
DEFINITION. Cross-lane instructions: SHFL, SHFLX, REDL, SCAN, VOTE, and the uniform compares (R106 to R113).
-/
namespace Sys2Proof.Machine

/-- SHFL (R106). -/
def execShfl (o : UOp) (s : State) : Host.Outcome State Fault Refusal :=
  aluInstr (.shfl o) (fun I => I.lane1 o fun x => x) s

/-- SHFLX (R107): the index is read in lane i, the value in lane j. -/
def execShflx (o : SOp) (s : State) : Host.Outcome State Fault Refusal :=
  aluInstr (.shflx o) (fun I => I.writeD o.d o.m fun i =>
    I.xbar o.xa o.a ((I.xbar o.xb o.b i).toNat % Config.width)) s

/-- What lane i contributes to a reduction or scan: its value, or the identity (R108). -/
def Issue.contrib (I : Issue) (o : UOp) (ident : Word) : List Word :=
  (List.range Config.width).map fun i => if (I.maskOn o.m).getLsbD i then I.xbar o.xa o.a i else ident

/-- One level of the tree: neighbours combined in pairs (R109). -/
def pairUp (op : Word → Word → Word) : List Word → List Word
  | x :: y :: r => op x y :: pairUp op r
  | l => l

/-- t[0] of the tree over 64 values (R109). -/
def treeReduce (op : Word → Word → Word) (t : List Word) : Word :=
  ((List.range 6).foldl (fun t _ => pairUp op t) t).headD 0

/-- One step of the scan: every lane at or above `sh` takes the value `sh` lanes below first (R110). -/
def scanStep (op : Word → Word → Word) (u : List Word) (sh : Nat) : List Word :=
  u.take sh ++ (u.zip (u.drop sh)).map fun p => op p.1 p.2

/-- The inclusive scan of 64 values (R110). -/
def treeScan (op : Word → Word → Word) (t : List Word) : List Word :=
  [1, 2, 4, 8, 16, 32].foldl (scanStep op) t

/-- The effect of REDL (R109). -/
def Issue.redl (I : Issue) (o : UOp) (op : Word → Word → Word) (ident : Word) : Eff :=
  let r := treeReduce op (I.contrib o ident)
  I.writeD o.d o.m fun _ => r

/-- The effect of an inclusive SCAN (R110). -/
def Issue.scan (I : Issue) (o : UOp) (op : Word → Word → Word) (ident : Word) : Eff :=
  let t := treeScan op (I.contrib o ident)
  I.writeD o.d o.m fun i => t.getD i ident

/-- The effect of an exclusive SCAN (R110). -/
def Issue.scanX (I : Issue) (o : UOp) (op : Word → Word → Word) (ident : Word) : Eff :=
  let t := treeScan op (I.contrib o ident)
  I.writeD o.d o.m fun i => if i = 0 then ident else t.getD (i - 1) ident

/-- REDLIADD (R108, R109). -/
def execRedlIadd (o : UOp) (s : State) : Host.Outcome State Fault Refusal :=
  aluInstr (.redlIadd o) (fun I => I.redl o (fun p q => p + q) 0) s

/-- REDLFADD (R108, R109). -/
def execRedlFadd (o : UOp) (s : State) : Host.Outcome State Fault Refusal :=
  aluInstr (.redlFadd o) (fun I => I.redl o fadd 0x80000000) s

/-- REDLIMAX (R108, R109). -/
def execRedlImax (o : UOp) (s : State) : Host.Outcome State Fault Refusal :=
  aluInstr (.redlImax o) (fun I => I.redl o sMax 0x80000000) s

/-- REDLIMIN (R108, R109). -/
def execRedlImin (o : UOp) (s : State) : Host.Outcome State Fault Refusal :=
  aluInstr (.redlImin o) (fun I => I.redl o sMin 0x7FFFFFFF) s

/-- REDLFMAX (R108, R109). -/
def execRedlFmax (o : UOp) (s : State) : Host.Outcome State Fault Refusal :=
  aluInstr (.redlFmax o) (fun I => I.redl o fmax 0x7FC00000) s

/-- REDLFMIN (R108, R109). -/
def execRedlFmin (o : UOp) (s : State) : Host.Outcome State Fault Refusal :=
  aluInstr (.redlFmin o) (fun I => I.redl o fmin 0x7FC00000) s

/-- REDLAND (R108, R109). -/
def execRedlAnd (o : UOp) (s : State) : Host.Outcome State Fault Refusal :=
  aluInstr (.redlAnd o) (fun I => I.redl o (fun p q => p &&& q) 0xFFFFFFFF) s

/-- REDLOR (R108, R109). -/
def execRedlOr (o : UOp) (s : State) : Host.Outcome State Fault Refusal :=
  aluInstr (.redlOr o) (fun I => I.redl o (fun p q => p ||| q) 0) s

/-- REDLXOR (R108, R109). -/
def execRedlXor (o : UOp) (s : State) : Host.Outcome State Fault Refusal :=
  aluInstr (.redlXor o) (fun I => I.redl o (fun p q => p ^^^ q) 0) s

/-- SCANIADD (R108, R110). -/
def execScanIadd (o : UOp) (s : State) : Host.Outcome State Fault Refusal :=
  aluInstr (.scanIadd o) (fun I => I.scan o (fun p q => p + q) 0) s

/-- SCANFADD (R108, R110). -/
def execScanFadd (o : UOp) (s : State) : Host.Outcome State Fault Refusal :=
  aluInstr (.scanFadd o) (fun I => I.scan o fadd 0x80000000) s

/-- SCANIMAX (R108, R110). -/
def execScanImax (o : UOp) (s : State) : Host.Outcome State Fault Refusal :=
  aluInstr (.scanImax o) (fun I => I.scan o sMax 0x80000000) s

/-- SCANIMIN (R108, R110). -/
def execScanImin (o : UOp) (s : State) : Host.Outcome State Fault Refusal :=
  aluInstr (.scanImin o) (fun I => I.scan o sMin 0x7FFFFFFF) s

/-- SCANFMAX (R108, R110). -/
def execScanFmax (o : UOp) (s : State) : Host.Outcome State Fault Refusal :=
  aluInstr (.scanFmax o) (fun I => I.scan o fmax 0x7FC00000) s

/-- SCANFMIN (R108, R110). -/
def execScanFmin (o : UOp) (s : State) : Host.Outcome State Fault Refusal :=
  aluInstr (.scanFmin o) (fun I => I.scan o fmin 0x7FC00000) s

/-- SCANAND (R108, R110). -/
def execScanAnd (o : UOp) (s : State) : Host.Outcome State Fault Refusal :=
  aluInstr (.scanAnd o) (fun I => I.scan o (fun p q => p &&& q) 0xFFFFFFFF) s

/-- SCANOR (R108, R110). -/
def execScanOr (o : UOp) (s : State) : Host.Outcome State Fault Refusal :=
  aluInstr (.scanOr o) (fun I => I.scan o (fun p q => p ||| q) 0) s

/-- SCANXOR (R108, R110). -/
def execScanXor (o : UOp) (s : State) : Host.Outcome State Fault Refusal :=
  aluInstr (.scanXor o) (fun I => I.scan o (fun p q => p ^^^ q) 0) s

/-- SCANXIADD (R108, R110). -/
def execScanXIadd (o : UOp) (s : State) : Host.Outcome State Fault Refusal :=
  aluInstr (.scanXIadd o) (fun I => I.scanX o (fun p q => p + q) 0) s

/-- SCANXFADD (R108, R110). -/
def execScanXFadd (o : UOp) (s : State) : Host.Outcome State Fault Refusal :=
  aluInstr (.scanXFadd o) (fun I => I.scanX o fadd 0x80000000) s

/-- SCANXIMAX (R108, R110). -/
def execScanXImax (o : UOp) (s : State) : Host.Outcome State Fault Refusal :=
  aluInstr (.scanXImax o) (fun I => I.scanX o sMax 0x80000000) s

/-- SCANXIMIN (R108, R110). -/
def execScanXImin (o : UOp) (s : State) : Host.Outcome State Fault Refusal :=
  aluInstr (.scanXImin o) (fun I => I.scanX o sMin 0x7FFFFFFF) s

/-- SCANXFMAX (R108, R110). -/
def execScanXFmax (o : UOp) (s : State) : Host.Outcome State Fault Refusal :=
  aluInstr (.scanXFmax o) (fun I => I.scanX o fmax 0x7FC00000) s

/-- SCANXFMIN (R108, R110). -/
def execScanXFmin (o : UOp) (s : State) : Host.Outcome State Fault Refusal :=
  aluInstr (.scanXFmin o) (fun I => I.scanX o fmin 0x7FC00000) s

/-- SCANXAND (R108, R110). -/
def execScanXAnd (o : UOp) (s : State) : Host.Outcome State Fault Refusal :=
  aluInstr (.scanXAnd o) (fun I => I.scanX o (fun p q => p &&& q) 0xFFFFFFFF) s

/-- SCANXOR (R108, R110). -/
def execScanXOr (o : UOp) (s : State) : Host.Outcome State Fault Refusal :=
  aluInstr (.scanXOr o) (fun I => I.scanX o (fun p q => p ||| q) 0) s

/-- SCANXXOR (R108, R110). -/
def execScanXXor (o : UOp) (s : State) : Host.Outcome State Fault Refusal :=
  aluInstr (.scanXXor o) (fun I => I.scanX o (fun p q => p ^^^ q) 0) s

/-- The mask-on lanes where VOTE's predicate holds (R111). -/
def Issue.votes (I : Issue) (o : UOp) : LaneSet :=
  I.maskOn o.m &&& laneSet (fun i => I.xbar o.xa o.a i != 0)

/-- VOTE.ANY (R111). -/
def execVoteAny (o : UOp) (s : State) : Host.Outcome State Fault Refusal :=
  aluInstr (.voteAny o) (fun I =>
    if I.maskOn o.m == 0 then .done I.s else .done (I.s.setGroup (I.g.setZ I.sp.label (I.votes o != 0)))) s

/-- VOTE.ALL (R111). -/
def execVoteAll (o : UOp) (s : State) : Host.Outcome State Fault Refusal :=
  aluInstr (.voteAll o) (fun I =>
    if I.maskOn o.m == 0 then .done I.s else .done (I.s.setGroup (I.g.setZ I.sp.label (I.votes o == I.maskOn o.m)))) s

/-- VOTE.COUNT (R111). -/
def execVoteCount (o : UOp) (s : State) : Host.Outcome State Fault Refusal :=
  aluInstr (.voteCount o) (fun I => I.writeD o.d o.m fun _ => BitVec.ofNat 32 (laneCount (I.votes o))) s

/-- VOTE.FIRST (R111). -/
def execVoteFirst (o : UOp) (s : State) : Host.Outcome State Fault Refusal :=
  aluInstr (.voteFirst o) (fun I => I.writeD o.d o.m fun _ =>
    match lowest (I.votes o) with
    | some i => BitVec.ofNat 32 i
    | none => 0xFFFFFFFF) s

/-- VOTE.BALLOT (R111): on this part the segment is the whole group. -/
def execVoteBallot (o : UOp) (s : State) : Host.Outcome State Fault Refusal :=
  aluInstr (.voteBallot o) (fun I => I.writePair o.d o.m fun _ => I.votes o) s

/-- The effect of a uniform compare: flags from the lowest mask-on lane's values (R112). -/
def Issue.compare (I : Issue) (o : SOp) (f : Flags → Word → Word → Flags) : Eff :=
  match lowest (I.maskOn o.m) with
  | none => .done I.s
  | some u => .done (I.s.setGroup (I.g.setCc I.sp.label
      (f (flagsOf I.sp.cc) (I.xbar o.xa o.a u) (I.xbar o.xb o.b u)).cc))

/-- UCMP (R112, R113). -/
def execUcmp (o : SOp) (s : State) : Host.Outcome State Fault Refusal :=
  aluInstr (.ucmp o) (fun I => I.compare o ucmpFlags) s

/-- UFCMP (R112, R113). -/
def execUfcmp (o : SOp) (s : State) : Host.Outcome State Fault Refusal :=
  aluInstr (.ufcmp o) (fun I => I.compare o ufcmpFlags) s

end Sys2Proof.Machine
end

