-- ==== Sys2Proof/Machine/LongImm.lean ====
section
/-!
DEFINITION. Long immediate instructions (R118, R119), block conversions CVTQ, CVTX and AMAXB (R120 to R122),
PACK and UNPACK (R123).
-/
namespace Sys2Proof.Machine

/-- The effect of a long-immediate form (R119). -/
def Issue.laneL (I : Issue) (o : L3Op) (f : Word → Word) : Eff := I.writeD o.d o.m fun i => f (I.xbar o.xa o.a i)

/-- LDI (R119). -/
def execLdi (o : L3Op) (s : State) : Host.Outcome State Fault Refusal :=
  aluInstr (.ldi o) (fun I => I.laneL o fun _ => o.imm) s

/-- IADDL (R119). -/
def execIaddl (o : L3Op) (s : State) : Host.Outcome State Fault Refusal :=
  aluInstr (.iaddl o) (fun I => I.laneL o fun x => x + o.imm) s

/-- ANDL (R119). -/
def execAndl (o : L3Op) (s : State) : Host.Outcome State Fault Refusal :=
  aluInstr (.andl o) (fun I => I.laneL o fun x => x &&& o.imm) s

/-- ORL (R119). -/
def execOrl (o : L3Op) (s : State) : Host.Outcome State Fault Refusal :=
  aluInstr (.orl o) (fun I => I.laneL o fun x => x ||| o.imm) s

/-- XORL (R119). -/
def execXorl (o : L3Op) (s : State) : Host.Outcome State Fault Refusal :=
  aluInstr (.xorl o) (fun I => I.laneL o fun x => x ^^^ o.imm) s

/-- FMAL (R119). -/
def execFmal (o : L3Op) (s : State) : Host.Outcome State Fault Refusal :=
  mulInstr (.fmal o) (fun I => I.writeD o.d o.m fun i => fmac (I.g.read o.d.toNat i) (I.xbar o.xa o.a i) o.imm) s

/-- LEA (R119). -/
def execLea (o : L3Op) (s : State) : Host.Outcome State Fault Refusal :=
  aluInstr (.lea o) (fun I => I.writePair o.d o.m fun i => I.xpair o.xa o.a i + simm o.imm) s

/-- The slot word a launch binds to index f (R58, R253). -/
def Issue.slot (I : Issue) (f : Nat) : Word := I.t.slots.getD f 0

/-- The 32 inputs of the block that holds lane i: mask-on lanes' values, +0 elsewhere (R120). -/
def Issue.blockInputs (I : Issue) (o : L3Op) (i : Nat) : List Num :=
  (List.range 32).map fun j =>
    let l := i / 32 * 32 + j
    if (I.maskOn o.m).getLsbD l then fp (I.xbar o.xa o.a l) else .fin false 0 0

/-- FORMAT_SLOT where the named slot is not valid for its role: before any operand is waited for (R60). -/
def Issue.slotCheck (o : L3Op) (ok : Word → Bool) (I : Issue) : Option Byte :=
  if ok (I.slot o.imm.toNat) then none else some FORMAT_SLOT

/-- A conversion that names a format slot (R60, R120 to R122). -/
def slotInstr (i : Instr) (o : L3Op) (ok : Word → Bool) (body : Issue → Eff) (s : State) : Host.Outcome State Fault Refusal :=
  runInstr i (prologue i never never (withChecks (Issue.slotCheck o ok) (withWaits i body))) s

/-- The effect of CVTQ (R120). -/
def Issue.cvtq (I : Issue) (o : L3Op) : Eff :=
  let f := I.slot o.imm.toNat
  let c := slotElem f
  if decide (c ≤ 2) || slotScale f == 0 then
    I.writeD o.d o.m fun i => BitVec.ofNat 32 (round c (slotRz f) (slotSat f) (fp (I.xbar o.xa o.a i)))
  else
    let b0 := quantise c (slotRz f) (slotSat f) (I.blockInputs o 0)
    let b1 := quantise c (slotRz f) (slotSat f) (I.blockInputs o 32)
    I.writeD o.d o.m fun i =>
      let b := if i < 32 then b0 else b1
      BitVec.ofNat 32 (b.codes.getD (i % 32) 0 + 256 * b.scale + 65536 * b.special)

/-- The value CVTX gives a lane before rounding (R121). -/
def expandLane (f a : Word) : Num :=
  let c := slotElem f
  if c ≤ 2 then valueOf c (loHalf a).toNat
  else if slotScale f == 1 then
    blockValue c (a.extractLsb' 8 8).toNat (a.extractLsb' 16 8).toNat (a.extractLsb' 0 8).toNat
  else elemValue c (a.extractLsb' 16 8).toNat (a.extractLsb' 0 8).toNat

/-- The effect of CVTX (R121). -/
def Issue.cvtx (I : Issue) (o : L3Op) : Eff :=
  let f := I.slot o.imm.toNat
  I.laneL o fun a => BitVec.ofNat 32 (round 0 (slotRz f) false (expandLane f a))

/-- The effect of AMAXB (R122): magnitude and scale of the lane's block. -/
def Issue.amaxb (I : Issue) (o : L3Op) : Eff :=
  let f := I.slot o.imm.toNat
  let c := slotElem f
  let word := fun (xs : List Num) =>
    pair (toFp (amax xs)) (BitVec.ofNat 32 (quantise c (slotRz f) (slotSat f) xs).scale)
  let b0 := word (I.blockInputs o 0)
  let b1 := word (I.blockInputs o 32)
  I.writePair o.d o.m fun i => if i < 32 then b0 else b1

/-- Bits of a code by PACK's and UNPACK's width field (R123). -/
def packWidth (imm : Word) : Nat :=
  match imm.toNat with
  | 0 => 4
  | 1 => 6
  | 2 => 8
  | _ => 16

/-- A little-endian bit string of values of w bits each, first lowest (R123). -/
def bitString (w : Nat) : List Nat → Nat
  | [] => 0
  | x :: r => x % 2 ^ w + 2 ^ w * bitString w r

/-- The effect of PACK (R123): every lane gives a code, whatever its mask. -/
def Issue.pack (I : Issue) (o : L3Op) : Eff :=
  let w := packWidth o.imm
  let stream := bitString w ((List.range Config.width).map fun j => (I.xbar o.xa o.a j).toNat)
  I.writeD o.d o.m fun i => if i < Config.width * w / 32 then BitVec.ofNat 32 (bits stream (32 * i) 32) else 0

/-- The effect of UNPACK (R123). -/
def Issue.unpack (I : Issue) (o : L3Op) : Eff :=
  let w := packWidth o.imm
  let stream := bitString 32 ((List.range (Config.width * w / 32)).map fun j => (I.xbar o.xa o.a j).toNat)
  I.writeD o.d o.m fun i => BitVec.ofNat 32 (bits stream (w * i) w)

/-- CVTQ (R120). -/
def execCvtq (o : L3Op) (s : State) : Host.Outcome State Fault Refusal :=
  slotInstr (.cvtq o) o slotNarrow (fun I => I.cvtq o) s

/-- CVTX (R121). -/
def execCvtx (o : L3Op) (s : State) : Host.Outcome State Fault Refusal :=
  slotInstr (.cvtx o) o slotNarrow (fun I => I.cvtx o) s

/-- AMAXB (R122). -/
def execAmaxb (o : L3Op) (s : State) : Host.Outcome State Fault Refusal :=
  slotInstr (.amaxb o) o slotBlocked (fun I => I.amaxb o) s

/-- PACK (R123). -/
def execPack (o : L3Op) (s : State) : Host.Outcome State Fault Refusal :=
  aluInstr (.pack o) (fun I => I.pack o) s

/-- UNPACK (R123). -/
def execUnpack (o : L3Op) (s : State) : Host.Outcome State Fault Refusal :=
  aluInstr (.unpack o) (fun I => I.unpack o) s

end Sys2Proof.Machine
end

