-- ==== Sys2Proof/Machine/Grid.lean ====
section
/-!
DEFINITION. The grid map: linear indices and coordinates, packed coordinates, this device's own coordinate
(R299, R300).
-/
namespace Sys2Proof.Machine

/-- The coordinate of a linear index over axis sizes, axis 0 first (R299). -/
def coordOf : List Nat → Nat → List Nat
  | [], _ => []
  | s :: r, k => k % s :: coordOf r (k / s)

/-- The linear index of a coordinate (R299). -/
def linearOf : List Nat → List Nat → Nat
  | s :: r, c :: cs => c + s * linearOf r cs
  | _, _ => 0

/-- The product of the axis sizes. -/
def GridMap.count (m : GridMap) : Nat := m.sizes.foldl (· * ·) 1

/-- The linear index of this device's own coordinate (R300). -/
def GridMap.own (m : GridMap) (dev : Nat) : Nat := (m.entries.findIdx? (fun e => e.1 == dev)).getD 0

/-- A packed coordinate: axis a in bits [7a + 6 : 7a] (R300). -/
def packCoord : List Nat → Nat
  | [] => 0
  | c :: r => c % 128 + 128 * packCoord r

/-- The coordinate that a packed coordinate holds (R300). -/
def unpackCoord (v : Nat) : List Nat := (List.range 5).map fun a => bits v (7 * a) 7

/-- This device's coordinate in a context's map. -/
def Issue.ownCoord (I : Issue) : List Nat := coordOf I.c.map.sizes (I.c.map.own I.s.dev.index)

end Sys2Proof.Machine
end

