-- ==== Sys2Proof/Machine/Csr.lean ====
section
/-!
DEFINITION. Control and status registers: CSRR, CSRW, CSRMV, SETX, CLOCK and BUDGET (R35, R36, R70, R71, R114
to R117, R174, R271, R275).
-/
namespace Sys2Proof.Machine

/-- CSR numbers (R35). -/
abbrev csrCC : Nat := 0x10
abbrev csrMODE : Nat := 0x11
abbrev csrCLASS : Nat := 0x12
abbrev csrXSET : Nat := 0x14
abbrev csrLINEAGE : Nat := 0x15
abbrev csrMTHRESH : Nat := 0x16
abbrev csrTRAPCAUSE : Nat := 0x20
abbrev csrTRAPADDR : Nat := 0x21
abbrev csrEPC : Nat := 0x22
abbrev csrESTATE : Nat := 0x23

/-- The energy budget of a context on a core; the refill where it has had no team there (R267). -/
def Context.budget (c : Context) (core : Nat) : Int :=
  match c.budgets.find? (fun b => b.1 == core) with
  | some b => b.2
  | none => c.refill

/-- The units added at each refill, under the scale in force (R267, R364). -/
def refillUnits (c : Context) (scale : Nat) : Nat := c.refill * scale / 65536

/-- The 64-bit value of a CSR in lane i; a 32-bit CSR stands in the low word (R35, R72, R114). -/
def Issue.csr (I : Issue) (n i : Nat) : Addr :=
  match n with
  | 0x00 => BitVec.ofNat 64 Config.width
  | 0x01 => BitVec.ofNat 64 i
  | 0x02 => BitVec.ofNat 64 I.g.index
  | 0x03 => BitVec.ofNat 64 I.t.index
  | 0x04 => BitVec.ofNat 64 (((I.s.cluster I.t.cluster).map Cluster.index).getD 0)
  | 0x05 => BitVec.ofNat 64 I.t.place.core
  | 0x06 => BitVec.ofNat 64 I.t.place.die
  | 0x07 => BitVec.ofNat 64 I.s.dev.index
  | 0x08 => BitVec.ofNat 64 (I.ownCoord.getD 0 0)
  | 0x09 => BitVec.ofNat 64 (I.ownCoord.getD 1 0)
  | 0x0A => BitVec.ofNat 64 (I.ownCoord.getD 2 0)
  | 0x0B => BitVec.ofNat 64 (I.ownCoord.getD 3 0)
  | 0x0C => BitVec.ofNat 64 (I.ownCoord.getD 4 0)
  | 0x10 => I.sp.cc.setWidth 64
  | 0x11 => I.g.mode.setWidth 64
  | 0x12 => I.g.cls.setWidth 64
  | 0x13 => BitVec.ofInt 64 (I.c.budget (coreIdx I.t.place))
  | 0x14 => I.g.xset
  | 0x15 => I.g.lineage
  | 0x16 => I.g.mthresh.setWidth 64
  | 0x20 => I.g.trapCause.setWidth 64
  | 0x21 => I.g.trapAddr
  | 0x22 => I.g.epc
  | 0x23 => I.g.estate.setWidth 64
  | _ => 0

/-- CSRR (R114). -/
def execCsrr (o : SOp) (s : State) : Host.Outcome State Fault Refusal :=
  aluInstr (.csrr o) (fun I =>
    if csr64 o.a then I.writePair o.d o.m fun i => I.csr o.a.toNat i
    else I.writeD o.d o.m fun i => lo32 (I.csr o.a.toNat i)) s

/-- The number a CSRW stores in MTHRESH: clamped to 1 to 64 (R115). -/
def clampThresh (x : Word) : Word := if x = 0 then 1 else if x ≤ 64 then x else 64

/-- CSRs that CSRW may write only in a handler (R35, R271). -/
def csrHandlerOnly (n : Nat) : Bool := n == csrMODE || n == csrCLASS || n == csrTRAPCAUSE || n == csrESTATE
/-- CSRs that any code may write (R35). -/
def csrFree (n : Nat) : Bool := n == csrCC || n == csrMTHRESH

/-- The bits of a CSR value that exist; reserved bits read as zero and ignore writes (R5, R174). -/
def modeBits (x : Word) : Word := x &&& 0x00037F01

/-- The effect of CSRW with value x (R115, R271, R174, R270). -/
def Issue.csrWrite (I : Issue) (n : Nat) (x : Word) : Eff :=
  if n = csrCC then .done (I.s.setGroup (I.g.setCc I.sp.label (x.extractLsb' 0 5)))
  else if n = csrMTHRESH then .done (I.s.setGroup { I.g with mthresh := clampThresh x })
  else if n = csrMODE then (if modeBits x == I.g.mode then .done I.s else I.trap MATRIX_STATE)
  else if n = csrCLASS then
    .done (I.s.setGroup { I.g with cls := BitVec.ofNat 2 (min (x.extractLsb' 0 2).toNat I.c.ceiling) })
  else if n = csrTRAPCAUSE then .done (I.s.setGroup { I.g with trapCause := x.extractLsb' 0 8 })
  else if n = csrESTATE then
    .done (I.s.setGroup { I.g with dropClaim := I.g.claim.isSome && !x.getLsbD 30 })
  else .done I.s

/-- CSRW (R115, R271). -/
def execCsrw (o : SOp) (s : State) : Host.Outcome State Fault Refusal :=
  runInstr (.csrw o) (prologue (.csrw o) never
    (fun I => !csrFree o.d.toNat && !(csrHandlerOnly o.d.toNat && I.g.handling))
    (withWaits (.csrw o) fun I => I.csrWrite o.d.toNat (I.xbar o.xa o.a (I.laneU o.m)))) s

/-- CSRMV's number (R275). -/
def csrNum (o : SysOp) : Nat := (o.f.extractLsb' 16 7).toNat

/-- CSRMV, read (R275). -/
def execCsrmvRead (o : SysOp) (s : State) : Host.Outcome State Fault Refusal :=
  runInstr (.csrmvRead o) (prologue (.csrmvRead o) never (fun I => !I.g.handling)
    (withWaits (.csrmvRead o) fun I => I.writePair o.w.d o.w.m fun i => I.csr (csrNum o) i)) s

/-- All three presets of an XSET value meet SETX's checks, and its reserved bits are zero (R71, R275). -/
def xsetOk (v : Addr) : Bool :=
  v.extractLsb' 48 16 == 0 && presetOk (v.extractLsb' 0 16) && presetOk (v.extractLsb' 16 16) &&
    presetOk (v.extractLsb' 32 16)

/-- The pair that CSRMV writes: from the lowest mask-on lane (R275). -/
def Issue.csrmvValue (I : Issue) (o : SysOp) : Addr := I.xpair o.w.xa o.w.a (I.laneU o.w.m)

/-- The effect of CSRMV to a CSR (R275). -/
def Issue.csrmvWrite (I : Issue) (n : Nat) (v : Addr) : Eff :=
  if n = csrXSET then .done (I.s.setGroup { I.g with xset := v })
  else if n = csrLINEAGE then .done (I.s.setGroup { I.g with lineage := v })
  else if n = csrTRAPADDR then .done (I.s.setGroup { I.g with trapAddr := v })
  else if n = csrEPC then .done (I.s.setGroup { I.g with epc := v })
  else .done I.s

/-- CSRMV, write (R275). -/
def execCsrmvWrite (o : SysOp) (s : State) : Host.Outcome State Fault Refusal :=
  runInstr (.csrmvWrite o) (prologue (.csrmvWrite o) never (fun I => !I.g.handling)
    (withWaits (.csrmvWrite o) fun I =>
      if csrNum o == csrXSET && !xsetOk (I.csrmvValue o) then I.trap ILLEGAL_ENCODING
      else I.csrmvWrite (csrNum o) (I.csrmvValue o))) s

/-- XSET with preset n, from 1 to 3, replaced (R70, R71). -/
def setPreset (x : BitVec 64) (n : Nat) (p : BitVec 16) : BitVec 64 :=
  let sh := 16 * (n - 1)
  (x &&& ~~~((0xFFFF : BitVec 64) <<< sh)) ||| (p.setWidth 64 <<< sh)

/-- SETX (R71). -/
def execSetx (o : SysOp) (s : State) : Host.Outcome State Fault Refusal :=
  aluInstr (.setx o) (fun I => .done (I.s.setGroup
    { I.g with xset := setPreset I.g.xset (o.f.extractLsb' 22 2).toNat (o.f.extractLsb' 0 16) })) s

/-- CLOCK (R116): the die's cycle count. -/
def execClock (o : SysOp) (s : State) : Host.Outcome State Fault Refusal :=
  aluInstr (.clock o) (fun I => I.writePair o.w.d o.w.m fun _ => BitVec.ofNat 64 I.s.cycle) s

/-- BUDGET (R117): the budget after this instruction's debit, and the refill. -/
def execBudget (o : SysOp) (s : State) : Host.Outcome State Fault Refusal :=
  aluInstr (.budget o) (fun I =>
    let b := BitVec.ofInt 32 (I.c.budget (coreIdx I.t.place))
    let r := BitVec.ofNat 32 (refillUnits I.c I.s.dev.scale)
    I.writePair o.w.d o.w.m fun _ => pair b r) s

end Sys2Proof.Machine
end

