-- ==== Sys2Proof/Machine/Page.lean ====
section
/-!
DEFINITION. Pages: page table entries, the four-level walk, translation through the TLBs, permission, the page
life cycle as an access meets it, bytes of memory, the L1 and the L2 (R125 to R138, R266, R377).
-/
namespace Sys2Proof.Machine

/-! ### Page table entries and the walk -/

def pteV (e : Addr) : Bool := e.getLsbD 0
def pteW (e : Addr) : Bool := e.getLsbD 1
def pteX (e : Addr) : Bool := e.getLsbD 2
def pteCell (e : Addr) : Bool := e.getLsbD 3
def pteType (e : Addr) : Nat := (e.extractLsb' 4 2).toNat
def pteKey (e : Addr) : Nat := (e.extractLsb' 52 9).toNat
def pteML (e : Addr) : Bool := e.getLsbD 61
/-- The physical address an entry holds (R127). -/
def pteAddr (e : Addr) : Nat := 256 * (e.extractLsb' 8 44).toNat

/-- An entry that ends no walk by itself: valid, no reserved bit, a memory type, CELL only when cached (R129). -/
def pteOk (e : Addr) : Bool :=
  pteV e && e.extractLsb' 62 2 == 0 && e.extractLsb' 6 2 == 0 && pteType e != 3 && (!pteCell e || pteType e == 0)

/-- A leaf at level 1 or 2 (R128). -/
def pteLeaf (e : Addr) : Bool := pteW e || pteX e

/-- Entry `i` of a table (R127). -/
def pteAt (m : Memory) (table i : Nat) : Addr := BitVec.ofNat 64 (ofLe (lookups 0 m.bytes (table + 8 * i) 8))

/-- A translation: the leaf entry, and the base and size of its page in virtual addresses. -/
structure Leaf where
  entry : Addr
  base : Nat
  size : Nat
  deriving DecidableEq, Repr

/-- The leaf accepted: its address aligned to the page, memory present under it (R129). -/
def mkLeaf (e : Addr) (va size : Nat) : Option Leaf :=
  if pteAddr e % size != 0 then none
  else if pteType e ≤ 1 && decide (Config.memBytes < pteAddr e + size) then none
  else some ⟨e, va / size * size, size⟩

/-- The addresses of the table entries that the walk of a virtual address below 2^56 reads, from the root down (R128,
R129). -/
def walkEntries (m : Memory) (root va : Nat) : List Nat :=
  let a3 := root + 8 * (va / 2 ^ 43 % 8192)
  let e3 := pteAt m root (va / 2 ^ 43 % 8192)
  if !pteOk e3 || pteLeaf e3 || pteAddr e3 % 65536 != 0 then [a3]
  else
    let a2 := pteAddr e3 + 8 * (va / 2 ^ 30 % 8192)
    let e2 := pteAt m (pteAddr e3) (va / 2 ^ 30 % 8192)
    if !pteOk e2 || pteLeaf e2 || pteAddr e2 % 4096 != 0 then [a3, a2]
    else
      let a1 := pteAddr e2 + 8 * (va / 2 ^ 21 % 512)
      let e1 := pteAt m (pteAddr e2) (va / 2 ^ 21 % 512)
      if !pteOk e1 || pteLeaf e1 then [a3, a2, a1]
      else [a3, a2, a1, pteAddr e1 + 8 * (va / 2 ^ 16 % 32)]

/-- The walk of a virtual address below 2^56 (R128, R129); none is TRANSLATION. -/
def walk (m : Memory) (root va : Nat) : Option Leaf :=
  let e3 := pteAt m root (va / 2 ^ 43 % 8192)
  if !pteOk e3 || pteLeaf e3 || pteAddr e3 % 65536 != 0 then none
  else
    let e2 := pteAt m (pteAddr e3) (va / 2 ^ 30 % 8192)
    if !pteOk e2 then none
    else if pteLeaf e2 then mkLeaf e2 va (2 ^ 30)
    else if pteAddr e2 % 4096 != 0 then none
    else
      let e1 := pteAt m (pteAddr e2) (va / 2 ^ 21 % 512)
      if !pteOk e1 then none
      else if pteLeaf e1 then mkLeaf e1 va (2 ^ 21)
      else
        let e0 := pteAt m (pteAddr e1) (va / 2 ^ 16 % 32)
        if !pteOk e0 then none else mkLeaf e0 va (2 ^ 16)

/-! ### Translation -/

/-- The state of a function of the device (R357); RESET where none is listed. -/
def Device.fnState (d : Device) (f : FnUnit) : FnState := ((d.functions.find? fun e => e.1 == f).map Prod.snd).getD .reset

/-- The management core serves BAR 0, or recovery does (R357, R361). -/
def Device.serves (d : Device) : Bool := d.recovery || d.fnState .mgmt == .ready

/-- The management core runs verified firmware: before that no other function leaves RESET (R357, R361, R364). -/
def Device.full (d : Device) : Bool := !d.recovery && d.fnState .mgmt == .ready

/-- The stack of a physical address is ready (R357, R377). -/
def State.stackReady (s : State) (pa : Nat) : Bool := s.dev.fnState (.stack (Config.stackOf pa)) == .ready

/-- A unit is poisoned (R138). -/
def Memory.poisoned (m : Memory) (u : Nat) : Bool := m.poison.contains u

/-- A unit that the memory's errors hide: its stack is not ready, or it is poisoned (R138, R357). -/
def State.unitBad (s : State) (u : Nat) : Bool := !s.stackReady (64 * u) || s.mem.poisoned u

/-- The first unit that a walk reads and the memory's errors hide (R129, R138, R377). R129 has no condition for a table
pointer at or above 576 GiB: there the walk meets a stack that is not there, and so one that is not ready (log 59). -/
def State.walkBad (s : State) (root va : Nat) : Option Nat :=
  ((walkEntries s.mem root va).map (· / 64)).find? (s.unitBad ·)

/-- A translation that a TLB of the requester's die holds for an address (R131). -/
def State.tlbHit (s : State) (die core ctx va : Nat) : Option Tlb :=
  s.mem.tlbs.find? fun t => t.die == die && t.ctx == ctx && (t.core == none || t.core == some core) &&
    decide (t.base ≤ va) && decide (va < t.base + t.size)

/-- What a walk or a TLB gives for an address: the leaf, none, or a table word that cannot be read (R129, R138). -/
inductive Walked where
  | leaf (l : Leaf)
  | none
  | unreadable
  deriving DecidableEq, Repr

/-- What the walk gives now; an entry that the memory's errors hide gives nothing of itself (R129, R138, R377). -/
def State.walkNow (s : State) (root va : Nat) : Walked :=
  if (s.walkBad root va).isSome then .unreadable
  else match walk s.mem root va with
    | some l => .leaf l
    | none => .none

/-- A translation walks the tables: no TLB of the requester holds the address, or the entry has changed since and the new
one is used (R131, R132). -/
def State.walks (s : State) (die core ctx root va : Nat) : Bool :=
  match s.tlbHit die core ctx va with
  | none => true
  | some t => s.walkNow root va != .leaf ⟨t.leaf, t.base, t.size⟩ && !Config.tlbOld s.free va

/-- What a translation uses: the walk's leaf, or the entry a TLB holds where that differs (R132). -/
def State.leafOf (s : State) (die core ctx root va : Nat) : Walked :=
  match s.tlbHit die core ctx va with
  | none => s.walkNow root va
  | some t => if s.walks die core ctx root va then s.walkNow root va else .leaf ⟨t.leaf, t.base, t.size⟩

/-- The state of a page being moved or invalidated, if the address lies in one (R133). -/
def State.pageLife (s : State) (ctx va : Nat) : Option PageState :=
  (s.mem.pages.find? fun p => p.ctx == ctx && decide (p.base ≤ va) && decide (va < p.base + p.size)).map PageLife.st

/-- A translated byte: its physical or bus address and its page. -/
structure Place where
  pa : Nat
  leaf : Leaf
  /-- the key that the page's KEY names -/
  key : List Byte := []
  deriving DecidableEq, Repr

def Place.host (p : Place) : Bool := pteType p.leaf.entry == 2
def Place.cached (p : Place) : Bool := pteType p.leaf.entry == 0
def Place.cell (p : Place) : Bool := pteCell p.leaf.entry

/-- How an access uses a page (R130). -/
inductive Use where
  /-- a load or another read -/
  | read
  /-- a store or another write -/
  | write
  /-- an atomic, RED, STC or cell instruction -/
  | update
  /-- a header or instruction fetch -/
  | fetch
  /-- a tile fetch -/
  | tile
  /-- CELLQ, which needs only translation (R218) -/
  | query
  deriving DecidableEq, Repr

def Use.writes (u : Use) : Bool := u == .write || u == .update

/-- Permission of an access (R130, R266): W, X, TYPE cached, and a key of the context. -/
def permitted (c : Context) (u : Use) (e : Addr) : Bool :=
  (!u.writes || pteW e) && (u != .fetch || pteX e) && ((u != .update && u != .tile) || pteType e == 0) &&
    (pteKey e == c.key || c.shared.contains (pteKey e))

/-- The key that a slot holds, empty where it holds none (R127, R363). -/
def State.slotKey (s : State) (k : Nat) : List Byte := lookup [] s.dev.keys k

/-- What a translation with permission gives: a place, a wait under the page life cycle, or a trap cause. -/
inductive Xlat where
  | ok (p : Place)
  | wait
  | bad (cause : Byte)
  deriving DecidableEq, Repr

/-- Translation of one byte when the page is in a state of its life cycle (R125, R128 to R133, R266, R377). A write to a
MIGRATING page and any request for an INVALIDATING page wait. -/
def State.translateIn (s : State) (life : Option PageState) (c : Context) (die core : Nat) (u : Use) (va : Addr) : Xlat :=
  if va.extractLsb' 56 8 != 0 then .bad TRANSLATION
  else
    match life with
    | some (.invalidating _) => .wait
    | life =>
      match s.leafOf die core c.num c.root va.toNat with
      | .none => .bad TRANSLATION
      | .unreadable => .bad UNCORRECTABLE
      | .leaf l =>
        if !permitted c u l.entry then .bad PERMISSION
        else if u.writes && life == some .migrating then .wait
        else .ok ⟨pteAddr l.entry + (va.toNat - l.base), l, s.slotKey (pteKey l.entry)⟩

/-- Translation of one byte for an access of a context from a core. -/
def State.translate (s : State) (c : Context) (die core : Nat) (u : Use) (va : Addr) : Xlat :=
  s.translateIn (s.pageLife c.num va.toNat) c die core u va

/-- Translation on a page that the requester has pinned: an invalidation waits for the pin (R133, R134). -/
def State.translatePinned (s : State) (c : Context) (die core : Nat) (u : Use) (va : Addr) : Xlat :=
  s.translateIn none c die core u va

/-! ### Bytes, sectors, lines -/

/-- A byte of main memory at a physical address. -/
def Memory.byte (m : Memory) (pa : Nat) : Byte := lookup 0 m.bytes pa

/-- The key that a line was last written under (R127). -/
def Memory.keyOf (m : Memory) (line : Nat) : List Byte := lookup [] m.keyed line

/-- `n` bytes at a physical address as an access under a key finds them: those of a line written under another key are free
(R127; log 16). -/
def Memory.see (m : Memory) (f : Nat) (key : List Byte) (a n : Nat) : List Byte :=
  (List.range n).map fun k => if m.keyOf ((a + k) / 128) == key then m.byte (a + k) else Config.underKey f (a + k)

/-- `n` bytes at a physical address under a key, or at a bus address of host memory (R130). -/
def Memory.readAt (m : Memory) (f : Nat) (host : Bool) (key : List Byte) (a n : Nat) : List Byte :=
  if host then lookups 0 m.host a n else m.see f key a n

/-- A line about to be written under a key: what it held under another is lost (R127; log 16). -/
def Memory.rekey (m : Memory) (f : Nat) (key : List Byte) (line : Nat) : Memory :=
  if m.keyOf line == key then m
  else { m with
    bytes := puts 0 m.bytes (128 * line) ((List.range 128).map fun k => Config.underKey f (128 * line + k))
    keyed := put [] m.keyed line key }

/-- The tag of a 64 B unit (R203). -/
def Memory.tag (m : Memory) (u : Nat) : Tag := lookup .val m.tags u
def Memory.setTag (m : Memory) (u : Nat) (t : Tag) : Memory := { m with tags := put .val m.tags u t }
/-- The 64 bytes of a unit. -/
def Memory.unit (m : Memory) (u : Nat) : List Byte := lookups 0 m.bytes (64 * u) 64
/-- A unit's 64 bytes written, whole. -/
def Memory.putUnit (m : Memory) (u : Nat) (bs : List Byte) : Memory := { m with bytes := puts 0 m.bytes (64 * u) bs }

/-- Every unit that a run of bytes touches. -/
def unitsOf (a n : Nat) : List Nat := if n = 0 then [] else (List.range ((a + n - 1) / 64 - a / 64 + 1)).map (a / 64 + ·)

/-- The L2 slice that homes a line, within its die: the slices take lines in turn, and the lines of one that is mapped out
move to the next that is not (R359; log 8: not visible). -/
def Memory.homeSlice (m : Memory) (line : Nat) : Nat :=
  let out := fun k => m.slicesOut.contains (Config.dieOf (128 * line), (line + k) % 512)
  match (if m.slicesOut.isEmpty then none else (List.range 512).find? fun k => !out k) with
  | some k => (line + k) % 512
  | none => line % 512

/-- The L2 slice of a line, counted through the dies, and its set there. -/
def Memory.l2Set (m : Memory) (line : Nat) : Nat × Nat := (Config.dieOf (128 * line) * 512 + m.homeSlice line, line / 512 % 128)

/-- The lines of a slice's set. -/
def Memory.l2Ways (m : Memory) (line : Nat) : List Line :=
  m.lines.filter fun l => l.slice == (m.l2Set line).1 && (m.l2Set l.idx).2 == (m.l2Set line).2

/-- Every RRPV of a set raised until some way has 3 (R136). -/
def ageWays : Nat → List Line → List Line
  | 0, ws => ws
  | n + 1, ws => if ws.any (fun w => w.rrpv == 3) then ws else ageWays n (ws.map fun w => { w with rrpv := w.rrpv + 1 })

/-- The way that a fill takes while the set still has ways not in use. DESIGN CHOICE (log 8): R136 gives the victim by
RRPV alone and no rule for unused ways; the model takes the lowest. -/
def freeWay (ws : List Line) : Option Nat := (List.range 16).find? fun w => ws.all fun l => l.way != w

/-- An access of a line at its home L2 slice: a hit lowers the RRPV to the reuse field, a miss fills the
line, evicting the lowest way with RRPV 3 (R136). -/
def Memory.l2Access (m : Memory) (line reuse : Nat) (dirty : Bool) : Memory :=
  let ws := m.l2Ways line
  if ws.any (fun w => w.idx == line) then
    { m with lines := m.lines.map fun w =>
        if w.idx == line then { w with rrpv := min w.rrpv reuse, dirty := w.dirty || dirty } else w }
  else
    let new := fun way => ({ slice := (m.l2Set line).1, way := way, idx := line, rrpv := reuse, dirty := dirty } : Line)
    match freeWay ws with
    | some way => { m with lines := m.lines ++ [new way] }
    | none =>
      let aged := ageWays 3 ws
      let victim := (List.range 16).find? fun w => aged.any fun l => l.way == w && l.rrpv == 3
      let way := victim.getD 0
      let rest := m.lines.filter fun l => !(ws.any fun w => w.idx == l.idx)
      { m with lines := rest ++ (aged.filter fun l => l.way != way) ++ [new way] }

/-- Every 128 B line that a run of bytes touches. -/
def linesOf (a n : Nat) : List Nat := if n = 0 then [] else (List.range ((a + n - 1) / 128 - a / 128 + 1)).map (a / 128 + ·)

/-- The L2 lines of an access used (R130, R136): an uncached access allocates none and uses a line that L2 holds. -/
def Memory.l2Lines (m : Memory) (cached : Bool) (a n reuse : Nat) (dirty : Bool) : Memory :=
  (linesOf a n).foldl (fun m k =>
    if cached || m.lines.any (fun l => l.idx == k) then m.l2Access k reuse dirty else m) m

/-- The L2 residency of an access of `n` bytes at a place; host memory has none (R130, R136). -/
def Memory.l2Use (m : Memory) (p : Place) (n reuse : Nat) (dirty : Bool) : Memory :=
  if p.host then m else m.l2Lines p.cached p.pa n reuse dirty

/-- The table words of a walk read through L2 (R129); the spec gives a walk no reuse value, and the model uses 0 (log 24). -/
def Memory.readTables (m : Memory) (root va : Nat) : Memory :=
  ((walkEntries m root va).filter (· < Config.memBytes)).foldl (fun m a => m.l2Lines true a 8 0 false) m

/-- What translating an address leaves of it: the lines of the table words that its walk reads, whatever the walk ends in
(R129). A page that is being invalidated is not walked (R133). -/
def State.useTables (s : State) (die core : Nat) (c : Context) (va : Addr) : State :=
  let held := match s.pageLife c.num va.toNat with | some (.invalidating _) => true | _ => false
  if va.extractLsb' 56 8 != 0 || held || !s.walks die core c.num c.root va.toNat then s
  else s.setMem (s.mem.readTables c.root va.toNat)

/-- The sector of an L1 that holds a sector index. -/
def Memory.sector (m : Memory) (core idx : Nat) : Option Sector :=
  m.sectors.find? fun x => x.core == core && x.idx == idx

/-- The 128 B lines of an L1: 256 KiB (R2, R135). -/
def l1Lines : Nat := 2048

/-- The lines that a core's L1 holds, the one filled last first. -/
def linesHeld (xs : List Sector) (core : Nat) : List Nat :=
  ((xs.filter fun x => x.core == core).map fun x => x.idx / 4).eraseDups

/-- The sectors that stay in an L1 when a sector of line `line` enters: with 2048 other lines held, the one filled the
longest ago goes. DESIGN CHOICE (log 54): R135 gives the size and no replacement rule. -/
def makeWay (xs : List Sector) (core line : Nat) : List Sector :=
  let others := (linesHeld xs core).filter (· != line)
  if others.length < l1Lines then xs
  else xs.filter fun x => !(x.core == core && others.getLast? == some (x.idx / 4))

/-- A sector of an L1 allocated or refreshed with the home's bytes, under the key of an access (R135). -/
def Memory.fillSector (m : Memory) (f : Nat) (key : List Byte) (core idx : Nat) : Memory :=
  { m with sectors := { core := core, idx := idx, data := m.see f key (32 * idx) 32, key := key } ::
      makeWay (m.sectors.filter fun x => !(x.core == core && x.idx == idx)) core (idx / 4) }

/-- Every sector index that a run of bytes touches. -/
def sectorsOf (a n : Nat) : List Nat := if n = 0 then [] else (List.range ((a + n - 1) / 32 - a / 32 + 1)).map (a / 32 + ·)

/-- An L1 emptied: the flash invalidation of an acquire at cluster scope or wider (R135, R163). -/
def Memory.flash (m : Memory) (core : Nat) : Memory := { m with sectors := m.sectors.filter fun x => x.core != core }

/-- The sectors of a byte range dropped from an L1 (R135, R154). -/
def Memory.dropSectors (m : Memory) (core a n : Nat) : Memory :=
  { m with sectors := m.sectors.filter fun x => !(x.core == core && (sectorsOf a n).contains x.idx) }

/-- A store's bytes in a sector of the issuing core's L1 that holds them (R135, R160). -/
def patchSector (x : Sector) (a : Nat) (bs : List Byte) : Sector :=
  { x with data := (List.range 32).map fun k =>
      if a ≤ 32 * x.idx + k ∧ 32 * x.idx + k < a + bs.length then bs.getD (32 * x.idx + k - a) 0 else x.data.getD k 0 }

/-- An L1 without the sectors of a run of bytes that it filled under another key. -/
def Memory.dropAlien (m : Memory) (key : List Byte) (core a n : Nat) : Memory :=
  { m with sectors := m.sectors.filter fun x => !(x.core == core && x.key != key && (sectorsOf a n).contains x.idx) }

def Memory.patchL1 (m : Memory) (key : List Byte) (core a : Nat) (bs : List Byte) : Memory :=
  let m := m.dropAlien key core a bs.length
  { m with sectors := m.sectors.map fun x => if x.core == core then patchSector x a bs else x }

/-- The sectors of a unit that a core's L1 holds, as the home now has them, after a write under a key. -/
def Memory.refreshUnit (m : Memory) (key : List Byte) (core u : Nat) : Memory :=
  let m := m.dropAlien key core (64 * u) 64
  { m with sectors := m.sectors.map fun x =>
      if x.core == core && x.idx / 2 == u then { x with data := lookups 0 m.bytes (32 * x.idx) 32 } else x }

/-- One run of bytes to write, with its page's CELL bit, type and key; without a key, bytes that the device writes by
physical address, which keep the line's own (log 16). -/
structure Piece where
  pa : Nat
  data : List Byte
  cell : Bool
  host : Bool
  key : Option (List Byte) := none
  deriving DecidableEq, Repr

/-- A run of bytes to write at a place. -/
def Place.piece (p : Place) (bs : List Byte) : Piece := { pa := p.pa, data := bs, cell := p.cell, host := p.host, key := some p.key }

/-- What stands at a place. -/
def Memory.readPlace (m : Memory) (f : Nat) (p : Place) (n : Nat) : List Byte := m.readAt f p.host p.key p.pa n

/-- The bytes of a unit that some piece of one write covers. -/
def covered (ps : List Piece) (u : Nat) : List Nat :=
  (List.range 64).filter fun k => ps.any fun p => !p.host && decide (p.pa ≤ 64 * u + k) && decide (64 * u + k < p.pa + p.data.length)

/-- A unit made ready for an ordinary write (R138, R204, R208): its tag becomes VAL, a DEF or ERR cell of a
CELL page loses its old bytes, and a write of all 64 bytes clears poison. -/
def Memory.openUnit (m : Memory) (ps : List Piece) (cell : Bool) (u : Nat) : Memory :=
  let full := (covered ps u).length == 64
  let clear := cell && (m.tag u == .def' || m.tag u == .err)
  let m := if clear then m.putUnit u (List.replicate 64 0) else m
  let m := m.setTag u .val
  if full then { m with poison := m.poison.filter (· != u) } else m

/-- The lines of a piece made ready for a write under its key. -/
def Memory.rekeyPiece (m : Memory) (f : Nat) (p : Piece) : Memory :=
  match p.key with
  | some key => if p.host then m else (linesOf p.pa p.data.length).foldl (fun m l => m.rekey f key l) m
  | none => m

/-- An ordinary write of pieces at their homes, in order: the last piece wins a byte (R143, R208). -/
def Memory.writePieces (m : Memory) (f : Nat) (ps : List Piece) : Memory :=
  let m := ps.foldl (fun m p => m.rekeyPiece f p) m
  let opened := ps.foldl (fun m p => if p.host then m else (unitsOf p.pa p.data.length).foldl (fun m u => m.openUnit ps p.cell u) m) m
  ps.foldl (fun m p => if p.host then m.putHost p.pa p.data else { m with bytes := puts 0 m.bytes p.pa p.data }) opened

end Sys2Proof.Machine
end

