-- ==== Sys2Proof/Machine/Order.lean ====
section
/-!
DEFINITION. The order of accesses (R156 to R173): what an access does when it is performed, which accesses a core has on
their way, in what orders they may be performed, and the L1 as they read it (R135, R142 to R149, R157 to R164; log 6).
-/
namespace Sys2Proof.Machine

/-! ### Buffers -/

/-- The bytes declared for a team in a buffer space (R126). -/
def Team.footprint (t : Team) (space : Nat) : Nat := if space = 1 then t.abytes else t.wbytes
/-- A team's buffer contents. -/
def Team.buffer (t : Team) (space : Nat) : List Host.Cell := if space = 1 then t.abuf else t.wbuf
def Team.read (t : Team) (space off n : Nat) : List Byte := lookups 0 (t.buffer space) off n
def Team.write (t : Team) (space off : Nat) (bs : List Byte) : Team :=
  if space = 1 then { t with abuf := puts 0 t.abuf off bs } else { t with wbuf := puts 0 t.wbuf off bs }

/-! ### What an access does -/

/-- What loaded bytes put into the destination registers: fewer than 4 bytes extend into one word (R142). -/
def loadWords (signed : Bool) (bs : List Byte) : List Word :=
  if bs.length < 4 then
    [if signed then BitVec.ofInt 32 (sint (ofLe bs) (8 * bs.length)) else BitVec.ofNat 32 (ofLe bs)]
  else wordsOf bs

/-- Register results of a lane's words, from register d (R18). -/
def resultsOf (d lane : Nat) (ws : List Word) : List (Nat × Word) :=
  (List.range ws.length).map fun k => (regKey (d + k) lane, ws.getD k 0)

/-- F of ATOM.FMAXA (R147). -/
def fmaxa (m x : Word) : Word :=
  if (fp x).isNan then m
  else if (fp m).isNan then x &&& 0x7FFFFFFF
  else if (fp m).abs.lt (fp x).abs then x &&& 0x7FFFFFFF else m &&& 0x7FFFFFFF

/-- A group's update of one word by F in ascending lane order: old values and the new word (R144). Each lane
gives x and, for CAS, the new value. -/
def atomSeq (F : Word → Word → Word → Word) : Word → List (Nat × Word × Word) → List (Nat × Word) × Word
  | m, [] => ([], m)
  | m, (i, x, y) :: r => match atomSeq F (F m x y) r with | (l, z) => ((i, m) :: l, z)

/-- The old values of a combined sum and the sum itself, over p (R146). -/
def atomOlds (add : Word → Word → Word) (m : Word) : Word → List (Nat × Word × Word) → List (Nat × Word) × Word
  | p, [] => ([], add m p)
  | p, (i, x, _) :: r => match atomOlds add m (add p x) r with | (l, z) => ((i, add m p) :: l, z)

/-- How an atomic updates one word for the lanes of its address. -/
inductive AtomFn where
  | seq (F : Word → Word → Word → Word)
  | sum (add : Word → Word → Word) (zero : Word)

def AtomFn.apply (f : AtomFn) (m : Word) (ls : List (Nat × Word × Word)) : List (Nat × Word) × Word :=
  match f with
  | .seq F => atomSeq F m ls
  | .sum add z => atomOlds add m z ls

/-- The word at a physical address, under a key. -/
def Memory.word (m : Memory) (f : Nat) (key : List Byte) (pa : Nat) : Word := BitVec.ofNat 32 (ofLe (m.see f key pa 4))

/-- The update of each atomic (R145 to R147). -/
def AtomOp.fn : AtomOp → AtomFn
  | .add => .seq fun m x _ => m + x
  | .min => .seq fun m x _ => sMin m x
  | .max => .seq fun m x _ => sMax m x
  | .umin => .seq fun m x _ => uMin m x
  | .umax => .seq fun m x _ => uMax m x
  | .and => .seq fun m x _ => m &&& x
  | .or => .seq fun m x _ => m ||| x
  | .xor => .seq fun m x _ => m ^^^ x
  | .xchg => .seq fun _ x _ => x
  | .cas => .seq fun m x y => if m = x then y else m
  | .incb => .seq fun m x _ => if x ≤ m then m else m + 1
  | .fadd => .sum Machine.fadd 0x80000000
  | .badd2 => .sum Machine.badd2 0x80008000
  | .fmaxa => .seq fun m x _ => Machine.fmaxa m x

/-! ### The order of accesses on their way (R157, R159, R163, R164) -/

def Flight.isStore (x : Flight) : Bool := match x.deed with | .store _ _ => true | _ => false
def Flight.isLoad (x : Flight) : Bool := match x.deed with | .load _ _ _ => true | _ => false
def Flight.isFence (x : Flight) : Bool := x.deed == .fence
def Flight.reads (x : Flight) : Bool := match x.deed with | .load _ _ _ => true | .atom _ _ _ => true | _ => false
def Flight.writes (x : Flight) : Bool := match x.deed with | .store _ _ => true | .atom _ _ _ => true | _ => false

/-- It gives results to an outstanding operation of a group. -/
def Flight.gives (x : Flight) (gid seq : Nat) : Bool :=
  x.gid == gid && match x.deed with
    | .load q _ _ => q == seq
    | .atom _ _ (some (q, _)) => q == seq
    | _ => false

/-- A release or an acquire, by the order field (R162). -/
def Flight.releases (x : Flight) : Bool := decide (2 ≤ x.order)
def Flight.acquires (x : Flight) : Bool := x.order % 2 == 1

/-- Two accesses of one group have a lane in common (R156). -/
def Flight.sameLane (x y : Flight) : Bool := x.gid == y.gid && x.lanes &&& y.lanes != 0

/-- An access of global memory meets a run of bytes at a physical address. -/
def Flight.meets (x : Flight) (a n : Nat) : Bool :=
  x.space == 0 && !x.host && !x.isFence && decide (x.pa < a + n) && decide (a < x.pa + x.n)

/-- Two accesses touch a common byte (R157). -/
def Flight.common (x y : Flight) : Bool :=
  x.space == y.space && x.host == y.host && (x.space == 0 || x.team == y.team) && !x.isFence && !y.isFence &&
    decide (x.pa < y.pa + y.n) && decide (y.pa < x.pa + x.n)

/-- An access that may not be performed before another, older one of its core. They are of one lane, and touch a common byte
or are both of host memory (R157, R160); it is a release, and the older one is of its lane or, at cluster scope or wider,
any write; the older one is an acquire of its lane; a FENCE stands between (R163, R164); or both store to a common byte,
and the older one shows in the L1 already (R159) or is of the same instruction (R143). -/
def Flight.after (x y : Flight) : Bool :=
  y.core == x.core &&
    ((x.sameLane y && (x.common y || (x.host && y.host) || x.releases || y.acquires ||
        (y.isFence && y.releases && x.writes) || (x.isFence && x.acquires && y.reads))) ||
      (x.releases && decide (3 ≤ x.scope) && y.writes && y.space == 0) ||
      (x.isStore && y.isStore && x.common y && (y.shown || (x.gid == y.gid && x.at' == y.at'))))

/-- The accesses of a list, oldest first, that some test names or that must come before one of those; and the others. -/
def needed (p : Flight → Bool) : List Flight → List Flight × List Flight
  | [] => ([], [])
  | y :: r =>
    let (now, later) := needed p r
    if p y || now.any (·.after y) then (y :: now, later) else (now, y :: later)

/-! ### Performing an access -/

/-- A write of an access performed at its home, and the issuing core's L1 sectors updated, or dropped (R135, R143, R160). -/
def Memory.land (m : Memory) (f : Nat) (x : Flight) (bs : List Byte) (drop : Bool) : Memory :=
  let m := m.writePieces f [{ pa := x.pa, data := bs, cell := x.cell, host := x.host, key := some x.key }]
  if x.host then m
  else
    let m := m.l2Lines x.cached x.pa bs.length x.reuse true
    if drop then m.dropSectors x.core x.pa bs.length else m.patchL1 x.key x.core x.pa bs

/-- A store of an access performed. -/
def Memory.performStore (m : Memory) (f : Nat) (x : Flight) : Memory :=
  match x.deed with
  | .store bs drop => m.land f x bs drop
  | _ => m

/-- The stores that a core's L1 shows and that meet a run of bytes are performed before the core reads it at home, so that
no read of the core gives an earlier value than it has given before (R159, R160). -/
def State.flushShown (s : State) (core a n : Nat) : State :=
  match s.flights with
  | none => s
  | some l =>
    let (now, later) := needed (fun x => x.core == core && x.shown && x.meets a n) l
    { s with mem := now.foldl (fun m x => m.performStore s.free x) s.mem, flights := some later }

/-- A store's bytes in a sector that covers them, filled under the store's key. -/
def Flight.patch (x : Sector) (y : Flight) : Sector :=
  match y.deed with
  | .store bs _ => if y.key == x.key then patchSector x y.pa bs else x
  | _ => x

/-- The same for what some accesses of the core touch. -/
def State.flushRuns (s : State) (core : Nat) (xs : List Flight) : State :=
  xs.foldl (fun s x => if x.host || x.space != 0 then s else s.flushShown core x.pa x.n) s

/-- A sector of an L1 filled from the home, with what the core's shown stores make of it (R135, R160). -/
def State.fillL1 (s : State) (key : List Byte) (core idx : Nat) (tag : Tag := .val) : State :=
  let m := s.mem.fillSector s.free key core idx
  let late := (s.flights.getD []).filter fun x => x.core == core && x.shown
  s.setMem { m with sectors := match m.sectors with
    | x :: r => { late.foldl Flight.patch x with tag := tag } :: r
    | [] => [] }

/-- The bytes a cached load of a core reads: a sector that its L1 holds and has not evicted gives its own bytes, which may
lie earlier than the home's; any other sector is filled from the home through L2 (R135, R136, R160). A sector that came with
the tag of a cell without a value, or was filled under another key, is read at home (R153; log 16). The loaded bytes do not cross a sector, for a naturally aligned
access of at most 16 B. -/
def State.loadCached (s : State) (key : List Byte) (core reuse a n : Nat) : List Byte × State :=
  let fill : List Byte × State :=
    let s := s.flushShown core a n
    let s := s.setMem (s.mem.l2Lines true a n reuse false)
    (s.mem.see s.free key a n, s.fillL1 key core (a / 32))
  match s.mem.sector core (a / 32) with
  | some x =>
      if x.tag != .val || x.key != key ||
        (Config.l1Evicted s.free core (a / 32) && x.data != s.mem.see s.free key (32 * (a / 32)) 32) then fill
      else ((x.data.drop (a % 32)).take n, s)
  | none => fill

/-- The bytes of a read of a core, through its L1 for a cached page (R130, R135, R160). What is read at home leaves the core's
L1, so that no later read of the core returns an earlier value (R159). -/
def State.readRun (s : State) (core reuse : Nat) (host cached : Bool) (key : List Byte) (a n : Nat) : List Byte × State :=
  if cached then s.loadCached key core reuse a n
  else if host then (s.mem.readAt s.free true key a n, s)
  else
    let s := s.flushShown core a n
    (s.mem.readAt s.free false key a n, s.setMem ((s.mem.l2Lines false a n reuse false).dropSectors core a n))

/-- Registers given to an operation that waited for them: they land later (R18). -/
def Group.gain (g : Group) (seq : Nat) (ws : List (Nat × Word)) : Group :=
  { g with ops := g.ops.map fun o =>
      if o.seq == seq then { o with due := o.due.filter fun k => ws.all fun w => w.1 != k, writes := o.writes ++ ws } else o }

/-- An acquire at cluster scope or wider empties the core's L1 (R135, R163). -/
def State.acquireFlight (s : State) (x : Flight) : State :=
  if x.acquires && decide (3 ≤ x.scope) then s.setMem (s.mem.flash x.core) else s

/-- What a read on its way reads. -/
def State.readFlight (s : State) (x : Flight) : List Byte × State :=
  if x.space = 0 then s.readRun x.core x.reuse x.host x.cached x.key x.pa x.n
  else (((s.team x.team).map fun t => t.read x.space x.pa x.n).getD [], s)

/-- An access performed (R157): a load's value is fixed, a store's bytes stand at their home, a word is updated. -/
def State.carryOut (s : State) (x : Flight) : State :=
  match x.deed with
  | .load seq d signed =>
    match (s.acquireFlight x).readFlight x with
    | (bs, s) => s.onGroup x.gid fun g => g.gain seq (resultsOf d ((lanesOf x.lanes).headD 0) (loadWords signed bs))
  | .store bs _ =>
    if x.space = 0 then s.setMem (s.mem.performStore s.free x)
    else match s.team x.team with
      | some t => s.setTeam (t.write x.space x.pa bs)
      | none => s
  | .atom op args res =>
    let s := s.flushShown x.core x.pa 4
    match op.fn.apply (s.mem.word s.free x.key x.pa) args with
    | (olds, w) =>
      let s := (s.setMem (s.mem.land s.free x (leBytes 4 w.toNat) true)).acquireFlight x
      match res with
      | some (seq, d) => s.onGroup x.gid fun g => g.gain seq (olds.map fun y => (regKey d y.1, y.2))
      | none => s
  | .fence => s.acquireFlight x

/-- An access of the list performed, if it is still there. -/
def State.carry (s : State) (x : Flight) : State :=
  match s.flights with
  | none => s
  | some l => if l.contains x then { s with flights := some (l.erase x) }.carryOut x else s

/-- Every access that a test names performed, each after those that come before it, in order of issue. -/
def State.drain (s : State) (p : Flight → Bool) : State :=
  match s.flights with
  | none => s
  | some l => (needed p l).1.foldl State.carry s

/-- What the accesses of an instruction that are performed as they issue come after is performed (R157, R163, R164). -/
def State.before (s : State) (xs : List Flight) : State := s.drain fun y => xs.any (·.after y)

/-- The k-th access on its way performed, unless an older one comes before it (R157, R159, R163). A load may read what the
L1 shows of an older store of its lane. -/
def State.performFlight (s : State) (k : Nat) : State :=
  match s.flights with
  | none => s
  | some l => match l[k]? with
    | none => s
    | some x => if (l.take k).any fun y => x.after y && !(x.isLoad && y.shown) then s else s.carry x

/-- The k-th access on its way shown by its core's L1 before its home has performed it (R160): a store to global memory,
unless an older access comes before it. -/
def State.expose (s : State) (k : Nat) : State :=
  match s.flights with
  | none => s
  | some l => match l[k]? with
    | none => s
    | some x =>
      match x.deed with
      | .store bs false =>
        if x.space ≠ 0 || x.host || x.shown then s
        else if (l.take k).any fun y =>
            (x.after y || (y.isStore && y.core == x.core && x.common y)) && (!y.shown || x.releases) then s
        else { s with mem := s.mem.patchL1 x.key x.core x.pa bs, flights := some (l.set k { x with shown := true }) }
      | _ => s

/-- Accesses begin to wait on their way, or all that wait are performed and none waits any more (log 6). -/
def State.holdFlights (s : State) (on : Bool) : State :=
  if on then { s with flights := some (s.flights.getD []) } else { s.drain fun _ => true with flights := none }

/-- Every access on its way to some units is performed: their tags are about to change, or an error to appear in them
(log 6). -/
def State.settleUnits (s : State) (us : List Nat) : State := s.drain fun x => us.any fun u => x.meets (64 * u) 64

end Sys2Proof.Machine
end

