-- ==== Sys2Proof/Machine/Cells.lean ====
section
/-!
DEFINITION. Cells: what a unit holds under its tag, a touch, starting an evaluation, the cell rules of a
write, and the end of an evaluation (R203 to R217).
-/
namespace Sys2Proof.Machine

/-- An entry of a list of alike free ones (log 22). -/
def pickOf (step : Nat) (l : List Nat) : Option Nat := l[Config.pick step % l.length]?

/-- Byte 63 of a unit, the kind of a DEF or EVL cell (R205, R206). -/
def Memory.kind (m : Memory) (u : Nat) : Byte := m.byte (64 * u + 63)
/-- A follower's distance to its head (R206). -/
def Memory.back (m : Memory) (u : Nat) : Nat := field (m.unit u) 0 4
/-- The extent length of a head: cells minus 1 (R205). -/
def Memory.lenField (m : Memory) (u : Nat) : Nat := field (m.unit u) 16 2

/-- A unit's head: itself, or for a follower the unit its offset names, if one lies there (R206). -/
def Memory.headOf (m : Memory) (u : Nat) : Option Nat :=
  if m.kind u = 2 then (if m.back u ≤ u then some (u - m.back u) else none) else some u

/-- The evaluation that an EVL unit is under: the newest of its head that reaches it. -/
def State.evalOf (s : State) (head u : Nat) : Option Eval :=
  s.evals.find? fun e => e.head == head && decide (u < head + e.len)

/-- What a touch meets at a unit (R206, R208). -/
inductive CellView where
  | val
  | err (cause : Byte)
  | evl (id : Nat)
  | deferred (head : Nat)
  | orphan
  deriving DecidableEq, Repr

/-- A DEF follower at distance h under a head (R206). -/
def State.viewFollower (s : State) (u : Nat) : CellView :=
  match s.mem.headOf u with
  | none => .orphan
  | some h =>
    if s.mem.kind h != 1 || u == h || decide (s.mem.lenField h < u - h) then .orphan
    else match s.mem.tag h with
      | .def' => .deferred h
      | .evl => .evl (((s.evalOf h h).map Eval.id).getD 0)
      | _ => .orphan

/-- What a touch meets at a unit of a CELL page (R206, R208). -/
def State.view (s : State) (u : Nat) : CellView :=
  match s.mem.tag u with
  | .val => .val
  | .err => .err (s.mem.byte (64 * u))
  | .evl => .evl ((((s.mem.headOf u).bind fun h => s.evalOf h u).map Eval.id).getD 0)
  | .def' => if s.mem.kind u = 2 then s.viewFollower u else .deferred u

/-- A cell set to ERR with a cause and an id (R207). -/
def Memory.failCell (m : Memory) (cause : Byte) (id u : Nat) : Memory :=
  (m.putUnit u (record 64 [(0, [cause]), (2, leBytes 2 id)])).setTag u .err

/-- The followers of a head that are DEF and name it (R208, R212). -/
def Memory.followers (m : Memory) (head : Nat) : List Nat :=
  ((List.range (m.lenField head)).map fun k => head + k + 1).filter fun u =>
    m.tag u == .def' && m.kind u == 2 && m.back u == u - head

/-- The free entries of a die's evaluation table (R212). -/
def State.freeIds (s : State) (die : Nat) : List Nat :=
  let used := (s.evals.filter fun e => e.die == die).map Eval.id
  ((List.range 16383).map fun k => 16384 * die + k + 1).filter fun i => !used.contains i

/-- Whose touch it is: context, class and lineage (R213, R214). -/
structure Toucher where
  ctx : Nat
  cls : Nat
  lineage : BitVec 64
  deriving DecidableEq, Repr

/-- An id stands in a lineage (R214). -/
def inLineage (id : Nat) (l : BitVec 64) : Bool :=
  id != 0 && ((List.range 4).any fun k => (l.extractLsb' (16 * k) 16).toNat == id)

/-- A head's evaluation started (R212): id, tags, and the record in the die's evaluation queue. -/
def State.startEval (s : State) (T : Toucher) (head id : Nat) (headVa : Addr) : State :=
  let len := s.mem.lenField head + 1
  let fs := s.mem.followers head
  let m := { s.mem with bytes := puts 0 s.mem.bytes (64 * head + 22) (leBytes 2 id) }
  let m := fs.foldl (fun m u => m.setTag u .evl) (m.setTag head .evl)
  { s with
    mem := m
    evals := { id := id, die := Config.dieOf (64 * head), ctx := T.ctx, head := head, len := len, headVa := headVa
               cls := T.cls, lineage := T.lineage, ready := s.cycle, sig := s.dev.signature } :: s.evals }

/-- What a touch answers: go on, wait, or a trap cause with the cell's cause byte. -/
inductive Touched where
  | ok
  | wait
  | bad (cause fwd : Byte)
  deriving DecidableEq, Repr

/-- A touch of a cell of a CELL page (R208). `va` is the virtual address of the touch. -/
def State.touch (s : State) (T : Toucher) (u : Nat) (va : Addr) : Touched × State :=
  match s.view u with
  | .val => (.ok, s)
  | .err c => (.bad CELL_FAILED c, s)
  | .evl id => (if inLineage id T.lineage then .bad CELL_CYCLE 0 else .wait, s)
  | .orphan => (.bad CELL_FAILED 3, s.setMem (s.mem.failCell 3 0 u))
  | .deferred h =>
    if T.lineage.extractLsb' 48 16 != 0 then
      (.bad CELL_DEPTH 0x0A,
        s.setMem ((h :: s.mem.followers h).foldl (fun m u => m.failCell 0x0A 0 u) s.mem))
    else match pickOf s.free (s.freeIds (Config.dieOf (64 * h))) with
      | none => (.wait, s)
      | some id => (.wait, s.startEval T h id ((va &&& ~~~(63 : Addr)) - BitVec.ofNat 64 (64 * (u - h))))

/-- A unit that a parked touch still waits for: EVL, or DEF with no free id (R208, R211). -/
def State.awaits (s : State) (u : Nat) : Bool :=
  match s.view u with
  | .evl _ => true
  | .deferred h => (s.freeIds (Config.dieOf (64 * h))).isEmpty
  | _ => false

/-- A unit that a write by others than its evaluator may not change (R208, R209); `own` is the writer's
LINEAGE [15:0] for a RESOLVE or CELLFAIL. -/
def State.busy (s : State) (own : Option Nat) (u : Nat) : Bool :=
  match s.view u with
  | .evl id => own != some id
  | _ => false

/-- A whole cell written as RESOLVE does: the bytes given, zeros elsewhere, tag VAL (R220). -/
def Memory.resolveCell (m : Memory) (u : Nat) (bs : List (Nat × Byte)) : Memory :=
  ((m.putUnit u ((List.range 64).map fun k => ((bs.find? fun b => b.1 == k).map Prod.snd).getD 0))).setTag u .val

/-- Poison of a unit cleared by a write of all its bytes (R138, R360). -/
def Memory.heal (m : Memory) (u : Nat) : Memory := { m with poison := m.poison.filter (· != u) }

def errCode : ErrFn → Nat
  | .hbm => 0 | .l2 => 1 | .l1 => 2 | .regfile => 3 | .buffer => 4 | .core => 5

/-- The corrected-error history of a unit: of HBM4E, of a row (R359). -/
def Device.errAt (d : Device) (fn : ErrFn) (die unit row : Nat) : ErrUnit :=
  (d.errUnits.find? fun u => u.fn == fn && u.die == die && u.unit == unit && u.row == row).getD
    { fn := fn, die := die, unit := unit, row := row }

/-- An uncorrectable error counted, and its record (R355 kind 0x21, R360). -/
def State.uncorrectable (s : State) (fn : ErrFn) (die unit row : Nat) (ctx : Option Nat) (at' : Nat) : State :=
  let x := s.dev.errAt fn die unit row
  let n := lookup 0 s.dev.uncorrected die
  (s.setDev { s.dev with uncorrected := put 0 s.dev.uncorrected die (n + 1) }).raise
    (record 64 [(0, [0x21]), (1, leBytes 1 (errCode fn)), (2, leBytes 1 die), (3, [if x.lasting then 3 else 1]), (4, leBytes 2 unit),
      (6, leBytes 2 (ctx.getD 0xFFFF)), (8, leBytes 8 at'), (16, leBytes 4 x.last)])

/-- An uncorrectable memory error that an access met (R138, R360). -/
def State.memoryError (s : State) (ctx : Option Nat) (u : Nat) : State :=
  s.uncorrectable .hbm (Config.dieOf (64 * u)) (Config.stackOf (64 * u) % 3) (Config.rowOf (64 * u)) ctx (64 * u)

/-- The error of a table word that a walk of a context's address could not read, logged (R129, R138). -/
def State.tableError (s : State) (c : Context) (va : Addr) : State :=
  match s.walkBad c.root va.toNat with
  | some u => if s.mem.poisoned u then s.memoryError (some c.num) u else s
  | none => s

/-- An evaluator's end (R217), or the end of an extent whose evaluator never ran (R212): every cell still EVL
under the id becomes ERR with a cause, and the id is free. -/
def State.endEval (s : State) (id : Nat) (cause : Byte) : State :=
  match s.evals.find? fun e => e.id == id with
  | none => s
  | some e =>
    let mine := ((List.range e.len).map (e.head + ·)).filter fun u =>
      s.mem.tag u == .evl && (match s.view u with | .evl i => i == id | _ => false)
    { s with
      mem := mine.foldl (fun m u => m.failCell cause id u) s.mem
      evals := s.evals.filter fun e => e.id != id }

/-! ### The wait table -/

/-- The slice whose wait table a touch of a unit enters. -/
def Memory.sliceKey (m : Memory) (u : Nat) : Nat := (m.l2Set (u / 2)).1

/-- Some slice has no room for a waiter on these units: 1024 entries each (R211). Where one has none, nothing is entered
anywhere (log 114). -/
def State.tableFull (s : State) (us : List Nat) : Bool :=
  us.any fun u => decide (1024 < (s.waits.filter fun w => w.slice == s.mem.sliceKey u).length +
    (us.filter fun v => s.mem.sliceKey v == s.mem.sliceKey u).length)

/-- A waiter entered for each unit: R211 speaks of one touch, and an instruction with several takes one entry for each
(log 114). -/
def State.enterWaits (s : State) (who : Waiter) (us : List Nat) : State :=
  { s with waits := s.waits ++ us.map fun u => { slice := s.mem.sliceKey u, unit := u, who := who } }

/-- A waiter's entries removed. -/
def State.dropWaits (s : State) (who : Waiter) : State := { s with waits := s.waits.filter fun w => w.who != who }

end Sys2Proof.Machine
end

