-- ==== Sys2Proof/Machine/Access.lean ====
section
/-!
DEFINITION. A group's access to memory: the checks of R141 in their order over every lane and part, the parking
on cells and pages, and the reads and writes it performs when they pass (R125, R126, R130, R135 to R141, R211).
-/
namespace Sys2Proof.Machine

/-- What one lane accesses: parts of an address and a length, none across a 64 KiB boundary when aligned. -/
structure LaneReq where
  lane : Nat
  parts : List (Addr × Nat)
  deriving DecidableEq, Repr

/-- How an instruction uses cells (R208, R218). -/
inductive CellUse where
  /-- no tag is checked -/
  | free
  | touch
  | write
  /-- RESOLVE and CELLFAIL: an EVL cell of the issuer's own evaluation may be written -/
  | own
  deriving DecidableEq, Repr

/-- How an instruction accesses global memory. -/
structure Access where
  use : Use
  align : Nat
  cells : CellUse
  /-- only on pages with CELL = 1 (R218) -/
  tagged : Bool := false
  /-- it reads the bytes, so that any poisoned unit stops it (R138) -/
  reads : Bool := true
  /-- each part writes its whole unit (R222) -/
  whole : Bool := false
  deriving DecidableEq, Repr

/-- A part with the place it translates to. -/
structure Placed where
  va : Addr
  n : Nat
  at' : Place
  deriving DecidableEq, Repr

/-- The least address of a list (R141). -/
def least : List Addr → Option Addr
  | [] => none
  | a :: r => match least r with
    | some b => if a.toNat ≤ b.toNat then some a else some b
    | none => some a

/-- A lane after checks 1 to 4 of R141: its places, a page that makes it wait (R133), its trap, or a table word of its
walk that cannot be read, with that word's unit (R138, R377; log 59). -/
inductive Pre where
  | ok (ps : List Placed)
  | page
  | bad (i : TrapInfo)
  | unreadable (i : TrapInfo) (u : Nat)
  deriving DecidableEq, Repr

/-- A lane's trap information. -/
def laneTrap (lane : Nat) (cause : Byte) (a : Addr) (fwd : Byte := 0) : TrapInfo :=
  { cause := cause, addr := a, lane := BitVec.ofNat 8 lane, fwd := fwd }

/-- A translated part, with PERMISSION where the page has no tags and the instruction needs them (R218). -/
def Access.place (A : Access) (x : Xlat) : Xlat :=
  match x with
  | .ok p => if A.tagged && !p.cell then .bad PERMISSION else x
  | _ => x

/-- The toucher that a group's instruction is (R213, R214). -/
def Issue.toucher (I : Issue) : Toucher := ⟨I.c.num, I.g.sched.toNat, I.g.lineage⟩

/-- Translation for the issuing group. -/
def Issue.xlat (I : Issue) (u : Use) (va : Addr) : Xlat := I.s.translate I.c I.t.place.die (coreIdx I.t.place) u va

/-- Checks 1 to 4 of R141 for one lane in global space. -/
def Issue.preLane (I : Issue) (A : Access) (r : LaneReq) : Pre :=
  let xs := r.parts.map fun p => (p, A.place (I.xlat A.use p.1))
  let bads := fun (f : (Addr × Nat) × Xlat → Bool) => least ((xs.filter f).map fun x => x.1.1)
  match bads fun x => x.1.1.toNat % A.align != 0 with
  | some a => .bad (laneTrap r.lane MISALIGNED a)
  | none =>
  match bads fun x => x.1.1.extractLsb' 56 8 != 0 with
  | some a => .bad (laneTrap r.lane TRANSLATION a)
  | none =>
  match bads fun x => x.2 == .bad TRANSLATION with
  | some a => .bad (laneTrap r.lane TRANSLATION a)
  | none =>
  match bads fun x => x.2 == .bad PERMISSION with
  | some a => .bad (laneTrap r.lane PERMISSION a)
  | none =>
  match bads fun x => x.2 == .bad UNCORRECTABLE with
  | some a => .unreadable (laneTrap r.lane UNCORRECTABLE a) ((I.s.walkBad I.c.root a.toNat).getD 0)
  | none =>
    if xs.any fun x => x.2 == .wait then .page
    else .ok (xs.filterMap fun x => match x.2 with
      | .ok p => some ⟨x.1.1, x.1.2, p⟩
      | _ => none)

/-- The outcome of check 5 for a lane: units to wait for, or the lowest part that traps. -/
structure CellRes where
  units : List Nat := []
  bad : Option (Addr × Byte × Byte) := none
  deriving DecidableEq, Repr

/-- The lower of two failing parts (R141). -/
def CellRes.fail (r : CellRes) (a : Addr) (cause fwd : Byte) : CellRes :=
  match r.bad with
  | some b => if a.toNat < b.1.toNat then { r with bad := some (a, cause, fwd) } else r
  | none => { r with bad := some (a, cause, fwd) }

/-- Check 5 for one part (R208, R209, R211). A unit that an error hides is left to check 6 (log 21). DESIGN CHOICE (log
94): R204 checks tags at the home slice, and R160 lets an L1 serve a read; the model touches the cell at its home also for
a load whose bytes the L1 then gives. -/
def State.cellPart (s : State) (T : Toucher) (A : Access) (own : Nat) (p : Placed) (r : CellRes) : CellRes × State :=
  let u := p.at'.pa / 64
  if !p.at'.cell || s.unitBad u then (r, s)
  else match A.cells with
    | .free => (r, s)
    | .touch =>
      match s.touch T u p.va with
      | (.ok, s) => (r, s)
      | (.wait, s) => ({ r with units := r.units ++ [u] }, s)
      | (.bad cause fwd, s) => (r.fail p.va cause fwd, s)
    | .write => (if s.busy none u then r.fail p.va CELL_BUSY 0 else r, s)
    | .own => (if s.busy (some own) u then r.fail p.va CELL_BUSY 0 else r, s)

/-- Check 5 for every part of a lane. -/
def State.cellParts (s : State) (T : Toucher) (A : Access) (own : Nat) : List Placed → CellRes → CellRes × State
  | [], r => (r, s)
  | p :: ps, r =>
    match s.cellPart T A own p r with
    | (r, s) => State.cellParts s T A own ps r

/-- The bytes of each unit that the instruction's write covers, by all its lanes (R138). -/
def coverage (ps : List Placed) : List Piece :=
  ps.map fun p => { pa := p.at'.pa, data := List.replicate p.n 0, cell := p.at'.cell, host := p.at'.host }

/-- A part meets an uncorrectable unit: check 6 of R141 (R138, R357). -/
def State.badPart (s : State) (A : Access) (all : List Piece) (p : Placed) : Bool :=
  let u := p.at'.pa / 64
  !p.at'.host && (!s.stackReady p.at'.pa ||
    (s.mem.poisoned u && (A.reads || !(A.whole || (covered all u).length == 64))))

/-- TRAPADDR of an uncorrectable part: the first byte of a poisoned unit (R138), else the part's own. -/
def State.badAddr (s : State) (p : Placed) : Addr :=
  if s.mem.poisoned (p.at'.pa / 64) then p.va &&& ~~~(63 : Addr) else p.va

/-- A lane after check 6. -/
inductive LaneRes where
  | ok (ps : List Placed)
  | wait (us : List Nat)
  | page
  | bad (i : TrapInfo)
  | uncorrectable (i : TrapInfo) (u : Nat)
  deriving DecidableEq, Repr

/-- Checks 5 and 6 for one lane that has passed 1 to 4. -/
def State.lateLane (s : State) (T : Toucher) (A : Access) (own lane : Nat) (all : List Piece) (ps : List Placed) :
    LaneRes × State :=
  match s.cellParts T A own ps {} with
  | (r, s) =>
    match r.bad with
    | some b => (.bad (laneTrap lane b.2.1 b.1 b.2.2), s)
    | none =>
      let bad := ps.filter fun p => s.badPart A all p
      match least (bad.map (s.badAddr ·)), bad.head? with
      | some a, some p => (.uncorrectable (laneTrap lane UNCORRECTABLE a) (p.at'.pa / 64), s)
      | _, _ => (if r.units.isEmpty then .ok ps else .wait r.units, s)

/-- Every lane after the checks, in ascending order, with the evaluations they start (R211). -/
def State.lateLanes (s : State) (T : Toucher) (A : Access) (own : Nat) (all : List Piece) :
    List (Nat × Pre) → List (Nat × LaneRes) × State
  | [] => ([], s)
  | (lane, .bad i) :: r => match State.lateLanes s T A own all r with | (l, s) => ((lane, .bad i) :: l, s)
  | (lane, .page) :: r => match State.lateLanes s T A own all r with | (l, s) => ((lane, .page) :: l, s)
  | (lane, .unreadable i u) :: r =>
    match State.lateLanes s T A own all r with | (l, s) => ((lane, .uncorrectable i u) :: l, s)
  | (lane, .ok ps) :: r =>
    match s.lateLane T A own lane all ps with
    | (x, s) => match State.lateLanes s T A own all r with | (l, s) => ((lane, x) :: l, s)

/-- The trap of a lane. -/
def LaneRes.trap? : Nat × LaneRes → Option TrapInfo
  | (_, .bad i) => some i
  | (_, .uncorrectable i _) => some i
  | _ => none

/-- What the checks of R141 leave: an access to perform, a trap, or a wait. -/
inductive Verdict where
  | ok (l : List (Nat × List Placed))
  | trap (i : TrapInfo)
  | cells (us : List Nat)
  | page
  deriving DecidableEq, Repr

/-- The first failing lane's trap, else the waits, else every lane's places (R141, R211). -/
def verdict (l : List (Nat × LaneRes)) : Verdict :=
  match l.findSome? LaneRes.trap? with
  | some i => .trap i
  | none =>
    if l.any fun x => x.2 == .page then .page
    else
      let us := l.flatMap fun x => match x.2 with | .wait us => us | _ => []
      if us.isEmpty then .ok (l.filterMap fun x => match x.2 with | .ok ps => some (x.1, ps) | _ => none)
      else .cells us

/-- The unit whose error the deciding lane met, if its trap is UNCORRECTABLE by poison. -/
def poisonMet (s : State) (l : List (Nat × LaneRes)) : Option Nat :=
  (l.find? fun x => (LaneRes.trap? x).isSome).bind fun x =>
    match x.2 with
    | .uncorrectable _ u => if s.mem.poisoned u then some u else none
    | _ => none

/-- The issuing group's core. -/
def Issue.core (I : Issue) : Nat := coreIdx I.t.place

/-- The machine once the addresses of some accesses have been translated (R129). -/
def Issue.walked (I : Issue) (vas : List Addr) : State := vas.foldl (fun s a => s.useTables I.t.place.die I.core I.c a) I.s

/-- The checks of R141 in global space, with the state that the walks and touches leave. -/
def Issue.check (I : Issue) (A : Access) (reqs : List LaneReq) : Verdict × State :=
  let pre := reqs.map fun r => (r.lane, I.preLane A r)
  let all := coverage (pre.flatMap fun p => match p.2 with | .ok ps => ps | _ => [])
  match (I.walked (reqs.flatMap fun r => r.parts.map Prod.fst)).lateLanes I.toucher A (I.g.lineage.extractLsb' 0 16).toNat all pre with
  | (l, s) =>
    let s := match poisonMet s l with | some u => s.memoryError (some I.c.num) u | none => s
    (verdict l, s)

/-- The lines of awaited units leave a core's L1, so that the loads of the next check come from the home (R170). -/
def State.dropAwaited (s : State) (core : Nat) (us : List Nat) : State :=
  s.setMem (us.foldl (fun m u => m.dropSectors core (128 * (u / 2)) 128) s.mem)

/-- A group parks on cells: in the wait tables, or where one is full until the next retry alone, even if its other cells leave
EVL before (R211; log 114). -/
def Issue.parkCells (I : Issue) (s : State) (us : List Nat) : Eff :=
  if s.tableFull us then .park s (.tableFull (s.cycle + 4096) us)
  else .park (s.enterWaits (.group I.g.gid) us) (.cell us)

/-- The issue in a machine where what the issuing lanes have on its way is performed, and at cluster scope or wider every
write of the core: a release that is performed as it issues (R162, R163, R167). -/
def Issue.releaseIn (I : Issue) (wide : Bool) (s : State) : State :=
  s.drain fun y => y.core == I.core &&
    ((y.gid == I.g.gid && y.lanes &&& I.active != 0) || (wide && y.writes && y.space == 0))

/-- The issue as it goes on in another state of the machine. -/
def Issue.within (I : Issue) (s : State) : Issue :=
  { I with s := s, g := (s.group I.g.gid).getD I.g, t := (s.team I.t.tid).getD I.t }

/-- The issue after its release. -/
def Issue.releasing (I : Issue) (wide : Bool) : Issue := I.within (I.releaseIn wide I.s)

/-- An access of some lanes, as it waits on its way or as what is performed at once is ordered by (R157). -/
def Issue.flight (I : Issue) (o : MemOp) (lanes : LaneSet) (p : Placed) (deed : Deed) : Flight :=
  { core := I.core, gid := I.g.gid, team := I.t.tid, lanes := lanes, at' := I.s.free, host := p.at'.host
    cached := p.at'.cached, cell := p.at'.cell, pa := p.at'.pa, n := p.n, key := p.at'.key, reuse := o.reuse.toNat, order := o.order.toNat
    scope := o.scope.toNat, deed := deed }

/-- The same for bytes of a buffer of the team. -/
def Issue.bufferFlight (I : Issue) (o : MemOp) (lanes : LaneSet) (off n : Nat) (deed : Deed) : Flight :=
  { core := I.core, gid := I.g.gid, team := I.t.tid, lanes := lanes, at' := I.s.free, space := o.space.toNat, pa := off
    n := n, deed := deed }

/-- One lane. -/
def oneLane (i : Nat) : LaneSet := laneSet (· == i)

/-- What an access that is performed at home as it issues comes after is performed (R157, R163). -/
def Issue.drainFor (I : Issue) (o : MemOp) (l : List (Nat × List Placed)) (s : State) : State :=
  let xs := l.flatMap fun x => x.2.map fun p => I.flight o (oneLane x.1) p (.store [] true)
  (s.before xs).flushRuns I.core xs

/-- A global access: checked, then performed, or the trap or wait that the checks give. -/
def Issue.global (I : Issue) (A : Access) (reqs : List LaneReq) (perform : State → List (Nat × List Placed) → Eff) : Eff :=
  match I.check A reqs with
  | (.ok l, s) => perform s l
  | (.trap i, s) => .trap s i
  | (.cells us, s) => I.parkCells s us
  | (.page, s) => .park s .retry

/-! ### Buffers -/

/-- The first byte of a part at or beyond the footprint (R126). -/
def beyond (F : Nat) (a : Addr) (n : Nat) : Option Addr :=
  if a.toNat + n ≤ F then none else if a.toNat < F then some (BitVec.ofNat 64 F) else some a

/-- Checks 1 and 2 of R141 for one lane in a buffer space. -/
def bufferLane (F align : Nat) (r : LaneReq) : Option TrapInfo :=
  match least ((r.parts.filter fun p => p.1.toNat % align != 0).map Prod.fst) with
  | some a => some (laneTrap r.lane MISALIGNED a)
  | none => (least (r.parts.filterMap fun p => beyond F p.1 p.2)).map (laneTrap r.lane BUFFER_BOUNDS)

/-- The checks of an access to a buffer. -/
def Issue.bufferCheck (I : Issue) (space align : Nat) (reqs : List LaneReq) : Option TrapInfo :=
  reqs.findSome? (bufferLane (I.t.footprint space) align)

/-! ### Reads and writes that passed the checks -/

/-- The bytes of a part (R130, R135, R160). -/
def State.readPart (s : State) (core reuse : Nat) (p : Placed) : List Byte × State :=
  s.readRun core reuse p.at'.host p.at'.cached p.at'.key p.at'.pa p.n

/-- The bytes of every part of a lane, in order. -/
def State.readParts (s : State) (core reuse : Nat) : List Placed → List Byte × State
  | [] => ([], s)
  | p :: ps =>
    match s.readPart core reuse p with
    | (b, s) => match State.readParts s core reuse ps with | (bs, s) => (b ++ bs, s)

/-- Each lane's bytes. -/
def State.readLanes (s : State) (core reuse : Nat) : List (Nat × List Placed) → List (Nat × List Byte) × State
  | [] => ([], s)
  | (lane, ps) :: r =>
    match s.readParts core reuse ps with
    | (b, s) => match State.readLanes s core reuse r with | (l, s) => ((lane, b) :: l, s)

/-- An ordinary write of one instruction at its homes: L2 residency, the writer's L1 sectors updated, or dropped
for an atomic, RED or STC (R135, R143). -/
def State.writeHome (s : State) (core reuse : Nat) (drop : Bool) (ws : List (Placed × List Byte)) : State :=
  let m := s.mem.writePieces s.free (ws.map fun w => w.1.at'.piece w.2)
  let m := ws.foldl (fun m w => m.l2Use w.1.at' w.1.n reuse true) m
  s.setMem (ws.foldl (fun m w =>
    if w.1.at'.host then m
    else if drop then m.dropSectors core w.1.at'.pa w.1.n
    else if w.1.at'.cell then m.refreshUnit w.1.at'.key core (w.1.at'.pa / 64) else m.patchL1 w.1.at'.key core w.1.at'.pa w.2) m)

/-- A part that a store may leave on its way: a place of host memory, or of a unit that no error hides and whose cell, if it is
one, holds its value; the others are performed as they issue (log 6). -/
def State.mayWait (s : State) (p : Placed) : Bool :=
  p.at'.host || (unitsOf p.at'.pa p.n).all fun u => !s.unitBad u && (!p.at'.cell || s.mem.tag u == .val)

/-- The places of every lane, paired with the bytes that the lane stores there. -/
def storing (l : List (Nat × List Placed)) (bytes : Nat → List Byte) : List (Placed × List Byte) :=
  l.flatMap fun x => x.2.map fun p => (p, bytes x.1)

/-- Accesses on their way. -/
def State.send (s : State) (xs : List Flight) : State := { s with flights := some (s.flights.getD [] ++ xs) }

/-- A store of one instruction (R143, R157, R160): performed at its homes, or on its way there. -/
def Issue.storeOut (I : Issue) (o : MemOp) (drop : Bool) (l : List (Nat × List Placed)) (bytes : Nat → List Byte) (s : State) :
    State :=
  let ws := storing l bytes
  let xs := l.flatMap fun x => x.2.map fun p => I.flight o (oneLane x.1) p (.store (bytes x.1) drop)
  if s.flights.isSome && ws.all (fun w => s.mayWait w.1) then s.send xs
  else ((s.before xs).flushRuns I.core xs).writeHome I.core o.reuse.toNat drop ws

/-! ### Order and scope -/

/-- An acquire at cluster scope or wider flash-invalidates the issuing core's L1 (R135, R163). -/
def Issue.acquire (I : Issue) (order scope : Nat) (s : State) : State :=
  if order % 2 = 1 ∧ 3 ≤ scope then s.setMem (s.mem.flash I.core) else s

/-- A release at domain scope waits until every earlier remote write of the lanes is acknowledged (R163). -/
def Issue.releaseWaits (I : Issue) (order scope : Nat) : Bool :=
  decide (2 ≤ order) && scope == 6 &&
    I.s.fabric.any fun o => o.gid == I.g.gid && o.ldSeq.isNone && o.lanes &&& I.active != 0 &&
      (!o.unsent.isEmpty || o.members.any fun m => m.owed != 0)

/-- The wait of a release at domain scope, then the rest (R163). -/
def withRelease (o : MemOp) (body : Issue → Eff) (I : Issue) : Eff :=
  if I.releaseWaits o.order.toNat o.scope.toNat then .stall I.s else body I

end Sys2Proof.Machine
end

