-- ==== Sys2Proof/Machine/Barrier.lean ====
section
/-!
DEFINITION. Fixed barriers and quires: their arrivals, completions and tests (R223 to R231).
-/
namespace Sys2Proof.Machine

/-! ### Fixed barriers -/

/-- The unit that owns the barriers of a level: the team, its cluster, its launch (R223). -/
def Team.owner (t : Team) (level : Nat) : Nat := if level = 0 then t.tid else if level = 1 then t.cluster else t.launch

/-- The live members of a barrier: an exited group counts as arrived in every generation (R225). -/
def State.members (s : State) (level owner : Nat) : List Group :=
  s.groups.filter fun g => (s.team g.team).any fun t => t.owner level == owner

/-- A barrier in use, or IDLE in its first generation. -/
def State.barrier (s : State) (level owner idx : Nat) : Barrier :=
  (s.barriers.find? fun b => b.level == level && b.owner == owner && b.idx == idx).getD
    { level := level, owner := owner, idx := idx }

def State.setBarrier (s : State) (b : Barrier) : State :=
  { s with barriers := b :: s.barriers.filter fun x => !(x.level == b.level && x.owner == b.owner && x.idx == b.idx) }

/-- The members that a generation waits for: those of its mask, if it has one (R225, R226). -/
def State.awaited (s : State) (b : Barrier) : List Group :=
  (s.members b.level b.owner).filter fun g => match b.mask with
    | none => true
    | some m => m.getLsbD g.index

/-- IDLE: no generation is open (R226). -/
def Barrier.idle (b : Barrier) : Bool := b.arrived.isEmpty && b.mask.isNone

/-- Completion, where every awaited member has arrived: the next generation opens with the early arrivals, which
may complete it in turn (R225, R226). -/
def State.completeBarrier (s : State) : Nat → Barrier → Barrier
  | 0, b => b
  | n + 1, b =>
    if !b.idle && (s.awaited b).all fun g => b.arrived.contains g.gid then
      State.completeBarrier s n { b with gen := b.gen + 1, mask := none, arrived := b.early, early := [] }
    else b

/-- A barrier after an event, tested for completion. -/
def State.testBarrier (s : State) (b : Barrier) : State := s.setBarrier (s.completeBarrier 4 b)

/-- A group's pending generation at a barrier (R225). -/
def Group.pendingGen (g : Group) (level idx : Nat) : Option Nat :=
  (g.pending.find? fun p => p.1 == level && p.2.1 == idx).map fun p => p.2.2

def Group.setPending (g : Group) (level idx gen : Nat) : Group :=
  { g with pending := (level, idx, gen) :: g.pending.filter fun p => !(p.1 == level && p.2.1 == idx) }

/-- A plain arrival of a group (R225, R226): none is SYNC_MASK. -/
def State.arrive (s : State) (b : Barrier) (gid : Nat) : Option State :=
  if b.mask.isSome then none
  else if !b.arrived.contains gid then
    some ((s.onGroup gid fun g => g.setPending b.level b.idx b.gen).testBarrier { b with arrived := b.arrived ++ [gid] })
  else if b.early.contains gid then none
  else some ((s.onGroup gid fun g => g.setPending b.level b.idx (b.gen + 1)).setBarrier { b with early := b.early ++ [gid] })

/-- A failed masked generation (R226): its parked members trap SYNC_MASK, its arrivals are discarded. -/
def State.failMask (s : State) (b : Barrier) : State :=
  let s := b.arrived.foldl (fun s gid => match s.group gid with
    | some g => s.trapGroup { g with pending := g.pending.filter fun p => !(p.1 == b.level && p.2.1 == b.idx) } 8 (trap0 SYNC_MASK)
    | none => s) s
  s.setBarrier { b with gen := b.gen + 1, mask := none, arrived := [], early := [] }

/-- What a GSYNC arrival does (R226): counted, refused without effect, or a mismatch that fails the generation. -/
inductive MaskArrival where
  | counted (s : State)
  | refused
  | mismatch (s : State)

def State.arriveMask (s : State) (b : Barrier) (gid : Nat) (m : BitVec 16) : MaskArrival :=
  match b.mask with
  | none =>
    if b.arrived.isEmpty then
      .counted ((s.onGroup gid fun g => g.setPending b.level b.idx b.gen).testBarrier
        { b with mask := some m, arrived := [gid] })
    else .refused
  | some m' =>
    if m' == m && !b.arrived.contains gid then
      .counted ((s.onGroup gid fun g => g.setPending b.level b.idx b.gen).testBarrier { b with arrived := b.arrived ++ [gid] })
    else .mismatch (s.failMask b)

/-- Every barrier of the levels tested afresh after a member has gone (R225, R226). -/
def State.retestBarriers (s : State) : State := s.barriers.foldl (fun s b => s.testBarrier b) s

/-! ### Quires -/

/-- The test after every event of a side (R228). -/
def QSide.test (q : QSide) : QSide :=
  if q.owed = 0 ∧ q.bytes = 0 then { q with phase := !q.phase, owed := q.owedEach, acq := q.glob, glob := false }
  else if q.owed = 0 ∧ q.bytes < 0 then { q with broken := true }
  else q

/-- An arrival (R229, R231): the side, and whether it underflowed. -/
def QSide.arrive (q : QSide) : QSide × Bool :=
  if q.broken then (q, true)
  else if q.owed = 0 then ({ q with broken := true }, true)
  else
    let q := ({ q with owed := q.owed - 1 } : QSide).test
    (q, q.broken)

/-- A decrement of n pending bytes, of global memory or of a buffer (R169, R229, R231). -/
def QSide.land (q : QSide) (n : Nat) (glob : Bool) : QSide × Bool :=
  if q.broken then (q, true)
  else if q.bytes - n < -2147483648 then ({ q with broken := true }, true)
  else
    let q := ({ q with bytes := q.bytes - n, glob := q.glob || (glob && n != 0) } : QSide).test
    (q, q.broken)

/-- SBEXP with c arrivals and n bytes (R235): none is STAGE_UNDERFLOW with nothing changed. -/
def QSide.expect (q : QSide) (c n : Nat) : Option QSide :=
  if q.broken then none
  else if q.bytes + n > 2147483647 then none
  else
    let q := if c ≠ 0 then { q with owed := (if q.owed = q.owedEach then c else q.owed), owedEach := c } else q
    some ({ q with bytes := q.bytes + n } : QSide).test

/-- One side of a quire: full, or empty. -/
def Quire.side (q : Quire) (empty : Bool) : QSide := if empty then q.empty else q.full
def Quire.setSide (q : Quire) (empty : Bool) (x : QSide) : Quire := if empty then { q with empty := x } else { q with full := x }

/-- The code that a group parked at SBWAIT keeps in `prog`: quire, side and parity. -/
def waitCode (n : Nat) (empty p : Bool) : Nat := 2 + 4 * n + 2 * empty.toNat + p.toNat

/-- A side replaced; a flip ends the wait of every group parked on the old phase (R228, R237). -/
def State.setSide (s : State) (tid n : Nat) (empty : Bool) (x : QSide) : State :=
  match s.team tid with
  | none => s
  | some t =>
    let q := t.quires.getD n {}
    let old := q.side empty
    let s := s.setTeam { t with quires := t.quires.set n (q.setSide empty x) }
    if old.phase == x.phase then s
    else { s with groups := s.groups.map fun g =>
      if g.team == tid && g.prog == waitCode n empty old.phase then { g with woken := true, wokenGlobal := g.wokenGlobal || x.acq } else g }

/-- A side of a team's quire. -/
def State.side (s : State) (tid n : Nat) (empty : Bool) : QSide :=
  (((s.team tid).map fun t => (t.quires.getD n {}).side empty)).getD {}

/-- An arrival at a quire side: the state, and whether it underflowed (R231). -/
def State.quireArrive (s : State) (tid n : Nat) (empty : Bool) : State × Bool :=
  match (s.side tid n empty).arrive with
  | (x, u) => (s.setSide tid n empty x, u)

/-- Bytes of a copy counted at the full side of a quire (R230, R231). -/
def State.quireLand (s : State) (tid n bytes : Nat) (glob : Bool) : State × Bool :=
  match (s.side tid n false).land bytes glob with
  | (x, u) => (s.setSide tid n false x, u)

end Sys2Proof.Machine
end

