-- ==== Sys2Proof/Machine/Array.lean ====
section
/-!
DEFINITION. The array of a quad: operands and steps of a pass, arbitration, suspension and completion (R174 to
R190).
-/
namespace Sys2Proof.Machine

/-! ### Operand layouts (R178 to R180) -/

/-- Bytes of `k` × `m` elements of a slot (R179, R180). -/
def regionBytes (slot : Word) (k m : Nat) : Nat := k * m * elemBits (slotElem slot) / 8

/-- Bytes of an operand of depth k with m rows or columns (R179, R180). -/
def operandBytes (slot : Word) (k m : Nat) : Nat :=
  regionBytes slot k m + (if slotScale slot = 1 then k / 32 * m else 0) + (if slotElem slot = 8 then k / 32 * m else 0)

/-- The byte runs that step t reads of an operand: elements, scales, special bytes (R179, R180, R182). -/
def stepRuns (slot : Word) (k m t : Nat) : List (Nat × Nat) :=
  [(regionBytes slot (32 * t) m, regionBytes slot 32 m)] ++
  (if slotScale slot = 1 then [(regionBytes slot k m + t * m, m)] else []) ++
  (if slotElem slot = 8 then [(regionBytes slot k m + k / 32 * m + t * m, m)] else [])

/-- Row or column x of a step's operand, from the bytes of its runs (R45, R179, R180). -/
def stepOperand (slot : Word) (m : Nat) (runs : List (List Byte)) (x : Nat) : BlockOperand :=
  let c := slotElem slot
  let elems := ofLe (runs.getD 0 [])
  let special := ((runs.getD 2 []).getD x 0).toNat
  { values := (List.range 32).map fun kk => elemValue c special (bits elems (elemBits c * (kk * m + x)) (elemBits c))
    scale := if slotScale slot = 1 then some ((runs.getD 1 []).getD x 0).toNat else none }

/-- C[i][j] after one accumulation step from c (R62, R63, R182). -/
def stepValue (slotA slotB : Word) (n : Nat) (a b : List (List Byte)) (i j : Nat) (c : Word) : Word :=
  stepSum slotA slotB c (stepOperand slotA Config.width a i) (stepOperand slotB n b j)

/-! ### Bytes of the operands -/

/-- The A operand's bytes at given runs: from the A-buffer, or the latch (R179, R181). -/
def readA (t : Team) (a : QArray) (latch : Bool) (oa : Nat) (runs : List (Nat × Nat)) : List (List Byte) :=
  runs.map fun r =>
    if latch then lookups 0 ((a.latch.map Latch.data).getD []) r.1 r.2 else lookups 0 t.abuf (oa + r.1) r.2

/-- A run of virtual addresses cut at unit boundaries. -/
def cutUnits : Nat → Addr → Nat → List (Addr × Nat)
  | 0, _, _ => []
  | f + 1, a, n =>
    if n = 0 then []
    else
      let k := min n (64 - a.toNat % 64)
      (a, k) :: cutUnits f (a + BitVec.ofNat 64 k) (n - k)

/-- What a tile fetch gives: bytes, cells to wait for, or a fault (R189). -/
inductive Fetched where
  | bytes (bs : List Byte)
  | cells (us : List Nat)
  | fault (i : TrapInfo)
  deriving DecidableEq, Repr

/-- One piece of a tile fetch, within a unit: translated under the pin, its tag checked at the home slice
(R188, R189, R208, R210). DESIGN CHOICE (log 24): the spec gives tile fetch no reuse value; its L2 accesses use 0. -/
def State.fetchPiece (s : State) (c : Context) (T : Toucher) (die core : Nat) (va : Addr) (n : Nat) : Fetched × State :=
  let s := s.useTables die core c va
  match s.translatePinned c die core .tile va with
  | .wait => (.cells [], s)
  | .bad cause => (.fault { cause := cause, addr := va }, s)
  | .ok p =>
    let u := p.pa / 64
    let first := va &&& ~~~(63 : Addr)
    if !s.stackReady p.pa then (.fault { cause := UNCORRECTABLE, addr := first }, s)
    else if s.mem.poisoned u then (.fault { cause := UNCORRECTABLE, addr := first }, s.memoryError (some c.num) u)
    else if !p.cell then (.bytes (s.mem.see s.free p.key p.pa n), s.setMem (s.mem.l2Lines true p.pa n 0 false))
    else match s.touch T u va with
      | (.ok, s) => (.bytes (s.mem.see s.free p.key p.pa n), s.setMem (s.mem.l2Lines true p.pa n 0 false))
      | (.wait, s) => (.cells [u], s)
      | (.bad cause fwd, s) => (.fault { cause := cause, addr := first, fwd := fwd }, s)

/-- The pieces of a run: a fault ends it, cells are gathered (R189). DESIGN CHOICE (log 110): where one step's pieces hold both
a cell to wait for and an ERR cell or a bad unit, the fault wins and ends the pass at once: R189 gives no order. -/
def State.fetchPieces (s : State) (c : Context) (T : Toucher) (die core : Nat) : List (Addr × Nat) → Fetched × State
  | [] => (.bytes [], s)
  | (a, n) :: r =>
    match s.fetchPiece c T die core a n with
    | (.fault i, s) => (.fault i, s)
    | (.cells us, s) =>
      match State.fetchPieces s c T die core r with
      | (.bytes _, s) => (.cells us, s)
      | (.cells vs, s) => (.cells (us ++ vs), s)
      | (.fault i, s) => (.fault i, s)
    | (.bytes b, s) =>
      match State.fetchPieces s c T die core r with
      | (.bytes bs, s) => (.bytes (b ++ bs), s)
      | x => x

/-- The B operand's runs of a step (R180, R188). -/
def State.fetchB (s : State) (c : Context) (T : Toucher) (t : Team) (p : Pass) : List (Nat × Nat) →
    (List (List Byte) × Option Fetched) × State
  | [] => (([], none), s)
  | r :: rs =>
    if !p.l2 then
      match State.fetchB s c T t p rs with
      | ((l, f), s) => ((lookups 0 t.wbuf (p.ob.toNat + r.1) r.2 :: l, f), s)
    else
      match s.fetchPieces c T t.place.die (coreIdx t.place) (cutUnits (r.2 + 1) (p.ob + BitVec.ofNat 64 r.1) r.2) with
      | (.bytes b, s) =>
        match State.fetchB s c T t p rs with
        | ((l, f), s) => ((b :: l, f), s)
      | (.cells us, s) =>
        match State.fetchB s c T t p rs with
        | ((_, some (.cells vs)), s) => (([], some (.cells (us ++ vs))), s)
        | ((_, some x), s) => (([], some x), s)
        | ((_, none), s) => (([], some (.cells us)), s)
      | (.fault i, s) => (([], some (.fault i)), s)

/-! ### Arbitration (R183 to R185) -/

/-- A pass runs on the array. -/
def QArray.runs (a : QArray) : Bool := a.posted.any Pass.running

/-- The context of a group, if it is FIFO. -/
def State.fifoOf (s : State) (gid : Nat) : Option Nat :=
  (((s.group gid).bind fun g => s.team g.team).bind fun t => s.context t.ctx).bind fun c => if c.fifo then some c.num else none

/-- A pass waits: some cell it met is still awaited, or the wait table had no room and the time of its next touch has not
come (R185, R211). -/
def State.passWaits (s : State) (p : Pass) : Bool :=
  p.retryAt.any (fun c => decide (s.cycle < c)) || p.cells.any (s.awaits ·)

/-- The passes that a holder would run, in posting order. -/
def State.passesOf (s : State) (a : QArray) (h : Holder) : List Pass :=
  a.posted.filter fun p => match h with
    | .group g => p.gid == g
    | .fifo c => s.fifoOf p.gid == some c

def GStatus.isSpilled : GStatus → Bool
  | .spilled _ => true
  | _ => false

/-- A group is spilled (R215). -/
def State.isSpilled (s : State) (gid : Nat) : Bool := (s.group gid).any fun g => g.status.isSpilled

/-- A group's context is not ACTIVE (R268, R278). -/
def State.offDuty (s : State) (gid : Nat) : Bool :=
  (((s.group gid).bind fun g => s.team g.team).bind fun t => s.context t.ctx).any fun c => c.st != .active

/-- A pass cannot start: its context is not ACTIVE (R278), or its group is spilled and no longer owns the array: a spilled
owner's posted passes still run to their end (R185, R215). -/
def State.passHeld (s : State) (a : QArray) (p : Pass) : Bool :=
  match s.group p.gid with
  | none => false
  | some g =>
    (g.status.isSpilled && (a.owner.map Resv.who) != some (.group p.gid)) || s.offDuty p.gid

/-- A holder's next pass waits for cells, so that its reservation waits too (R185); that of a group that is spilled, or
whose context is being pre-empted, waits until the group is back. -/
def State.holderWaits (s : State) (a : QArray) (h : Holder) : Bool :=
  (match h with | .group g => s.isSpilled g || s.offDuty g | .fifo _ => false) ||
  match s.passesOf a h with
  | p :: _ => s.passWaits p || s.passHeld a p
  | [] => false

/-- The class of the group of a holder's oldest posted pass (R184). -/
def State.oldestClass (s : State) (a : QArray) (h : Holder) : Option Nat :=
  ((s.passesOf a h).head?.bind fun p => s.group p.gid).map fun g => g.sched.toNat

/-- The class that the owner holds the array at: a FIFO queue's follows its oldest posted pass (R184). -/
def State.ownerClass (s : State) (a : QArray) (o : Resv) : Nat :=
  match o.who with
  | .fifo _ => (s.oldestClass a o.who).getD o.cls
  | .group _ => o.cls

/-- The FIFO contexts with posted passes, each one requester of its oldest pass's class (R184). -/
def State.fifoRequests (s : State) (a : QArray) : List Resv :=
  (a.posted.filterMap fun p => s.fifoOf p.gid).eraseDups.filterMap fun c =>
    match s.passesOf a (.fifo c) with
    | p :: _ =>
      if (a.owner.map Resv.who) == some (.fifo c) then none
      else some { who := .fifo c, cls := (s.oldestClass a (.fifo c)).getD 0, since := p.at', raised := p.at' }
    | [] => none

/-- Every request that the arbiter may grant. -/
def State.requests (s : State) (a : QArray) : List Resv :=
  (a.resvs ++ s.fifoRequests a).filter fun r => !s.holderWaits a r.who

/-- The better of two requests: the higher class, then the older (R184). -/
def Resv.better (x y : Resv) : Bool := decide (y.cls < x.cls) || (x.cls == y.cls && decide (x.since < y.since))

/-- The request that the arbiter grants next. -/
def bestResv : List Resv → Option Resv
  | [] => none
  | r :: rs => match bestResv rs with
    | some b => if b.better r then some b else some r
    | none => some r

/-- Ownership given to a requester, at the class of its reservation. DESIGN CHOICE (log 92): a class that waiting has
raised (R184) stays raised while the group owns the array, and in the reservation it gets back. -/
def QArray.give (a : QArray) (r : Resv) : QArray :=
  { a with owner := some r, resvs := a.resvs.filter fun x => x.who != r.who }

/-- The old owner's reservation, which keeps its age; a FIFO queue needs none (R185). DESIGN CHOICE (log 108): the old owner
gets it even where the table already holds 16, so that the table then holds 17: R184 gives the table 16 entries, R185 gives
the old owner a reservation in every case, and no rule says which gives way. -/
def QArray.requeue (a : QArray) : QArray :=
  match a.owner with
  | some o => match o.who with
    | .group _ => { a with resvs := (a.resvs.filter fun r => r.who != o.who) ++ [{ o with leaving := false }], owner := none }
    | .fifo _ => { a with owner := none }
  | none => a

/-- The arbiter: a free array goes to the best request; a request of strictly higher class than the owner takes
the array, at once or at the end of the running step (R184, R185). -/
def State.arbitrate (s : State) (q : QuadId) : State :=
  let a := s.array q
  match a.owner with
  | none => match bestResv (s.requests a) with
    | some r => s.setArray (a.give r)
    | none => s
  | some o => match bestResv (s.requests a) with
    | some r =>
      if r.cls ≤ s.ownerClass a o then s
      else if a.runs then s.setArray { a with stopping := true }
      else s.setArray (a.requeue.give r)
    | none => s

/-- A reservation posted for a group, unless it owns the array or holds one: none while the table is full
(R184, R195). -/
def State.reserve (s : State) (q : QuadId) (g : Group) : Option State :=
  let a := s.array q
  if a.owner.any (fun o => o.who == .group g.gid && !o.leaving) || a.resvs.any fun r => r.who == .group g.gid then some s
  else if 16 ≤ a.resvs.length then none
  else
    let r : Resv := { who := .group g.gid, cls := g.sched.toNat, since := s.cycle, raised := s.cycle }
    some ((s.setArray { a with resvs := a.resvs ++ [r] }).arbitrate q)

/-- The group owns the array, no baton of its own is under way, and no spill has ended its ownership (R185, R196). -/
def QArray.owns (a : QArray) (gid : Nat) : Bool :=
  a.owner.any (fun o => o.who == .group gid && !o.leaving) && !a.batons.any fun b => b.1 == gid

/-- An owner without posted passes that may not keep the array: an empty FIFO queue, or a group that has been spilled, be it
reloaded meanwhile or not (R183, R185, R187). -/
def State.ownerLeaves (s : State) (a : QArray) : Bool :=
  match a.owner with
  | some o => (s.passesOf a o.who).isEmpty && (match o.who with | .fifo _ => true | .group g => o.leaving || s.isSpilled g)
  | none => false

/-- The array granted anew, its owner's ownership ended first where it may not keep the array (R185). -/
def State.regrant (s : State) (q : QuadId) : State :=
  let a := s.array q
  (s.setArray (if s.ownerLeaves a then { a with owner := none } else a)).arbitrate q

/-- The baton that the owner has passed and that waits for its posted passes to end (R196). -/
def QArray.ownersBaton (a : QArray) : Option (Nat × Option Nat) :=
  a.batons.find? fun b => (a.owner.map Resv.who) == some (.group b.1)

/-- A baton handed over once its giver, the owner, has no posted pass left; that of a giver who has lost the array waits
until it owns it again (R196). DESIGN CHOICE (log 109): the recipient is judged again at the hand-over, and the array
becomes FREE where it has left mode M since the MBATON: R196 has the named group in mode M and does not say when. -/
def State.passBaton (s : State) (q : QuadId) : State :=
  let a := s.array q
  match a.ownersBaton with
  | none => s
  | some (giver, target) =>
    if a.posted.any (fun p => p.gid == giver) then s
    else
      let a := { a with batons := a.batons.filter fun b => b.1 != giver, owner := none }
      match target.bind s.group with
      | some g =>
        if g.inM then
          (s.setArray (a.give { who := .group g.gid, cls := g.sched.toNat, since := s.cycle, raised := s.cycle })).regrant q
        else (s.setArray a).arbitrate q
      | none => (s.setArray a).arbitrate q

/-- The latch freed where no group of the holding team is in mode M (R181). -/
def State.freeLatch (s : State) (q : QuadId) : State :=
  let a := s.array q
  match a.latch with
  | some l => if s.groups.any fun g => g.team == l.team && g.inM then s else s.setArray { a with latch := none }
  | none => s

/-- The quad of a group. -/
def State.quadOf (s : State) (gid : Nat) : Option QuadId := ((s.group gid).bind fun g => s.team g.team).map Team.place

/-- A group's ownership and reservation released (R185, R194, R269). -/
def State.releaseArray (s : State) (gid : Nat) : State :=
  match s.quadOf gid with
  | none => s
  | some q =>
    let a := s.array q
    let a := { a with resvs := a.resvs.filter (fun r => r.who != .group gid), batons := a.batons.filter fun b => b.1 != gid }
    s.setArray (if (a.owner.map Resv.who) == some (.group gid) then { a with owner := none } else a)

/-! ### Completion (R189, R191) -/

/-- An operation marked done, with the fault it carries: that of its lowest faulting segment (R189). -/
def Group.opFault (g : Group) (seq seg : Nat) (i : TrapInfo) : Group :=
  { g with ops := g.ops.map fun o =>
      if o.seq == seq && (o.fault.isNone || decide (seg < o.faultSeg)) then { o with fault := some i, faultSeg := seg } else o }

def Group.markDone (g : Group) (seq : Nat) : Group :=
  { g with ops := g.ops.map fun o => if o.seq == seq then { o with done := true } else o }

/-- The oldest done operation whose arrival is due: every older arrival of the group at that side has been made
(R191, R229). -/
def dueArrival : List (Nat × Bool) → List Op → Option (Nat × Nat × Bool)
  | _, [] => none
  | held, o :: r => match o.arrival with
    | some a => if held.contains a then dueArrival held r else if o.done then some (o.seq, a.1, a.2) else dueArrival (a :: held) r
    | none => dueArrival held r

/-- The arrivals that completed operations of a group owe, made in issue order; an underflow is a deferred fault
of the operation (R191, R229, R231). -/
def State.makeArrivals (s : State) (gid : Nat) : Nat → State
  | 0 => s
  | n + 1 =>
    match (s.group gid).bind fun g => (dueArrival [] g.ops).map fun x => (g, x) with
    | none => s
    | some (g, seq, quire, empty) =>
      match s.quireArrive g.team quire empty with
      | (s, under) =>
        State.makeArrivals (s.onGroup gid fun g =>
          { g with ops := g.ops.map fun o =>
              if o.seq == seq then
                { o with arrival := none, fault := if under then o.fault <|> some { cause := STAGE_UNDERFLOW, addr := BitVec.ofNat 64 quire } else o.fault }
              else o }) gid n

/-- A matrix operation completes: its arrival, its count (R189, R191). -/
def State.completeMatrix (s : State) (gid seq : Nat) : State :=
  let s := s.onGroup gid fun g => g.markDone seq
  let s := s.makeArrivals gid (((s.group gid).map fun g => g.ops.length).getD 0)
  s.onGroup gid fun g => g.settleClass .mma

/-- A pass or segment is over: the next array segment of its GMMA takes its place, or the operation completes
(R185, R198). -/
def State.endPass (s : State) (q : QuadId) (p : Pass) : State :=
  let a := s.array q
  let same := fun (x : Pass) => x.gid == p.gid && x.seq == p.seq
  let me := fun (x : Pass) => same x && x.seg == p.seg
  let next := a.segs.find? fun x => same x && !x.vec
  let posted := if p.vec then a.posted else a.posted.flatMap fun x => if me x then next.toList else [x]
  let segs := a.segs.filter fun x => !me x && (p.vec || (next.map fun y => same x && x.seg == y.seg) != some true)
  let s := s.setArray { a with posted := posted, segs := segs }
  if posted.any same || segs.any same then s else s.completeMatrix p.gid p.seq

/-- Some group of the quad, or a vector segment, waits for a gap (R177, R198). -/
def State.wantsGap (s : State) (q : QuadId) : Bool :=
  (s.array q).segs.any Pass.vec ||
    s.groups.any fun g => g.gapWait && (s.team g.team).any fun t => t.place == q

/-- The array after posted passes have gone: a baton, ownership that ends, the arbiter (R183, R185, R196). -/
def State.resettle (s : State) (q : QuadId) : State := (s.passBaton q).regrant q

/-- The array after a pass has ended: a gap if one is wanted, then who owns it (R177, R185). -/
def State.afterPass (s : State) (q : QuadId) : State :=
  let want := s.wantsGap q
  let a := s.array q
  (s.setArray { a with stopping := false, limit := false, gap := if want then some (s.cycle + 32) else a.gap }).resettle q

/-- A pass replaced in the array's lists. -/
def QArray.setPass (a : QArray) (p : Pass) : QArray :=
  let f := fun (x : Pass) => if x.gid == p.gid && x.seq == p.seq && x.seg == p.seg then p else x
  { a with posted := a.posted.map f, segs := a.segs.map f }

/-- A pass, or a vector segment, held at its step: its pins are released (R186), and it waits in the wait tables for the
cells it met, or for the time of its next touch where one is full (R211). -/
def State.holdPass (s : State) (q : QuadId) (p : Pass) (cells : List Nat) : State :=
  let full := s.tableFull cells
  let s := if full then s else s.enterWaits (.pass p.gid p.seq p.seg) cells
  s.setArray ((s.array q).setPass
    { p with
      running := false, suspended := true, pins := [], cells := if full then [] else cells
      retryAt := if full then some (s.cycle + 4096) else none })

/-- A suspension at a step (R185, R186): the pass is held, the owner requeued, the array granted again. -/
def State.suspend (s : State) (q : QuadId) (p : Pass) (cells : List Nat) : State :=
  let s := s.holdPass q p cells
  (s.setArray { (s.array q).requeue with stopping := false, limit := false }).arbitrate q

/-- The registers that hold the accumulators after a step, in the rows of a pass (R175, R182). -/
def Group.accumulate (g : Group) (p : Pass) (a b : List (List Byte)) : Group :=
  (lanesOf p.rows).foldl (fun g i => (List.range p.n).foldl (fun g j =>
    let v := g.tileBase + j
    let c := if p.step = 0 ∧ !p.acc then 0 else g.read v i
    g.write v i (stepValue p.slotA p.slotB p.n a b i j c)) g) g

/-- The toucher that a pass is: the class and lineage of its group (R213, R214). -/
def Group.toucher (g : Group) (ctx : Nat) : Toucher := ⟨ctx, g.sched.toNat, g.lineage⟩

/-- What one accumulation step of a pass comes to: the pass done with it, cells met, or a fault (R182, R189). -/
inductive StepRes where
  | stepped (s : State)
  | cells (s : State) (us : List Nat)
  | fault (s : State) (i : TrapInfo)

/-- One accumulation step (R182, R186, R189). -/
def State.stepPass (s : State) (q : QuadId) (g : Group) (t : Team) (c : Context) (p : Pass) : StepRes :=
  let a := readA t (s.array q) p.latch p.oa (stepRuns p.slotA p.k Config.width p.step)
  match s.fetchB c (g.toucher c.num) t p (stepRuns p.slotB p.k p.n p.step) with
  | ((b, none), s) =>
    let s := s.onGroup g.gid fun g => g.accumulate p a b
    .stepped (s.setArray ((s.array q).setPass { p with step := p.step + 1 }))
  | ((_, some (.cells us)), s) => .cells s us
  | ((_, some (.fault i)), s) => .fault s i
  | ((_, some (.bytes _)), s) => .cells s []

/-- The group, team and context of a pass. -/
def State.passHome (s : State) (p : Pass) : Option (Group × Team × Context) :=
  match s.group p.gid with
  | none => none
  | some g => match s.team g.team with
    | none => none
    | some t => (s.context t.ctx).map fun c => (g, t, c)

/-- An MMA or GMMA that has not completed: the operations of class mma that write no register by RESULT_LAND. -/
def Op.isProduct (o : Op) : Bool := o.cls == .mma && !o.done && o.writes.isEmpty && o.due.isEmpty

/-- Every accumulator write of the group that is older than an operation has landed: the products have completed, on
whichever path they run, and so have the other writes (R176). -/
def Group.accReady (g : Group) (seq : Nat) : Bool :=
  !g.ops.any fun o => decide (o.seq < seq) &&
    (o.isProduct || ((o.writes.map Prod.fst) ++ o.due).any fun k => g.aliased (k / 64))

/-- The pages of a range, one address in each 64 KiB (R188). -/
def pageStarts (a : Addr) (n : Nat) : List Addr :=
  if n = 0 then []
  else (List.range ((a.toNat + n - 1) / 65536 - a.toNat / 65536 + 1)).map fun k =>
    if k = 0 then a else BitVec.ofNat 64 ((a.toNat / 65536 + k) * 65536)

/-- The walks of a range of tile fetch (R129, R188). -/
def State.tileWalks (s : State) (c : Context) (t : Team) (a : Addr) (n : Nat) : State :=
  (pageStarts a n).foldl (fun s v => s.useTables t.place.die (coreIdx t.place) c v) s

/-- A range translated for tile fetch: the first failing byte of TRANSLATION, then of PERMISSION, or a wait. -/
def State.tileRange (s : State) (c : Context) (t : Team) (a : Addr) (n : Nat) : Option Xlat × Addr :=
  let xs := (pageStarts a n).map fun v => (v, s.translate c t.place.die (coreIdx t.place) .tile v)
  match xs.find? fun x => x.2 == .bad TRANSLATION with
  | some x => (some x.2, x.1)
  | none => match xs.find? fun x => x.2 == .bad PERMISSION with
    | some x => (some x.2, x.1)
    | none => match xs.find? fun x => x.2 == .wait with
      | some x => (some x.2, x.1)
      | none => (none, a)

end Sys2Proof.Machine
end

