-- ==== Sys2Proof/Machine/Mat.lean ====
section
/-!
DEFINITION. The MAT instructions (R191 to R202).
-/
namespace Sys2Proof

/-- Columns that the N field names (R28). -/
def MatOp.cols (o : MatOp) : Nat := 16 * (o.n.toNat + 1)
/-- Depth K (R28). -/
def MatOp.depth (o : MatOp) : Nat := 32 * o.k.toNat

end Sys2Proof

namespace Sys2Proof.Machine

/-- A MAT instruction: it does not wait for aliased registers as others do (R176). `check` gives its MATRIX_STATE and
FORMAT_SLOT traps, which come first and rest on no operand (R192). -/
def matInstr (i : Instr) (enc : Issue → Bool) (body : Issue → Eff) (s : State)
    (check : Issue → Option Byte := fun _ => none) : Host.Outcome State Fault Refusal :=
  runInstr i (prologue i enc never (withChecks check (withPorts i body))) s

def Issue.array (I : Issue) : QArray := I.s.array I.t.place
def Issue.slotA (I : Issue) (o : MatOp) : Word := I.t.slots.getD o.slotA.toNat 0
def Issue.slotB (I : Issue) (o : MatOp) : Word := I.t.slots.getD o.slotB.toNat 0

/-- A uniform offset (R67, R191). -/
def Issue.offset (I : Issue) (v : Reg) : Nat := (I.g.read v.toNat I.lane0).toNat
def Issue.offset2 (I : Issue) (v : Reg) : Addr := pair (I.g.read v.toNat I.lane0) (I.g.read (v.toNat + 1) I.lane0)

/-- Some accumulator write of the group has not landed (R176, R200). -/
def Issue.accWaits (I : Issue) : Bool := !I.g.accReady I.g.nextSeq

/-! ### MODE.M, MODE.V, MRESV, MBATON, MSTAT -/

/-- MODE with mode M, a base and an N code (R174). -/
def modeWord (base : Reg) (n : BitVec 2) : Word := (n.setWidth 32 <<< 16) ||| (base.setWidth 32 <<< 8) ||| 1

/-- MODE.M (R193). -/
def execModeM (o : MatOp) (s : State) : Host.Outcome State Fault Refusal :=
  matInstr (.modeM o) (fun I => decide (I.g.nregs < o.w.d.toNat + o.cols)) (fun I =>
    if I.g.inM then I.trap MATRIX_STATE
    else if I.g.ports.any fun p => decide (o.w.d.toNat ≤ p.reg) && decide (p.reg < o.w.d.toNat + o.cols) then
      I.trap ALIAS_CONFLICT
    else .done (I.s.setGroup { I.g with mode := modeWord o.w.d o.n })) s

/-- Mode V entered: the array released, the latch freed (R194). -/
def State.leaveM (s : State) (gid : Nat) : State :=
  let q := s.quadOf gid
  let s := (s.releaseArray gid).onGroup gid fun g => { g with mode := 0 }
  match q with
  | some q => s.freeLatch q
  | none => s

/-- MODE.V (R194). -/
def execModeV (o : MatOp) (s : State) : Host.Outcome State Fault Refusal :=
  matInstr (.modeV o) never (fun I =>
    if !I.g.inM then .done I.s
    else if I.g.counter .mma != 0 then .park I.s .retry
    else match I.g.takeFault (fun d => d.cls == .mma) with
      | some (i, g) => .trap (I.s.setGroup g) i
      | none => .done (I.s.leaveM I.g.gid)) s

/-- MRESV (R195). -/
def execMresv (o : MatOp) (s : State) : Host.Outcome State Fault Refusal :=
  matInstr (.mresv o) never (fun I =>
    if !I.g.inM then I.trap MATRIX_STATE
    else if I.c.fifo then .done I.s
    else match I.s.reserve I.t.place I.g with
      | some s => .done s
      | none => .park I.s .retry) s

/-- The next group of the team in mode M, in cyclic order of GROUP (R196). -/
def Issue.nextInM (I : Issue) : Option Nat :=
  ((List.range I.t.ngroups).findSome? fun k =>
    I.s.groups.find? fun g => g.team == I.t.tid && g.index == (I.g.index + 1 + k) % I.t.ngroups && g.inM && g.gid != I.g.gid).map
    Group.gid

/-- The group of the team that an index names, in mode M (R196). -/
def Issue.namedInM (I : Issue) (idx : Nat) : Option Nat :=
  (I.s.groups.find? fun g => g.team == I.t.tid && g.index == idx && g.inM).map Group.gid

/-- A baton given: at once, or when the issuer's posted passes have ended (R196). -/
def Issue.giveBaton (I : Issue) (target : Option Nat) : Eff :=
  .done ((I.s.setArray { I.array with batons := I.array.batons ++ [(I.g.gid, target)] }).passBaton I.t.place)

/-- MBATON (R196). -/
def execMbaton (o : MatOp) (s : State) : Host.Outcome State Fault Refusal :=
  matInstr (.mbaton o) never (fun I =>
    if !I.g.inM then I.trap MATRIX_STATE
    else if I.c.fifo || !I.array.owns I.g.gid then .done I.s
    else if o.w.a = 0 then
      match I.nextInM with
      | some g => I.giveBaton (some g)
      | none => .done I.s
    else
      let idx := I.offset o.w.a
      if idx = I.g.index then .done I.s else I.giveBaton (I.namedInM idx)) s

/-- The MSTAT word (R202). DESIGN CHOICE (log 93): where the group has no posted array pass, its oldest segment on the
vector path counts as the oldest outstanding pass; and once a data error has ended a pass, the step field is that of the
next outstanding one, or 0, as R202 says, though R189 has MSTAT show the step. -/
def Issue.mstat (I : Issue) : Word :=
  let a := I.array
  let oldest := match a.posted.find? fun p => p.gid == I.g.gid with
    | some p => some p
    | none => a.segs.find? fun p => p.gid == I.g.gid
  let bit := fun (b : Bool) (n : Nat) => if b then 2 ^ n else 0
  let faults := I.g.deferred.any (fun d => d.cls == .mma) || I.g.ops.any fun o => o.cls == .mma && o.done && o.fault.isSome
  BitVec.ofNat 32 (2 ^ 24 * ((oldest.map Pass.step).getD 0) + 2 ^ 16 * a.posted.length + 2 ^ 8 * a.resvs.length +
    bit (a.latch.any fun l => l.team == I.t.tid) 5 + bit faults 4 + bit (oldest.any Pass.suspended) 3 +
    bit (a.resvs.any fun r => r.who == .group I.g.gid) 2 + bit ((a.owner.map Resv.who) == some (.group I.g.gid)) 1 +
    bit I.g.inM 0)

/-- MSTAT (R202). -/
def execMstat (o : MatOp) (s : State) : Host.Outcome State Fault Refusal :=
  matInstr (.mstat o) never (fun I =>
    I.later I.s .mma ((lanesOf I.active).map fun i => (regKey o.w.d.toNat i, I.mstat))) s

/-! ### Checks of a product (R181, R188, R192) -/

/-- MATRIX_STATE of a product: mode and columns, then the latch (R181, R197). -/
def Issue.latchBad (I : Issue) (o : MatOp) : Bool :=
  o.srcA == 1 && match I.array.latch with
    | some l => l.team != I.t.tid || l.n != o.depth
    | none => true

/-- FORMAT_SLOT of a product (R60, R181). -/
def Issue.slotsBad (I : Issue) (o : MatOp) : Bool :=
  !slotsPair (I.slotA o) (I.slotB o) ||
    (o.srcA == 1 && I.array.latch.any fun l => l.slot != o.slotA.toNat)

/-- Mode M with at least the named columns (R197). -/
def Issue.modeBad (I : Issue) (o : MatOp) : Bool := !I.g.inM || decide (I.g.tileCols < o.cols)

/-- The first traps of a product (R181, R192, R197). -/
def Issue.productCheck (o : MatOp) (I : Issue) : Option Byte :=
  if I.modeBad o || I.latchBad o then some MATRIX_STATE else if I.slotsBad o then some FORMAT_SLOT else none

/-- A trap with an address, for the group as a whole. -/
def wholeTrap (cause : Byte) (a : Addr) : TrapInfo := { cause := cause, addr := a }

/-- The first byte of a buffer range at or beyond the footprint (R126). -/
def rangeBeyond (F : Nat) (a n : Nat) : Option Addr :=
  if a + n ≤ F then none else some (BitVec.ofNat 64 (max a F))

/-- A's alignment, unless it comes from the latch (R180). -/
def Issue.aMisaligned (I : Issue) (o : MatOp) : Option Addr :=
  if o.srcA == 0 && I.offset o.w.a % 128 != 0 then some (BitVec.ofNat 64 (I.offset o.w.a)) else none

/-- A's bounds, unless it comes from the latch (R126, R188). -/
def Issue.aBeyond (I : Issue) (o : MatOp) : Option Addr :=
  if o.srcA == 0 then rangeBeyond I.t.abytes (I.offset o.w.a) (operandBytes (I.slotA o) o.depth Config.width) else none

/-- What the checks of one B operand give: a trap, a wait for a page, or nothing. -/
inductive BCheck where
  | ok
  | trap (i : TrapInfo)
  | wait
  deriving DecidableEq, Repr

/-- TRANSLATION and PERMISSION of a global B range, or W-buffer bounds (R188, R192). -/
def Issue.bRange (I : Issue) (o : MatOp) (ob : Addr) : BCheck :=
  let n := operandBytes (I.slotB o) o.depth o.cols
  if o.srcB == 1 then
    match I.s.tileRange I.c I.t ob n with
    | (some (.bad cause), a) => .trap (wholeTrap cause a)
    | (some .wait, _) => .wait
    | _ => .ok
  else match rangeBeyond I.t.wbytes ob.toNat n with
    | some a => .trap (wholeTrap BUFFER_BOUNDS a)
    | none => .ok

/-- The issue once the B ranges of some bases have been translated (R129, R188). -/
def Issue.walkB (I : Issue) (o : MatOp) (bs : List Addr) : Issue :=
  if o.srcB == 1 then
    { I with s := bs.foldl (fun s b => s.tileWalks I.c I.t b (operandBytes (I.slotB o) o.depth o.cols)) I.s }
  else I

/-! ### MMA -/

/-- A pass as issued. -/
def Issue.pass (I : Issue) (o : MatOp) (seg : Nat) (vec : Bool) (ob : Addr) (rows : LaneSet) : Pass :=
  { gid := I.g.gid, seq := I.g.nextSeq, seg := seg, vec := vec, slotA := I.slotA o, slotB := I.slotB o
    latch := o.srcA == 1, oa := I.offset o.w.a, l2 := o.srcB == 1, ob := ob, n := o.cols, k := o.depth
    rows := rows, acc := o.acc, at' := I.s.cycle }

/-- The arrival control of d (R191). -/
def arrivalOf (d : Reg) : Option (Nat × Bool) :=
  if d.getLsbD 6 then some ((d.extractLsb' 0 5).toNat, d.getLsbD 5) else none

/-- The arrival names a quire beyond the team's count (R191). -/
def badArrival (o : MatOp) (I : Issue) : Bool :=
  o.w.d.getLsbD 6 && decide (I.t.quires.length ≤ (o.w.d.extractLsb' 0 5).toNat)

/-- An array product of a group that has met every check: 16 posted passes at most, ownership in PRIO, then the
post (R183, R184, R197), a release of the lanes (R162, R167). `vecs` run on the vector path, `runs` on the array, one at a time. -/
def Issue.post (I : Issue) (o : MatOp) (runs vecs : List Pass) : Eff :=
  let op : Op := { seq := 0, cls := .mma, arrival := arrivalOf o.w.d }
  let go := fun (s : State) =>
    let s := I.releaseIn false s
    let a := s.array I.t.place
    let s := s.setArray { a with posted := a.posted ++ runs.take 1, segs := a.segs ++ runs.drop 1 ++ vecs }
    let s := s.onGroup I.g.gid fun g => g.addOp op
    .done (s.arbitrate I.t.place)
  if runs.isEmpty then go I.s
  else if 16 ≤ I.array.posted.length then .park I.s .retry
  else if I.c.fifo || I.array.owns I.g.gid then go I.s
  else match I.s.reserve I.t.place I.g with
    | none => .park I.s .retry
    | some s => if (s.array I.t.place).owns I.g.gid then go s else .park s .retry

/-- The address of a B operand as its register gives it (R191). -/
def Issue.bBase (I : Issue) (o : MatOp) : Addr :=
  if o.srcB == 1 then I.offset2 o.w.b else BitVec.ofNat 64 (I.offset o.w.b)

/-- MISALIGNED of A, then of B; BUFFER_BOUNDS of A; the range of B (R188, R192). -/
def Issue.operandTrap (I : Issue) (o : MatOp) (ob : Addr) : BCheck :=
  match I.aMisaligned o with
  | some a => .trap (wholeTrap MISALIGNED a)
  | none =>
    if ob.toNat % 128 != 0 then .trap (wholeTrap MISALIGNED ob)
    else match I.aBeyond o with
      | some a => .trap (wholeTrap BUFFER_BOUNDS a)
      | none => I.bRange o ob

/-- The B range of an MMA, if its checks come to it. -/
def Issue.reachesB (I : Issue) (o : MatOp) (ob : Addr) : List Addr :=
  if (I.aMisaligned o).isNone && ob.toNat % 128 == 0 && (I.aBeyond o).isNone then [ob] else []

/-- MMA (R197). -/
def execMma (o : MatOp) (s : State) : Host.Outcome State Fault Refusal :=
  matInstr (.mma o) (badArrival o) (fun I =>
    let I := I.walkB o (I.reachesB o (I.bBase o))
    match I.operandTrap o (I.bBase o) with
    | .trap i => .trap I.s i
    | .wait => .park I.s .retry
    | .ok => I.post o [I.pass o 0 false (I.bBase o) (I.maskOn o.w.m)] []) s (Issue.productCheck o)

/-! ### GMMA -/

/-- An entry of a segment table (R198). -/
structure Segment where
  first : Nat
  count : Nat
  base : Addr
  clean : Bool
  deriving DecidableEq, Repr

def segmentAt (bs : List Byte) (e : Nat) : Segment :=
  { first := field bs (16 + 16 * e) 1, count := field bs (17 + 16 * e) 1, base := BitVec.ofNat 64 (field bs (24 + 16 * e) 8)
    clean := field bs (18 + 16 * e) 6 == 0 }

/-- The rows of a segment. -/
def Segment.rows (x : Segment) : LaneSet := laneSet fun i => decide (x.first ≤ i) && decide (i < x.first + x.count)

/-- An entry at fault (R198 check 7). -/
def segmentBad (earlier : List Segment) (x : Segment) : Bool :=
  !x.clean || x.count == 0 || decide (Config.width < x.first + x.count) || earlier.any fun y => y.rows &&& x.rows != 0

/-- The first entry at fault. -/
def firstBad (xs : List Segment) : Option Nat :=
  (List.range xs.length).find? fun e => segmentBad (xs.take e) (xs.getD e ⟨0, 0, 0, false⟩)

/-- The B checks of the segments, in ascending order (R198 check 8). -/
def Issue.segTraps (I : Issue) (o : MatOp) : List Segment → BCheck
  | [] => .ok
  | x :: r =>
    if x.base.toNat % 128 != 0 then .trap (wholeTrap MISALIGNED x.base)
    else match I.bRange o x.base with
      | .ok => Issue.segTraps I o r
      | c => c

/-- The segments whose B ranges those checks come to. -/
def Issue.segBases (I : Issue) (o : MatOp) : List Segment → List Addr
  | [] => []
  | x :: r =>
    if x.base.toNat % 128 != 0 then []
    else match I.bRange o x.base with
      | .ok => x.base :: Issue.segBases I o r
      | _ => [x.base]

/-- The checks of the table, in order, and its segments (R198 checks 3 to 8). -/
def Issue.segments (I : Issue) (o : MatOp) : BCheck × List Segment :=
  let tb := I.offset o.w.b
  let at' := fun (n : Nat) => BitVec.ofNat 64 (tb + n)
  if tb % 16 != 0 then (.trap (wholeTrap MISALIGNED (at' 0)), [])
  else match I.aMisaligned o with
  | some a => (.trap (wholeTrap MISALIGNED a), [])
  | none =>
  match rangeBeyond I.t.abytes tb 16 with
  | some a => (.trap (wholeTrap BUFFER_BOUNDS a), [])
  | none =>
  match I.aBeyond o with
  | some a => (.trap (wholeTrap BUFFER_BOUNDS a), [])
  | none =>
    let head := I.t.read 1 tb 16
    let count := field head 0 1
    if count = 0 ∨ 64 < count ∨ field head 1 15 ≠ 0 then (.trap (wholeTrap MATRIX_STATE (at' 0)), [])
    else match rangeBeyond I.t.abytes tb (16 + 16 * count) with
    | some a => (.trap (wholeTrap BUFFER_BOUNDS a), [])
    | none =>
      let bs := I.t.read 1 tb (16 + 16 * count)
      let xs := (List.range count).map (segmentAt bs)
      match firstBad xs with
      | some e => (.trap (wholeTrap MATRIX_STATE (at' (16 + 16 * e))), [])
      | none => (I.segTraps o xs, xs)

/-- GMMA (R198): segments of fewer rows than MTHRESH on the vector path, the others on the array. -/
def execGmma (o : MatOp) (s : State) : Host.Outcome State Fault Refusal :=
  matInstr (.gmma o) (badArrival o) (fun I =>
    let I := I.releasing false
    let I := I.walkB o (I.segBases o (I.segments o).2)
    match I.segments o with
    | (.trap i, _) => .trap I.s i
    | (.wait, _) => .park I.s .retry
    | (.ok, xs) =>
      let ps := (List.range xs.length).map fun e =>
        let x := xs.getD e ⟨0, 0, 0, false⟩
        I.pass o e (decide (x.count < I.g.mthresh.toNat)) x.base (x.rows &&& I.maskOn o.w.m)
      I.post o (ps.filter fun p => !p.vec) (ps.filter Pass.vec)) s (Issue.productCheck o)

/-! ### DOTB, MDRAIN, MFILL -/

/-- One sum of DOTB: every step from c (R199, R62, R63). -/
def dotValue (slotA slotB : Word) (n steps : Nat) (a b : Nat → List (List Byte)) (i j : Nat) (c : Word) : Word :=
  (List.range steps).foldl (fun c t => stepValue slotA slotB n (a t) (b t) i j c) c

/-- DOTB (R199): it issues in gaps and, where it names aliased registers, after the group's matrix operations. -/
def execDotb (o : MatOp) (s : State) : Host.Outcome State Fault Refusal :=
  matInstr (.dotb o) never (withGap fun I =>
    let I := I.releasing false
    let aliased := (List.range o.cols).any fun j => I.g.aliased (o.w.d.toNat + j)
    match I.operandTrap o (BitVec.ofNat 64 (I.offset o.w.b)) with
    | .trap i => .trap I.s i
    | .wait => .park I.s .retry
    | .ok =>
      if aliased && I.accWaits then .stall I.s
      else
        let a := fun t => readA I.t I.array (o.srcA == 1) (I.offset o.w.a) (stepRuns (I.slotA o) o.depth Config.width t)
        let b := fun t => (stepRuns (I.slotB o) o.depth o.cols t).map fun r => lookups 0 I.t.wbuf (I.offset o.w.b + r.1) r.2
        I.later I.s .mma (pendingOf o.w.d.toNat o.cols (lanesOf (I.maskOn o.w.m)) fun j i =>
          dotValue (I.slotA o) (I.slotB o) o.cols o.k.toNat a b i j
            (if o.acc then I.g.read (o.w.d.toNat + j) i else 0))) s (fun I =>
    if I.latchBad o then some MATRIX_STATE else if I.slotsBad o then some FORMAT_SLOT else none)

/-- The codes, scales and special bytes of one row of MDRAIN's output (R51, R54, R57, R200). -/
structure DrainRow where
  codes : List Nat
  scales : List Nat
  specials : List Nat
  deriving DecidableEq, Repr

/-- A row of accumulators converted to the output slot (R200). -/
def drainRow (f : Word) (cs : List Word) : DrainRow :=
  let c := slotElem f
  if slotScale f = 0 then ⟨cs.map fun x => round c (slotRz f) (slotSat f) (fp x), [], []⟩
  else
    let bs := (List.range (cs.length / 32)).map fun b => quantise c (slotRz f) (slotSat f) (((cs.drop (32 * b)).take 32).map fp)
    ⟨bs.flatMap Block.codes, bs.map Block.scale, bs.map Block.special⟩

/-- Bits of a number replaced: n bits from lo. -/
def setBits (v lo n x : Nat) : Nat := v - bits v lo n * 2 ^ lo + (x % 2 ^ n) * 2 ^ lo

/-- A row written into an A operand of depth `nd` (R179). -/
def putRow (f : Word) (nd i : Nat) (r : DrainRow) (old : List Byte) : List Byte :=
  let s := elemBits (slotElem f)
  let ea := regionBytes f nd Config.width
  let elems := (List.range nd).foldl (fun v j => setBits v (s * (j * Config.width + i)) s (r.codes.getD j 0)) (ofLe (old.take ea))
  let put1 := fun (bs : List Byte) (at' x : Nat) => bs.set at' (BitVec.ofNat 8 x)
  let bs := leBytes ea elems ++ old.drop ea
  let bs := (List.range r.scales.length).foldl (fun bs b => put1 bs (ea + b * Config.width + i) (r.scales.getD b 0)) bs
  if slotElem f = 8 then
    (List.range r.specials.length).foldl (fun bs b =>
      put1 bs (ea + nd / 32 * Config.width + b * Config.width + i) (r.specials.getD b 0)) bs
  else bs

/-- MDRAIN's output over the old bytes of its destination (R200). -/
def Issue.drain (I : Issue) (o : MatOp) (old : List Byte) : List Byte :=
  (lanesOf (I.maskOn o.w.m)).foldl (fun bs i =>
    putRow (I.slotA o) o.cols i
      (drainRow (I.slotA o) ((List.range o.cols).map fun j => I.g.read (I.g.tileBase + j) i)) bs) old

/-- MDRAIN to the latch by another team than its holder (R181). -/
def Issue.latchHeld (I : Issue) (o : MatOp) : Bool := o.srcA == 1 && I.array.latch.any fun l => l.team != I.t.tid

/-- MDRAIN (R200). -/
def execMdrain (o : MatOp) (s : State) : Host.Outcome State Fault Refusal :=
  matInstr (.mdrain o) never (fun I =>
    let I := I.releasing false
    let n := operandBytes (I.slotA o) o.cols Config.width
    match I.aMisaligned o with
    | some a => I.trap MISALIGNED a
    | none =>
    match (if o.srcA == 0 then rangeBeyond I.t.abytes (I.offset o.w.a) n else none) with
    | some a => I.trap BUFFER_BOUNDS a
    | none =>
      if I.accWaits then .stall I.s
      else
        let l : Latch := ⟨o.slotA.toNat, o.cols, I.t.tid, puts 0 [] 0 (I.drain o (List.replicate n 0))⟩
        let s := if o.srcA == 1 then I.s.setArray { I.array with latch := some l }
          else I.s.setTeam (I.t.write 1 (I.offset o.w.a) (I.drain o (I.t.read 1 (I.offset o.w.a) n)))
        I.later s .mma []) s (fun I =>
    if I.modeBad o || I.latchHeld o then some MATRIX_STATE
    else if slotScale (I.slotA o) == 1 && o.cols != 32 && o.cols != 64 then some FORMAT_SLOT else none)

/-- MFILL (R201). -/
def execMfill (o : MatOp) (s : State) : Host.Outcome State Fault Refusal :=
  matInstr (.mfill o) never (fun I =>
    let I := I.releasing false
    let src := I.offset o.w.a
    if src % 128 != 0 then I.trap MISALIGNED (BitVec.ofNat 64 src)
    else match rangeBeyond I.t.abytes src (o.cols * Config.width * 4) with
    | some a => I.trap BUFFER_BOUNDS a
    | none =>
      if I.accWaits then .stall I.s
      else I.later I.s .mma (pendingOf I.g.tileBase o.cols (lanesOf (I.maskOn o.w.m)) fun j i =>
        BitVec.ofNat 32 (ofLe (I.t.read 1 (src + (j * Config.width + i) * 4) 4)))) s
    (fun I => if I.modeBad o then some MATRIX_STATE else none)

/-! ### Events of the array -/

/-- ARRAY_GRANT (R184, R185): the arbiter looks at its requests again: a free array goes to the best one, and a request
that no longer waits for cells, of a class above the owner's, takes the array. -/
def execArrayGrant (s : State) : Host.Outcome State Fault Refusal := .next (s.arbitrate s.ev.q)

/-- The owner's next pass. -/
def State.nextPass (s : State) (a : QArray) : Option Pass :=
  a.owner.bind fun o => (s.passesOf a o.who).head?

/-- A pass ended with a deferred fault after its last completed step (R189). -/
def State.failPass (s : State) (q : QuadId) (p : Pass) (i : TrapInfo) : State :=
  (s.onGroup p.gid fun g => g.opFault p.seq p.seg i).endPass q p

/-- A pass, or a segment of a GMMA on the vector path, begins or resumes: its pages are translated and pinned, earlier
accumulator writes have landed (R176, R185, R186, R188, R198). A page under invalidation holds it, and one that has
meanwhile gone ends it with the fault (R133). -/
def State.startPass (s : State) (q : QuadId) (p : Pass) : State :=
  match s.passHome p with
  | none => s
  | some (g, t, c) =>
    if s.passWaits p || s.passHeld (s.array q) p || !g.accReady p.seq then s
    else
      let n := operandBytes p.slotB p.k p.n
      let go := fun (s : State) (pins : List Addr) =>
        (s.dropWaits (.pass p.gid p.seq p.seg)).setArray ((s.array q).setPass
          { p with running := true, suspended := false, started := s.cycle, pins := pins, cells := [], retryAt := none })
      if !p.l2 then go s []
      else
        let s := s.tileWalks c t p.ob n
        match s.tileRange c t p.ob n with
        | (none, _) => go s (pageStarts p.ob n)
        | (some (.bad cause), a) =>
          let s := s.failPass q p (wholeTrap cause a)
          if p.vec then s else s.afterPass q
        | _ => s

/-- PASS_START (R185). -/
def execPassStart (s : State) : Host.Outcome State Fault Refusal :=
  let a := s.array s.ev.q
  .next (if a.runs || a.gap.isSome then s
    else match s.nextPass a with
      | some p => s.startPass s.ev.q p
      | none => s)

/-- A step of the running pass has been made: the pass completes, stops, or goes on (R185). -/
def State.afterStep (s : State) (q : QuadId) (p : Pass) : State :=
  let a := s.array q
  if p.k ≤ 32 * (p.step + 1) then (s.endPass q p).afterPass q
  else if a.stopping || a.limit then s.suspend q { p with step := p.step + 1 } []
  else s

/-- STEP_END of the array (R182, R185, R189): a pass whose group is gone ends here (R272). -/
def State.stepArray (s : State) (q : QuadId) : State :=
  match (s.array q).posted.find? Pass.running with
  | none => s
  | some p =>
    match s.passHome p with
    | none => (s.endPass q p).afterPass q
    | some (g, t, c) =>
      match s.stepPass q g t c p with
      | .stepped s => s.afterStep q p
      | .cells s us => s.suspend q p us
      | .fault s i => (s.failPass q p i).afterPass q

/-- The vector segment that steps next: one that runs, or can start (R198); none of a context that is not ACTIVE (R278). -/
def State.nextVec (s : State) (a : QArray) : Option Pass :=
  a.segs.find? fun p => p.vec && !s.offDuty p.gid && (p.running || (!s.passWaits p && !s.passHeld a p &&
    (match s.group p.gid with | some g => g.accReady p.seq | none => true)))

/-- One step of a vector segment that runs (R198). -/
def State.runVec (s : State) (q : QuadId) (p : Pass) : State :=
  match s.passHome p with
  | none => s.endPass q p
  | some (g, t, c) =>
    match s.stepPass q g t c p with
    | .stepped s => if p.k ≤ 32 * (p.step + 1) then s.endPass q p else s
    | .cells s us => s.holdPass q p us
    | .fault s i => s.failPass q p i

/-- STEP_END of a vector segment (R198): in gaps only. It checks and pins its B range as a pass does before its first
step, and again after cells have held it. -/
def State.stepVec (s : State) (q : QuadId) : State :=
  let a := s.array q
  if a.runs then s
  else match s.nextVec a with
    | none => s
    | some p =>
      let s := if p.running || (s.passHome p).isNone then s else s.startPass q p
      match (s.array q).segs.find? fun x => x.gid == p.gid && x.seq == p.seq && x.seg == p.seg with
      | some x => if x.running || (s.passHome x).isNone then s.runVec q x else s
      | none => s

/-- STEP_END (R182, R185, R198). -/
def execStepEnd (s : State) : Host.Outcome State Fault Refusal :=
  .next (if s.ev.vec then s.stepVec s.ev.q else s.stepArray s.ev.q)

/-- PASS_TIME_LIMIT (R182): a pass that has run for 64 µs stops at its next step. -/
def execPassTimeLimit (s : State) : Host.Outcome State Fault Refusal :=
  let a := s.array s.ev.q
  .next (match a.posted.find? Pass.running with
    | some p => if p.started + 64 * Config.cyclesPerUs ≤ s.cycle then s.setArray { a with limit := true } else s
    | none => s)

/-- RESERVATION_PROMOTE (R184): a reservation that has waited 65 536 cycles since its last rise rises one class. -/
def execReservationPromote (s : State) : Host.Outcome State Fault Refusal :=
  let a := s.array s.ev.q
  .next (match a.resvs.find? fun r => r.who == .group s.ev.g with
    | some r =>
      if r.raised + 65536 ≤ s.cycle ∧ r.cls < 3 then
        (s.setArray { a with resvs := a.resvs.map fun x => if x.who == r.who then { r with cls := r.cls + 1, raised := s.cycle } else x }).arbitrate s.ev.q
      else s
    | none => s)

/-- MATRIX_GAP_END (R177): 32 cycles after a pass has ended. -/
def execMatrixGapEnd (s : State) : Host.Outcome State Fault Refusal :=
  let a := s.array s.ev.q
  .next (match a.gap with
    | some c => if c ≤ s.cycle then s.setArray { a with gap := none } else s
    | none => s)

end Sys2Proof.Machine
end

