-- ==== Sys2Proof/Machine/Ctl.lean ====
section
/-!
DEFINITION. The control instructions but EXIT and SPAWN (R79 to R90, R273, R274).
-/
namespace Sys2Proof.Machine

/-- A control instruction with no operand check of its own and no privilege. -/
def ctlInstr (i : Instr) (body : Issue → Eff) (s : State) : Host.Outcome State Fault Refusal :=
  runInstr i (prologue i never never (withWaits i body)) s

/-- The next header after a control transfer of 8 bytes (R80). -/
def Issue.next (I : Issue) : Addr := I.cl.pc + 8

/-- BR (R81). -/
def execBr (o : CtlOp) (s : State) : Host.Outcome State Fault Refusal :=
  ctlInstr (.br o) (fun I =>
    .goto I.s (if (flagsOf I.sp.cc).meets o.w.d.toNat then I.target o.imm else I.next)) s

/-- The tested register is not 0 in some mask-on lane (R82). -/
def Issue.anyNonzero (I : Issue) (o : CtlOp) : Bool := (lanesOf (I.maskOn o.w.m)).any fun i => I.xbar o.w.xa o.w.a i != 0

/-- BRZ (R82); with no mask-on lane it falls through (R37). -/
def execBrz (o : CtlOp) (s : State) : Host.Outcome State Fault Refusal :=
  ctlInstr (.brz o) (fun I => .goto I.s (if I.maskOn o.w.m == 0 || I.anyNonzero o then I.next else I.target o.imm)) s

/-- BRNZ (R82). -/
def execBrnz (o : CtlOp) (s : State) : Host.Outcome State Fault Refusal :=
  ctlInstr (.brnz o) (fun I => .goto I.s (if I.anyNonzero o then I.target o.imm else I.next)) s

/-- CALL (R83): the link pair in every Active lane, discarded for v0. -/
def execCall (o : CtlOp) (s : State) : Host.Outcome State Fault Refusal :=
  ctlInstr (.call o) (fun I =>
    let ls := lanesOf I.active
    let g := if o.w.d = 0 then I.g
      else (I.g.writeLanes o.w.d.toNat ls fun _ => lo32 I.next).writeLanes (o.w.d.toNat + 1) ls fun _ => hi32 I.next
    .goto (I.s.setGroup g) (I.target o.imm)) s

/-- A target from a register: bits [63:56] are ignored, bits [1:0] must be zero (R80). -/
def Issue.jump (I : Issue) (a : Addr) : Eff :=
  let t := codeAddr a
  if t.extractLsb' 0 2 != 0 then I.trap MISALIGNED t else .goto I.s t

/-- RET (R83). -/
def execRet (o : CtlOp) (s : State) : Host.Outcome State Fault Refusal :=
  ctlInstr (.ret o) (fun I => I.jump (I.xpair 0 o.w.a I.lane0)) s

/-- JMPR (R83): the offset counts words. -/
def execJmpr (o : CtlOp) (s : State) : Host.Outcome State Fault Refusal :=
  ctlInstr (.jmpr o) (fun I => I.jump (I.xpair 0 o.w.a I.lane0 + (simm o.imm <<< 2))) s

/-! ### Splits (R76 to R78, R84, R85) -/

/-- A label that no split of the group has, nor the split at its resume point. -/
def Group.freeLabel (g : Group) : Nat :=
  ((List.range 6).find? fun n => !(g.splits.any fun x => x.label == n) && (g.resume.map Resume.split) != some n).getD 6

def Group.setSplit (g : Group) (x : Split) : Group :=
  { g with splits := g.splits.map fun (y : Split) => if y.label == x.label then x else y }

def Group.joinAt (g : Group) (idx : Nat) : Option Join := g.joins.find? fun j => j.idx == idx
def Group.setJoin (g : Group) (j : Join) : Group :=
  { g with joins := g.joins.map fun (x : Join) => if x.idx == j.idx then j else x }
def Group.dropJoin (g : Group) (idx : Nat) : Group := { g with joins := g.joins.filter fun j => j.idx != idx }

/-- A free join record of the pool of 16 (R76). -/
def Group.freeJoin (g : Group) : Option Nat := (List.range 16).find? fun n => !(g.joins.any fun j => j.idx == n)

/-- The merge address that SPLIT names (R84). -/
def Issue.joinTarget (I : Issue) (o : CtlOp) : Addr := I.cl.pc + (simm (o.w.d ++ o.w.b : BitVec 14) <<< 2)

/-- SPLIT (R84). -/
def Issue.split (I : Issue) (o : CtlOp) : Eff :=
  let T := I.active &&& laneSet fun i => I.xbar o.w.xa o.w.a i != 0
  let F := I.active &&& ~~~T
  if T = 0 then .goto I.s I.next
  else if F = 0 then .goto I.s (I.target o.imm)
  else match I.g.freeJoin with
    | none => I.trap SOFTWARE 16
    | some k =>
      let j : Join := { idx := k, merge := I.joinTarget o, parent := I.sp.join, kind := .split, count := 2, handler := I.g.handling }
      if I.g.splits.length < 4 then
        let other : Split := { label := I.g.freeLabel, pc := I.target o.imm, lanes := T, cc := I.sp.cc, join := some k }
        let g := I.g.setSplit { I.sp with lanes := F, join := some k }
        .goto (I.s.setGroup { g with splits := g.splits ++ [other], joins := g.joins ++ [j] }) I.next
      else
        let j := { j with kind := .serial, count := 1, rest := F, restPc := I.next, restCc := I.sp.cc }
        let g := I.g.setSplit { I.sp with lanes := T, join := some k }
        .goto (I.s.setGroup { g with joins := g.joins ++ [j] }) (I.target o.imm)

def execSplit (o : CtlOp) (s : State) : Host.Outcome State Fault Refusal := ctlInstr (.split o) (fun I => I.split o) s

/-- The flags of the part that held the lowest-numbered lane (R78). -/
def lowestCc : List (LaneSet × BitVec 5) → BitVec 5
  | [] => 0
  | (m, c) :: r =>
    if r.any fun x => (lowest x.1).getD 64 < (lowest m).getD 64 then lowestCc r else c

/-- Fusion of a join record (R78): the splits parked at it and its done lanes become one split; in a handler it is the
trapping split still, where that is one of them (R274). -/
def Group.fuse (g : Group) (j : Join) : Group :=
  let here := g.splits.filter fun x => x.parked && x.join == some j.idx
  let parts := here.map (fun x => (x.lanes, x.cc)) ++ (if j.done = 0 then [] else [(j.done, j.doneCc)])
  match here with
  | [] => g
  | x :: _ =>
    let kept := (here.find? fun y => (g.resume.map Resume.split) == some y.label).getD x
    let one : Split :=
      { label := kept.label, pc := x.pc, lanes := parts.foldl (fun m p => m ||| p.1) 0, cc := lowestCc parts
        join := j.parent }
    ({ g with splits := one :: g.splits.filter fun y => !(y.parked && y.join == some j.idx) }).dropJoin j.idx

/-- MERGE (R85). -/
def Group.merge (g : Group) (sp : Split) (cl : Clause) (next : Addr) (cycle : Nat) : Group :=
  match sp.join.bind g.joinAt with
  | none => g.endClause cl next cycle
  | some j =>
    if j.merge != cl.addr then g.endClause cl next cycle
    else if j.kind == .serial && j.rest != 0 then
      ((g.setSplit { sp with lanes := j.rest, cc := j.restCc }).setJoin
        { j with done := sp.lanes, doneCc := sp.cc, donePc := next, rest := 0 }).endClause cl j.restPc cycle
    else
      let j := { j with count := j.count - 1 }
      let g := ((g.setSplit { sp with parked := true }).setJoin j).endClause cl next cycle
      if j.count = 0 then g.fuse j else g

def execMerge (o : CtlOp) (s : State) : Host.Outcome State Fault Refusal :=
  ctlInstr (.merge o) (fun I => .settled (I.s.setGroup (I.g.merge I.sp I.cl I.next I.s.cycle))) s

/-- What EXIT does to the join records above the split that has gone (R86). -/
def Group.exitJoins : Nat → Group → Option Nat → Group
  | 0, g, _ => g
  | _ + 1, g, none => g
  | n + 1, g, some k =>
    match g.joinAt k with
    | none => g
    | some j =>
      if j.kind == .serial && j.rest != 0 then
        let x : Split := { label := g.freeLabel, pc := j.restPc, lanes := j.rest, cc := j.restCc, join := some k }
        ({ g with splits := g.splits ++ [x] }).setJoin { j with rest := 0 }
      else
        let j := { j with count := j.count - 1 }
        let g := g.setJoin j
        if j.count ≠ 0 then g
        else if g.splits.any fun x => x.parked && x.join == some k then g.fuse j
        else if j.done != 0 then
          let x : Split := { label := g.freeLabel, pc := j.donePc, lanes := j.done, cc := j.doneCc, join := j.parent }
          ({ g with splits := g.splits ++ [x] }).dropJoin k
        else Group.exitJoins n (g.dropJoin k) j.parent

/-- The issuing split ends (R86). -/
def Group.exitSplit (g : Group) (sp : Split) : Group :=
  Group.exitJoins 17 { g with splits := g.splits.filter fun x => x.label != sp.label } sp.join

/-! ### YIELD, YIELDC, SLEEP, BKPT, TRAP, TRAPRET, WAITC -/

/-- YIELD (R87). -/
def execYield (o : CtlOp) (s : State) : Host.Outcome State Fault Refusal :=
  ctlInstr (.yield o) (fun I => .done (I.s.setGroup { I.g with ageFrom := I.s.cycle })) s

/-- A window written back and freed; the next clause is an interval start (R21, R74). -/
def Group.freeWindow (g : Group) (cycle : Nat) : Group :=
  { g with window := false, interval := true, since := cycle
           status := match g.status with | .windowed => .resident | x => x }

/-- YIELDC (R87). -/
def execYieldc (o : CtlOp) (s : State) : Host.Outcome State Fault Refusal :=
  ctlInstr (.yieldc o) (fun I =>
    .settled (I.s.setGroup ((I.g.endClause I.cl (I.target o.imm) I.s.cycle).freeWindow I.s.cycle))) s

/-- SLEEP (R88). -/
def execSleep (o : CtlOp) (s : State) : Host.Outcome State Fault Refusal :=
  ctlInstr (.sleep o) (fun I =>
    if o.imm = 0 ∨ I.g.prog = 1 then .done I.s
    else
      let w := Wait.sleep (I.s.cycle + o.imm.toNat)
      if 4096 ≤ o.imm.toNat then .park (I.s.setGroup (I.g.freeWindow I.s.cycle)) w else .park I.s w) s

/-- BKPT (R89). -/
def execBkpt (o : CtlOp) (s : State) : Host.Outcome State Fault Refusal :=
  ctlInstr (.bkpt o) (fun I => I.trap BREAKPOINT (o.imm.setWidth 64)) s

/-- TRAP (R273). -/
def execTrap (o : CtlOp) (s : State) : Host.Outcome State Fault Refusal :=
  ctlInstr (.trap o) (fun I => I.trap SOFTWARE (o.imm.setWidth 64)) s

/-- TRAPRET (R274). -/
def execTrapret (o : CtlOp) (s : State) : Host.Outcome State Fault Refusal :=
  runInstr (.trapret o) (prologue (.trapret o) never (fun I => !I.g.handling) fun I =>
    .settled (I.s.setGroup (I.g.trapReturn I.cl I.s.cycle))) s

/-- The counter that a WAITC class code names (R90). -/
def counterOf (c : Nat) : Counter :=
  match c with
  | 0 => .ld | 1 => .sfu | 2 => .mma | 3 => .cpy | 4 => .fab | _ => .spn

/-- The end of a wait for at most n operations of a class: bytes of completed operations are acquired (R163,
R168). -/
def State.acquireWait (s : State) (g : Group) (core : Nat) (c : Counter) (n : Nat) : State :=
  let mine := fun (x : Counter × Nat) => x.1 == c && g.covers c n x.2
  let s := if g.acqs.any mine then s.setMem (s.mem.flash core) else s
  s.onGroup g.gid fun g => { g with acqs := g.acqs.filter fun x => !mine x }

/-- WAITC (R90, R168). -/
def execWaitc (o : CtlOp) (s : State) : Host.Outcome State Fault Refusal :=
  ctlInstr (.waitc o) (fun I =>
    let c := counterOf (o.imm.extractLsb' 8 3).toNat
    let n := (o.imm.extractLsb' 0 8).toNat
    if n < I.g.counter c then .park I.s .retry
    else
      let s := I.s.acquireWait I.g I.core c n
      match (s.group I.g.gid).bind fun g => g.takeFault fun d => d.cls == c && g.covers c n d.nth with
      | some (i, g) => .trap (s.setGroup g) i
      | none => .done s) s

end Sys2Proof.Machine
end

