-- ==== Sys2Proof/Machine/Issue.lean ====
section
/-!
DEFINITION. Issue: fetching headers and instructions, the clause check, choosing a group, fast windows, the ends
of waits, landing results, energy, and the walks and prefetches of the memory system (R13 to R22, R74, R75, R80,
R88, R128, R137, R211, R250, R267).
-/
namespace Sys2Proof.Machine

/-! ### Fetching -/

/-- What fetching a word gives: the word, a wait for its page, or a trap. -/
inductive Fetch where
  | ok (w : Word)
  | wait
  | bad (i : TrapInfo)
  deriving DecidableEq, Repr

/-- A trap at a fetch as it is taken: an uncorrectable error is also logged (R138, R360). -/
def State.fetchError (s : State) (c : Context) (q : QuadId) (i : TrapInfo) : State :=
  if i.cause != UNCORRECTABLE then s
  else match s.translate c q.die (coreIdx q) .fetch i.addr with
    | .ok p => if !p.host && s.mem.poisoned (p.pa / 64) then s.memoryError (some c.num) (p.pa / 64) else s
    | .bad _ => s.tableError c i.addr
    | .wait => s

/-- A word of the instruction stream: translated, executable, not poisoned (R80, R130, R138). -/
def State.fetchWord (s : State) (c : Context) (q : QuadId) (va : Addr) : Fetch :=
  match s.translate c q.die (coreIdx q) .fetch va with
  | .wait => .wait
  | .bad cause => .bad { cause := cause, addr := va }
  | .ok p =>
    if !p.host && s.mem.poisoned (p.pa / 64) then .bad { cause := UNCORRECTABLE, addr := va &&& ~~~(63 : Addr) }
    else if !p.host && !s.stackReady p.pa then .bad { cause := UNCORRECTABLE, addr := va }
    else .ok (BitVec.ofNat 32 (ofLe (s.mem.readPlace s.free p 4)))

/-- What fetching `n` bytes leaves of it: the table words of its walk, and the lines of the words, come through L2 (R129,
R136); the spec gives a fetch no reuse value, and the model uses 0 (log 24). -/
def State.fetched (s : State) (c : Context) (q : QuadId) (va : Addr) (n : Nat) : State :=
  let t := s.useTables q.die (coreIdx q) c va
  match s.translate c q.die (coreIdx q) .fetch va with
  | .ok p => t.setMem (t.mem.l2Use p n 0 false)
  | _ => t

/-- The two words at an address; the second is read only for a long instruction (R23). -/
inductive Fetch2 where
  | ok (w1 w2 : Word)
  | wait
  | bad (i : TrapInfo) (len : Nat)
  deriving DecidableEq, Repr

def State.fetchInstr (s : State) (c : Context) (q : QuadId) (va : Addr) : Fetch2 :=
  match s.fetchWord c q va with
  | .wait => .wait
  | .bad i => .bad i 4
  | .ok w1 =>
    if isLong w1 then
      match s.fetchWord c q (va + 4) with
      | .wait => .wait
      | .bad i => .bad i 8
      | .ok w2 => .ok w1 w2
    else .ok w1 0

/-! ### The clause check (R14) -/

/-- The engine class of a header (R13). -/
def headerEng (h : Word) : Nat := (h.extractLsb' 25 3).toNat
def headerCount (h : Word) : Nat := (h.extractLsb' 28 4).toNat
def headerWz (h : Word) : BitVec 6 := h.extractLsb' 8 6

/-- What the clause check gives. -/
inductive ClauseCheck where
  | ok
  | wait
  | bad (a : Addr)
  deriving DecidableEq, Repr

/-- The instructions of a clause, from the first of `n`: a class that differs from ENG, or a control transfer
that is not last; a word that cannot be fetched traps when it is reached (R14). -/
def State.checkInstrs (s : State) (c : Context) (q : QuadId) (eng : Nat) : Nat → Addr → ClauseCheck
  | 0, _ => .ok
  | n + 1, a =>
    match s.fetchInstr c q a with
    | .wait => .wait
    | .bad _ _ => .ok
    | .ok w1 w2 =>
      if (eng ≠ 7 ∧ (engClass w1 w2).any (· != eng)) ∨ (n ≠ 0 ∧ isTransfer w1 w2) then .bad a
      else State.checkInstrs s c q eng n (a + BitVec.ofNat 64 (lengthOf w1))

/-- The check of a whole clause (R14). -/
def State.checkClause (s : State) (c : Context) (q : QuadId) (a : Addr) (h : Word) : ClauseCheck :=
  if headerCount h = 0 ∨ h.extractLsb' 0 8 ≠ 0 then .bad a
  else s.checkInstrs c q (headerEng h) (headerCount h) (a + 4)

/-! ### Choosing a clause (R250) -/

/-- The team and context of a group that may run: placed, in an ACTIVE context (R268, R278). -/
def State.home (s : State) (g : Group) : Option (Team × Context) :=
  match s.team g.team with
  | none => none
  | some t => match s.context t.ctx with
    | some c => if c.st == .active && !t.saved then some (t, c) else none
    | none => none

/-- A split whose next clause may issue: not parked at its join, and while a handler runs only a split of the
trapping split's lanes (R76, R269; log 10). -/
def Group.canIssue (g : Group) (x : Split) : Bool :=
  !x.parked && (!g.handling || (g.resume.any fun r => x.lanes &&& r.lanes != 0))

/-- The splits of a group that may issue. -/
def Group.ready (g : Group) : List Split := g.splits.filter g.canIssue

/-- A group of the quad whose next clause can issue: windowed and unparked, between clauses, in no energy stall
(R250). -/
def State.candidate (s : State) (q : QuadId) (g : Group) : Bool :=
  g.window && g.status == .windowed && g.clause.isNone && !g.ready.isEmpty &&
    (match s.home g with
     | some (t, c) => t.place == q && decide (0 < c.budget (coreIdx q))
     | none => false)

/-- The age and the effective class of a group (R250). -/
def Group.age (g : Group) (cycle : Nat) : Nat := cycle - g.ageFrom
def Group.effective (g : Group) (cycle : Nat) : Nat := min 3 (g.sched.toNat + g.age cycle / 4096)

/-- The issue order of R250: class, then age; of two groups alike in both, the one placed first on the quad comes first, as
it does in `State.groups`. -/
def Group.before (cycle : Nat) (x y : Group) : Bool :=
  decide (y.effective cycle < x.effective cycle) ||
    (x.effective cycle == y.effective cycle && decide (y.age cycle < x.age cycle))

/-- The first element under an order, and of several alike the one that stands first. -/
def best {α : Type} (before : α → α → Bool) : List α → Option α
  | [] => none
  | x :: r => match best before r with
    | none => some x
    | some y => if before y x then some y else some x

/-- The energy for the instruction at a clause's pc is there: its debit is made, or the budget is above zero (R22). -/
def Clause.fuelled (cl : Clause) (c : Context) (core : Nat) : Bool := cl.debited || decide (0 < c.budget core)

/-- A group of the quad is inside a clause and nothing stalls it (R250). -/
def State.midClause (s : State) (q : QuadId) (g : Group) : Bool :=
  g.window && g.status == .windowed && !g.stalled && !g.gapWait &&
    (match g.clause, s.home g with
     | some cl, some (t, c) => t.place == q && cl.fuelled c (coreIdx q)
     | _, _ => false)

/-- The group that the quad issues from next: none while a group is inside a clause and does not stall, since a clause
issues to its end (R250). -/
def State.chooseGroup (s : State) (q : QuadId) : Option Group :=
  if s.groups.any (s.midClause q) then none else best (Group.before s.cycle) (s.groups.filter (s.candidate q))

/-- The counters of a WZ set (R13). -/
def wzClasses (m : BitVec 6) : List Counter := ((List.range 6).filter fun k => m.getLsbD k).map counterOf

/-- Every counter of a WZ set reads zero. -/
def Group.wzMet (g : Group) (m : BitVec 6) : Bool := (wzClasses m).all fun c => g.counter c == 0

/-- A trap at a header: no instruction stands there (R14, R80). -/
def State.trapHeader (s : State) (g : Group) (x : Split) (i : TrapInfo) : State :=
  s.setGroup (g.trapped
    { clause := none, epc := x.pc, split := x.label, lanes := x.lanes, join := x.join, byInstr := false, len := 0, info := i })

/-- A group waits at a clause boundary or inside a clause. -/
def Group.parkOn (g : Group) (w : Wait) (cycle : Nat) : Group := { g with status := .parked w, since := cycle }

/-- A clause begins: it is the current one, at its first instruction (R13, R250). -/
def State.beginClause (s : State) (g : Group) (x : Split) (h : Word) : State :=
  let core := ((s.team g.team).map fun t => coreIdx t.place).getD 0
  let s := (wzClasses (headerWz h)).foldl (fun s c => s.acquireWait ((s.group g.gid).getD g) core c 0) s
  { (s.onGroup g.gid fun g => { g with
      clause := some { header := h, addr := x.pc, split := x.label, pc := x.pc + 4 }
      interval := false, ageFrom := s.cycle }) with cur := some g.gid }

/-- The next clause of a group's split: header fetch, clause check, WZ (R14, R20, R80). A group whose next clause lies in a
page under invalidation parks (R133). -/
def State.issueClause (s : State) (q : QuadId) (c : Context) (g : Group) (x : Split) : State :=
  if x.pc.toNat % 4 != 0 then s.trapHeader g x { cause := MISALIGNED, addr := x.pc }
  else match s.fetchWord c q x.pc with
    | .wait => s.setGroup (g.parkOn .header s.cycle)
    | .bad i => ((s.fetchError c q i).fetched c q x.pc 4).trapHeader g x i
    | .ok h =>
      let s := s.fetched c q x.pc 4
      match s.checkClause c q x.pc h with
      | .wait => s.setGroup (g.parkOn .header s.cycle)
      | .bad a => s.trapHeader g x { cause := ILLEGAL_CLAUSE, addr := a }
      | .ok => if g.wzMet (headerWz h) then s.beginClause g x h else s.setGroup (g.parkOn (.wz (headerWz h)) s.cycle)

/-- The split that the quad takes of a group: the one named, where it may issue (R76). -/
def Group.pickSplit (g : Group) (label : Nat) : Option Split :=
  match g.ready.find? fun x => x.label == label with
  | some x => some x
  | none => g.ready.head?

/-- CLAUSE_ISSUE (R250). -/
def execClauseIssue (s : State) : Host.Outcome State Fault Refusal :=
  .next (match s.chooseGroup s.ev.q with
    | none => s
    | some g => match g.pickSplit s.ev.split, s.home g with
      | some x, some (_, c) => s.issueClause s.ev.q c g x
      | _, _ => s)

/-! ### The ends of waits -/

/-- A change of a group that is in a placed team of an ACTIVE context. -/
def State.whenLive (s : State) (gid : Nat) (f : State → Group → State) : State :=
  match s.group gid with
  | none => s
  | some g => if (s.home g).isSome then f s g else s

/-- WAIT_ZERO_END (R20). -/
def execWaitZeroEnd (s : State) : Host.Outcome State Fault Refusal :=
  .next (s.whenLive s.ev.g fun s g => match g.status with
    | .parked (.wz m) => if g.wzMet m then s.setGroup (g.unpark s.cycle) else s
    | .parked .marker => if g.drained then s.setGroup (g.unpark s.cycle) else s
    | _ => s)

/-- The writes of an operation that land in some lanes, and the others (R18). -/
def landingIn (m : LaneSet) (ws : List (Nat × Word)) : List (Nat × Word) × List (Nat × Word) :=
  ws.partition fun w => m.getLsbD (w.1 % 64)

/-- A group's outstanding operation has accesses on their way (log 6). -/
def State.flying (s : State) (gid seq : Nat) : Bool := (s.flights.getD []).any (·.gives gid seq)

/-- Register writes of an operation that land (R18). DESIGN CHOICE (log 96): R18 speaks of one register in one lane
and lets the lanes land apart; the registers of one result (LD.D, LD.Q, STC, COORD) land together in a lane. -/
def Group.land (g : Group) (o : Op) (m : LaneSet) : Group :=
  let (now, rest) := landingIn m o.writes
  let g := now.foldl (fun g w => g.write (w.1 / 64) (w.1 % 64) w.2) g
  let g := { g with ops := g.ops.map fun p => if p.seq == o.seq then { p with writes := rest } else p }
  if rest.isEmpty && o.due.isEmpty then g.complete o.seq none else g

/-- RESULT_LAND (R18). A result whose accesses are still on their way lands once they are performed (R157). -/
def execResultLand (s : State) : Host.Outcome State Fault Refusal :=
  .next ((s.drain (·.gives s.ev.g s.ev.seq)).onGroup s.ev.g fun g => match g.ops.find? fun o => o.seq == s.ev.seq && o.pending with
    | some o => g.land o s.ev.lanes
    | none => g)

/-- SLEEP_EXPIRE (R88). -/
def execSleepExpire (s : State) : Host.Outcome State Fault Refusal :=
  .next (s.whenLive s.ev.g fun s g => match g.status with
    | .parked (.sleep wake) => if wake ≤ s.cycle then s.setGroup { g.unpark s.cycle with prog := 1 } else s
    | _ => s)

/-- WAIT_TABLE_RETRY (R211): the touch is issued again, and its loads come from the home (R170). -/
def execWaitTableRetry (s : State) : Host.Outcome State Fault Refusal :=
  .next (s.whenLive s.ev.g fun s g => match g.status with
    | .parked (.tableFull wake us) =>
      let core := ((s.team g.team).map fun t => coreIdx t.place).getD 0
      if wake ≤ s.cycle then (s.dropAwaited core us).setGroup (g.unpark s.cycle) else s
    | _ => s)

/-! ### Fast windows (R75) -/

/-- The groups of a quad. -/
def State.quadGroups (s : State) (q : QuadId) : List Group :=
  s.groups.filter fun g => (s.home g).any fun h => h.1.place == q

/-- The resident group that the quad serves next: the highest class, then the longest waiting. -/
def State.nextResident (s : State) (q : QuadId) : Option Group :=
  best (fun x y => decide (y.sched < x.sched) || (x.sched == y.sched && decide (x.since < y.since)))
    ((s.quadGroups q).filter fun g => g.status == .resident && !g.window)

def GStatus.isParked : GStatus → Bool
  | .parked _ => true
  | _ => false

/-- The groups that hold a window of a quad, of whatever context (R21, R75). -/
def State.holders (s : State) (q : QuadId) : List Group :=
  s.groups.filter fun g => g.window && (s.team g.team).any fun t => t.place == q

/-- The parked groups of a quad that hold a window. -/
def State.parkedHolders (s : State) (q : QuadId) : List Group := (s.holders q).filter fun g => g.status.isParked

/-- A window reclaimed: the group stays parked (R74, R75). -/
def Group.loseWindow (g : Group) : Group := { g with window := false, interval := true }

/-- A window granted (R74). -/
def State.grantWindow (s : State) (g : Group) : State :=
  s.setGroup { g with window := true, interval := true, status := .windowed, ageFrom := s.cycle }

/-- WINDOW_GRANT (R75): 8 windows per quad. -/
def execWindowGrant (s : State) : Host.Outcome State Fault Refusal :=
  let q := s.ev.q
  .next (match s.nextResident q with
    | none => s
    | some g =>
      if (s.holders q).length < 8 then s.grantWindow g
      else
        let held := s.parkedHolders q
        if held.any fun p => decide (p.sched ≤ g.sched) then
          match best (fun x y => decide (x.since < y.since)) held with
          | some p => (s.setGroup p.loseWindow).grantWindow g
          | none => s
        else s)

/-! ### Energy (R22, R267) -/

/-- A context's budget on a core, set. -/
def Context.setBudget (c : Context) (core : Nat) (b : Int) : Context :=
  { c with budgets := (core, b) :: c.budgets.filter fun x => x.1 != core }

/-- Units of an energy class (R22). -/
def energyUnits (h : Word) : Nat :=
  match (h.extractLsb' 14 2).toNat with
  | 0 => 1 | 1 => 2 | 2 => 4 | _ => 16

/-- ENERGY_REFILL (R267). -/
def execEnergyRefill (s : State) : Host.Outcome State Fault Refusal :=
  .next { s with contexts := s.contexts.map fun c =>
    { c with budgets := c.budgets.map fun b => (b.1, min (c.cap : Int) (b.2 + refillUnits c s.dev.scale)) } }

/-! ### Walks and prefetches -/

/-- The entries of a TLB: 128 of a core, 32 Ki of a die's shared one (R131). -/
def tlbSize (core : Option Nat) : Nat := if core.isSome then 128 else 32768

/-- The newest `n` of the entries that a test picks, and every other entry. -/
def keepNewest (p : Tlb → Bool) : Nat → List Tlb → List Tlb
  | _, [] => []
  | 0, t :: r => if p t then keepNewest p 0 r else t :: keepNewest p 0 r
  | n + 1, t :: r => if p t then t :: keepNewest p n r else t :: keepNewest p (n + 1) r

/-- A translation entered in a TLB in place of those it overlaps (R131); the oldest entry leaves a full one (log 95). -/
def Memory.fillTlb (m : Memory) (t : Tlb) : Memory :=
  let mine := fun (x : Tlb) => x.die == t.die && x.core == t.core
  { m with tlbs := t :: keepNewest mine (tlbSize t.core - 1) (m.tlbs.filter fun x =>
      !(mine x && x.ctx == t.ctx && decide (x.base < t.base + t.size) && decide (t.base < x.base + x.size))) }

/-- The core of the current group, on a die: the requester of a walk. -/
def State.walker (s : State) (die : Nat) : Option Nat :=
  match ((s.cur.bind s.group).bind fun g => s.team g.team).map Team.place with
  | some q => if q.die == die then some (coreIdx q) else none
  | none => none

/-- PAGE_WALK (R128, R129, R131): the table words are read through L2, whatever the walk ends in, and a translation enters the
die's shared TLB and the requesting core's. A page under invalidation is not walked (R133), and a table word that cannot be
read gives nothing (R138). -/
def execPageWalk (s : State) : Host.Outcome State Fault Refusal :=
  let a := s.ev
  .next (match s.context a.ctx with
    | none => s
    | some c =>
      match s.pageLife a.ctx a.va.toNat, (if a.va.extractLsb' 56 8 != 0 then .none else s.walkNow c.root a.va.toNat) with
      | some (.invalidating _), _ => s
      | _, .leaf l =>
        let t : Tlb := { die := a.die, core := none, ctx := a.ctx, base := l.base, size := l.size, leaf := l.entry }
        let m := (s.mem.readTables c.root a.va.toNat).fillTlb t
        s.setMem (match s.walker a.die with
          | some core => m.fillTlb { t with core := some core }
          | none => m)
      | _, _ => if a.va.extractLsb' 56 8 != 0 then s else s.setMem (s.mem.readTables c.root a.va.toNat))

/-- L2_PREFETCH (R137): a fill, or a fill dropped and counted. The prefetcher's reuse value is 3 (log 24). -/
def execL2Prefetch (s : State) : Host.Outcome State Fault Refusal :=
  let pa := s.ev.pa
  let die := Config.dieOf pa
  .next (if Config.memBytes ≤ pa ∨ !s.stackReady pa then s
    else if s.mem.lines.any fun l => l.idx == pa / 128 then s
    else if s.ev.dropped then
      s.setMem { s.mem with dropped := put 0 s.mem.dropped die (lookup 0 s.mem.dropped die + 1) }
    else s.setMem (s.mem.l2Access (pa / 128) 3 false))

end Sys2Proof.Machine
end

