-- ==== Sys2Proof/Machine/Engine.lean ====
section
/-!
DEFINITION. Engine commands while they run: units, page boundaries, stalls, failing units, the bytes they move and
count, queue ports, image decoding, and how they end (R209, R210, R230, R231, R277, R337 to R348).
-/
namespace Sys2Proof.Machine

def State.addEngine (s : State) (e : Engine) : State := { s with engines := s.engines ++ [e] }
def State.dropEngine (s : State) (cid : Nat) : State := { s with engines := s.engines.filter fun e => e.cid != cid }

/-- A command that feeds or drains a queue port. -/
def Engine.isPort (e : Engine) : Bool := e.kind == .readPort || e.kind == .writePort

/-- The end of a command: it leaves the machine and its CPY count falls, with a deferred fault if any (R90, R337). -/
def State.engineDone (s : State) (e : Engine) (fault : Option TrapInfo) : State :=
  ((s.dropEngine e.cid).dropWaits (.engine e.cid)).onGroup e.gid fun g => g.complete e.seq fault

/-- The channels that a write stream feeds: of the same context, on the same die, bound at its address (R343). -/
def Engine.feeds (w e : Engine) : Bool :=
  w.kind == .writePort && w.dstSpace == 0 && e.channel && e.ctx == w.ctx && e.place.die == w.place.die && e.start == w.start

/-- Runs of a channel up to an offset. -/
def cutRuns (n : Nat) (rs : List Run) : List Run :=
  (rs.map fun r => { r with len := min r.len (n - r.dst.toNat) }).filter fun r => r.len ≠ 0

/-- The channels of a write stream closed at what it has performed, DEAD if a cause is given (R344, R345). -/
def State.closeChannels (s : State) (w : Engine) (cause : Option Byte) : State :=
  { s with engines := s.engines.map fun e =>
      if w.feeds e && !e.closed then
        { e with closed := true, dead := e.dead <|> cause, rest := cutRuns w.low e.rest, cur := none, got := [] }
      else e }

/-- The cause that a dead producer forwards: a cell's own cause byte, else the cause of the fault (R344). -/
def producerCause (i : TrapInfo) : Byte := if i.cause == CELL_FAILED then i.fwd else i.cause

/-- A command ends at a fault: its binding is DEAD and counts in CPY until it ends, or the command is over, as a stream is
whose binding QEND has ended already (R209, R210, R277, R343 to R345). -/
def State.engineFail (s : State) (e : Engine) (i : TrapInfo) : State :=
  if e.isPort then
    let s := s.closeChannels e (some (producerCause i))
    if e.ending then s.engineDone e (some i)
    else
      let e := { e with dead := some (producerCause i), st := .running, data := if e.kind == .writePort then [] else e.data }
      ((s.setEngine e).onGroup e.gid fun g => g.opFault e.seq 0 i).dropWaits (.engine e.cid)
  else s.engineDone e (some i)

/-! ### Units (R158, R337) -/

/-- Source bytes of a number of destination bytes. -/
def Engine.srcBytes (e : Engine) (n : Nat) : Nat := n / e.outBytes * e.inBytes

/-- The destination bytes a to b of a run, with their source. -/
def Engine.part (e : Engine) (r : Run) (a b : Nat) : Run :=
  ⟨r.src + BitVec.ofNat 64 (e.srcBytes a), r.dst + BitVec.ofNat 64 a, b - a⟩

/-- Where a run has another as its part. -/
def Engine.within (e : Engine) (r u : Run) : Option Nat :=
  let a := (u.dst - r.dst).toNat
  if a + u.len ≤ r.len ∧ (e.part r a (a + u.len)).src = u.src then some a else none

/-- Runs without a part of one of them: the first that has it. -/
def Engine.without (e : Engine) (u : Run) : List Run → List Run
  | [] => []
  | r :: rs => match e.within r u with
    | some a => [e.part r 0 a, e.part r (a + u.len) r.len].filter (fun r => r.len ≠ 0) ++ rs
    | none => r :: Engine.without e u rs

/-- The write stream that a channel reads. -/
def State.writerOf (s : State) (e : Engine) : Option Engine := s.engines.find? fun w => w.feeds e && w.dead.isNone

/-- A command as it can go on: an open channel has left to read what its writer has performed (R343, R344). -/
def State.seen (s : State) (e : Engine) : Engine :=
  if e.channel && !e.closed then { e with rest := cutRuns (((s.writerOf e).map Engine.low).getD 0) e.rest } else e

/-- How many bytes of a run, from its first, a command can move now: a read stream has room for 4 × W words in its port, and
a write stream moves what has been appended (R343, R344). No header byte of a DECODE goes before a record byte (R348). -/
def Engine.movable (e : Engine) (r : Run) : Nat :=
  match e.kind with
  | .readPort => min r.len (e.base + 16 * Config.width - r.dst.toNat)
  | .writePort => min r.len (e.appended - r.src.toNat)
  | .decode =>
    let last := fun (q : Run) => e.params.isEmpty && decide (e.data.length ≤ q.src.toNat + 64)
    if last r && e.rest.any (!last ·) then 0 else r.len
  | _ => r.len

/-- The part a to b of L bytes from p, over the 32 B on either side of a page boundary that it reaches (R337). -/
def zone (edge : Nat → Bool) (p L : Nat) (x : Nat × Nat) : Nat × Nat :=
  let b := (p + x.2 + 31) / 65536 * 65536
  if p < b ∧ b < p + L ∧ p + x.1 < b + 32 ∧ edge b then (min x.1 (b - 32 - p), max x.2 (min (b + 32 - p) L)) else x

/-- A part of a run over whole words of the destination (R158), and over whole zones around page boundaries. -/
def Engine.grow (e : Engine) (edge : Nat → Bool) (r : Run) (x : Nat × Nat) : Nat × Nat :=
  let d := r.dst.toNat
  let x := (x.1 - (d + x.1) % 4, min r.len (x.2 + (4 - (d + x.2) % 4) % 4))
  let x := if e.dstSpace = 0 then zone edge d r.len x else x
  if e.srcSpace = 0 then
    let y := zone edge r.src.toNat (e.srcBytes r.len) (e.srcBytes x.1, e.srcBytes x.2)
    (min x.1 (y.1 / e.inBytes * e.outBytes), max x.2 (y.2 / e.inBytes * e.outBytes))
  else x

/-- The unit of a run that holds one of its bytes (R158, R337): a zone may meet one on the other side, and words of it. -/
def Engine.unit (e : Engine) (edge : Nat → Bool) (r : Run) (o : Nat) : Run :=
  let x := e.grow edge r (e.grow edge r (e.grow edge r (o / e.outBytes * e.outBytes, (o / e.outBytes + 1) * e.outBytes)))
  e.part r x.1 x.2

/-- An address where one page of a command's context ends (R128, R337): the page below it, where it is mapped, goes no
further. -/
def State.pageEdge (s : State) (c : Context) (e : Engine) (b : Nat) : Bool :=
  match s.leafOf e.place.die (coreIdx e.place) c.num c.root (b - 1) with
  | .leaf l => decide (l.base + l.size ≤ b)
  | _ => true

/-- The piece and the position in it of one of the bytes of some pieces, by their lengths. -/
def seek : List Nat → Nat → Option (Nat × Nat)
  | [], _ => none
  | n :: ns, p => if p < n then some (0, p) else (seek ns (p - n)).map fun x => (x.1 + 1, x.2)

/-- Two ranges of addresses meet. -/
def rangesMeet (a : Addr) (m : Nat) (b : Addr) (n : Nat) : Bool := decide ((b - a).toNat < m ∨ (a - b).toNat < n)

/-- A unit of the k-th run left may go now: of the bytes that two rows write the later row's come last (R338, R339), and in
place CHAIN reads each element before it is written (R342). -/
def Engine.free (e : Engine) (k : Nat) (u : Run) : Bool :=
  (e.rest.take k).all (fun r => !rangesMeet r.dst r.len u.dst u.len) &&
    (e.kind != .chain || e.runs.any (fun r => r.src != r.dst) ||
      (e.without u e.rest).all fun r => !rangesMeet r.src (e.srcBytes r.len) u.dst u.len)

/-- The next unit of a command, where it can move any (R158, R337). It is the one in progress, else which it is is a free
value among those that may go (log 29). -/
def State.nextUnit (s : State) (c : Context) (e : Engine) : Option Run :=
  match e.cur with
  | some u => some u
  | none =>
    let ns := e.rest.map e.movable
    let n := ns.sum
    let unit := fun p => (seek ns p).bind fun x => (e.rest[x.1]?).map fun r => (x.1, e.unit (s.pageEdge c e) r x.2)
    match unit 0 with
    | none => none
    | some (k, first) =>
      if first.len = n then some first
      else some ((([Config.wordNext s.free e.cid n % n, 0, n - 1].filterMap unit).find? fun x => e.free x.1 x.2).getD (k, first)).2

/-- The first byte, at or after b in its unit, that ranges still to move reach. -/
def reaches (b : Nat) (rs : List (Nat × Nat)) : Option Nat :=
  rs.findSome? fun r => if b < r.1 + r.2 ∧ r.1 < b + 64 ∧ r.2 ≠ 0 then some (max b r.1) else none

/-- Where ranges still to move reach the 64 B units that begin within 32 B after some bytes, or end within 32 B before them:
with a unit that fails, the bytes within 32 B of it stay unwritten, so that no packed block across its edge is written in
part (R53, R337). -/
def around (p n : Nat) (rs : List (Nat × Nat)) : List Addr :=
  let next := ((p + n - 1) / 64 + 1) * 64
  let first := p / 64 * 64
  (((if next < p + n + 32 then reaches next rs else none).toList ++
    (if p < first + 32 ∧ 64 ≤ first then reaches (first - 64) rs else none).toList)).map (BitVec.ofNat 64 ·)

/-- Source and destination ranges still to move. -/
def Engine.srcRanges (e : Engine) : List (Nat × Nat) := e.rest.map fun r => (r.src.toNat, e.srcBytes r.len)
def Engine.dstRanges (e : Engine) : List (Nat × Nat) := e.rest.map fun r => (r.dst.toNat, r.len)

/-- Every byte of a 64 B unit is one that the command writes (R138). -/
def Engine.coversUnit (e : Engine) (b : Nat) : Bool :=
  (List.range 64).all fun k => e.runs.any fun r => decide (r.dst.toNat ≤ b + k) && decide (b + k < r.dst.toNat + r.len)

/-! ### What a unit meets -/

/-- The touches and checks of one unit, as far as they have come: cells to wait for, the first failing unit. -/
structure Meet where
  s : State
  cells : List Nat := []
  fail : Option (TrapInfo × Option Nat) := none

def Engine.toucher (e : Engine) : Toucher := ⟨e.ctx, e.cls, e.lineage⟩

/-- Translation for a command. -/
def State.engineXlat (s : State) (c : Context) (e : Engine) (u : Use) (va : Addr) : Xlat :=
  s.translate c e.place.die (coreIdx e.place) u va

/-- The table words that a command's translations walk, read through L2 (R129). -/
def State.engineWalks (s : State) (c : Context) (e : Engine) (ps : List (Addr × Nat)) : State :=
  ps.foldl (fun s p => s.useTables e.place.die (coreIdx e.place) c p.1) s

/-- One unit read: error, or touch (R138, R208, R210). -/
def Meet.read (c : Context) (e : Engine) (m : Meet) (va : Addr) : Meet :=
  match m.fail, m.s.engineXlat c e .read va with
  | none, .ok p =>
    let u := p.pa / 64
    let first := va &&& ~~~(63 : Addr)
    if p.host then m
    else if m.s.unitBad u then
      { m with fail := some ({ cause := UNCORRECTABLE, addr := first }, if m.s.mem.poisoned u then some u else none) }
    else if !p.cell then m
    else match m.s.touch e.toucher u va with
      | (.ok, s) => { m with s := s }
      | (.wait, s) => { m with s := s, cells := m.cells ++ [u] }
      | (.bad cause fwd, s) => { m with s := s, fail := some ({ cause := cause, addr := first, fwd := fwd }, none) }
  | _, _ => m

/-- One unit written: error, or EVL (R138, R209). -/
def Meet.write (c : Context) (e : Engine) (m : Meet) (va : Addr) : Meet :=
  match m.fail, m.s.engineXlat c e .write va with
  | none, .ok p =>
    let u := p.pa / 64
    let first := va &&& ~~~(63 : Addr)
    if p.host then m
    else if !m.s.stackReady p.pa then { m with fail := some ({ cause := UNCORRECTABLE, addr := first }, none) }
    else if m.s.mem.poisoned u then
      if e.coversUnit first.toNat then m else { m with fail := some ({ cause := UNCORRECTABLE, addr := first }, some u) }
    else if p.cell && m.s.busy none u then { m with fail := some ({ cause := CELL_BUSY, addr := first }, none) }
    else m
  | _, _ => m

/-- The first page of some bytes that does not translate: a wait (R133), or a cause and the byte (R277). -/
def firstStall (xs : List (Addr × Xlat)) : Option (Option (Byte × Addr)) :=
  match xs.findSome? fun x => match x.2 with | .bad c => some (c, x.1) | _ => none with
  | some b => some (some b)
  | none => if xs.any fun x => x.2 == .wait then some none else none

/-- CHAIN's operation (R341, R342): opcode and constant, on an FP32 word. -/
def chainOp (op : Nat × Word) (y : Word) : Word :=
  match op.1 with
  | 1 => fadd y op.2
  | 2 => fmul y op.2
  | 3 => fmax y op.2
  | 4 => fmin y op.2
  | 5 => sfuEx2 y
  | 6 => sfuSigm y
  | 7 => sfuTanh y
  | _ => sfuRcp y

/-- One element through CHAIN's list (R342). -/
def Engine.element (e : Engine) (q : Nat) : Nat :=
  round e.outFmt false false (fp (e.chain.foldl (fun y op => chainOp op y) (toFp (valueOf e.inFmt q))))

/-- The bytes that a command writes for the bytes it has read. -/
def Engine.convert (e : Engine) (bs : List Byte) : List Byte :=
  if e.kind == .chain then
    (List.range (bs.length / e.inBytes)).flatMap fun k => leBytes e.outBytes (e.element (field bs (k * e.inBytes) e.inBytes))
  else bs

/-- The stalled command's event record (R277, R355 kind 0x12). -/
def Engine.funct (e : Engine) : Nat :=
  match e.kind with
  | .copy => 0 | .copy2d => 1 | .gather => 2 | .scatter => 3 | .chain => 4
  | .readPort => 5 | .writePort => 5 | .decode => 8 | .copyw => 9

def Engine.stallRecord (e : Engine) (funct : Nat) (cause : Byte) (a : Addr) : List Byte :=
  record 64 [(0, [0x12]), (1, [cause]), (2, leBytes 2 e.ctx), (8, leBytes 8 e.cid), (16, leBytes 8 a.toNat),
    (24, leBytes 8 e.pc.toNat), (32, leBytes 1 e.place.die), (33, leBytes 1 e.place.core), (34, leBytes 1 funct)]

def Engine.faultRecord (e : Engine) (cause : Byte) (a : Addr) : List Byte := e.stallRecord e.funct cause a

/-- The bytes read for a unit, and the L2 lines they touch; engines use reuse 3 (R130, R337). -/
def State.engineRead (s : State) (e : Engine) (src : List (Addr × Nat × Place)) (a : Addr) (n : Nat) : List Byte × State :=
  if e.srcSpace = 0 then
    (src.flatMap fun x => s.mem.readPlace s.free x.2.2 x.2.1,
      s.setMem (src.foldl (fun m x => m.l2Use x.2.2 x.2.1 3 false) s.mem))
  else if e.srcSpace = 3 then ((e.data.drop (a.toNat - e.base)).take n, s)
  else (((s.team e.team).map fun t => t.read e.srcSpace a.toNat n).getD [], s)

/-- The pieces of a write, with their bytes. -/
def pieces : List (Addr × Nat × Place) → List Byte → List Piece
  | [], _ => []
  | x :: r, bs => x.2.2.piece (bs.take x.2.1) :: pieces r (bs.drop x.2.1)

/-- The bytes of a unit performed at their destination, `e` with what is left after them; a poisoned unit is whole once its
last byte is (R138). -/
def State.engineWrite (s : State) (e : Engine) (dst : List (Addr × Nat × Place)) (a : Addr) (bs : List Byte) : State :=
  if e.dstSpace = 0 then
    let m := s.mem.writePieces s.free (pieces dst bs)
    let m := dst.foldl (fun m x => if x.2.2.host then m else
      let m := m.l2Use x.2.2 x.2.1 3 true
      let b := (x.1 &&& ~~~(63 : Addr)).toNat
      if e.coversUnit b && (reaches b e.dstRanges).isNone then m.heal (x.2.2.pa / 64) else m) m
    s.setMem m
  else if e.dstSpace = 3 then s
  else e.teams.foldl (fun s tid => match s.team tid with
    | some t => s.setTeam (t.write e.dstSpace a.toNat bs)
    | none => s) s

/-- The parameters of a DECODE. -/
def Engine.param (e : Engine) (k : Nat) : Nat := (e.params.getD k 0).toNat

/-- A command writes global memory, so that the end of a wait for it invalidates the L1 (R168). -/
def Engine.writesGlobal (e : Engine) : Bool :=
  if e.kind == .decode && !e.params.isEmpty then e.param 6 == 0 else e.dstSpace == 0

/-- The bytes of a unit counted at every receiving team's quire; an underflow is a deferred fault of the command (R230, R231,
R340). DESIGN CHOICE (log 106): R230 does not fix the pieces in which a quire counts; here each is a unit. -/
def State.engineLand (s : State) (e : Engine) (n : Nat) : State :=
  match (if e.dstSpace = 3 then none else e.quire) with
  | none => s
  | some q => e.teams.foldl (fun s tid => match s.quireLand tid q n e.writesGlobal with
    | (s, true) => s.onGroup e.gid fun g => g.opFault e.seq 0 { cause := STAGE_UNDERFLOW, addr := BitVec.ofNat 64 q }
    | (s, false) => s) s

/-- The first n bytes of a list of pieces, and the bytes after them. -/
def clip : Nat → List (Addr × Nat) → List (Addr × Nat)
  | _, [] => []
  | n, p :: r => if n = 0 then [] else (p.1, min n p.2) :: clip (n - p.2) r
def skip : Nat → List (Addr × Nat) → List (Addr × Nat)
  | _, [] => []
  | n, p :: r => if p.2 ≤ n then skip (n - p.2) r else (p.1 + BitVec.ofNat 64 n, p.2 - n) :: r

/-- What moving a unit comes to. -/
inductive Moved where
  | moved (s : State) (n : Nat)
  | stop (s : State)

/-- The places of some pieces. -/
def State.placed (s : State) (c : Context) (e : Engine) (u : Use) (ps : List (Addr × Nat)) : List (Addr × Nat × Place) :=
  ps.filterMap fun p => match s.engineXlat c e u p.1 with
    | .ok x => some (p.1, p.2, x)
    | _ => none

/-- A byte of a write stream that no word has been appended for (R344). -/
def Engine.unappended (e : Engine) (a : Addr) : Bool := e.kind == .writePort && decide (e.appended ≤ (a - e.start).toNat)

/-- What a command still meets around a unit of its source, and of its destination (R337): a write stream that has ended
meets none of what was never appended (R345). -/
def Engine.nearSrc (e : Engine) (u : Run) : List Addr :=
  if e.srcSpace = 0 then around u.src.toNat (e.srcBytes u.len) e.srcRanges else []
def Engine.nearDst (e : Engine) (u : Run) : List Addr :=
  (if e.dstSpace = 0 then around u.dst.toNat u.len e.dstRanges else []).filter fun a => !(e.ending && e.unappended a)

/-- Some bytes put into a command's data at an offset. -/
def Engine.hold (e : Engine) (o : Nat) (bs : List Byte) : Engine :=
  let k := o - e.base
  { e with data := e.data.take k ++ List.replicate (k - e.data.length) 0 ++ bs ++ e.data.drop (k + bs.length) }

/-- A command after some part of a unit, from its first byte: a write stream's data begin at the first byte not performed. -/
def Engine.after (e : Engine) (u : Run) : Engine :=
  let e := { e with rest := e.without u e.rest, cur := none, got := [], st := .running }
  if e.kind == .writePort then { e with base := e.low, data := e.data.drop (e.low - e.base) } else e

/-- How many bytes of a unit's source are read now, of m with some read before: all that are left, or up to the end of one of
its words (R158). -/
def State.readNow (s : State) (e : Engine) (u : Run) (m : Nat) : Nat :=
  let words := (u.src.toNat % 4 + m - 1) / 4
  let k := if words = 0 || !e.got.isEmpty || e.srcSpace = 3 then 0 else Config.readBreak s.free e.cid % (words + 1)
  if k = 0 then m - e.got.length else 4 * k - u.src.toNat % 4

/-- A unit that nothing stops: its bytes read, all of them or some for the time, and once all have been read, performed and
counted (R158, R230). -/
def State.carryUnit (s : State) (c : Context) (e : Engine) (u : Run) (src dst : List (Addr × Nat)) : Moved :=
  let n := e.movable u
  let m := e.srcBytes n
  if n = 0 then .stop s else
  let now := s.readNow e u m
  match s.engineRead e (s.placed c e .read (clip now (skip e.got.length src))) (u.src + BitVec.ofNat 64 e.got.length) now with
  | (bs, s) =>
    let bs := e.got ++ bs
    if bs.length < m then .stop (s.setEngine { e with cur := some u, got := bs, st := .running })
    else
      let out := e.convert bs
      let e' := (if e.dstSpace = 3 then e.hold u.dst.toNat out else e).after { u with len := n }
      .moved (((s.engineWrite e' (s.placed c e .write (clip n dst)) u.dst out).setEngine e').engineLand e' n) n

/-- A unit whose pages have translated: its cells and errors and those around it, then its bytes (R337). A write stream holds
what a failing unit would hold back until a word for that unit has been appended, or the binding ends. -/
def State.movePlaced (s : State) (c : Context) (e : Engine) (u : Run) (src dst : List (Addr × Nat)) : Moved :=
  let near := e.nearDst u
  let reads := src.map Prod.fst ++ (s.seen e).nearSrc u
  let m := (dst.map Prod.fst ++ near.filter fun a => !e.unappended a).foldl (Meet.write c e) (reads.foldl (Meet.read c e) { s := s })
  let held := (near.filter (e.unappended ·)).foldl (Meet.write c e) { s := s }
  match m.fail with
  | some (i, poison) =>
    let s := match poison with | some u => m.s.memoryError (some e.ctx) u | none => m.s
    .stop (s.engineFail e i)
  | none =>
    let s := m.s.dropWaits (.engine e.cid)
    if !m.cells.isEmpty then
      let s := s.setEngine { e with st := .cell (m.cells.headD 0), cur := some u }
      .stop (if s.tableFull m.cells then s else s.enterWaits (.engine e.cid) m.cells)
    else if held.fail.isSome then .stop s
    else s.carryUnit c e u src dst

/-- A unit of a command (R277, R337): none of it is written until its pages have passed. A table word that cannot be
read ends the command as uncorrectable data does (R129, R138; log 59). -/
def State.moveUnit (s : State) (c : Context) (e : Engine) (u : Run) : Moved :=
  let src := if e.srcSpace = 0 then cutUnits (e.srcBytes u.len + 1) u.src (e.srcBytes u.len) else []
  let dst := if e.dstSpace = 0 then cutUnits (u.len + 1) u.dst u.len else []
  let s := s.engineWalks c e (src ++ dst)
  match firstStall (src.map (fun p => (p.1, s.engineXlat c e .read p.1)) ++ dst.map (fun p => (p.1, s.engineXlat c e .write p.1))) with
  | some none => .stop s
  | some (some (cause, a)) =>
    if cause == UNCORRECTABLE then
      .stop ((s.tableError c a).engineFail e { cause := UNCORRECTABLE, addr := a &&& ~~~(63 : Addr) })
    else .stop ((s.setEngine { e with st := .faulted cause a, cur := some u }).raise (e.faultRecord cause a))
  | none => s.movePlaced c e u src dst

/-! ### DECODE (R346 to R348) -/

/-- The side of a patch in samples (R346). -/
def patchOf (d1 : Nat) : Nat := match d1 % 4 with | 0 => 14 | 1 => 16 | 2 => 28 | _ => 32

/-- The decoder functions of a die that a kind of image needs (R346, R357). -/
def Device.decoder (d : Device) (die kind : Nat) : FnState :=
  let pool := d.fnState (if kind = 0 then .jpeg die else .bilevel die)
  let dma := d.fnState (.dma die)
  if pool == .failed || dma == .failed then .failed
  else if pool == .ready && dma == .ready then .ready else .training

/-- w(k) or h(k) (R347). -/
def scaledSide (w k : Nat) : Nat := max 1 ((w * k + 512) / 1024)
/-- ceil(a / p). -/
def ceilDiv (a p : Nat) : Nat := (a + p - 1) / p
/-- n(k) (R347). -/
def patches (im : Config.Image) (p k : Nat) : Nat := ceilDiv (scaledSide im.width k) p * ceilDiv (scaledSide im.height k) p

/-- The largest k whose patches meet the cap (R347); where there is none, k is free (log 26). -/
def scaleOf (im : Config.Image) (p cap step : Nat) : Nat :=
  match ((List.range 1024).map (1024 - ·)).find? fun k => decide (patches im p k ≤ cap) with
  | some k => k
  | none => 1 + Config.pick step % 1024

/-- A stored pixel (R347, R348). -/
def pixelBytes (int8 : Bool) (v : Nat) : List Byte :=
  if int8 then [BitVec.ofNat 8 v - 128] else leBytes 2 (toBf (.fin false v 0)).toNat

/-- The scaled sample (x, y) of a component (R347). -/
def sampleAt (im : Config.Image) (k x y c : Nat) : Nat :=
  if x < scaledSide im.width k ∧ y < scaledSide im.height k then
    im.samples.getD (((2 * y + 1) * 1024 / (2 * k) * im.width + (2 * x + 1) * 1024 / (2 * k)) * im.comps + c) 0
  else 0

/-- Bytes of one patch record (R348). -/
def recordBytes (im : Config.Image) (p : Nat) (int8 : Bool) : Nat := ceilDiv (16 + p * p * im.comps * (if int8 then 1 else 2)) 16 * 16

/-- The patch record at a row and column of the grid (R348). -/
def patchRecord (im : Config.Image) (p k : Nat) (int8 : Bool) (row col : Nat) : List Byte :=
  let px := (List.range (p * p * im.comps)).flatMap fun t =>
    pixelBytes int8 (sampleAt im k (col * p + t / im.comps % p) (row * p + t / im.comps / p) (t % im.comps))
  let bs := leBytes 2 row ++ leBytes 2 col ++ List.replicate 12 0 ++ px
  bs ++ List.replicate (recordBytes im p int8 - bs.length) 0

/-- The header (R348). -/
def imageHeader (im : Config.Image) (status p k : Nat) (int8 : Bool) : List Byte :=
  let ok := status == 0
  let w := scaledSide im.width k
  let h := scaledSide im.height k
  record 64 [(0, leBytes 1 status), (1, leBytes 1 im.comps), (2, leBytes 1 p), (3, leBytes 1 int8.toNat),
    (4, leBytes 2 (if ok then ceilDiv w p else 0)), (6, leBytes 2 (if ok then ceilDiv h p else 0)),
    (8, leBytes 4 im.width), (12, leBytes 4 im.height), (16, leBytes 4 w), (20, leBytes 4 h), (24, leBytes 4 k),
    (28, leBytes 4 (recordBytes im p int8))]

/-- What T.81 decoding gives, within what R346 and R348 fix: a status of the table that such a stream can have, and for a
decoded image 1 or 3 components, sides of 1 to 65 535 and 8-bit samples. -/
def imageT81 (im : Config.Image) : Config.Image :=
  let status := [0, 1, 2, 3, 4, 6].getD (im.status % 6) 0
  if status ≠ 0 then { im with status := status }
  else { status := 0, comps := if im.comps = 3 then 3 else 1, width := 1 + im.width % 65535, height := 1 + im.height % 65535,
         samples := im.samples.map (· % 256) }

/-- What T.6 decoding gives, within what R346 and R348 fix: one component, black 0 and white 255, and sides of at most the
maximum width and height. -/
def imageT6 (im : Config.Image) (w h : Nat) : Config.Image :=
  let status := [0, 5, 6].getD (im.status % 3) 0
  if status ≠ 0 then { im with status := status }
  else { status := 0, comps := 1, width := 1 + im.width % w, height := 1 + im.height % h,
         samples := im.samples.map fun v => if v = 0 then 0 else 255 }

/-- What a DECODE writes: the records, then the header (R348). The fields of the header of a refused image that the
spec does not give are those of the free result of decoding (log 14). -/
def Engine.output (e : Engine) (failed : Bool) (step : Nat) : List Byte × Nat :=
  let d1 := e.param 1
  let p := patchOf d1
  let int8 := d1.testBit 2
  let w := bits (e.param 3) 0 16
  let h := bits (e.param 3) 16 16
  let im := if failed then Config.decodeT81 []
    else if d1.testBit 3 then imageT6 (Config.decodeT6 e.data w h) w h else imageT81 (Config.decodeT81 e.data)
  let k := scaleOf im p (bits d1 16 16) step
  let status := if failed then 8
    else if im.status ≠ 0 then im.status
    else if e.param 2 < 64 + patches im p k * recordBytes im p int8 then 7 else 0
  let cols := ceilDiv (scaledSide im.width k) p
  let recs := if status = 0 then (List.range (patches im p k)).flatMap fun n => patchRecord im p k int8 (n / cols) (n % cols) else []
  (recs ++ imageHeader im status p k int8, recs.length)

/-- A DECODE whose image has been read, or whose decoder has failed, turns to its output. -/
def Engine.decoded (e : Engine) (dst : Addr) (space : Nat) (failed : Bool) (step : Nat) : Engine :=
  let (bs, n) := e.output failed step
  let runs : List Run := [⟨0, dst + 64, n⟩, ⟨BitVec.ofNat 64 n, dst, 64⟩]
  { e with
    params := [], data := bs, srcSpace := 3, dstSpace := space
    runs := runs, rest := runs.filter fun r => r.len ≠ 0 }

/-! ### COPY_PROGRESS, COPY_COMPLETE -/

/-- A DECODE before its output: it waits for its decoder, reads its stream, then decodes (R346). Its parameters
hold, after the group, the destination pair and space. -/
def State.decodeStep (s : State) (e : Engine) : Option Engine :=
  let dst := pair (e.params.getD 4 0) (e.params.getD 5 0)
  let space := e.param 6
  match s.dev.decoder e.place.die (e.param 1 / 8 % 2) with
  | .failed => some (e.decoded dst space true s.free)
  | .ready => if e.rest.isEmpty then some (e.decoded dst space false s.free) else some e
  | _ => none

/-- The command as it goes on: a DECODE may wait or turn to its output. -/
def State.engineNow (s : State) (e : Engine) : Option Engine :=
  if e.kind == .decode && !e.params.isEmpty then s.decodeStep e else some e

/-- A command may move: it is not stalled, not dead, in an ACTIVE context. -/
def State.engineMay (s : State) (e : Engine) : Option Context :=
  match s.context e.ctx with
  | none => none
  | some c =>
    match e.st with
    | .faulted _ _ => none
    | _ => if c.st == .active && e.dead.isNone then some c else none

/-- Units moved until `want` destination bytes have been performed, or the command stops. -/
def State.progress (cid : Nat) : Nat → Nat → State → State
  | 0, _, s => s
  | f + 1, want, s =>
    match s.engine cid with
    | none => s
    | some e =>
      match (if want = 0 then none else s.engineMay e), s.engineNow e with
      | some c, some e =>
        match s.nextUnit c (s.seen e) with
        | none => s.setEngine e
        | some u =>
          match (s.setEngine e).moveUnit c e u with
          | .moved s n => State.progress cid f (want - n) s
          | .stop s => s
      | _, _ => s

/-- A command has performed every byte it writes. -/
def Engine.over (e : Engine) : Bool :=
  match e.kind with
  | .readPort => false
  | .writePort => e.ending && e.data.isEmpty
  | .decode => e.params.isEmpty && e.rest.isEmpty
  | _ => e.rest.isEmpty

/-- COPY_COMPLETE (R337, R345). -/
def execCopyComplete (s : State) : Host.Outcome State Fault Refusal :=
  .next (match s.engine s.ev.cmd with
    | none => s
    | some e =>
      if (s.engineMay e).isSome && e.over then
        (if e.kind == .writePort then s.closeChannels e none else s).engineDone e none
      else s)

/-! ### Queue ports (R344, R345) -/

/-- Every word that a read port will ever have is buffered. -/
def Engine.portClosed (e : Engine) : Bool := e.dead.isSome || ((!e.channel || e.closed) && e.rest.isEmpty)

/-- A chunk latched for the instruction that waits: word k to lane k (R344). The words of a channel are acquired. -/
def State.takeChunk (s : State) (g : Group) (p : Port) (e : Engine) (core : Nat) : State :=
  let ws := (wordsOf e.ready).take Config.width
  let s := s.setEngine { e with base := e.base + 4 * ws.length, data := e.data.drop (4 * ws.length) }
  let s := if e.channel then s.setMem (s.mem.flash core) else s
  s.setGroup { g with ports := replace (fun q => q.reg == p.reg) { p with taken := some ((List.range ws.length).zip ws), wanted := false } g.ports }

/-- A read of a CLOSED port: zeros, and CC.E of the issuing split (R344). -/
def State.takeClosed (s : State) (g : Group) (p : Port) : State :=
  let g := { g with ports := replace (fun q => q.reg == p.reg) { p with taken := some [], wanted := false } g.ports }
  s.setGroup (match g.clause with
    | some cl => g.setE cl.split
    | none => g)

/-- QPORT_READ (R344). -/
def execQportRead (s : State) : Host.Outcome State Fault Refusal :=
  .next (s.whenLive s.ev.g fun s g =>
    match g.ports.find? fun p => p.reg == s.ev.port.toNat && p.dir == .read && p.wanted && p.taken.isNone with
    | none => s
    | some p =>
      match s.engine p.cmd with
      | none => s
      | some e =>
        if 4 * Config.width ≤ e.ready.length ∨ (e.portClosed ∧ !e.ready.isEmpty) then
          s.takeChunk g p e (((s.team g.team).map fun t => coreIdx t.place).getD 0)
        else if e.portClosed && e.dead.isNone then s.takeClosed g p
        else s)

/-- The words that instructions have written to a write port go to its stream, in ascending lane order; a dead one
discards them (R344). -/
def State.appendPort (s : State) (g : Group) (p : Port) : State :=
  let s := s.setGroup { g with ports := replace (fun q => q.reg == p.reg) { p with given := [], wanted := false } g.ports }
  match s.engine p.cmd with
  | some e => if e.dead.isSome then s else s.setEngine { e with data := e.data ++ p.given.flatMap fun w => leBytes 4 w.2.toNat }
  | none => s

/-- QPORT_WRITE (R344). -/
def execQportWrite (s : State) : Host.Outcome State Fault Refusal :=
  .next (s.whenLive s.ev.g fun s g =>
    match g.ports.find? fun p => p.reg == s.ev.port.toNat && p.dir == .write && !p.given.isEmpty with
    | none => s
    | some p => if g.pendingWrite p.reg (0 - 1) then s else s.appendPort g p)

/-- A binding ended as QEND ends it (R345): a read binding is over at once, a write binding once its appended words
are performed. -/
def State.endPort (s : State) (gid : Nat) (p : Port) : State :=
  match s.group gid with
  | none => s
  | some g =>
    let s := if p.dir == .write then s.appendPort g p else s
    let s := s.onGroup gid fun g => { g with ports := g.ports.filter fun q => q.reg != p.reg }
    match s.engine p.cmd with
    | none => s
    | some e =>
      if e.dead.isSome || p.dir == .read then s.engineDone e none
      else s.setEngine { e with ending := true }

/-! ### Abandoning commands (R272) -/

/-- Every command of some groups abandoned; a write stream's channels die with cause 0x18 (R272, R344). A command writes a
word only once it has looked at the units 32 B on, so what it holds back before the point it has reached is unwritten
(R337; log 120). -/
def State.abandonEngines (s : State) (gids : List Nat) : State :=
  let mine := s.engines.filter fun e => gids.contains e.gid
  let s := mine.foldl (fun s e => s.closeChannels e (some SOFTWARE)) s
  mine.foldl (fun s e => s.engineDone e none) s

/-! ### Replies of the driver (R277) -/

/-- The stalled command that a handle names. -/
def State.stalled (s : State) (ctx handle : Nat) : Option (Engine × Addr) :=
  match s.engine handle with
  | some e => match e.st with
    | .faulted _ a => if e.ctx == ctx then some (e, a) else none
    | _ => none
  | none => none

end Sys2Proof.Machine
end

