-- ==== Sys2Proof/Machine/Mem.lean ====
section
/-!
DEFINITION. The memory instructions (R139 to R155): loads, stores, atomics, RED, STC, LDE, PREF, cache
maintenance and FENCE.
-/
namespace Sys2Proof.Machine

/-- An instruction with no operand check of its own and no privilege. -/
def memInstr (i : Instr) (body : Issue → Eff) (s : State) : Host.Outcome State Fault Refusal :=
  runInstr i (prologue i never never (withWaits i body)) s

/-- The mask-on lanes' accesses of n bytes at EA (R140). -/
def Issue.reqs (I : Issue) (o : MemOp) (n : Nat) : List LaneReq :=
  (lanesOf (I.maskOn o.w.m)).map fun i => ⟨i, [(I.ea o.w o.imm i, n)]⟩

/-! ### Loads (R142, R152) -/

/-- Pending writes of each lane's words, from register d (R18). -/
def landing (d : Nat) (l : List (Nat × List Word)) : List (Nat × Word) := l.flatMap fun x => resultsOf d x.1 x.2

/-- Accesses on their way, and the operation of LD that waits for the registers they give (R17, R157). -/
def Issue.awaits (I : Issue) (s : State) (xs : List Flight) (keys : List Nat) : Eff :=
  .done ((s.send xs).onGroup I.g.gid fun g => g.addOp { seq := 0, cls := .ld, due := keys, done := keys.isEmpty })

/-- The registers that a load of `n` bytes gives each lane. -/
def keysOf (d n : Nat) (ls : List Nat) : List Nat := ls.flatMap fun i => (List.range ((n + 3) / 4)).map fun k => regKey (d + k) i

/-- A load's accesses: the L1 flashed by an acquire, the lanes read, the writes outstanding in LD; or the accesses on their
way (log 6). -/
def Issue.performLoad (I : Issue) (o : MemOp) (n : Nat) (signed : Bool) (s : State) (l : List (Nat × List Placed)) : Eff :=
  if s.flights.isSome then
    I.awaits s (l.flatMap fun x => x.2.map fun p => I.flight o (oneLane x.1) p (.load I.g.nextSeq o.w.d.toNat signed))
      (keysOf o.w.d.toNat n (l.map Prod.fst))
  else match (I.acquire o.order.toNat o.scope.toNat s).readLanes I.core o.reuse.toNat l with
    | (vs, s) => I.later s .ld (landing o.w.d.toNat (vs.map fun v => (v.1, loadWords signed v.2)))

/-- The bytes of a lane's parts in a buffer. -/
def Team.readReq (t : Team) (space : Nat) (r : LaneReq) : List Byte := r.parts.flatMap fun p => t.read space p.1.toNat p.2

/-- A load of the given accesses (R141, R142), each of as many bytes as it must be aligned to. -/
def Issue.load (I : Issue) (o : MemOp) (align : Nat) (signed : Bool) (rs : List LaneReq) : Eff :=
  if o.space = 0 then
    I.global { use := .read, align := align, cells := .touch } rs (I.performLoad o align signed)
  else match I.bufferCheck o.space.toNat align rs with
    | some i => .trap I.s i
    | none =>
      if I.s.flights.isSome then
        I.awaits I.s (rs.flatMap fun r => r.parts.map fun p =>
            I.bufferFlight o (oneLane r.lane) p.1.toNat p.2 (.load I.g.nextSeq o.w.d.toNat signed))
          (keysOf o.w.d.toNat align (rs.map LaneReq.lane))
      else I.later I.s .ld (landing o.w.d.toNat (rs.map fun r => (r.lane, loadWords signed (I.t.readReq o.space.toNat r))))

/-- Consecutive words from an address, one for each lane of a list, by rank (R150, R152). -/
def rankReqs (base : Addr) (ls : List Nat) : List LaneReq :=
  (List.range ls.length).map fun r => ⟨ls.getD r 0, [(base + BitVec.ofNat 64 (4 * r), 4)]⟩

/-! ### Stores (R143) -/

/-- The n bytes that a lane stores: of one register, or of the group from b (R143). -/
def Issue.storeBytes (I : Issue) (o : MemOp) (n i : Nat) : List Byte :=
  ((List.range ((n + 3) / 4)).flatMap fun k => leBytes 4 (I.g.xbar o.w.xb (o.w.b.toNat + k) i).toNat).take n

/-- A store (R141, R143); a later lane's byte wins. -/
def Issue.store (I : Issue) (o : MemOp) (n : Nat) : Eff :=
  let rs := I.reqs o n
  if o.space = 0 then
    I.global { use := .write, align := n, cells := .write, reads := false } rs fun s l =>
      .done (I.storeOut o false l (I.storeBytes o n) s)
  else match I.bufferCheck o.space.toNat n rs with
    | some i => .trap I.s i
    | none =>
      if I.s.flights.isSome then
        .done (I.s.send (rs.flatMap fun r => r.parts.map fun p =>
          I.bufferFlight o (oneLane r.lane) p.1.toNat p.2 (.store (I.storeBytes o n r.lane) false)))
      else .done (I.s.setTeam (rs.foldl (fun t r =>
        r.parts.foldl (fun t p => t.write o.space.toNat p.1.toNat (I.storeBytes o n r.lane)) t) I.t))

/-! ### Atomics (R144 to R149) -/

/-- Every distinct address's update, in one step each (R144). -/
def State.atomAll (s : State) (core reuse : Nat) (f : AtomOp) (ops : Nat → Word × Word) :
    List (List (Nat × Placed)) → List (Nat × Word) × State
  | [] => ([], s)
  | [] :: r => State.atomAll s core reuse f ops r
  | (x :: xs) :: r =>
    let p := x.2
    match f.fn.apply (s.mem.word s.free p.at'.key p.at'.pa) ((x :: xs).map fun y => (y.1, ops y.1)) with
    | (olds, w) =>
      match State.atomAll (s.writeHome core reuse true [(p, leBytes 4 w.toNat)]) core reuse f ops r with
      | (l, s) => (olds ++ l, s)

/-- The lanes of an atomic, grouped by word address (R144). -/
def byAddress (l : List (Nat × List Placed)) : List (List (Nat × Placed)) :=
  let ps := l.flatMap fun x => x.2.map fun p => (x.1, p)
  (ps.map fun x => x.2.at'.pa).eraseDups.map fun a => ps.filter fun x => x.2.at'.pa == a

/-- A lane's operands: b, and b + 1 for CAS (R145). -/
def Issue.atomOps (I : Issue) (o : MemOp) (i : Nat) : Word × Word :=
  (I.g.xbar o.w.xb o.w.b.toNat i, I.g.xbar o.w.xb (o.w.b.toNat + 1) i)

/-- The update of one word on its way, for the lanes of its address (R144, R157). -/
def Issue.atomFlight (I : Issue) (o : MemOp) (f : AtomOp) (red : Bool) (ps : List (Nat × Placed)) : List Flight :=
  match ps with
  | [] => []
  | x :: _ => [I.flight o (laneSet fun i => ps.any fun y => y.1 == i) x.2
      (.atom f (ps.map fun y => (y.1, I.atomOps o y.1)) (if red then none else some (I.g.nextSeq, o.w.d.toNat)))]

/-- An atomic, or a RED, which returns nothing (R144, R149). -/
def Issue.atom (I : Issue) (o : MemOp) (f : AtomOp) (red : Bool) : Eff :=
  I.global { use := .update, align := 4, cells := .touch } (I.reqs o 4) fun s l =>
    if s.flights.isSome then
      let xs := (byAddress l).flatMap (I.atomFlight o f red)
      if red then .done (s.send xs) else I.awaits s xs (keysOf o.w.d.toNat 4 (l.map Prod.fst))
    else match s.atomAll I.core o.reuse.toNat f (I.atomOps o) (byAddress l) with
    | (olds, s) =>
      let s := I.acquire o.order.toNat o.scope.toNat s
      if red then .done s else I.later s .ld (olds.map fun x => (regKey o.w.d.toNat x.1, x.2))

/-! ### STC (R150, R151) -/

/-- The run of an STC from `base`, after the pointer's advance; a trap there keeps the claim. -/
def Issue.stcRun (I : Issue) (o : MemOp) (base : Addr) (s : State) : Eff :=
  let ls := lanesOf (I.maskOn o.w.m)
  let cnt := ls.length
  let I := { I with s := s }
  match I.check { use := .update, align := 4, cells := .write, reads := false } (rankReqs base ls) with
  | (.ok l, s) =>
    let s := I.storeOut o true l (I.storeBytes o 4) s
    let s := if I.g.handling then s else s.onGroup I.g.gid fun g => { g with claim := none }
    I.later s .ld ([lo32 base, hi32 base, BitVec.ofNat 32 cnt].zipIdx.flatMap fun x =>
      let v := o.w.d.toNat + x.2
      (lanesOf (I.everyLane v o.w.m)).map fun i => (regKey v i, x.1))
  | (.trap i, s) =>
    .trap (if I.g.handling then s else s.onGroup I.g.gid fun g => { g with claim := some (base, cnt) }) i
  | _ => .stall I.s

/-- STC (R150): the pointer word's advance, which its own checks rest on and which is performed as it issues, then the run; a
replay of a claim has no second advance (R151). A wait for a page of the run comes before the advance. -/
def Issue.stc (I : Issue) (o : MemOp) : Eff :=
  let ls := lanesOf (I.maskOn o.w.m)
  match (if I.g.handling then none else I.g.claim) with
  | some (base, _) =>
    match I.stcRun o base I.s with
    | .stall _ => .park I.s .retry
    | e => e
  | none =>
    let u := I.laneU o.w.m
    I.global { use := .update, align := 8, cells := .touch } [⟨u, [(I.ea o.w o.imm u, 8)]⟩] fun s l =>
      match l.flatMap Prod.snd with
      | p :: _ =>
        let s := I.drainFor o l s
        let base := BitVec.ofNat 64 (ofLe (s.mem.see s.free p.at'.key p.at'.pa 8))
        let next := base + BitVec.ofNat 64 (4 * ls.length)
        match I.stcRun o base (s.writeHome I.core o.reuse.toNat true [(p, leBytes 8 next.toNat)]) with
        | .stall _ => .park s .retry
        | e => e
      | [] => .done s

/-! ### PREF, maintenance, FENCE (R153 to R155) -/

/-- A prefetch's fill of a line at its home slice (R136, R137): dropped, and counted, where a demand fill's eviction takes
the way that it would take. Which fill meets one is a free value (log 24). -/
def State.prefetchFill (s : State) (line reuse : Nat) : State :=
  let ws := s.mem.l2Ways line
  let die := Config.dieOf (128 * line)
  if ws.all (fun w => w.idx != line) && (freeWay ws).isNone && Config.prefetchMeets s.free line then
    s.setMem { s.mem with dropped := put 0 s.mem.dropped die (lookup 0 s.mem.dropped die + 1) }
  else s.setMem (s.mem.l2Access line reuse false)

/-- The line at an address brought into L2, and into the core's L1 (R153). Nothing else changes. -/
def Issue.prefetch (I : Issue) (o : MemOp) (s : State) (a : Addr) : State :=
  match I.xlat .read a with
  | .ok p =>
    if !p.cached || !s.stackReady p.pa then s
    else
      let line := p.pa / 128
      let s := s.prefetchFill line o.reuse.toNat
      if o.w.d = 0 then s
      else (List.range 4).foldl (fun s k =>
        let u := (4 * line + k) / 2
        if s.mem.poisoned u then s
        else s.fillL1 p.key I.core (4 * line + k) (if p.cell then s.mem.tag u else .val)) s
  | _ => s

/-- PREF (R153). A lane whose page is being invalidated parks the group (R133). -/
def Issue.pref (I : Issue) (o : MemOp) : Eff :=
  let as := (lanesOf I.active).map fun i => I.ea o.w o.imm i
  if as.any fun a => I.xlat .read a == .wait then .park I.s .retry
  else .done (as.foldl (fun s a => I.prefetch o s a) (I.walked as))

/-- The 64 KiB pieces of a virtual byte range, each with its first byte and its end (R154). -/
def pieces64 (a len : Nat) : List (Nat × Nat) :=
  if len = 0 then []
  else (List.range ((a + len - 1) / 65536 - a / 65536 + 1)).map fun k =>
    (max a ((a / 65536 + k) * 65536), min (a + len) ((a / 65536 + k + 1) * 65536))

/-- The mapped runs of a virtual byte range, page by page of 64 KiB; others are skipped (R154). -/
def Issue.runsOf (I : Issue) (a len : Nat) : List (Nat × Nat) :=
  (pieces64 a len).filterMap fun r =>
    if 2 ^ 56 ≤ r.1 then none
    else match I.s.leafOf I.t.place.die I.core I.c.num I.c.root r.1 with
      | .leaf l => if pteType l.entry == 2 then none else some (pteAddr l.entry + (r.1 - l.base), r.2 - r.1)
      | _ => none

/-- The first byte and the length that a maintenance instruction names: EA(u) and Read(b, u) (R154). -/
def Issue.maintRange (I : Issue) (o : MemOp) : Nat × Nat :=
  ((I.ea o.w o.imm I.lane0).toNat, (I.g.read o.w.b.toNat I.lane0).toNat)

/-- The byte range of a maintenance instruction, in physical runs (R154). -/
def Issue.maintRuns (I : Issue) (o : MemOp) : List (Nat × Nat) := I.runsOf (I.maintRange o).1 (I.maintRange o).2

/-- A maintenance instruction: it waits while a page of its range is being invalidated (R133), and then acts on the runs once
every earlier access of the issuing lanes has been performed, and for CCLEAN and CFLUSH at L1 (`clean`) every earlier write
of the group to the range (R154, R173). -/
def Issue.maintain (I : Issue) (o : MemOp) (clean : Bool) (body : List (Nat × Nat) → Memory → Memory) : Eff :=
  if (pieces64 (I.maintRange o).1 (I.maintRange o).2).any fun r =>
      match I.s.pageLife I.c.num r.1 with | some (.invalidating _) => true | _ => false then .park I.s .retry
  else
    let rs := I.maintRuns o
    let s := (I.walked ((pieces64 (I.maintRange o).1 (I.maintRange o).2).map fun r => BitVec.ofNat 64 r.1)).drain fun y =>
      y.gid == I.g.gid && (y.lanes &&& I.active != 0 || (clean && o.w.d == 0 && y.writes && rs.any fun r => y.meets r.1 r.2))
    .done (s.setMem (body rs s.mem))

/-- A line lies in one of the runs, widened to lines (R154). -/
def lineIn (rs : List (Nat × Nat)) (idx : Nat) : Bool :=
  rs.any fun r => decide (r.1 / 128 ≤ idx) && decide (idx ≤ (r.1 + r.2 - 1) / 128)

/-- A sector lies in one of the runs, widened to sectors (R154). -/
def sectorIn (rs : List (Nat × Nat)) (idx : Nat) : Bool :=
  rs.any fun r => decide (r.1 / 32 ≤ idx) && decide (idx ≤ (r.1 + r.2 - 1) / 32)

/-- Dirty lines of a range written back and kept (R154). -/
def Memory.cleanLines (m : Memory) (rs : List (Nat × Nat)) : Memory :=
  { m with lines := m.lines.map fun l => if lineIn rs l.idx then { l with dirty := false } else l }
/-- Lines of a range written back and dropped (R154). -/
def Memory.dropLines (m : Memory) (rs : List (Nat × Nat)) : Memory :=
  { m with lines := m.lines.filter fun l => !lineIn rs l.idx }
/-- Sectors of a range dropped from a core's L1 (R154). -/
def Memory.dropRuns (m : Memory) (core : Nat) (rs : List (Nat × Nat)) : Memory :=
  { m with sectors := m.sectors.filter fun x => !(x.core == core && sectorIn rs x.idx) }

/-- LD.B (R142). -/
def execLdB (o : MemOp) (s : State) : Host.Outcome State Fault Refusal :=
  memInstr (.ldB o) (fun I => I.load o 1 false (I.reqs o 1)) s

/-- LD.BS (R142). -/
def execLdBs (o : MemOp) (s : State) : Host.Outcome State Fault Refusal :=
  memInstr (.ldBs o) (fun I => I.load o 1 true (I.reqs o 1)) s

/-- LD.H (R142). -/
def execLdH (o : MemOp) (s : State) : Host.Outcome State Fault Refusal :=
  memInstr (.ldH o) (fun I => I.load o 2 false (I.reqs o 2)) s

/-- LD.HS (R142). -/
def execLdHs (o : MemOp) (s : State) : Host.Outcome State Fault Refusal :=
  memInstr (.ldHs o) (fun I => I.load o 2 true (I.reqs o 2)) s

/-- LD.W (R142). -/
def execLdW (o : MemOp) (s : State) : Host.Outcome State Fault Refusal :=
  memInstr (.ldW o) (fun I => I.load o 4 false (I.reqs o 4)) s

/-- LD.D (R142). -/
def execLdD (o : MemOp) (s : State) : Host.Outcome State Fault Refusal :=
  memInstr (.ldD o) (fun I => I.load o 8 false (I.reqs o 8)) s

/-- LD.Q (R142). -/
def execLdQ (o : MemOp) (s : State) : Host.Outcome State Fault Refusal :=
  memInstr (.ldQ o) (fun I => I.load o 16 false (I.reqs o 16)) s

/-- ST.B (R143). -/
def execStB (o : MemOp) (s : State) : Host.Outcome State Fault Refusal :=
  memInstr (.stB o) (withRelease o fun I => I.store o 1) s

/-- ST.H (R143). -/
def execStH (o : MemOp) (s : State) : Host.Outcome State Fault Refusal :=
  memInstr (.stH o) (withRelease o fun I => I.store o 2) s

/-- ST.W (R143). -/
def execStW (o : MemOp) (s : State) : Host.Outcome State Fault Refusal :=
  memInstr (.stW o) (withRelease o fun I => I.store o 4) s

/-- ST.D (R143). -/
def execStD (o : MemOp) (s : State) : Host.Outcome State Fault Refusal :=
  memInstr (.stD o) (withRelease o fun I => I.store o 8) s

/-- ST.Q (R143). -/
def execStQ (o : MemOp) (s : State) : Host.Outcome State Fault Refusal :=
  memInstr (.stQ o) (withRelease o fun I => I.store o 16) s

/-- ATOM.ADD (R144). -/
def execAtomAdd (o : MemOp) (s : State) : Host.Outcome State Fault Refusal :=
  memInstr (.atomAdd o) (withRelease o fun I => I.atom o .add false) s

/-- ATOM.MIN (R144). -/
def execAtomMin (o : MemOp) (s : State) : Host.Outcome State Fault Refusal :=
  memInstr (.atomMin o) (withRelease o fun I => I.atom o .min false) s

/-- ATOM.MAX (R144). -/
def execAtomMax (o : MemOp) (s : State) : Host.Outcome State Fault Refusal :=
  memInstr (.atomMax o) (withRelease o fun I => I.atom o .max false) s

/-- ATOM.UMIN (R144). -/
def execAtomUmin (o : MemOp) (s : State) : Host.Outcome State Fault Refusal :=
  memInstr (.atomUmin o) (withRelease o fun I => I.atom o .umin false) s

/-- ATOM.UMAX (R144). -/
def execAtomUmax (o : MemOp) (s : State) : Host.Outcome State Fault Refusal :=
  memInstr (.atomUmax o) (withRelease o fun I => I.atom o .umax false) s

/-- ATOM.AND (R144). -/
def execAtomAnd (o : MemOp) (s : State) : Host.Outcome State Fault Refusal :=
  memInstr (.atomAnd o) (withRelease o fun I => I.atom o .and false) s

/-- ATOM.OR (R144). -/
def execAtomOr (o : MemOp) (s : State) : Host.Outcome State Fault Refusal :=
  memInstr (.atomOr o) (withRelease o fun I => I.atom o .or false) s

/-- ATOM.XOR (R144). -/
def execAtomXor (o : MemOp) (s : State) : Host.Outcome State Fault Refusal :=
  memInstr (.atomXor o) (withRelease o fun I => I.atom o .xor false) s

/-- ATOM.XCHG (R144). -/
def execAtomXchg (o : MemOp) (s : State) : Host.Outcome State Fault Refusal :=
  memInstr (.atomXchg o) (withRelease o fun I => I.atom o .xchg false) s

/-- ATOM.CAS (R144). -/
def execAtomCas (o : MemOp) (s : State) : Host.Outcome State Fault Refusal :=
  memInstr (.atomCas o) (withRelease o fun I => I.atom o .cas false) s

/-- ATOM.INCB (R144). -/
def execAtomIncb (o : MemOp) (s : State) : Host.Outcome State Fault Refusal :=
  memInstr (.atomIncb o) (withRelease o fun I => I.atom o .incb false) s

/-- ATOM.FADD (R144). -/
def execAtomFadd (o : MemOp) (s : State) : Host.Outcome State Fault Refusal :=
  memInstr (.atomFadd o) (withRelease o fun I => I.atom o .fadd false) s

/-- ATOM.BADD2 (R144). -/
def execAtomBadd2 (o : MemOp) (s : State) : Host.Outcome State Fault Refusal :=
  memInstr (.atomBadd2 o) (withRelease o fun I => I.atom o .badd2 false) s

/-- ATOM.FMAXA (R144). -/
def execAtomFmaxa (o : MemOp) (s : State) : Host.Outcome State Fault Refusal :=
  memInstr (.atomFmaxa o) (withRelease o fun I => I.atom o .fmaxa false) s

/-- RED.ADD (R149). -/
def execRedAdd (o : MemOp) (s : State) : Host.Outcome State Fault Refusal :=
  memInstr (.redAdd o) (withRelease o fun I => I.atom o .add true) s

/-- RED.FADD (R149). -/
def execRedFadd (o : MemOp) (s : State) : Host.Outcome State Fault Refusal :=
  memInstr (.redFadd o) (withRelease o fun I => I.atom o .fadd true) s

/-- RED.FMAXA (R149). -/
def execRedFmaxa (o : MemOp) (s : State) : Host.Outcome State Fault Refusal :=
  memInstr (.redFmaxa o) (withRelease o fun I => I.atom o .fmaxa true) s

/-- STC (R150, R151). -/
def execStc (o : MemOp) (s : State) : Host.Outcome State Fault Refusal :=
  memInstr (.stc o) (withRelease o fun I => I.stc o) s

/-- LDE (R152). -/
def execLde (o : MemOp) (s : State) : Host.Outcome State Fault Refusal :=
  memInstr (.lde o) (fun I => I.load o 4 false (rankReqs (I.ea o.w o.imm (I.laneU o.w.m)) (lanesOf (I.maskOn o.w.m)))) s

/-- PREF (R153). -/
def execPref (o : MemOp) (s : State) : Host.Outcome State Fault Refusal :=
  memInstr (.pref o) (fun I => I.pref o) s

/-- CCLEAN (R154, R173). -/
def execCclean (o : MemOp) (s : State) : Host.Outcome State Fault Refusal :=
  memInstr (.cclean o) (fun I => I.maintain o true fun rs m => if o.w.d = 0 then m else m.cleanLines rs) s

/-- CINV (R154, R173). -/
def execCinv (o : MemOp) (s : State) : Host.Outcome State Fault Refusal :=
  memInstr (.cinv o) (fun I => I.maintain o false fun rs m => if o.w.d = 0 then m.dropRuns I.core rs else m.dropLines rs) s

/-- CFLUSH (R154, R173). -/
def execCflush (o : MemOp) (s : State) : Host.Outcome State Fault Refusal :=
  memInstr (.cflush o) (fun I => I.maintain o true fun rs m => if o.w.d = 0 then m.dropRuns I.core rs else m.dropLines rs) s

/-- A FENCE on its way. -/
def Issue.fenceFlight (I : Issue) (order scope : Nat) : Flight :=
  { core := I.core, gid := I.g.gid, team := I.t.tid, lanes := I.active, at' := I.s.free, order := order, scope := scope
    deed := .fence }

/-- A FENCE among the accesses on their way (R163, R164): one that releases and acquires at cluster scope or wider orders the
lane's earlier accesses before its later ones; a narrower one is a release FENCE and an acquire FENCE, neither of which
orders a write before a later read. -/
def Issue.fence (I : Issue) (order scope : Nat) : State :=
  if I.s.flights.isNone then I.acquire order scope I.s
  else if order = 0 then I.s
  else if order = 3 ∧ scope < 3 then I.s.send [I.fenceFlight 2 scope, I.fenceFlight 1 scope]
  else I.s.send [I.fenceFlight order scope]

/-- FENCE (R155, R164). -/
def execFence (o : MemOp) (s : State) : Host.Outcome State Fault Refusal :=
  memInstr (.fence o) (withRelease o fun I => .done (I.fence o.order.toNat o.scope.toNat)) s

/-! ### Cell instructions (R218 to R222) -/

/-- The record that DEFER writes: word j from lane j of b (R219). -/
def Issue.deferRecord (I : Issue) (o : MemOp) : List Byte :=
  (List.range 16).flatMap fun j => leBytes 4 (I.g.xbar o.w.xb o.w.b.toNat j).toNat

/-- A follower's 64 bytes (R206). -/
def followerBytes (h : Nat) : List Byte := record 64 [(0, leBytes 4 h), (63, [2])]

/-- A unit written whole with a tag; its poison, if any, is cleared (R138). -/
def Memory.putCell (m : Memory) (u : Nat) (bs : List Byte) (t : Tag) : Memory := ((m.putUnit u bs).setTag u t).heal u

/-- The extent's cells written, followers first (R219). -/
def Memory.putExtent (m : Memory) (rcd : List Byte) (us : List Nat) : Memory :=
  let m := (List.range us.length).foldl (fun m c =>
    if c = 0 then m else m.putCell (us.getD c 0) (followerBytes c) .def') m
  m.putCell (us.getD 0 0) (rcd.take 22 ++ [0, 0] ++ rcd.drop 24) .def'

/-- The units of some places, each with the key of its page. -/
def unitKeys (l : List (Nat × List Placed)) : List (Nat × List Byte) :=
  l.flatMap fun x => x.2.map fun p => (p.at'.pa / 64, p.at'.key)

/-- The lines of some units made ready for a write under their pages' keys. -/
def Memory.rekeyUnits (m : Memory) (f : Nat) (us : List (Nat × List Byte)) : Memory :=
  us.foldl (fun m u => m.rekey f u.2 (u.1 / 2)) m

/-- What a core's L1 and L2 make of whole units written (R135, R136). -/
def Memory.tookUnits (m : Memory) (core reuse : Nat) (us : List (Nat × List Byte)) : Memory :=
  us.foldl (fun m u => (m.refreshUnit u.2 core u.1).l2Lines true (64 * u.1) 64 reuse true) m

/-- DEFER (R219): the whole extent in one step. DESIGN CHOICE (log 105): R219 lets a touch meet the extent while it is being
written, where it may find the old value, an orphan or a deferred cell; here it finds the old value or the whole extent. -/
def Issue.defer (I : Issue) (o : MemOp) : Eff :=
  let u := I.lane0
  let h := I.ea o.w o.imm u
  let rcd := I.deferRecord o
  let parts := (List.range (field rcd 16 2 + 1)).map fun c => (h + BitVec.ofNat 64 (64 * c), 64)
  I.global { use := .update, align := 64, cells := .write, tagged := true, reads := false } [⟨u, parts⟩] fun s l =>
    let us := unitKeys l
    let s := s.settleUnits (us.map Prod.fst)
    .done (s.setMem (((s.mem.rekeyUnits s.free us).putExtent rcd (us.map Prod.fst)).tookUnits I.core 0 us))

/-- The bytes that RESOLVE's lanes write into one unit, the highest lane last (R220). -/
def resolveBytes (ws : List (Placed × List Byte)) (u : Nat) : List (Nat × Byte) :=
  (ws.filter fun w => w.1.at'.pa / 64 == u).flatMap fun w =>
    (List.range w.2.length).map fun k => (w.1.at'.pa % 64 + k, w.2.getD k 0)

/-- RESOLVE (R220): every cell it writes whole, in one step. -/
def Issue.resolve (I : Issue) (o : MemOp) : Eff :=
  I.global { use := .update, align := 4, cells := .own, tagged := true, reads := false } (I.reqs o 4) fun s l =>
    let ws := storing l fun i => I.storeBytes o 4 i
    let us := (unitKeys l).eraseDups
    let s := s.settleUnits (us.map Prod.fst)
    let m := us.foldl (fun m u => (m.resolveCell u.1 (resolveBytes ws u.1).reverse).heal u.1) (s.mem.rekeyUnits s.free us)
    .done (s.setMem (m.tookUnits I.core o.reuse.toNat us))

/-- The word that CELLQ gives for a cell (R221). -/
def State.cellWord (s : State) (p : Place) : Word :=
  let u := p.pa / 64
  if !p.cell then 8
  else
    let follower := (if s.mem.kind u = 2 then 4 else 0)
    match s.mem.tag u with
    | .val => 0
    | .def' => BitVec.ofNat 32 (1 + follower)
    | .evl => BitVec.ofNat 32 (2 + follower + 65536 * ((((s.mem.headOf u).bind fun h => s.evalOf h u).map Eval.id).getD 0))
    | .err => BitVec.ofNat 32 (3 + 256 * (s.mem.byte (64 * u)).toNat)

/-- CELLQ (R221). -/
def Issue.cellq (I : Issue) (o : MemOp) : Eff :=
  I.global { use := .query, align := 1, cells := .free } (I.reqs o 1) fun s l =>
    let s := I.drainFor o l s
    let m := (l.flatMap Prod.snd).foldl (fun m p => m.l2Use p.at' 1 o.reuse.toNat false) s.mem
    I.later (s.setMem m) .ld (l.flatMap fun x => x.2.map fun p => (regKey o.w.d.toNat x.1, s.cellWord p.at'))

/-- CELLFAIL (R222): the higher lane's cause stays where two lanes name one cell. -/
def Issue.cellfail (I : Issue) (o : MemOp) : Eff :=
  let id := (I.g.lineage.extractLsb' 0 16).toNat
  I.global { use := .update, align := 1, cells := .own, tagged := true, reads := false, whole := true } (I.reqs o 1) fun s l =>
    let s := (I.drainFor o l s).settleUnits (l.flatMap fun x => x.2.map fun p => p.at'.pa / 64)
    .done (s.setMem (l.foldl (fun m x => x.2.foldl (fun m p =>
      let u := p.at'.pa / 64
      let cause := BitVec.ofNat 8 (0x40 + (I.g.xbar o.w.xb o.w.b.toNat x.1).toNat % 64)
      (((m.rekey s.free p.at'.key (u / 2)).failCell cause id u).heal u).tookUnits I.core 0 [(u, p.at'.key)]) m) s.mem))

/-- DEFER (R219). -/
def execDefer (o : MemOp) (s : State) : Host.Outcome State Fault Refusal :=
  memInstr (.defer o) (fun I => (I.releasing true).defer o) s

/-- RESOLVE (R220). -/
def execResolve (o : MemOp) (s : State) : Host.Outcome State Fault Refusal :=
  memInstr (.resolve o) (fun I => (I.releasing true).resolve o) s

/-- CELLQ (R221). -/
def execCellq (o : MemOp) (s : State) : Host.Outcome State Fault Refusal :=
  memInstr (.cellq o) (fun I => I.cellq o) s

/-- CELLFAIL (R222). -/
def execCellfail (o : MemOp) (s : State) : Host.Outcome State Fault Refusal :=
  memInstr (.cellfail o) (fun I => I.cellfail o) s

end Sys2Proof.Machine
end

