-- ==== Sys2Proof/Machine/Fabric.lean ====
section
/-!
DEFINITION. The fabric port: the device's own accesses, answers to remote operations, arrival counters, how an arriving
request is judged and performed, the remote fault log, and the chunk table (R303, R305 to R310, R312, R325 to R327).
-/
namespace Sys2Proof.Machine

/-! ### Physical accesses by the device, and the end of a shootdown -/

/-- The bytes at a device physical address, where all of them can be read (R138, R353, R357, R377). -/
def State.physRead (s : State) (a n : Nat) : Option (List Byte) :=
  if Config.memBytes < a + n ∨ (unitsOf a n).any (s.unitBad ·) then none else some (lookups 0 s.mem.bytes a n)

/-- Every unit of some bytes to write that the device may write: its stack is ready, and it is not poisoned or is written
whole (R138, R357). -/
def State.physMay (s : State) (ps : List Piece) : Bool :=
  ps.all fun p => (unitsOf p.pa p.data.length).all fun u =>
    s.stackReady (64 * u) && (!s.mem.poisoned u || (covered ps u).length == 64)

/-- Bytes written at a device physical address, under a key where the spec names one. What the device may not write stays as
it is, and an error that it meets is logged (R138, R357, R360). -/
def State.physWrite (s : State) (a : Nat) (bs : List Byte) (key : Option (List Byte) := none) : State :=
  let ps : List Piece := [{ pa := a, data := bs, cell := false, host := false, key := key }]
  if s.physMay ps then s.setMem ((s.mem.writePieces s.free ps).l2Lines true a bs.length 0 true)
  else ((unitsOf a bs.length).filter fun u => s.mem.poisoned u).foldl (fun s u => s.memoryError none u) s

/-- What a physical read by the device leaves behind: the L2 lines that it used (R136; log 24), or the errors that it met,
logged (R138, R360). -/
def State.physSaw (s : State) (a n : Nat) : State :=
  let s := if (s.physRead a n).isSome then s.setMem (s.mem.l2Lines true a n 0 false) else s
  ((unitsOf a n).filter fun u => s.mem.poisoned u).foldl (fun s u => s.memoryError none u) s

/-- Where the leaf entry of a page of some size stands, if the levels above it are valid (R127, R128). -/
def leafSlot (m : Memory) (root va size : Nat) : Option Nat :=
  let e3 := pteAt m root (va / 2 ^ 43 % 8192)
  if !pteOk e3 || pteLeaf e3 then none
  else
    let a2 := pteAddr e3 + 8 * (va / 2 ^ 30 % 8192)
    let e2 := pteAt m (pteAddr e3) (va / 2 ^ 30 % 8192)
    if size = 2 ^ 30 then some a2
    else if !pteOk e2 || pteLeaf e2 then none
    else
      let a1 := pteAddr e2 + 8 * (va / 2 ^ 21 % 512)
      let e1 := pteAt m (pteAddr e2) (va / 2 ^ 21 % 512)
      if size = 2 ^ 21 then some a1
      else if !pteOk e1 || pteLeaf e1 then none
      else some (pteAddr e1 + 8 * (va / 2 ^ 16 % 32))

/-- A page leaves its state. -/
def State.dropLife (s : State) (p : PageLife) : State :=
  s.setMem { s.mem with pages := s.mem.pages.filter fun x => !(x.ctx == p.ctx && x.base == p.base) }

/-- Every TLB drops a page (R133). -/
def Memory.dropTlbs (m : Memory) (ctx base size : Nat) : Memory :=
  { m with tlbs := m.tlbs.filter fun t => !(t.ctx == ctx && decide (t.base < base + size) && decide (base < t.base + t.size)) }

/-- A page as its shootdown leaves it: the new entry in force, and in no TLB (R133). -/
def State.shotDown (s : State) (c : Context) (p : PageLife) (entry : Addr) : State :=
  let s := match leafSlot s.mem c.root p.base p.size with
    | some a => s.physWrite a (leBytes 8 entry.toNat)
    | none => s
  let s := s.dropLife p
  s.setMem (s.mem.dropTlbs p.ctx p.base p.size)

/-! ### The device's own accesses to a context's memory -/

/-- The requester index of accesses that no core makes. DESIGN CHOICE (log 112): R131 translates in the TLBs of the requester's
die and names no die for a request that arrives at the port or that the device makes itself; the model uses the shared TLB
of die 0, and no core's. -/
def portCore : Nat := Config.dies * Config.coresPerDie

def State.portXlat (s : State) (c : Context) (u : Use) (va : Addr) : Xlat := s.translate c 0 portCore u va

/-- The page of a context's address in its life cycle. -/
def State.lifeOf (s : State) (ctx va : Nat) : Option PageLife :=
  s.mem.pages.find? fun p => p.ctx == ctx && decide (p.base ≤ va) && decide (va < p.base + p.size)

/-- A read by the device meets a page under invalidation, and waits (R133). -/
def State.devWaits (s : State) (c : Context) (va : Addr) (n : Nat) : Bool :=
  (cutUnits (n + 1) va n).any fun p => s.portXlat c .read p.1 == .wait

/-- The walks of some pieces that the device accesses (R129). -/
def State.portWalks (s : State) (c : Context) (ps : List (Addr × Nat)) : State :=
  ps.foldl (fun s p => s.useTables 0 portCore c p.1) s

/-- The bytes of a piece within one unit that the device reads, if translation, permission and errors allow. -/
def State.devPiece (s : State) (c : Context) (va : Addr) (n : Nat) : Option (List Byte) :=
  match s.portXlat c .read va with
  | .ok p => if !p.host && s.unitBad (p.pa / 64) then none else some (s.mem.readPlace s.free p n)
  | _ => none

/-- Bytes read piece by piece; none where some piece cannot be read. -/
def State.devPieces (s : State) (c : Context) : List (Addr × Nat) → Option (List Byte)
  | [] => some []
  | (va, n) :: r => match s.devPiece c va n, State.devPieces s c r with
    | some b, some bs => some (b ++ bs)
    | _, _ => none

/-- n bytes that the device reads at a virtual address of a context, if it can. -/
def State.devRead? (s : State) (c : Context) (va : Addr) (n : Nat) : Option (List Byte) := s.devPieces c (cutUnits (n + 1) va n)

/-- The same, where what it cannot read is free (log 27). -/
def State.devRead (s : State) (c : Context) (va : Addr) (n : Nat) : List Byte :=
  (s.devRead? c va n).getD ((List.range n).map fun k => (Config.freeWord (s.free + k)).setWidth 8)

/-- What a read by the device leaves behind: the L2 lines it used (R136) and the errors it met, logged (R138, R360). The
spec gives the device's own accesses no reuse value; the model uses 0 (log 24). -/
def State.devSaw (s : State) (c : Context) (va : Addr) (n : Nat) : State :=
  let ps := cutUnits (n + 1) va n
  ps.foldl (fun s p => match s.portXlat c .read p.1 with
    | .ok x =>
      if x.host then s
      else if s.mem.poisoned (x.pa / 64) then s.memoryError (some c.num) (x.pa / 64)
      else s.setMem (s.mem.l2Use x p.2 0 false)
    | .bad cause => if cause == UNCORRECTABLE then s.tableError c p.1 else s
    | .wait => s) (s.portWalks c ps)

/-- A piece that the device may write (R138, R208, R357): its stack is ready, it is no part of a poisoned unit, and no EVL
cell. -/
def State.devMay (s : State) (x : Place) (n : Nat) : Bool :=
  x.host || (s.stackReady x.pa && (!s.mem.poisoned (x.pa / 64) || n == 64) && !(x.cell && s.busy none (x.pa / 64)))

/-- Bytes that the device writes at a virtual address of a context; a piece it cannot write is dropped (log 27), and an
error it met is logged (R360). -/
def State.devWrite (s : State) (c : Context) (va : Addr) (bs : List Byte) : State :=
  let xs := (cutUnits (bs.length + 1) va bs.length).filterMap fun p => match s.portXlat c .write p.1 with
    | .ok x => some (x, (bs.drop (p.1 - va).toNat).take p.2)
    | _ => none
  let ok := xs.filter fun x => s.devMay x.1 x.2.length
  let s := (xs.filter fun x => !x.1.host && s.mem.poisoned (x.1.pa / 64) && !s.devMay x.1 x.2.length).foldl
    (fun s x => s.memoryError (some c.num) (x.1.pa / 64)) s
  let s := s.portWalks c (cutUnits (bs.length + 1) va bs.length)
  let m := s.mem.writePieces s.free (ok.map fun x => x.1.piece x.2)
  s.setMem (ok.foldl (fun m x => m.l2Use x.1 x.2.length 0 true) m)

/-- The context of an act. -/
def DevAct.ctx : DevAct → Nat
  | .write c _ _ => c
  | .add c _ => c
  | .irq c _ => c

/-- An act meets a page that its write waits for: MIGRATING or INVALIDATING (R133). -/
def State.actWaits (s : State) (a : DevAct) : Bool :=
  let waits := fun (ctx : Nat) (va : Addr) (n : Nat) => (s.context ctx).any fun c =>
    (cutUnits (n + 1) va n).any fun p => s.portXlat c .write p.1 == .wait
  match a with
  | .write ctx va bs => waits ctx va bs.length
  | .add ctx va => waits ctx va 8
  | .irq _ _ => false

/-- An act performed. -/
def State.doAct (s : State) (a : DevAct) : State :=
  match a with
  | .write ctx va bs => match s.context ctx with
    | some c => s.devWrite c va bs
    | none => s
  | .add ctx va => match s.context ctx with
    | some c => s.devWrite c va (leBytes 8 (ofLe (s.devRead c va 8) + 1))
    | none => s
  | .irq _ sq => s.setDev { s.dev with msix := s.dev.msix ++ [sq] }

/-- The device's acts that wait for no page, and for no earlier act of their context, are performed (R133). -/
def State.flushActs (s : State) : State :=
  match s.dev.acts with
  | [] => s
  | as => as.foldl (fun s a =>
      if s.dev.acts.any (fun b => b.ctx == a.ctx) || s.actWaits a then s.setDev { s.dev with acts := s.dev.acts ++ [a] }
      else s.doAct a) (s.setDev { s.dev with acts := [] })

/-- Acts of the device, behind those that wait. -/
def State.devDo (s : State) (as : List DevAct) : State := (s.setDev { s.dev with acts := s.dev.acts ++ as }).flushActs

/-! ### Answers at the sender (R312, R313, R316) -/

def RemoteOp.member (o : RemoteOp) (rank : Nat) : Option Member := o.members.find? fun m => m.rank == rank
def RemoteOp.setMember (o : RemoteOp) (m : Member) : RemoteOp := { o with members := replace (fun x => x.rank == m.rank) m o.members }

/-- The deferred fault of a member's refusal (R312). -/
def Member.faultOf (m : Member) (r : Refused) : TrapInfo :=
  { cause := r.cause, addr := r.addr, fwd := if r.cause == CELL_FAILED then r.cell else BitVec.ofNat 8 m.rank }

/-- An operation's results will not come: its registers stay as they are (R312). -/
def Group.withdraw (g : Group) (seq : Nat) : Group :=
  ({ g with ops := g.ops.map fun (o : Op) => if o.seq == seq then { o with due := [], writes := [] } else o }).complete seq none

/-- An operation's results have come back; those of v0 are discarded (R8, R316). -/
def Group.deliver (g : Group) (seq : Nat) (ws : List Word) : Group :=
  let g := { g with ops := g.ops.map fun (o : Op) => if o.seq == seq then { o with due := [], writes := o.due.zip ws } else o }
  if g.ops.any fun o => o.seq == seq && o.writes.isEmpty then g.complete seq none else g

/-- A remote operation leaves FAB, with the fault of its lowest-ranked refusal (R312) or one of its own. -/
def State.completeRemote (s : State) (o : RemoteOp) (own : Option TrapInfo) : State :=
  let fault := own <|> (o.members.find? fun m => m.refused.isSome).bind fun m => m.refused.map m.faultOf
  let s := { s with fabric := s.fabric.filter fun x => x.oid != o.oid }
  (s.dropWaits (.engine o.oid)).onGroup o.gid fun g =>
    let g := match o.ldSeq with
      | some q => if fault.isSome then g.withdraw q else g
      | none => g
    g.complete o.seq fault

/-- An operation is over once all is sent and every member has answered (R313). -/
def State.settleRemote (s : State) (oid : Nat) : State :=
  match s.remoteOp oid with
  | none => s
  | some o => if o.unsent.isEmpty && o.members.all fun m => m.owed == 0 then s.completeRemote o none else s

/-- An answer to n requests of an operation by its member of a rank. -/
def State.take (s : State) (oid rank n : Nat) (what : Reply) : State :=
  match (s.remoteOp oid).bind fun o => (o.member rank).map fun m => (o, m) with
  | none => s
  | some (o, m) =>
    if o.withdrawn then s
    else match what with
    | .retry => if o.ldSeq.isSome then s.setRemoteOp { o with retryAt := some (s.cycle + 4096) } else s
    | .ack => if o.ldSeq.isSome then s else (s.setRemoteOp (o.setMember { m with owed := m.owed - n })).settleRemote oid
    | .refused r =>
        (s.setRemoteOp (o.setMember { m with owed := m.owed - n, refused := m.refused <|> some r })).settleRemote oid
    | .values ws => match o.ldSeq with
      | none => s
      | some q => ((s.setRemoteOp (o.setMember { m with owed := 0 })).onGroup o.gid fun g => g.deliver q ws).settleRemote oid

/-- The port answers a request: to the operation of this device, or back to the sender (R303, R308). -/
def State.answer (s : State) (r : Req) (what : Reply) : State :=
  if r.src == s.dev.index then s.take r.tag r.rank 1 what
  else { s with replies := s.replies ++ [⟨r.src, r.tag, r.rank, what⟩] }

/-! ### Arrival counters (R305, R306) -/

/-- The oldest RWAITs of a counter that it satisfies end, one after another (R306). -/
def State.serveWaits (ctx ctr : Nat) : Nat → State → State
  | 0, s => s
  | f + 1, s =>
    match s.context ctx with
    | none => s
    | some c =>
      match c.rwaits.find? fun w => w.counter == ctr with
      | none => s
      | some w =>
        let n := lookup 0 c.counters ctr
        if n < w.target then s
        else
          let c := { c with counters := put 0 c.counters ctr (n - w.target), rwaits := c.rwaits.erase w }
          State.serveWaits ctx ctr f ((s.setContext c).onGroup w.gid fun g => { g with woken := true })

/-- A counter rises, modulo 2^48 (R305). -/
def State.count (s : State) (ctx ctr n : Nat) : State :=
  match s.context ctx with
  | none => s
  | some c =>
    let v := (lookup 0 c.counters ctr + n) % 2 ^ 48
    State.serveWaits ctx ctr c.rwaits.length (s.setContext { c with counters := put 0 c.counters ctr v })

/-! ### Judging a request (R307, R308) -/

/-- The access-table right that a kind needs (R307). -/
def rightOf : ReqKind → Nat
  | .rld => 0 | .rst => 1 | .rcpy => 1 | .rred => 1 | .ratom => 2 | .rsig => 3

/-- One range grants the right over every byte of some spans; a device's own request in the issuing context needs none
(R303, R307). -/
def State.allowed (s : State) (c : Context) (r : Req) (spans : List (Nat × Nat)) : Bool :=
  (r.src == s.dev.index && r.srcCtx == r.dstCtx) || c.access.any fun x =>
    x.src == r.src && x.srcCtx == r.srcCtx && x.rights.getLsbD (rightOf r.kind) &&
      (r.kind == .rsig || spans.all fun p => decide (x.base ≤ p.1) && decide (p.1 + p.2 ≤ x.base + x.len))

/-- Which of a request's lanes R307 refuses: none where one range covers the whole request, else those that no range covers,
else, where each lane has a range of its own and no range covers all, every lane (log 70). `judged` says that the table
passed the request when it arrived. -/
def State.denied (s : State) (c : Context) (r : Req) (judged : Bool) (spans : List (Nat × Nat)) : List Bool :=
  if judged || s.allowed c r spans then spans.map fun _ => false
  else if spans.all fun p => s.allowed c r [p] then spans.map fun _ => true
  else spans.map fun p => !s.allowed c r [p]

/-- A piece of a request within one unit, translated. -/
structure Bit where
  va : Addr
  n : Nat
  x : Xlat
  deriving DecidableEq, Repr

/-- The pieces of n bytes at an address. -/
def State.reqBits (s : State) (c : Context) (u : Use) (a : Addr) (n : Nat) : List Bit :=
  (cutUnits (n + 1) a n).map fun p => ⟨p.1, p.2, s.portXlat c u p.1⟩

/-- The 64 KiB unit of an address (R310). -/
def logUnit (va : Addr) : Nat := va.toNat / 65536 * 65536

/-- What one piece comes to. -/
inductive BitRes where
  | ok
  | log (cause : Byte)
  | wait (us : List Nat)
  | bad (r : Refused) (poison : Option Nat)
  deriving DecidableEq, Repr

/-- A piece that has no translation to use: a refusal, a page being moved, which logs (the cause is TRANSLATION, log 31), or a
page under invalidation, which a unit in LOGGING does not wait for (R310). -/
def State.faultBit (s : State) (c : Context) (b : Bit) : BitRes :=
  match b.x with
  | .bad cause =>
    if cause == TRANSLATION then .log TRANSLATION
    else .bad ⟨cause, b.va, 0⟩ (if cause == UNCORRECTABLE then (s.walkBad c.root b.va.toNat).filter (s.mem.poisoned ·) else none)
  | _ =>
    if s.pageLife c.num b.va.toNat == some .migrating || c.units.contains (logUnit b.va) then .log TRANSLATION else .wait []

/-- A piece of a write (R308); `all` is what the whole request covers. -/
def State.writeBit (s : State) (c : Context) (all : List Piece) (b : Bit) : BitRes :=
  match b.x with
  | .ok p =>
    let u := p.pa / 64
    if p.host then (if c.units.contains (logUnit b.va) then .log TRANSLATION else .ok)
    else if !s.stackReady p.pa then .bad ⟨UNCORRECTABLE, b.va, 0⟩ none
    else if s.mem.poisoned u && (covered all u).length != 64 then .bad ⟨UNCORRECTABLE, b.va, 0⟩ (some u)
    else if p.cell && !s.mem.poisoned u && s.busy none u then .bad ⟨CELL_BUSY, b.va, 0⟩ none
    else if c.units.contains (logUnit b.va) then .log TRANSLATION else .ok
  | _ => s.faultBit c b

/-- A piece of an RLD or RATOM, with the touch it makes (R208, R308). -/
def State.readBit (s : State) (c : Context) (b : Bit) : BitRes × State :=
  match b.x with
  | .ok p =>
    let u := p.pa / 64
    if c.units.contains (logUnit b.va) then (.log TRANSLATION, s)
    else if p.host then (.ok, s)
    else if s.unitBad u then (.bad ⟨UNCORRECTABLE, b.va, 0⟩ (if s.mem.poisoned u then some u else none), s)
    else if !p.cell then (.ok, s)
    else match s.touch ⟨c.num, 0, 0⟩ u b.va with
      | (.ok, s) => (.ok, s)
      | (.wait, s) => (.wait [u], s)
      | (.bad cause fwd, s) => (.bad ⟨cause, b.va, fwd⟩ none, s)
  | _ => (s.faultBit c b, s)

def State.readBits (s : State) (c : Context) : List Bit → List BitRes × State
  | [] => ([], s)
  | b :: r => match s.readBit c b with
    | (x, s) => match State.readBits s c r with | (xs, s) => (x :: xs, s)

/-- The refusal of the lowest refused piece, in lane order (R308). -/
def firstRefusal (xs : List BitRes) : Option (Refused × Option Nat) :=
  xs.findSome? fun x => match x with | .bad r u => some (r, u) | _ => none

def BitRes.logs : BitRes → Bool
  | .log _ => true
  | _ => false
def BitRes.waits : BitRes → Bool
  | .wait _ => true
  | _ => false
def BitRes.units : BitRes → List Nat
  | .wait us => us
  | _ => []

/-- A request refused; an uncorrectable unit raises its error record (R138, R360). -/
def State.refuse (s : State) (c : Context) (r : Req) (x : Refused × Option Nat) : State :=
  let s := match x.2 with | some u => s.memoryError (some c.num) u | none => s
  s.answer r (.refused x.1)

/-- A request waits at this device (R308), in the wait tables where they have room (R211). -/
def State.parkReq (s : State) (r : Req) (us : List Nat) : State :=
  let (rid, s) := s.fresh
  let s := { s with remotes := s.remotes ++ [⟨rid, r, us⟩] }
  if s.tableFull us then s else s.enterWaits (.remote rid) us

/-! ### The remote fault log (R309, R310) -/

/-- A run of bytes cut at 256 B boundaries (R309). -/
def cut256 : Nat → Addr → List Byte → List ReqPart
  | 0, _, _ => []
  | f + 1, a, bs =>
    if bs.isEmpty then []
    else
      let k := 256 - a.toNat % 256
      ⟨a, bs.take k⟩ :: cut256 f (a + BitVec.ofNat 64 k) (bs.drop k)

/-- Bytes of an entry in the ring (R309). -/
def entrySize (n : Nat) : Nat := 32 + (n + 31) / 32 * 32

/-- The ring has room for n more bytes behind the oldest entry. -/
def Context.logRoom (c : Context) (n : Nat) : Bool :=
  let first := ((c.log.head?).map LogEntry.pos).getD c.logTail
  decide (c.logTail - first + n ≤ c.logSize)

/-- The code of a kind in a log entry (R309). -/
def logCode : ReqKind → Nat
  | .rst => 1 | .rcpy => 2 | _ => 3

/-- Bytes of an entry (R309). -/
def LogEntry.bytes (e : LogEntry) : List Byte :=
  record 32 [(0, leBytes 8 e.va.toNat), (8, leBytes 3 e.data.length), (11, leBytes 1 e.req.src),
    (12, leBytes 1 e.req.ctr.toNat), (13, leBytes 1 (logCode e.req.kind)), (16, leBytes 8 e.seq), (24, leBytes 8 e.req.tag)] ++
  e.data ++ List.replicate (e.size - 32 - e.data.length) 0

/-- Bytes written to the ring, from a position, over its end. -/
def State.writeLog (s : State) (c : Context) (pos : Nat) (bs : List Byte) : State :=
  let p := pos % c.logSize
  let k := c.logSize - p
  s.devDo [.write c.num (c.logBase + BitVec.ofNat 64 p) (bs.take k), .write c.num c.logBase (bs.drop k)]

/-- An event record of the remote fault log, chunks and gatherings (R355 kind 0x13). -/
def portEvent (sub ctx : Nat) (cause : Byte) (src queue : Nat) (a : Addr) (n seq : Nat) : List Byte :=
  record 64 [(0, [0x13]), (1, leBytes 1 sub), (2, leBytes 2 ctx), (4, [cause]), (5, leBytes 1 src), (6, leBytes 2 queue),
    (8, leBytes 8 a.toNat), (16, leBytes 4 n), (20, leBytes 8 seq)]

/-- The unit of a piece enters LOGGING (R310). -/
def State.enterLogging (s : State) (ctx : Nat) (va : Addr) (cause : Byte) (src : Nat) : State :=
  match s.context ctx with
  | none => s
  | some c =>
    let u := logUnit va
    if c.units.contains u then s
    else (s.setContext { c with units := c.units ++ [u] }).raise (portEvent 0 ctx cause src 0 (BitVec.ofNat 64 u) 0 0)

/-- The request of a piece alone, under its own place in its slot. -/
def pieceOf (r : Req) (base : Addr) (p : ReqPart) : Req :=
  { r with
    parts := [p]
    contrib := r.contrib.map fun k => { k with pos := k.pos + (p.addr - base).toNat, data := p.data } }

/-- One piece appended to the log (R309, R310). -/
def State.logPiece (s : State) (ctx rid : Nat) (cause : Byte) (r : Req) (base : Addr) (p : ReqPart) : State :=
  match s.context ctx with
  | none => s
  | some c =>
    let size := entrySize p.data.length
    let e : LogEntry := { seq := c.logSeq, pos := c.logTail, size := size, rid := rid, va := p.addr, data := p.data, req := pieceOf r base p }
    let s := s.writeLog c c.logTail e.bytes
    let c := { c with logSeq := c.logSeq + 1, logTail := c.logTail + size, log := c.log ++ [e] }
    (s.setContext c).enterLogging ctx p.addr cause r.src

/-- A request held at the port, behind what it already holds. -/
def State.holdReq (s : State) (judged : Bool) (r : Req) : State := { s with held := s.held ++ [⟨r, judged⟩] }

/-- A write request logged as a whole, or held where the log is full (R308, R310). -/
def State.logReq (s : State) (c : Context) (r : Req) (parts : List ReqPart) (cause : Byte) : State :=
  let ps := parts.flatMap fun p => (cut256 (p.data.length + 1) p.addr p.data).map fun q => (p.addr, q)
  if c.logRoom (ps.map fun p => entrySize p.2.data.length).sum then
    let (rid, s) := s.fresh
    ps.foldl (fun s p => s.logPiece c.num rid cause r p.1 p.2) s
  else
    let s := if c.logFull then s
      else (s.setContext { c with logFull := true }).raise (portEvent 3 c.num 0 0xFF 0 0 0 0)
    s.holdReq true r

/-! ### Contributions (R325 to R327) -/

/-- The staging address of rank 0's slot of a chunk (R325). -/
def Context.slot0 (c : Context) (offset : Nat) : Addr := c.staging + BitVec.ofNat 64 offset

/-- Where a contribution's bytes stand (R325). -/
def Context.placeOf (c : Context) (k : Contribution) : Addr := c.slot0 (k.offset + k.rank * k.chunk + k.pos)

/-- The parts that a request writes: a contribution's address is the receiver's own. -/
def Context.partsOf (c : Context) (r : Req) : List ReqPart :=
  match r.contrib with
  | some k => [⟨c.placeOf k, k.data⟩]
  | none => r.parts

/-- The result address of a chunk (R318, R329, R333). -/
def Context.resultOf (c : Context) (k : Contribution) : Addr := if k.rred then c.slot0 k.offset else k.result

/-- A chunk entry as a contribution gives it (R326). -/
def Context.chunkOf (c : Context) (k : Contribution) (ctr : Nat) : Chunk :=
  { offset := k.offset, len := k.len, n := k.n, op := k.op, slot := k.slot, counter := ctr, result := c.resultOf k }

/-- What the chunk table says to a contribution (R326). -/
inductive Gate where
  | ok
  | denied
  | hold
  deriving DecidableEq, Repr

def Context.gate (c : Context) (k : Contribution) (ctr : Nat) : Gate :=
  if c.combine == 0 || decide (c.stagingSize < k.offset + k.rank * k.chunk + k.pos + k.data.length) then .denied
  else match c.chunks.find? fun e => e.offset == k.offset with
    | none => if c.chunks.length < 4096 then .ok else .hold
    | some e =>
      if e.st == .combining then .hold
      else if ({ e with done := 0 } : Chunk) == c.chunkOf k ctr then .ok else .denied

def Context.reqGate (c : Context) (r : Req) : Gate :=
  match r.contrib with
  | some k => c.gate k r.ctr.toNat
  | none => .ok

/-- The 64 B combine record (R327). -/
def combineRecord (e : Chunk) (seq : Nat) (slot0 : Addr) : List Word :=
  wordsOf (record 64 [(0, leBytes 8 slot0.toNat), (8, leBytes 8 e.result.toNat), (20, leBytes 4 e.len), (25, leBytes 1 e.n),
    (26, leBytes 1 e.op), (27, leBytes 1 e.counter), (28, leBytes 4 e.slot.toNat), (32, leBytes 8 seq)])

/-- The die that homes a virtual address of a context. -/
def State.homeDie (s : State) (c : Context) (va : Addr) : Nat :=
  match s.translatePinned c 0 portCore .read va with
  | .ok p => if p.host then 0 else Config.dieOf p.pa
  | _ => 0

/-- Bytes of a contribution performed: the entry fills, and at n × L bytes its combine record is pushed (R326, R327). -/
def State.fillChunk (s : State) (ctx : Nat) (k : Contribution) (ctr n : Nat) : State :=
  match s.context ctx with
  | none => s
  | some c =>
    let e := (c.chunks.find? fun e => e.offset == k.offset).getD (c.chunkOf k ctr)
    let e := { e with done := e.done + n }
    let rest := c.chunks.filter fun x => x.offset != k.offset
    if e.done < e.n * e.len then s.setContext { c with chunks := e :: rest }
    else
      let slot0 := c.slot0 k.offset
      let rec' : CombineRec :=
        { seq := c.combineSeq, die := s.homeDie c slot0, offset := k.offset, words := combineRecord e c.combineSeq slot0 }
      s.setContext { c with
        chunks := { e with st := .combining } :: rest, combineSeq := c.combineSeq + 1, combines := c.combines ++ [rec'] }

/-! ### Performing a write (R305, R308) -/

/-- A write request performed at its homes and counted: RESHARD's contributions count only when combined (R334). -/
def State.performWrite (s : State) (c : Context) (r : Req) (bits : List (Bit × List Byte)) : State :=
  let xs := bits.filterMap fun b => match b.1.x with
    | .ok p => some (p, b.2)
    | _ => none
  let m := s.mem.writePieces s.free (xs.map fun x => x.1.piece x.2)
  let s := s.setMem (xs.foldl (fun m x => m.l2Use x.1 x.2.length 3 true) m)
  let n := (xs.map fun x => x.2.length).sum
  match r.contrib with
  | none => s.count c.num r.ctr.toNat n
  | some k =>
    let s := s.fillChunk c.num k r.ctr.toNat n
    if k.rred then s.count c.num r.ctr.toNat n else s

/-- The bytes of each piece of a part. -/
def bitBytes : List Bit → List Byte → List (Bit × List Byte)
  | [], _ => []
  | b :: r, bs => (b, bs.take b.n) :: bitBytes r (bs.drop b.n)

/-- What a request's writes cover (R138). -/
def bitPieces (bits : List (Bit × List Byte)) : List Piece :=
  bits.filterMap fun b => match b.1.x with
    | .ok p => some (p.piece b.2)
    | _ => none

/-- Every piece of some parts, with its bytes. -/
def State.partBits (s : State) (c : Context) (parts : List ReqPart) : List (Bit × List Byte) :=
  parts.flatMap fun p => bitBytes (s.reqBits c .write p.addr p.data.length) p.data

/-- The spans of a request's parts. -/
def spansOf (parts : List ReqPart) (n : ReqPart → Nat) : List (Nat × Nat) := parts.map fun p => (p.addr.toNat, n p)

/-- The refusal of the lowest-numbered refused lane, the table's first within a lane (R307, R308). -/
def firstOfLanes : List (ReqPart × Bool × List BitRes) → Option (Refused × Option Nat)
  | [] => none
  | (p, no, xs) :: r =>
    if no then some (⟨REMOTE_DENIED, p.addr, 0⟩, none)
    else match firstRefusal xs with
      | some x => some x
      | none => firstOfLanes r

/-- What each part of a write meets. -/
def State.partMeets (s : State) (c : Context) (all : List Piece) (p : ReqPart) : List BitRes :=
  (s.reqBits c .write p.addr p.data.length).map (s.writeBit c all)

/-- The first contribution to a chunk takes an entry of the table as it arrives (R326). -/
def State.openChunk (s : State) (ctx : Nat) (r : Req) : State :=
  match s.context ctx, r.contrib with
  | some c, some k =>
    if c.chunks.any fun e => e.offset == k.offset then s
    else s.setContext { c with chunks := c.chunkOf k r.ctr.toNat :: c.chunks }
  | _, _ => s

/-- A write request that the table and the chunk entry let through: logged, waiting, or performed (R308). -/
def State.writeOn (s : State) (c : Context) (r : Req) (parts : List ReqPart) : State :=
  let bits := s.partBits c parts
  let xs := bits.map fun b => s.writeBit c (bitPieces bits) b.1
  let s := s.openChunk c.num r
  match xs.findSome? fun x => match x with | .log cause => some cause | _ => none with
  | some cause => s.logReq ((s.context c.num).getD c) r parts cause
  | none =>
    if xs.any BitRes.waits then s.parkReq r []
    else (s.performWrite c r bits).answer r .ack

/-- A write request (R308). -/
def State.serveWrite (s : State) (judged : Bool) (c : Context) (r : Req) : State :=
  let parts := c.partsOf r
  let all := bitPieces (s.partBits c parts)
  match c.reqGate r with
  | .denied => s.refuse c r (⟨REMOTE_DENIED, (parts.head?.map ReqPart.addr).getD 0, 0⟩, none)
  | gate =>
    let no := s.denied c r judged (spansOf parts fun p => p.data.length)
    match firstOfLanes (parts.zip (no.zip (parts.map (s.partMeets c all ·)))) with
    | some x => s.refuse c r x
    | none => if gate == .hold then s.holdReq true r else s.writeOn c r parts

/-! ### RLD and RATOM (R308, R316, R317) -/

/-- The update of an RATOM's sub-op (R317). -/
def remoteFn (sub : BitVec 3) : AtomOp :=
  match sub.toNat with
  | 0 => .add
  | 1 => .fadd
  | 2 => .fmaxa
  | 3 => .cas
  | _ => .incb

/-- The operands of a lane of an RATOM. -/
def operandOf (r : Req) (k : Nat) : Word × Word :=
  let bs := (r.parts.getD k ⟨0, []⟩).data
  (BitVec.ofNat 32 (field bs 0 4), BitVec.ofNat 32 (field bs 4 4))

/-- The word that an RLD reads from its pieces. -/
def State.readWord (s : State) (bits : List Bit) : Word :=
  BitVec.ofNat 32 (ofLe (bits.flatMap fun b => match b.x with
    | .ok p => s.mem.readPlace s.free p b.n
    | _ => []))

/-- An RLD or RATOM performed: the values, lane by lane. -/
def State.performRead (s : State) (c : Context) (r : Req) (lanes : List (List Bit)) : List Word × State :=
  if r.kind == .rld then
    (lanes.map (s.readWord ·), s.setMem (lanes.flatten.foldl (fun m b => match b.x with
      | .ok p => m.l2Use p b.n 3 false
      | _ => m) s.mem))
  else
    let ls := (List.range lanes.length).map fun k => (k, (lanes.getD k []).filterMap fun b => match b.x with
      | .ok p => some (⟨b.va, b.n, p⟩ : Placed)
      | _ => none)
    match s.atomAll portCore 3 (remoteFn r.sub) (operandOf r) (byAddress ls) with
    | (olds, s) =>
      ((List.range lanes.length).map fun k => ((olds.find? fun x => x.1 == k).map Prod.snd).getD 0,
        s.count c.num r.ctr.toNat (4 * lanes.length))

/-- What each lane of a read meets, with the touches that they make. -/
def State.readLanesMeet (s : State) (c : Context) : List (List Bit) → List (List BitRes) × State
  | [] => ([], s)
  | l :: r => match s.readBits c l with
    | (x, s) => match State.readLanesMeet s c r with | (xs, s) => (x :: xs, s)

/-- An RLD or RATOM (R308): refused, told to retry, waiting, or performed. One that the table forbids reaches no memory
(R307). -/
def State.serveRead (s : State) (judged : Bool) (c : Context) (r : Req) : State :=
  let u := if r.kind == .rld then Use.read else .update
  let lanes := r.parts.map fun p => s.reqBits c u p.addr 4
  let no := s.denied c r judged (spansOf r.parts fun _ => 4)
  match s.readLanesMeet c lanes with
  | (xs, t) =>
    match firstOfLanes (r.parts.zip (no.zip xs)) with
    | some x => (if no.any id then s else t).refuse c r x
    | none =>
      if xs.flatten.any BitRes.logs then t.answer r .retry
      else if xs.flatten.any BitRes.waits then t.parkReq r (xs.flatten.flatMap BitRes.units)
      else match t.performRead c r lanes with
        | (ws, s) => s.answer r (.values ws)

/-! ### Arrival -/

/-- The walks of a request's pieces (R129). -/
def State.reqWalks (s : State) (c : Context) (r : Req) : State :=
  s.portWalks c (r.parts.flatMap fun p => let n := if r.kind == .rld || r.kind == .ratom then 4 else p.data.length; cutUnits (n + 1) p.addr n)

/-- A request served (R307, R308, R319); `judged`: the access table has passed it already. -/
def State.serve (s : State) (judged : Bool) (r : Req) : State :=
  match s.context r.dstCtx with
  | none => s.answer r (.refused ⟨REMOTE_DENIED, (r.parts.head?.map ReqPart.addr).getD 0, 0⟩)
  | some c =>
    match r.kind with
    | .rsig =>
      if judged || s.allowed c r [] then (s.count c.num r.ctr.toNat r.inc.toNat).answer r .ack
      else s.refuse c r (⟨REMOTE_DENIED, 0, 0⟩, none)
    | .rld => (s.reqWalks c r).serveRead judged c r
    | .ratom => (s.reqWalks c r).serveRead judged c r
    | _ => (s.reqWalks c r).serveWrite judged c r

/-- A request that must wait behind what the port holds: of the same link, or of a context whose log is full
(R310). -/
def State.blocked (s : State) (r : Req) : Bool :=
  s.held.any (fun q => q.req.src == r.src && (r.src != s.dev.index || q.req.dstCtx == r.dstCtx)) ||
    (s.context r.dstCtx).any Context.logFull

/-- A request at the port, which the access table has passed or not: taken, or held. -/
def State.takeReq (s : State) (h : Held) : State := if s.blocked h.req then s.holdReq h.judged h.req else s.serve h.judged h.req

/-- A request arrives at the port. -/
def State.arriveReq (s : State) (r : Req) : State := s.takeReq ⟨r, false⟩

/-- What the port held is taken again, in order, after room has come. -/
def State.drainPort (s : State) : State := s.held.foldl State.takeReq { s with held := [] }

/-! ### Replay and discard (R310) -/

/-- Entries left of an arrival. -/
def Context.logsOf (c : Context) (rid : Nat) : Bool := c.log.any fun e => e.rid == rid

/-- Two requests are of one operation at this device. -/
def sameOp (x y : Req) : Bool := x.src == y.src && x.tag == y.tag && x.rank == y.rank

/-- The operation of a request still has an entry in the log. -/
def Context.opLogged (c : Context) (r : Req) : Bool := c.log.any fun e => sameOp e.req r

/-- The acknowledgements that the log owes to an operation leave once none of its entries is left (R310). -/
def State.payAcks (s : State) (ctx : Nat) (r : Req) : State :=
  match s.context ctx with
  | none => s
  | some c =>
    if c.opLogged r then s
    else (c.logAcks.filter (sameOp r)).foldl (fun s q => s.answer q .ack)
      (s.setContext { c with logAcks := c.logAcks.filter fun q => !sameOp r q })

/-- An entry leaves the log; an arrival with none left is refused, or owed an acknowledgement (R310, R312). -/
def State.dropEntry (s : State) (ctx : Nat) (e : LogEntry) (refused : Option Refused) : State :=
  match s.context ctx with
  | none => s
  | some c =>
    let c := { c with log := c.log.filter fun x => x.seq != e.seq }
    if e.rid == 0 || c.logsOf e.rid then (s.setContext c).payAcks ctx e.req
    else match refused with
      | some x => ((s.setContext c).answer e.req (.refused x)).payAcks ctx e.req
      | none => (s.setContext { c with logAcks := c.logAcks ++ [e.req] }).payAcks ctx e.req

/-- An entry performed again, or the cause at which its replay stops, with the unit whose error it met (R310). -/
def State.replayEntry (s : State) (c : Context) (e : LogEntry) : Sum State (Byte × Option Nat) :=
  let c' := { c with units := [] }
  let bits := s.partBits c' e.req.parts
  let xs := bits.map fun b => s.writeBit c' (bitPieces bits) b.1
  match xs.findSome? fun x => match x with
    | .log cause => some (cause, none)
    | .bad r u => some (r.cause, u)
    | .wait _ => some (TRANSLATION, none)
    | .ok => none with
  | some cause => .inr cause
  | none => match c.reqGate e.req with
    | .denied => .inl (s.dropEntry c.num e (some ⟨REMOTE_DENIED, e.va, 0⟩))
    | .hold => .inr (0, none)
    | .ok => .inl ((s.performWrite c e.req bits).dropEntry c.num e none)

/-- The log has room again where its oldest entry is another than in `old`, or it is empty: what the port held is taken. -/
def State.logFreed (s : State) (old : Context) : State :=
  match s.context old.num with
  | none => s
  | some c =>
    if c.log.head?.map LogEntry.pos == old.log.head?.map LogEntry.pos && !c.log.isEmpty then s
    else if c.logFull then (s.setContext { c with logFull := false }).drainPort else s

/-- A unit leaves REPLAYING, for LOGGING or for CLEAR (R310). -/
def State.endReplay (s : State) (ctx unit : Nat) (clear : Bool) : State :=
  match s.context ctx with
  | none => s
  | some c => s.setContext { c with
      replaying := c.replaying.filter (· != unit), units := if clear then c.units.filter (· != unit) else c.units }

/-- The next entry of a REPLAYING unit performed, in log order; the unit is CLEAR when none is left, and LOGGING again where
an entry faults (R310). -/
def State.replayStep (s : State) (c : Context) (unit : Nat) : State :=
  match c.log.find? fun e => logUnit e.va == unit with
  | none => (s.endReplay c.num unit true).raise (portEvent 2 c.num 0 0xFF 0 (BitVec.ofNat 64 unit) 0 0)
  | some e => match s.replayEntry c e with
    | .inl s => s.logFreed c
    | .inr (cause, bad) =>
      let s := match bad with | some u => s.memoryError (some c.num) u | none => s
      (s.endReplay c.num unit false).raise (portEvent 1 c.num cause e.req.src 0 (BitVec.ofNat 64 unit) 0 e.seq)

/-- After every step, each context's first REPLAYING unit has performed one entry more (R310). -/
def State.replays (s : State) : State :=
  (s.contexts.map Context.num).foldl (fun s n => match s.context n with
    | some c => match c.replaying with
      | u :: _ => s.replayStep c u
      | [] => s
    | none => s) s

/-- The operation of an entry refused with TRANSLATION; its entries elsewhere are performed without an answer. -/
def State.refuseEntry (s : State) (ctx : Nat) (e : LogEntry) : State :=
  match s.context ctx with
  | none => s
  | some c =>
    if (c.log.find? fun x => x.seq == e.seq).map LogEntry.rid == some 0 then s
    else
      let s := s.setContext { c with log := c.log.map fun x => if x.rid == e.rid then { x with rid := 0 } else x }
      s.answer e.req (.refused ⟨TRANSLATION, e.va, 0⟩)

/-- A unit's entries discarded: each owning operation is refused with TRANSLATION (R310). -/
def State.discardUnit (s : State) (ctx unit : Nat) : State :=
  match s.context ctx with
  | none => s
  | some c =>
    let gone := c.log.filter fun e => logUnit e.va == unit
    let s := gone.foldl (fun s e => s.refuseEntry ctx e) s
    match s.context ctx with
    | none => s
    | some c =>
      gone.foldl (fun s e => s.payAcks ctx e.req) (s.setContext { c with
        log := c.log.filter fun e => logUnit e.va != unit, units := c.units.filter (· != unit) })

end Sys2Proof.Machine
end

