-- ==== Sys2Proof/Machine/Xfer.lean ====
section
/-!
DEFINITION. The XFER instructions but for ENQ: copies, gathers, CHAIN, queue ports and DECODE (R336 to R346).
-/
namespace Sys2Proof.Machine

/-- A quire number at or above the team's count (R336). -/
def badQuireOf (o : XferOp) (I : Issue) : Bool := o.q && decide (I.t.quires.length ≤ o.quire.toNat)

/-- An XFER instruction: its decode traps, then the waits of its operands (R336, R337). -/
def xferInstr (i : Instr) (o : XferOp) (body : Issue → Eff) (s : State) : Host.Outcome State Fault Refusal :=
  runInstr i (prologue i (badQuireOf o) never (withWaits i body)) s

/-- The destination and source addresses (R336). -/
def Issue.dstAddr (I : Issue) (o : XferOp) : Addr := I.xpair o.w.xa o.w.a (I.laneU o.w.m)
def Issue.srcAddr (I : Issue) (o : XferOp) : Addr := I.xpair o.w.xb o.w.b (I.laneU o.w.m)
/-- Register d + k as a uniform value (R336). -/
def Issue.dWord (I : Issue) (o : XferOp) (k : Nat) : Word := I.g.read (o.w.d.toNat + k) (I.laneU o.w.m)

/-- The first byte of a range at or beyond its buffer's footprint; none for global space (R126). -/
def Issue.spaceBeyond (I : Issue) (space : Nat) (a : Addr) (n : Nat) : Option Addr :=
  if space = 0 ∨ n = 0 then none else rangeBeyond (I.t.footprint space) a.toNat n

/-- BUFFER_BOUNDS of a command's runs: destinations, then sources (R126, R337). -/
def Issue.runsBeyond (I : Issue) (dst src : Nat) (rs : List Run) : Option Addr :=
  (rs.findSome? fun r => I.spaceBeyond dst r.dst r.len) <|> (rs.findSome? fun r => I.spaceBeyond src r.src r.len)

/-- A command as its instruction issues it. -/
def Issue.command (I : Issue) (kind : EngineKind) (o : XferOp) (cid : Nat) (rs : List Run) : Engine :=
  { cid := cid, kind := kind, ctx := I.c.num, gid := I.g.gid, seq := I.g.nextSeq, team := I.t.tid, place := I.t.place
    cls := I.g.sched.toNat, lineage := I.g.lineage, srcSpace := o.src.toNat, dstSpace := o.dst.toNat
    quire := if o.q then some o.quire.toNat else none, runs := rs
    rest := rs.filter fun r => r.len ≠ 0, teams := [I.t.tid], pc := I.cl.pc }

/-- A command started: one more in the CPY counter (R337). Its issue is a release by the issuing lanes (R162, R167). -/
def Issue.start (I : Issue) (s : State) (mk : Nat → Engine) : State :=
  let (cid, s) := (I.releaseIn false s).fresh
  (s.addEngine (mk cid)).onGroup I.g.gid fun g => g.addOp { seq := 0, cls := .cpy, ref := cid, acquire := (mk cid).writesGlobal }

/-- A copy of some runs (R337): bounds, then the command; nothing to move has no effect (R338). -/
def Issue.copy (I : Issue) (kind : EngineKind) (o : XferOp) (rs : List Run) (f : Engine → Engine := id) : Eff :=
  let rs := rs.filter fun r => r.len ≠ 0
  match I.runsBeyond o.dst.toNat o.src.toNat rs with
  | some a => I.trap BUFFER_BOUNDS a
  | none => if rs.isEmpty then .done I.s else .done (I.start I.s fun cid => f (I.command kind o cid rs))

/-- CPY (R338). -/
def execCpy (o : XferOp) (s : State) : Host.Outcome State Fault Refusal :=
  xferInstr (.cpy o) o (fun I => I.copy .copy o [⟨I.srcAddr o, I.dstAddr o, (I.dWord o 0).toNat⟩]) s

/-- A multiple of a stride. -/
def strideOf (k : Nat) (w : Word) : Addr := BitVec.ofNat 64 (k * w.toNat)

/-- CPY2D (R338). -/
def execCpy2d (o : XferOp) (s : State) : Host.Outcome State Fault Refusal :=
  xferInstr (.cpy2d o) o (fun I =>
    let rows := (I.dWord o 1).toNat
    if 65535 < rows then I.trap ILLEGAL_ENCODING
    else I.copy .copy2d o ((List.range rows).map fun r =>
      ⟨I.srcAddr o + strideOf r (I.dWord o 2), I.dstAddr o + strideOf r (I.dWord o 3), (I.dWord o 0).toNat⟩)) s

/-- The index of a lane's row (R339). -/
def Issue.rowIndex (I : Issue) (o : XferOp) (i : Nat) : Nat := (I.g.read (o.w.d.toNat + 3) i).toNat

/-- GATH2D (R339). -/
def execGath2d (o : XferOp) (s : State) : Host.Outcome State Fault Refusal :=
  xferInstr (.gath2d o) o (fun I => I.copy .gather o ((lanesOf (I.maskOn o.w.m)).map fun i =>
    ⟨I.srcAddr o + strideOf (I.rowIndex o i) (I.dWord o 1), I.dstAddr o + strideOf i (I.dWord o 2), (I.dWord o 0).toNat⟩)) s

/-- SCAT2D (R339). -/
def execScat2d (o : XferOp) (s : State) : Host.Outcome State Fault Refusal :=
  xferInstr (.scat2d o) o (fun I => I.copy .scatter o ((lanesOf (I.maskOn o.w.m)).map fun i =>
    ⟨I.srcAddr o + strideOf i (I.dWord o 1), I.dstAddr o + strideOf (I.rowIndex o i) (I.dWord o 2), (I.dWord o 0).toNat⟩)) s

/-- The teams that a CPYW writes (R338, R340). -/
def Issue.receivers (I : Issue) (o : XferOp) : List Nat :=
  if o.c then (I.s.teams.filter fun t => t.cluster == I.t.cluster).map Team.tid else [I.t.tid]

/-- CPYW (R338). -/
def execCpyw (o : XferOp) (s : State) : Host.Outcome State Fault Refusal :=
  xferInstr (.cpyw o) o (fun I =>
    I.copy .copyw o [⟨I.srcAddr o, I.dstAddr o, (I.dWord o 0).toNat⟩] fun e => { e with teams := I.receivers o }) s

/-! ### CHAIN -/

/-- A CHAIN list (R341). -/
structure ChainList where
  count : Nat
  inFmt : Nat
  outFmt : Nat
  ops : List (Nat × Word)
  deriving DecidableEq, Repr

/-- An operation entry within its count, or one beyond it, which is zero (R341). -/
def chainEntryOk (n : Nat) (bs : List Byte) (k : Nat) : Bool :=
  if k < n then
    let op := field bs (8 + 8 * k) 1
    decide (1 ≤ op ∧ op ≤ 8) && field bs (9 + 8 * k) 3 == 0 && (decide (op ≤ 4) || field bs (12 + 8 * k) 4 == 0)
  else field bs (8 + 8 * k) 8 == 0

/-- The list that 72 bytes hold, if they are in order (R341). -/
def chainList (bs : List Byte) : Option ChainList :=
  let n := field bs 4 1
  if 1 ≤ n ∧ n ≤ 8 ∧ field bs 5 1 ≤ 2 ∧ field bs 6 1 ≤ 2 ∧ field bs 7 1 = 0 ∧ (List.range 8).all (chainEntryOk n bs) then
    some ⟨field bs 0 4, field bs 5 1, field bs 6 1,
      (List.range n).map fun k => (field bs (8 + 8 * k) 1, BitVec.ofNat 32 (field bs (12 + 8 * k) 4))⟩
  else none

/-- Bytes of an element (R45). -/
def elemBytes (c : Nat) : Nat := elemBits c / 8

/-- The command of a CHAIN list, at a source and destination (R341). -/
def Issue.chainCopy (I : Issue) (o : XferOp) (s : State) (l : ChainList) : Eff :=
  let I := { I with s := s }
  if (I.dstAddr o).toNat % elemBytes l.outFmt != 0 then I.trap MISALIGNED (I.dstAddr o)
  else if (I.srcAddr o).toNat % elemBytes l.inFmt != 0 then I.trap MISALIGNED (I.srcAddr o)
  else I.copy .chain o [⟨I.srcAddr o, I.dstAddr o, l.count * elemBytes l.outFmt⟩] fun e =>
    { e with
      inBytes := elemBytes l.inFmt, outBytes := elemBytes l.outFmt, inFmt := l.inFmt, outFmt := l.outFmt, chain := l.ops }

/-- How CHAIN reads its list: a load of 72 B on an 8 B boundary (R141, R341). -/
def chainAccess : Access := { use := .read, align := 8, cells := .touch }

/-- CHAIN (R341). -/
def execChain (o : XferOp) (s : State) : Host.Outcome State Fault Refusal :=
  xferInstr (.chain o) o (fun I =>
    let u := I.laneU o.w.m
    let at' := pair (I.dWord o 0) (I.dWord o 1)
    I.global chainAccess [⟨u, (List.range 9).map fun k => (at' + BitVec.ofNat 64 (8 * k), 8)⟩] fun s l =>
      match s.readLanes I.core 3 l with
      | (bs, s) => match chainList ((bs.head?.map Prod.snd).getD []) with
        | some l => I.chainCopy o s l
        | none => .trap s (trap0 ILLEGAL_ENCODING)) s

/-! ### Queue ports (R343, R345) -/

/-- QBIND's checks, in order (R337, R343). -/
def Issue.bindTrap (I : Issue) (o : XferOp) (space : Nat) : Option TrapInfo :=
  let len := (I.xbar o.w.xb o.w.b (I.laneU o.w.m)).toNat
  if (I.g.port o.w.d.toNat).isSome || len % 4 != 0 then some (trap0 ILLEGAL_ENCODING)
  else if I.g.aliased o.w.d.toNat then some (trap0 ALIAS_CONFLICT)
  else if (I.dstAddr o).toNat % 4 != 0 then some { cause := MISALIGNED, addr := I.dstAddr o }
  else (I.spaceBeyond space (I.dstAddr o) len).map fun a => { cause := BUFFER_BOUNDS, addr := a }

/-- A port bound to a stream (R343). -/
def Issue.bind (I : Issue) (o : XferOp) (dir : PortDir) (f : Engine → Engine) : Eff :=
  let a := I.dstAddr o
  let len := (I.xbar o.w.xb o.w.b (I.laneU o.w.m)).toNat
  let (kind, run) := if dir = .read then (EngineKind.readPort, (⟨a, 0, len⟩ : Run)) else (.writePort, ⟨0, a, len⟩)
  let s := I.start I.s fun cid => f (I.command kind o cid [run])
  .done (s.onGroup I.g.gid fun g => { g with ports := { reg := o.w.d.toNat, dir := dir, cmd := I.s.nextId } :: g.ports })

/-- QBIND of a read stream or channel (R343): what a channel has left to read has no end until its writer closes it. -/
def execQbindR (o : XferOp) (s : State) : Host.Outcome State Fault Refusal :=
  xferInstr (.qbindR o) o (fun I => match I.bindTrap o o.src.toNat with
    | some i => .trap I.s i
    | none => I.bind o .read fun e =>
      let channel := o.src == 0 && e.length == 0
      { e with dstSpace := 3, channel := channel, rest := if channel then [⟨I.dstAddr o, 0, 2 ^ 64⟩] else e.rest }) s

/-- QBIND of a write stream (R343). -/
def execQbindW (o : XferOp) (s : State) : Host.Outcome State Fault Refusal :=
  xferInstr (.qbindW o) o (fun I => match I.bindTrap o o.dst.toNat with
    | some i => .trap I.s i
    | none => I.bind o .write fun e => { e with srcSpace := 3 }) s

/-- QEND (R345): a write still outstanding to the port lands in the stream first. -/
def execQend (o : XferOp) (s : State) : Host.Outcome State Fault Refusal :=
  xferInstr (.qend o) o (fun I => match I.g.port o.w.d.toNat with
    | none => .done I.s
    | some p =>
      if p.dir == .write && I.g.pendingWrite p.reg (0 - 1) then .stall I.s
      else .done (I.s.endPort I.g.gid p)) s

/-! ### DECODE (R346) -/

/-- DECODE's operand limits (R346). -/
def decodeBad (d0 d1 d3 : Word) : Bool :=
  d0 == 0 || d1.extractLsb' 16 16 == 0 || d1.extractLsb' 4 12 != 0 ||
    (if d1.getLsbD 3 then d3.extractLsb' 0 16 == 0 || d3.extractLsb' 16 16 == 0 else d3 != 0)

/-- DECODE (R346). Its range is its capacity, and the header that it writes in any case (R337, R348). -/
def execDecode (o : XferOp) (s : State) : Host.Outcome State Fault Refusal :=
  xferInstr (.decode o) o (fun I =>
    let d := fun k => I.dWord o k
    let dst := I.dstAddr o
    if decodeBad (d 0) (d 1) (d 3) then I.trap ILLEGAL_ENCODING
    else if dst.toNat % 16 != 0 then I.trap MISALIGNED dst
    else match I.spaceBeyond o.dst.toNat dst (max 64 (d 2).toNat) with
      | some a => I.trap BUFFER_BOUNDS a
      | none => .done (I.start I.s fun cid =>
          { I.command .decode o cid [⟨I.srcAddr o, 0, (d 0).toNat⟩] with
            dstSpace := 3, params := [d 0, d 1, d 2, d 3, lo32 dst, hi32 dst, BitVec.ofNat 32 o.dst.toNat] })) s

end Sys2Proof.Machine
end

