-- ==== Sys2Proof/Machine/Pattern.lean ====
section
/-!
DEFINITION. Patterns and the remote instructions but RESHARD (R301 to R304, R311 to R321), how their streams are sent,
and what arrives from other devices.
-/
namespace Sys2Proof.Machine

/-! ### Patterns (R301 to R303) -/

abbrev Pattern := Word × Word × Word

/-- The field of an axis (R301). -/
def axisField (p : Pattern) (a : Nat) : BitVec 16 :=
  match a with
  | 0 => p.1.extractLsb' 0 16
  | 1 => p.1.extractLsb' 16 16
  | 2 => p.2.1.extractLsb' 0 16
  | 3 => p.2.1.extractLsb' 16 16
  | _ => p.2.2.extractLsb' 0 16

def axisKind (f : BitVec 16) : Nat := (f.extractLsb' 14 2).toNat
def axisHi (f : BitVec 16) : Nat := (f.extractLsb' 7 7).toNat
def axisLo (f : BitVec 16) : Nat := (f.extractLsb' 0 7).toNat

/-- An axis of size n meets its requirement (R301, R302). -/
def axisOk (f : BitVec 16) (n : Nat) : Bool :=
  match axisKind f with
  | 0 => axisHi f == 0 && decide (axisLo f < n)
  | 2 => decide (axisLo f ≤ axisHi f) && decide (axisHi f < n)
  | _ => axisHi f == 0 && axisLo f == 0

/-- An axis matches x, where this device has `own` (R302). -/
def axisMatch (f : BitVec 16) (own x : Nat) : Bool :=
  match axisKind f with
  | 0 => x == axisLo f
  | 1 => true
  | 2 => decide (axisLo f ≤ x) && decide (x ≤ axisHi f)
  | _ => x == own

/-- Size of an axis; 1 at or above the axis count (R299). -/
def GridMap.size (m : GridMap) (a : Nat) : Nat := m.sizes.getD a 1

def patternOrder (p : Pattern) : Nat := (p.2.2.extractLsb' 17 2).toNat

/-- A pattern is well formed (R302). -/
def patternOk (m : GridMap) (p : Pattern) : Bool :=
  (List.range 5).all (fun a => axisOk (axisField p a) (m.size a)) && decide (patternOrder p ≤ 1) && p.2.2.extractLsb' 19 13 == 0

/-- Every coordinate of the grid in an order (R303). -/
def GridMap.coords (m : GridMap) (order : Nat) : List (List Nat) :=
  (List.range m.count).map fun k => if order = 1 then (coordOf m.sizes.reverse k).reverse else coordOf m.sizes k

/-- The members of a pattern, in rank order (R303). -/
def GridMap.members (m : GridMap) (own : List Nat) (p : Pattern) (self : Bool) : List (List Nat) :=
  (m.coords (patternOrder p)).filter fun c =>
    ((List.range 5).all fun a => axisMatch (axisField p a) (own.getD a 0) (c.getD a 0)) && (self || c != own)

/-- The pattern in a slot; a slot is zero until PSET writes it (R304). -/
def Issue.patSlot (I : Issue) (o : Sys2Proof.FabOp) : Pattern := I.g.patterns.getD o.pat.toNat (0, 0, 0)

def Issue.patternBad (I : Issue) (o : Sys2Proof.FabOp) : Bool := !patternOk I.c.map (I.patSlot o)

/-- The members of the slot's pattern, or those with this device taken in (R303). -/
def Issue.coords (I : Issue) (o : Sys2Proof.FabOp) (self : Bool) : List (List Nat) :=
  let p := I.patSlot o
  I.c.map.members I.ownCoord p (self || p.2.2.getLsbD 16)

/-- The device and context of a coordinate (R299). -/
def GridMap.at' (m : GridMap) (c : List Nat) : Nat × Nat := m.entries.getD (linearOf m.sizes c) (0, 0)

/-- A member of a rank (R303). -/
def Issue.memberAt (I : Issue) (rank : Nat) (c : List Nat) : Member :=
  let e := I.c.map.at' c
  { rank := rank, dev := e.1, ctx := e.2, coord := BitVec.ofNat 64 (packCoord c) }

/-- Members by rank. -/
def Issue.ranked (I : Issue) (cs : List (List Nat)) : List Member := (List.range cs.length).map fun r => I.memberAt r (cs.getD r [])

/-! ### Checks at issue (R311) -/

/-- The link to a device is neither DARK, TRAINING nor DOWN; this device needs none (R297, R303). -/
def State.reachable (s : State) (dev : Nat) : Bool :=
  dev == s.dev.index || (s.link dev false).any fun l => l.st == .up || l.st == .degraded

/-- The trap of the lowest-ranked member that cannot be reached (R311). -/
def Issue.unreachable (I : Issue) (ms : List Member) : Option TrapInfo :=
  (ms.find? fun m => !I.s.reachable m.dev).map fun m => { cause := REMOTE_UNREACHABLE, addr := m.coord }

/-- The first lane with an address that is no multiple of n, and its lowest one (R141, R311). -/
def misaligned (n : Nat) (xs : List (Nat × List Addr)) : Option TrapInfo :=
  xs.findSome? fun x => (least (x.2.filter fun a => a.toNat % n != 0)).map (laneTrap x.1 MISALIGNED)

/-- What comes after an instruction's decode traps: ILLEGAL_ENCODING for an operand value beyond its limits (R311, R337; log
91). -/
def withLimits (bad : Issue → Bool) (body : Issue → Eff) (I : Issue) : Eff :=
  if bad I then I.trap ILLEGAL_ENCODING else body I

/-- A remote instruction as it issues: decode traps, then a malformed pattern or an operand beyond its limits (R311, R313).
Its issue is a release at team scope (R162). -/
def fabBody (i : Instr) (o : Sys2Proof.FabOp) (bad : Issue → Bool) (body : Issue → Eff) : Issue → Eff :=
  prologue i never never (withWaits i (withLimits (fun I => I.patternBad o || bad I) fun I => body (I.releasing false)))

/-- A remote instruction (R311, R313). -/
def fabInstr (i : Instr) (o : Sys2Proof.FabOp) (bad : Issue → Bool) (body : Issue → Eff) (s : State) :
    Host.Outcome State Fault Refusal :=
  runInstr i (fabBody i o bad body) s

/-! ### Issuing an operation -/

/-- A request delivered to a member: to the port itself, or to the link (R303, R315). -/
def State.deliverTo (s : State) (m : Member) (r : Req) : State :=
  let r := { r with rank := m.rank, dstCtx := m.ctx }
  if m.dev == s.dev.index then s.arriveReq r else { s with sent := s.sent ++ [(m.dev, r)] }

/-- A remote operation issued: one in FAB, and for RLD and RATOM one in LD with its registers outstanding; its request
goes to every member at once, where it has one (R313). -/
def Issue.issueRemote (I : Issue) (s : State) (o : RemoteOp) (due : Option (List Nat)) : State :=
  let (oid, s) := s.fresh
  let one := o.unsent.isEmpty
  let r := { o.req with tag := oid, src := s.dev.index, srcCtx := I.c.num }
  let op := { o with
    oid := oid, req := r
    ldSeq := due.map fun _ => I.g.nextSeq
    seq := if due.isSome then I.g.nextSeq + 1 else I.g.nextSeq
    members := o.members.map fun m => { m with owed := if one then 1 else 0 } }
  let s := s.onGroup I.g.gid fun g =>
    let g := match due with
      | some ks => g.addOp { seq := 0, cls := .ld, due := ks, ref := oid }
      | none => g
    g.addOp { seq := 0, cls := .fab, ref := oid, acquire := due.isSome }
  let s := { s with fabric := s.fabric ++ [op] }
  if one then op.members.foldl (fun s m => s.deliverTo m r) s else s

/-- An operation of this instruction, before it has its id. -/
def Issue.remoteOf (I : Issue) (funct : Nat) (m : Bool) (ms : List Member) (r : Req) : RemoteOp :=
  { oid := 0, ctx := I.c.num, gid := I.g.gid, seq := 0, lanes := I.maskOn m, req := r, members := ms, place := I.t.place
    cls := I.g.sched.toNat, lineage := I.g.lineage, pc := I.cl.pc, funct := funct
    collective := decide (1 < ms.length) && (r.kind == .rst || r.kind == .rcpy) }

/-- A request of this instruction. -/
def Issue.requestOf (_ : Issue) (o : Sys2Proof.FabOp) (kind : ReqKind) (parts : List ReqPart) (inc : Word := 0) : Req :=
  { src := 0, srcCtx := 0, dstCtx := 0, tag := 0, rank := 0, kind := kind, ctr := o.ctr, sub := o.sub, parts := parts, inc := inc
    contrib := none }

/-- An operation with no member completes at once, with no traffic (R315). -/
def Issue.noMember (I : Issue) : Eff :=
  .done (I.s.onGroup I.g.gid fun g => g.addOp { seq := 0, cls := .fab, done := true })

/-- An operation whose checks have passed but for REMOTE_UNREACHABLE. -/
def Issue.go (I : Issue) (ms : List Member) (op : RemoteOp) (due : Option (List Nat)) : Eff :=
  match I.unreachable ms with
  | some i => .trap I.s i
  | none => if ms.isEmpty then I.noMember else .done (I.issueRemote I.s op due)

/-- A lane's remote address (R315). -/
def Issue.remoteAddr (I : Issue) (o : Sys2Proof.FabOp) (i : Nat) : Addr := I.xpair o.w.xa o.w.a i

def Issue.fabU (I : Issue) (o : Sys2Proof.FabOp) : Nat := I.laneU o.w.m

/-- PSET (R314). -/
def Issue.psetPattern (I : Issue) (o : Sys2Proof.FabOp) : Pattern :=
  let w := fun k => I.g.xbar o.w.xa (o.w.a.toNat + k) (I.fabU o)
  (w 0, w 1, w 2)

def Group.setPattern (g : Group) (n : Nat) (p : Pattern) : Group :=
  { g with patterns := (List.range 8).map fun k => if k = n then p else g.patterns.getD k (0, 0, 0) }

def execPset (o : Sys2Proof.FabOp) (s : State) : Host.Outcome State Fault Refusal :=
  runInstr (.pset o) (prologue (.pset o) never never (withWaits (.pset o)
    (withLimits (fun I => !patternOk I.c.map (I.psetPattern o)) fun I =>
      .done (I.s.setGroup (I.g.setPattern o.pat.toNat (I.psetPattern o)))))) s

/-- RST of one word a lane (R315). -/
def execRst (o : Sys2Proof.FabOp) (s : State) : Host.Outcome State Fault Refusal :=
  fabInstr (.rst o) o never (fun I =>
    let ls := lanesOf (I.maskOn o.w.m)
    let ms := I.ranked (I.coords o false)
    match misaligned 4 (ls.map fun i => (i, [I.remoteAddr o i])) with
    | some i => .trap I.s i
    | none =>
      let parts := ls.map fun i => ⟨I.remoteAddr o i, leBytes 4 (I.xbar o.w.xb o.w.b i).toNat⟩
      I.go ms (I.remoteOf 1 o.w.m ms (I.requestOf o .rst parts)) none) s

/-- How RST reads its block: every unit is touched (R141, R311). -/
def blockAccess : Access := { use := .read, align := 1, cells := .touch }

/-- The bytes of placed parts, at their homes (R167). -/
def homeBytes (s : State) (l : List (Nat × List Placed)) : List Byte :=
  l.flatMap fun x => x.2.flatMap fun p => s.mem.readPlace s.free p.at' p.n

/-- The L2 lines that reading them uses (R136); these reads have no reuse field, and the model uses 0 (log 24). -/
def homeSaw (s : State) (l : List (Nat × List Placed)) : State :=
  s.setMem ((l.flatMap Prod.snd).foldl (fun m p => m.l2Use p.at' p.n 0 false) s.mem)

/-- RST of a 256 B block (R315). -/
def execRstBlock (o : Sys2Proof.FabOp) (s : State) : Host.Outcome State Fault Refusal :=
  fabInstr (.rstBlock o) o never (fun I =>
    let u := I.fabU o
    let dst := I.remoteAddr o u
    let src := I.xpair o.w.xb o.w.b u
    let ms := I.ranked (I.coords o false)
    match misaligned 256 [(u, [dst, src])] with
    | some i => .trap I.s i
    | none => I.global blockAccess [⟨u, cutUnits 5 src 256⟩] fun s l =>
        let I := { I with s := homeSaw s l }
        I.go ms (I.remoteOf 1 o.w.m ms (I.requestOf o .rst [⟨dst, homeBytes s l⟩])) none) s

/-- RCPY's length is within its limits (R315). -/
def badLength (o : Sys2Proof.FabOp) (I : Issue) : Bool :=
  let n := (I.g.read o.w.d.toNat (I.fabU o)).toNat
  n % 4 != 0 || decide (n < 4) || decide (16777216 < n)

/-- RCPY (R315). -/
def execRcpy (o : Sys2Proof.FabOp) (s : State) : Host.Outcome State Fault Refusal :=
  fabInstr (.rcpy o) o (badLength o) (fun I =>
    let u := I.fabU o
    let dst := I.remoteAddr o u
    let src := I.xpair o.w.xb o.w.b u
    let ms := I.ranked (I.coords o false)
    match misaligned 4 [(u, [dst, src])] with
    | some i => .trap I.s i
    | none =>
      let send : Send := ⟨ms.map Member.rank, src, dst, (I.g.read o.w.d.toNat u).toNat, none, 0⟩
      I.go ms { I.remoteOf 5 o.w.m ms (I.requestOf o .rcpy []) with unsent := [send] } none) s

/-- The registers that RLD and RATOM write, in lane order; none for v0. -/
def dueKeys (d : Reg) (ls : List Nat) : List Nat := if d = 0 then [] else ls.map (regKey d.toNat)

/-- RLD and RATOM, at the single member (R316, R317). -/
def Issue.single (I : Issue) (o : Sys2Proof.FabOp) (kind : ReqKind) (funct : Nat) (data : Nat → List Byte) : Eff :=
  let ls := lanesOf (I.maskOn o.w.m)
  let ms := I.ranked (I.coords o false)
  if ms.length ≠ 1 then I.trap PATTERN_ARITY
  else match misaligned 4 (ls.map fun i => (i, [I.remoteAddr o i])) with
    | some i => .trap I.s i
    | none =>
      let r := I.requestOf o kind (ls.map fun i => ⟨I.remoteAddr o i, data i⟩)
      I.go ms (I.remoteOf funct o.w.m ms r) (some (dueKeys o.w.d ls))

/-- RLD (R316). -/
def execRld (o : Sys2Proof.FabOp) (s : State) : Host.Outcome State Fault Refusal :=
  fabInstr (.rld o) o never (fun I => I.single o .rld 2 fun _ => []) s

/-- The operand bytes of an RATOM's lane: b, and for CAS b + 1 (R317). -/
def Issue.ratomData (I : Issue) (o : Sys2Proof.FabOp) (cas : Bool) (i : Nat) : List Byte :=
  leBytes 4 (I.xbar o.w.xb o.w.b i).toNat ++
    (if cas then leBytes 4 (I.g.xbar o.w.xb (o.w.b.toNat + 1) i).toNat else [])

/-- An RATOM of a sub-op (R317). -/
def Issue.ratom (I : Issue) (o : Sys2Proof.FabOp) (sub : BitVec 3) : Eff :=
  I.single { o with sub := sub } .ratom 3 (I.ratomData o (sub == 3))

/-- RATOM.ADD (R317). -/
def execRatomAdd (o : Sys2Proof.FabOp) (s : State) : Host.Outcome State Fault Refusal :=
  fabInstr (.ratomAdd o) o never (fun I => I.ratom o 0) s
/-- RATOM.FADD (R317). -/
def execRatomFadd (o : Sys2Proof.FabOp) (s : State) : Host.Outcome State Fault Refusal :=
  fabInstr (.ratomFadd o) o never (fun I => I.ratom o 1) s
/-- RATOM.FMAXA (R317). -/
def execRatomFmaxa (o : Sys2Proof.FabOp) (s : State) : Host.Outcome State Fault Refusal :=
  fabInstr (.ratomFmaxa o) o never (fun I => I.ratom o 2) s
/-- RATOM.CAS (R317). -/
def execRatomCas (o : Sys2Proof.FabOp) (s : State) : Host.Outcome State Fault Refusal :=
  fabInstr (.ratomCas o) o never (fun I => I.ratom o 3) s
/-- RATOM.INCB (R317). -/
def execRatomIncb (o : Sys2Proof.FabOp) (s : State) : Host.Outcome State Fault Refusal :=
  fabInstr (.ratomIncb o) o never (fun I => I.ratom o 4) s

/-! ### RRED (R318) -/

/-- RRED's staging offset and chunk bytes are within their limits (R318). -/
def badChunk (o : Sys2Proof.FabOp) (I : Issue) : Bool :=
  let off := (I.g.read o.w.d.toNat (I.fabU o)).toNat
  let n := (I.g.read (o.w.d.toNat + 1) (I.fabU o)).toNat
  off % 128 != 0 || n % 128 != 0 || decide (n < 128) || decide (1048576 < n)

/-- The root's value replaces every wildcard and range axis; none where it does not match one (R318). -/
def rootCoord (m : GridMap) (p : Pattern) (own root : List Nat) : Option (List Nat) :=
  let free := fun a => axisKind (axisField p a) == 1 || axisKind (axisField p a) == 2
  if (List.range 5).all fun a => !free a ||
      (axisMatch (axisField p a) (own.getD a 0) (root.getD a 0) && decide (root.getD a 0 < m.size a)) then
    some ((List.range own.length).map fun a => if free a then root.getD a 0 else own.getD a 0)
  else none

/-- An RRED of a sub-op (R318). -/
def Issue.rred (I : Issue) (o : Sys2Proof.FabOp) (sub : Nat) : Eff :=
  let u := I.fabU o
  let all := I.coords o true
  let src := I.remoteAddr o u
  let off := (I.g.read o.w.d.toNat u).toNat
  let n := (I.g.read (o.w.d.toNat + 1) u).toNat
  match all.findIdx? (fun c => c == I.ownCoord), rootCoord I.c.map (I.patSlot o) I.ownCoord (unpackCoord (I.xpair o.w.xb o.w.b u).toNat) with
  | none, _ => I.trap PATTERN_ARITY
  | some _, none => I.trap ILLEGAL_ENCODING
  | some r, some root =>
    match misaligned 4 [(u, [src])] with
    | some i => .trap I.s i
    | none =>
      let rank := (all.findIdx? fun c => c == root).getD 0
      let k : Contribution :=
        { rred := true, offset := off, chunk := n, len := n, n := all.length, rank := r, op := sub, slot := 0, result := 0
          pos := 0, data := [] }
      let ms := [I.memberAt rank root]
      let send : Send := ⟨[rank], src, BitVec.ofNat 64 (off + r * n), n, some k, 0⟩
      I.go ms { I.remoteOf 4 o.w.m ms (I.requestOf o .rred []) with unsent := [send], collective := true } none

/-- RRED.ADD (R318). -/
def execRredAdd (o : Sys2Proof.FabOp) (s : State) : Host.Outcome State Fault Refusal :=
  fabInstr (.rredAdd o) o (badChunk o) (fun I => I.rred o 0) s
/-- RRED.FADD (R318). -/
def execRredFadd (o : Sys2Proof.FabOp) (s : State) : Host.Outcome State Fault Refusal :=
  fabInstr (.rredFadd o) o (badChunk o) (fun I => I.rred o 1) s
/-- RRED.FMAXA (R318). -/
def execRredFmaxa (o : Sys2Proof.FabOp) (s : State) : Host.Outcome State Fault Refusal :=
  fabInstr (.rredFmaxa o) o (badChunk o) (fun I => I.rred o 2) s

/-! ### RSIG, RWAIT, PCOUNT, COORD (R319 to R321) -/

/-- RSIG (R319). -/
def execRsig (o : Sys2Proof.FabOp) (s : State) : Host.Outcome State Fault Refusal :=
  fabInstr (.rsig o) o never (fun I =>
    let ms := I.ranked (I.coords o false)
    I.go ms (I.remoteOf 6 o.w.m ms (I.requestOf o .rsig [] (I.xbar o.w.xb o.w.b (I.fabU o)))) none) s

/-- The end of an RWAIT, if its target has been taken (R306, R320). -/
def Issue.rwaitEnd (I : Issue) (s : State) : Eff :=
  if (s.group I.g.gid).any Group.woken then .done (s.setMem (s.mem.flash I.core)) else .park s .retry

/-- An RWAIT as it issues: it joins its counter's queue, unless its target is 0 (R306, R320). -/
def Issue.rwait (I : Issue) (o : Sys2Proof.FabOp) : Eff :=
  let t := (I.coords o false).length * (I.xbar o.w.xb o.w.b (I.fabU o)).toNat
  if t = 0 then .done (I.s.setMem (I.s.mem.flash I.core))
  else
    let w : RWaiter := ⟨o.ctr.toNat, I.g.gid, t⟩
    let s := (I.s.setContext { I.c with rwaits := I.c.rwaits ++ [w] }).setGroup { I.g with prog := 1 }
    I.rwaitEnd (s.serveWaits I.c.num o.ctr.toNat (I.c.rwaits.length + 1))

/-- RWAIT (R306, R320): its count and its mask are those of its issue, also while it is PARKED. -/
def execRwait (o : Sys2Proof.FabOp) (s : State) : Host.Outcome State Fault Refusal :=
  runInstr (.rwait o) (fun I =>
    if I.g.woken || I.g.prog = 1 then (I.rwaitEnd I.s).after fun s => s.onGroup I.g.gid fun g => g.usePorts (I.readsOf (.rwait o))
    else fabBody (.rwait o) o never (fun I => I.rwait o) I) s

/-- PCOUNT (R321). -/
def execPcount (o : Sys2Proof.FabOp) (s : State) : Host.Outcome State Fault Refusal :=
  fabInstr (.pcount o) o never (fun I =>
    I.later I.s .ld (pendingOf o.w.d.toNat 1 (lanesOf (I.maskOn o.w.m)) fun _ _ => BitVec.ofNat 32 (I.coords o false).length)) s

/-- COORD (R321). -/
def execCoord (o : Sys2Proof.FabOp) (s : State) : Host.Outcome State Fault Refusal :=
  fabInstr (.coord o) o never (fun I =>
    let rank := match (I.coords o true).findIdx? fun c => c == I.ownCoord with
      | some r => BitVec.ofNat 32 r
      | none => 0xFFFFFFFF
    I.later I.s .ld (pendingOf o.w.d.toNat 2 (lanesOf (I.maskOn o.w.m)) fun k _ =>
      if k = 0 then rank else BitVec.ofNat 32 (I.c.map.own I.s.dev.index))) s

/-! ### Sending streams (R311, R315) -/

/-- The port as it reads an operation's source: as an engine of the issuing group reads (R311). -/
def RemoteOp.reader (o : RemoteOp) : Engine :=
  { cid := o.oid, kind := .copy, ctx := o.ctx, gid := o.gid, seq := o.seq, team := 0, place := o.place, cls := o.cls
    lineage := o.lineage, srcSpace := 0, dstSpace := 3, runs := [], rest := [], pc := o.pc }

/-- The part of a stream from byte a to byte b. -/
def Send.part (x : Send) (a b : Nat) : Send :=
  { x with
    src := x.src + BitVec.ofNat 64 a, dst := x.dst + BitVec.ofNat 64 a, len := b - a
    contrib := x.contrib.map fun k => { k with pos := k.pos + a } }

/-- The piece that holds byte o of a stream: the bytes between two multiples of 256 of its target (R309), or so many whole
packed blocks as 256 B hold. DESIGN CHOICE (log 107): the spec cuts only the log's pieces at such multiples; an access is all
or nothing for each block (R53, R141), so that a piece of blocks may reach over one. -/
def Send.piece (x : Send) (o : Nat) : Nat × Nat :=
  if x.block = 0 then
    let a := o - (x.dst.toNat + o) % 256
    (a, min x.len (a + (256 - (x.dst.toNat + a) % 256)))
  else
    let q := 256 / x.block * x.block
    (o / q * q, min x.len (o / q * q + q))

/-- What a piece carries: the device writes bytes 25 to 31 of an aligned MXFP6 block as zero (R53). -/
def Send.padded (x : Send) (bs : List Byte) : List Byte :=
  if x.block = 32 then (List.range bs.length).map fun k => if 25 ≤ (x.dst.toNat + k) % 32 then 0 else bs.getD k 0 else bs

/-- The next piece of an operation's streams, which it is being a free value (R158, R315; log 29), and what is then left of
them. -/
def RemoteOp.nextPiece (o : RemoteOp) (step : Nat) : Option (Send × List Send) :=
  let ns := o.unsent.map Send.len
  let at' := fun p => (seek ns p).bind fun x => (o.unsent[x.1]?).map fun y => (x.1, y, y.piece x.2)
  match at' 0 with
  | none => none
  | some first =>
    let (k, x, a, b) := if first.2.2.2 - first.2.2.1 = ns.sum then first
      else (at' (Config.wordNext step o.oid ns.sum % ns.sum)).getD first
    some (x.part a b, o.unsent.take k ++ [x.part 0 a, x.part b x.len].filter (fun y => y.len ≠ 0) ++ o.unsent.drop (k + 1))

/-- The request that carries a piece's bytes. -/
def Send.request (x : Send) (r : Req) (bs : List Byte) : Req :=
  match x.contrib with
  | none => { r with parts := [⟨x.dst, bs⟩] }
  | some k => { r with kind := .rred, contrib := some { k with data := bs } }

/-- A piece of bytes sent to the members it is for; each owes an answer. -/
def State.sendBytes (s : State) (o : RemoteOp) (x : Send) (rest : List Send) (bs : List Byte) : State :=
  let ms := o.members.map fun m => if x.ranks.contains m.rank then { m with owed := m.owed + 1 } else m
  let o := { o with members := ms, unsent := rest, st := .running }
  let s := (s.dropWaits (.engine o.oid)).setRemoteOp o
  (ms.filter fun m => x.ranks.contains m.rank).foldl (fun s m => s.deliverTo m (x.request o.req bs)) s

/-- A piece of an operation's streams read from its source and sent (R277, R311): after the units of its source, and those
within 32 B of it that are still to read, so that no packed block goes in part (R53, R337). -/
def State.sendPiece (s : State) (c : Context) (o : RemoteOp) (x : Send) (rest : List Send) : Moved :=
  let e := o.reader
  let src := cutUnits (x.len + 1) x.src x.len
  let seen := src.map Prod.fst ++ around x.src.toNat x.len (rest.map fun y => (y.src.toNat, y.len))
  let s := s.engineWalks c e src
  match firstStall (seen.map fun a => (a, s.engineXlat c e .read a)) with
  | some none => .stop s
  | some (some (cause, a)) =>
    if cause == UNCORRECTABLE then
      .stop ((s.tableError c a).completeRemote o (some { cause := UNCORRECTABLE, addr := a &&& ~~~(63 : Addr) }))
    else .stop ((s.setRemoteOp { o with st := .faulted cause a }).raise (e.stallRecord o.funct cause a))
  | none =>
    let m := seen.foldl (Meet.read c e) { s := s }
    match m.fail with
    | some (i, poison) =>
      let s := match poison with | some u => m.s.memoryError (some e.ctx) u | none => m.s
      .stop (s.completeRemote o (some i))
    | none =>
      if !m.cells.isEmpty then
        let s := (m.s.dropWaits (.engine o.oid)).setRemoteOp { o with st := .cell (m.cells.headD 0) }
        .stop (if s.tableFull m.cells then s else s.enterWaits (.engine o.oid) m.cells)
      else match m.s.engineRead e (m.s.placed c e .read src) x.src x.len with
        | (bs, s) => .moved (s.sendBytes o x rest (x.padded bs)) x.len

/-- Pieces of an operation's streams sent until `want` bytes have gone, or it stops. -/
def State.sendStreams (oid : Nat) : Nat → Nat → State → State
  | 0, _, s => s
  | f + 1, want, s =>
    match s.remoteOp oid with
    | none => s
    | some o =>
      match s.context o.ctx, o.st, o.nextPiece s.free with
      | _, .faulted _ _, _ => s
      | some c, _, some (x, rest) =>
        if want = 0 then s
        else match s.sendPiece c o x rest with
          | .moved s n => State.sendStreams oid f (want - n) s
          | .stop s => s
      | _, _, _ => s

/-- COPY_PROGRESS (R230, R337): of an engine command, or of the stream of a remote operation (log 29). -/
def execCopyProgress (s : State) : Host.Outcome State Fault Refusal :=
  .next (match s.remoteOp s.ev.cmd with
    | some _ => s.sendStreams s.ev.cmd s.ev.n s.ev.n
    | none => State.progress s.ev.cmd s.ev.n s.ev.n s)

/-! ### What arrives (R308, R312) -/

/-- A request of another device at the port. -/
def State.arrival (s : State) (ok : Req → Bool) : State :=
  match s.ev.req with
  | some r => if ok r && r.src != s.dev.index then s.arriveReq r else s
  | none => s

/-- REMOTE_WRITE_ARRIVE (R308). -/
def execRemoteWriteArrive (s : State) : Host.Outcome State Fault Refusal :=
  .next (s.arrival fun r => (r.kind == .rst || r.kind == .rcpy) && r.contrib.isNone)

/-- REMOTE_READ_ARRIVE (R308). -/
def execRemoteReadArrive (s : State) : Host.Outcome State Fault Refusal := .next (s.arrival fun r => r.kind == .rld)

/-- REMOTE_ATOMIC_ARRIVE (R317). -/
def execRemoteAtomicArrive (s : State) : Host.Outcome State Fault Refusal := .next (s.arrival fun r => r.kind == .ratom)

/-- REMOTE_SIGNAL_ARRIVE (R319). -/
def execRemoteSignalArrive (s : State) : Host.Outcome State Fault Refusal := .next (s.arrival fun r => r.kind == .rsig)

/-- CONTRIBUTION_ARRIVE (R326). -/
def execContributionArrive (s : State) : Host.Outcome State Fault Refusal :=
  .next (s.arrival fun r => r.kind == .rred && r.contrib.isSome)

/-- An answer of another device to all that its member of an operation has been sent. -/
def State.heard (s : State) (what : Reply) : State :=
  match (s.remoteOp s.ev.op).bind fun o => o.member s.ev.rank with
  | some m => if m.dev == s.dev.index then s else s.take s.ev.op s.ev.rank m.owed what
  | none => s

/-- REMOTE_ACK (R313). -/
def execRemoteAck (s : State) : Host.Outcome State Fault Refusal := .next (s.heard .ack)

/-- REMOTE_REPLY (R316): the values of every lane; with none, the sender is told to retry (R308; log 30). -/
def execRemoteReply (s : State) : Host.Outcome State Fault Refusal :=
  .next (match s.remoteOp s.ev.op with
    | none => s
    | some o =>
      if s.ev.values.isEmpty then s.heard .retry
      else if s.ev.values.length = o.req.parts.length then s.heard (.values s.ev.values) else s)

/-- The causes that a member's refusal carries: R307's, R308's, and TRANSLATION for a discarded entry (R310, R312). -/
def refusalCauses : List Byte := [REMOTE_DENIED, PERMISSION, CELL_BUSY, CELL_FAILED, UNCORRECTABLE, TRANSLATION]

/-- REMOTE_REFUSAL (R312). -/
def execRemoteRefusal (s : State) : Host.Outcome State Fault Refusal :=
  .next (match s.ev.refused with
    | some r => if refusalCauses.contains r.cause then s.heard (.refused r) else s
    | none => s)

/-- The request of an RLD or RATOM made again. -/
def State.resend (s : State) (o : RemoteOp) : State :=
  match o.members with
  | m :: _ => (s.setRemoteOp { o with retryAt := none, withdrawn := false }).deliverTo m o.req
  | [] => s

/-- REMOTE_RETRY (R308): 4096 cycles after it was told to. -/
def execRemoteRetry (s : State) : Host.Outcome State Fault Refusal :=
  .next (match s.remoteOp s.ev.op with
    | none => s
    | some o => match o.retryAt with
      | some t => if t ≤ s.cycle && !o.withdrawn then s.resend o else s
      | none => s)

/-- The RLDs of a context withdrawn by a pre-emption (R278). -/
def State.withdrawRlds (s : State) (ctx : Nat) : State :=
  let mine := (s.fabric.filter fun o => o.ctx == ctx && o.req.kind == .rld).map RemoteOp.oid
  let own := fun (r : Req) => r.src == s.dev.index && mine.contains r.tag
  let gone := (s.remotes.filter fun p => own p.req).map Parked.rid
  { s with
    fabric := s.fabric.map fun o => if mine.contains o.oid then { o with withdrawn := true, retryAt := none } else o
    remotes := s.remotes.filter fun p => !own p.req
    held := s.held.filter fun h => !own h.req
    waits := s.waits.filter fun w => match w.who with | .remote r => !gone.contains r | _ => true }

/-- The withdrawn RLDs of a context issued again at resume (R278). -/
def State.resendRlds (s : State) (ctx : Nat) : State :=
  (s.fabric.filter fun o => o.ctx == ctx && o.withdrawn).foldl State.resend s

/-- A request that waits at this device is tried again as a whole, once none of its cells is awaited (R308). The access
table passed it when it arrived (R307). -/
def State.recheckReq (s : State) (rid : Nat) : State :=
  match s.remotes.find? fun p => p.rid == rid with
  | none => s
  | some p =>
    if p.units.any (s.awaits ·) then s
    else
      let s := { s.dropWaits (.remote rid) with remotes := s.remotes.filter fun x => x.rid != rid }
      s.takeReq ⟨p.req, true⟩

/-- PARKED_RECHECK (R211): an awaited cell has left EVL; the loads of the recheck come from the home (R170). The
group named, or the waiting remote request. -/
def execParkedRecheck (s : State) : Host.Outcome State Fault Refusal :=
  .next ((s.whenLive s.ev.g fun s g => match g.status with
    | .parked (.cell us) =>
      if us.all (s.awaits ·) then s
      else
        let core := ((s.team g.team).map fun t => coreIdx t.place).getD 0
        ((s.dropAwaited core us).dropWaits (.group g.gid)).setGroup (g.unpark s.cycle)
    | _ => s).recheckReq s.ev.op)

end Sys2Proof.Machine
end

