-- ==== Sys2Proof/Machine/Reshard.lean ====
section
/-!
DEFINITION. RESHARD: layout descriptors, the pairs that are valid, and what each device derives that it sends (R322 to
R325, R332 to R334).
-/
namespace Sys2Proof.Machine

/-! ### Layouts (R322, R323) -/

/-- A dimension of a layout: its size and its shard axes. -/
structure LayoutDim where
  size : Nat
  axes : List Nat
  deriving DecidableEq, Repr

/-- A layout descriptor (R322); `ok` says that its fields lie in their ranges and its reserved ones are zero. -/
structure Layout where
  ok : Bool
  slot : Nat
  partials : List Nat
  chunk : Nat
  staging : Nat
  base : Nat
  dims : List LayoutDim
  deriving DecidableEq, Repr

/-- A dimension entry (R322). -/
def layoutDim (e : Nat) : LayoutDim := ⟨bits e 0 32, (List.range (bits e 32 8)).map fun j => bits e (40 + 3 * j) 3⟩

/-- A dimension entry within its ranges (R322). -/
def layoutDimOk (e : Nat) : Bool := bits e 55 9 == 0 && decide (bits e 32 8 ≤ 5) && bits e 0 32 != 0

/-- The descriptor that 64 bytes hold (R322). -/
def layoutOf (bs : List Byte) : Layout :=
  let rank := field bs 0 1
  let entry := fun k => field bs (24 + 8 * k) 8
  { ok := decide (1 ≤ rank ∧ rank ≤ 4) && bits (field bs 1 1) 3 5 == 0 && bits (field bs 2 1) 5 3 == 0 && field bs 3 1 == 0 &&
      field bs 56 8 == 0 && ((List.range 4).all fun k => if k < rank then layoutDimOk (entry k) else entry k == 0)
    slot := bits (field bs 1 1) 0 3
    partials := (List.range 5).filter fun a => (field bs 2 1).testBit a
    chunk := field bs 4 4
    staging := field bs 8 8
    base := field bs 16 8
    dims := (List.range rank).map fun k => layoutDim (entry k) }

/-- The product of the sizes of some axes. -/
def GridMap.product (m : GridMap) (axes : List Nat) : Nat := axes.foldl (fun p a => p * m.size a) 1

/-- Piece count and piece length of a dimension (R323). -/
def LayoutDim.count (d : LayoutDim) (m : GridMap) : Nat := m.product d.axes
def LayoutDim.len (d : LayoutDim) (m : GridMap) : Nat := d.size / d.count m

/-- The piece of a dimension that a device holds: its first axis is the most significant digit (R323). -/
def LayoutDim.piece (d : LayoutDim) (m : GridMap) (coord : List Nat) : Nat :=
  d.axes.foldl (fun p a => p * m.size a + coord.getD a 0) 0

def Layout.pieces (l : Layout) (m : GridMap) (coord : List Nat) : List Nat := l.dims.map fun d => d.piece m coord
def Layout.lens (l : Layout) (m : GridMap) : List Nat := l.dims.map fun d => d.len m

/-- A unit of the slot: how many elements of dimension 0, and its bytes; a slot without a scale holds no block format
(R52, R323). -/
def unitElems (slot : Word) : Nat := if slotScale slot = 1 then 32 else 1
def unitBytes (slot : Word) : Nat :=
  let c := slotElem slot
  if slotScale slot ≠ 1 then elemBits c / 8
  else if elemBits c = 6 ∧ slotLayout slot then 32
  else 4 * elemBits c + 1 + (if c = 8 then 1 else 0)

/-- The byte offset of an element of a shard from its indices, dimension 0 innermost (R323). -/
def elemOffset : List Nat → List Nat → Nat
  | n :: ns, i :: is => i + n * elemOffset ns is
  | _, _ => 0

def byteOffset (slot : Word) (lens idx : List Nat) : Nat := elemOffset lens idx / unitElems slot * unitBytes slot

/-- The bytes of a shard (R323). -/
def Layout.bytes (l : Layout) (m : GridMap) (slot : Word) : Nat :=
  (l.lens m).foldl (· * ·) 1 / unitElems slot * unitBytes slot

/-! ### Valid pairs (R324) -/

def Layout.shardAxes (l : Layout) : List Nat := l.dims.flatMap LayoutDim.axes

/-- The reduced set (R324). -/
def reducedAxes (src dst : Layout) : List Nat := src.partials.filter fun a => !dst.partials.contains a

/-- The conditions of R322 and R324 on one layout; a source's chunk bytes are checked for their range only (R322). -/
def layoutOk (l : Layout) (m : GridMap) (slot : Word) (dst : Bool) : Bool :=
  let ax := l.shardAxes
  l.ok && (ax ++ l.partials).all (fun a => decide (a < m.axes)) && decide ax.Nodup && !(ax.any fun a => l.partials.contains a) &&
    l.dims.all (fun d => d.size % d.count m == 0) &&
    ((l.lens m).headD 0 % unitElems slot == 0) &&
    (!dst || (l.chunk % 128 == 0 && l.chunk % unitBytes slot == 0)) && decide (128 ≤ l.chunk ∧ l.chunk ≤ 1048576) && l.base % 128 == 0 &&
    l.staging % 128 == 0

/-- Every condition of R324 but the slot's, and the sub-op's of R332. -/
def pairOk (src dst : Layout) (m : GridMap) (slot : Word) (sub : Nat) : Bool :=
  let pr := reducedAxes src dst
  layoutOk src m slot false && layoutOk dst m slot true && src.slot == dst.slot &&
    src.dims.map LayoutDim.size == dst.dims.map LayoutDim.size && dst.partials.all (fun a => src.partials.contains a) &&
    src.staging == 0 && (!pr.isEmpty || dst.staging == 0) &&
    (pr.isEmpty || (List.range m.axes).all fun a => dst.partials.contains a || dst.shardAxes.contains a || m.size a == 1) &&
    (if pr.isEmpty then sub == 0 else sub != 0 || slotElem slot == 0)

/-- The slot condition (R324). -/
def slotForReshard (slot : Word) : Bool := slotOk slot && (decide (slotElem slot ≤ 2) || slotScale slot == 1)

/-! ### What a device sends (R333) -/

/-- Devices, as coordinates, that agree with another on some axes. -/
def agree (axes c d : List Nat) : Bool := axes.all fun a => c.getD a 0 == d.getD a 0

/-- Every index of dimensions of the given lengths, dimension 0 varying fastest. -/
def indices : List Nat → List (List Nat)
  | [] => [[]]
  | n :: ns => (indices ns).flatMap fun r => (List.range n).map fun i => i :: r

/-- A run of dimension 0 cut where the destination's piece changes: start and length, in elements. -/
def cutPieces : Nat → Nat → Nat → Nat → List (Nat × Nat)
  | 0, _, _, _ => []
  | f + 1, n, i, len =>
    if len = 0 then [] else
    let k := min len (n - i % n)
    (i, k) :: cutPieces f n (i + k) (len - k)

/-- A run of units from the source shard to the shard of the piece it lies in. -/
structure ShardRun where
  piece : List Nat
  src : Nat
  dst : Nat
  len : Nat
  deriving DecidableEq, Repr

/-- Every run that device x holds under the source layout (R323, R333). -/
def shardRuns (m : GridMap) (slot : Word) (src dst : Layout) (x : List Nat) : List ShardRun :=
  let ls := src.lens m
  let ld := dst.lens m
  let ps := src.pieces m x
  let n0 := ls.headD 0
  (indices (ls.drop 1)).flatMap fun t =>
    (cutPieces (n0 + 1) (ld.headD 1) (ps.headD 0 * n0) n0).map fun r =>
      let here := (r.1 - ps.headD 0 * n0) :: t
      let whole := (List.range ls.length).map fun k => ps.getD k 0 * ls.getD k 0 + here.getD k 0
      let piece := (List.range ld.length).map fun k => whole.getD k 0 / ld.getD k 1
      let inside := (List.range ld.length).map fun k => whole.getD k 0 % ld.getD k 1
      ⟨piece, byteOffset slot ls here, byteOffset slot ld inside, r.2 / unitElems slot * unitBytes slot⟩

/-- A run cut at chunk boundaries (R325). -/
def cutChunks : Nat → Nat → ShardRun → List ShardRun
  | 0, _, _ => []
  | f + 1, c, r =>
    if r.len = 0 then [] else
    let k := min r.len (c - r.dst % c)
    { r with len := k } :: cutChunks f c { r with src := r.src + k, dst := r.dst + k, len := r.len - k }

/-- An exchange: the map, this device's coordinate, the layouts and the slot. -/
structure Exchange where
  map : GridMap
  own : List Nat
  src : Layout
  dst : Layout
  slot : Word
  sub : Nat
  deriving DecidableEq, Repr

/-- x's class (R333), in rank order: coordinates. -/
def Exchange.cls (e : Exchange) : List (List Nat) := (e.map.coords 0).filter fun c => agree e.dst.partials c e.own

/-- x is the device that sends what it holds (R333). -/
def Exchange.sends (e : Exchange) : Bool :=
  let pr := reducedAxes e.src e.dst
  let hold := e.cls.filter fun c => e.src.pieces e.map c == e.src.pieces e.map e.own && agree pr c e.own
  hold.head? == some e.own

/-- The ranks that hold a piece under the destination layout (R333). -/
def Exchange.owners (e : Exchange) (piece : List Nat) : List Nat :=
  (e.cls.filter fun c => e.dst.pieces e.map c == piece).map fun c => linearOf e.map.sizes c

/-- The rank of x's contributions: its coordinates on the reduced axes, axis 0 fastest (R333). -/
def Exchange.rank (e : Exchange) : Nat :=
  (reducedAxes e.src e.dst).reverse.foldl (fun r a => r * e.map.size a + e.own.getD a 0) 0

/-- A run's contribution to its chunk (R325, R333). -/
def Exchange.contribution (e : Exchange) (r : ShardRun) : Contribution :=
  let c := e.dst.chunk
  let j := r.dst / c
  let n := e.map.product (reducedAxes e.src e.dst)
  { rred := false, offset := e.dst.staging + j * n * c, chunk := c, len := min c (e.dst.bytes e.map e.slot - j * c), n := n
    rank := e.rank, op := e.sub, slot := e.slot, result := BitVec.ofNat 64 (e.dst.base + j * c), pos := r.dst - j * c, data := [] }

/-- Bytes of the packed blocks that a slot holds, 0 where it holds none (R52, R323). -/
def blockOf (slot : Word) : Nat := if slotScale slot = 1 then unitBytes slot else 0

/-- The streams that x sends (R333). -/
def Exchange.streams (e : Exchange) : List Send :=
  if !e.sends then []
  else
    let runs := shardRuns e.map e.slot e.src e.dst e.own
    let at' := fun (r : ShardRun) => BitVec.ofNat 64 (e.src.base + r.src)
    if (reducedAxes e.src e.dst).isEmpty then
      runs.map fun r =>
        { ranks := e.owners r.piece, src := at' r, dst := BitVec.ofNat 64 (e.dst.base + r.dst), len := r.len
          block := blockOf e.slot }
    else
      (runs.flatMap fun r => cutChunks (r.len + 1) e.dst.chunk r).map fun r =>
        let k := e.contribution r
        { ranks := (e.owners r.piece).take 1, src := at' r, dst := BitVec.ofNat 64 (k.offset + k.rank * k.chunk + k.pos)
          len := r.len, contrib := some k, block := blockOf e.slot }

/-! ### RESHARD (R332) -/

/-- The exchange that two descriptors name, or the trap of steps 3 and 4 (R332). -/
def Issue.exchange (I : Issue) (src dst : Layout) (sub : Nat) : Except Byte Exchange :=
  let slot := I.t.slots.getD src.slot 0
  if !pairOk src dst I.c.map slot sub then .error ILLEGAL_ENCODING
  else if !slotForReshard slot then .error FORMAT_SLOT
  else .ok ⟨I.c.map, I.ownCoord, src, dst, slot, sub⟩

/-- An exchange started: one operation in FAB over every receiver (R333, R334). -/
def Issue.startExchange (I : Issue) (o : Sys2Proof.FabOp) (e : Exchange) : Eff :=
  let ss := e.streams.filter fun x => x.len ≠ 0
  let coords := e.map.coords 0
  let ms := ((List.range coords.length).filter fun r => ss.any fun x => x.ranks.contains r).map fun r => I.memberAt r (coords.getD r [])
  I.go ms { I.remoteOf 8 o.w.m ms (I.requestOf o .rcpy []) with unsent := ss, collective := true } none

/-- RESHARD (R332). -/
def execReshard (o : Sys2Proof.FabOp) (s : State) : Host.Outcome State Fault Refusal :=
  runInstr (.reshard o) (prologue (.reshard o) never never (withWaits (.reshard o) fun I =>
    let u := I.fabU o
    let a := I.remoteAddr o u
    let b := I.xpair o.w.xb o.w.b u
    match misaligned 64 [(u, [a, b])] with
    | some i => .trap I.s i
    | none => (I.releasing false).global blockAccess [⟨u, [(a, 64)]⟩, ⟨u, [(b, 64)]⟩] fun s l =>
        let I := { I with s := homeSaw s l }
        let read := fun k => layoutOf (homeBytes s ((l.drop k).take 1))
        match I.exchange (read 0) (read 1) o.sub.toNat with
        | .error cause => I.trap cause
        | .ok e => I.startExchange o e)) s

end Sys2Proof.Machine
end

