-- ==== Sys2Proof/Machine/Launch.lean ====
section
/-!
DEFINITION. Launches: the launch record, the kernel image and its variants, the defect-map signature, the checks of
READY, colophons and completion (R239, R253 to R256, R260 to R263, R378).
-/
namespace Sys2Proof.Machine

/-- Refusal codes (R11). -/
abbrev NO_VARIANT : Byte := 0x31
abbrev FOOTPRINT : Byte := 0x32
abbrev CLUSTER_SHAPE : Byte := 0x33
abbrev SLOT_INVALID : Byte := 0x34

/-! ### The launch record (R253) -/

/-- The fields of 128 bytes (R253). -/
def launchRec (bs : List Byte) : LaunchRec :=
  let a := fun k => BitVec.ofNat 64 (field bs k 8)
  { image := a 0, arg := a 8, colophon := a 16, countAddr := a 24, count := field bs 32 2
    rows := bits (field bs 34 1) 4 4, cols := bits (field bs 34 1) 0 4, groups := field bs 35 1, regs16 := field bs 36 1
    quires := field bs 37 1, bars := field bs 38 1, flags := BitVec.ofNat 8 (field bs 39 1), abytes := field bs 40 4
    wbytes := field bs 44 4, slots := (List.range 8).map fun k => BitVec.ofNat 32 (field bs (48 + 4 * k) 4)
    deps := ((List.range 4).map fun k => a (80 + 8 * k)).filter fun x => x != 0, event := a 112
    reserved := field bs 120 8 != 0 }

def LaunchRec.cls (r : LaunchRec) : Nat := (r.flags.extractLsb' 2 2).toNat
def LaunchRec.light (r : LaunchRec) : Bool := r.flags.getLsbD 1
def LaunchRec.grid (r : LaunchRec) : Bool := r.flags.getLsbD 0
def LaunchRec.nregs (r : LaunchRec) : Nat := 16 * r.regs16

/-- A permitted cluster shape (R254). -/
def shapeOk (rows cols : Nat) : Bool :=
  (decide (1 ≤ rows ∧ rows ≤ 3) && decide (1 ≤ cols ∧ cols ≤ 4)) || (rows == 2 && cols == 6) || (rows == 1 && cols == 12)

/-- Who launches by a record: the host; a queue or combine queue, whose kernel meets R239; an evaluation record. -/
inductive LaunchKind where
  | host | node | evaluator
  deriving DecidableEq, Repr

/-- The limits of R253 but shape and slots; what a unit's record ignores is not looked at (R260). -/
def LaunchRec.limitsOk (r : LaunchRec) (k : LaunchKind) : Bool :=
  r.aligned && r.image.toNat % 128 == 0 && decide (1 ≤ r.groups ∧ r.groups ≤ 16) && decide (1 ≤ r.regs16 ∧ r.regs16 ≤ 8) &&
    decide (r.quires ≤ 32) && decide (r.bars ≤ 16) && r.flags.extractLsb' 4 4 == 0 && decide (r.abytes ≤ 524288) &&
    r.abytes % 128 == 0 && decide (r.wbytes ≤ 1048576) && r.wbytes % 128 == 0 && !r.reserved &&
    (if k == .host then
      r.colophon.toNat % 64 == 0 && r.countAddr.toNat % 4 == 0 && r.event.toNat % 8 == 0 && (r.countAddr != 0 || r.count != 0)
    else true) &&
    (k != .node || decide (2 ≤ r.regs16))

/-! ### The signature (R256) and the image (R255) -/

/-- The defect-map signature of the module as it stands (R256). -/
def State.mapNow (s : State) : Addr :=
  let d := s.dev
  let die := fun n =>
    let nstacks := ((List.range 3).filter fun k => d.fnState (.stack (3 * n + k)) == .ready).length
    let out := min 31 (s.mem.slicesOut.filter fun x => x.1 == n).length
    let col := ((d.retiredColumn.find? fun x => x.1 == n).map Prod.snd).getD 0x1F
    nstacks * 1024 + out * 32 + col
  let ready := (List.range 4).foldl (fun a n => if d.fnState (.die n) == .ready then a + 2 ^ (60 + n) else a) 0
  BitVec.ofNat 64 (ready + (List.range 4).foldl (fun a n => a + die n * 2 ^ (14 * n)) 0)

/-- The ready dies of a signature (R256). -/
def readyDies (sig : Addr) : List Nat := (List.range 4).filter fun n => sig.getLsbD (60 + n)

/-- A variant table entry (R255). -/
structure Variant where
  mask : Addr
  value : Addr
  code : Nat
  entry : Nat
  reserved : Bool
  deriving DecidableEq, Repr

def variantOf (bs : List Byte) : Variant :=
  ⟨BitVec.ofNat 64 (field bs 0 8), BitVec.ofNat 64 (field bs 8 8), field bs 16 8, field bs 24 4, field bs 28 4 != 0⟩

/-- The variants that an image's header declares: 1 to 8, none where the header is not in order (R255). -/
def State.imageCount (s : State) (c : Context) (image : Addr) : Nat :=
  let h := s.devRead c image 16
  if 8 < field h 4 1 || (h.drop 5).any (· != 0) then 0 else field h 4 1

/-- The variants of the image at an address, if its header and table are in order (R255). -/
def State.variants (s : State) (c : Context) (image : Addr) : Option (List Variant) :=
  let n := s.imageCount c image
  let vs := (List.range n).map fun v => variantOf (s.devRead c (image + BitVec.ofNat 64 (16 + 32 * v)) 32)
  if n = 0 || vs.any Variant.reserved then none else some vs

/-- The header or the variant table of an image lies on a page under invalidation: reading it waits (R133). -/
def State.imageWaits (s : State) (c : Context) (image : Addr) : Bool :=
  s.devWaits c image 16 || s.devWaits c (image + 16) (32 * s.imageCount c image)

/-- What reading an image's header and variant table leaves behind. -/
def State.imageSaw (s : State) (c : Context) (image : Addr) : State :=
  (s.devSaw c image 16).devSaw c (image + 16) (32 * s.imageCount c image)

/-- A launch record at an address, or the image it names, cannot be read yet (R133). -/
def State.kernelWaits (s : State) (c : Context) (a : Addr) : Bool :=
  s.devWaits c a 128 || s.imageWaits c (launchRec (s.devRead c a 128)).image

/-- What reading a launch record and its image leaves behind. -/
def State.kernelSaw (s : State) (c : Context) (a : Addr) : State :=
  (s.devSaw c a 128).imageSaw c (launchRec (s.devRead c a 128)).image

/-- The variant that a signature chooses, with its entry address (R255, R256). DESIGN CHOICE (log 111): a variant whose code or
entry offset is no multiple of 4 is chosen all the same, and its first header traps MISALIGNED: R255 gives the limit and no
refusal. -/
def State.chooseVariant (s : State) (c : Context) (image sig : Addr) : Option (Nat × Addr) :=
  (s.variants c image).bind fun vs =>
    (vs.findIdx? fun v => sig &&& v.mask == v.value).map fun k =>
      (k, match vs[k]? with
        | some v => image + BitVec.ofNat 64 (v.code + v.entry)
        | none => 0)

/-! ### Room on an empty module (R257, R258) -/

/-- n of a kind at `each`, out of a capacity. -/
def perCore (cap each : Nat) : Nat := if each = 0 then 4096 else cap / each

/-- Teams of a footprint that an empty core holds (R65, R66, R124, R257). -/
def LaunchRec.teamsPerCore (r : LaunchRec) : Nat :=
  let quad := min (perCore 2048 (r.groups * r.nregs)) (perCore 32 r.groups)
  min (Config.quadsPerCore * quad) (min (perCore Config.abufBytes r.abytes)
    (min (perCore Config.wbufBytes r.wbytes) (min (perCore 256 r.bars) (perCore 512 r.quires))))

/-- Clusters that fit at once on n empty dies: disjoint rectangles, on every layer of teams that a core holds. -/
def LaunchRec.capacity (r : LaunchRec) (n : Nat) : Nat :=
  n * r.teamsPerCore * (Config.meshRows / r.rows) * (Config.meshColumns / r.cols)

/-- The core at a row and column of the mesh (log 34). -/
def meshCore (row col : Nat) : Nat := Config.meshColumns * row + col

/-- A rectangle of a die, by its first row and column. -/
structure Spot where
  die : Nat
  row : Nat
  col : Nat
  deriving DecidableEq, Repr

/-- The cores of a rectangle, in TEAM order (R258). -/
def Spot.cores (p : Spot) (rows cols : Nat) : List Nat :=
  (List.range (rows * cols)).map fun t => meshCore (p.row + t / cols) (p.col + t % cols)

/-- Every rectangle of a shape on some dies, in row order. -/
def allSpots (dies : List Nat) (rows cols : Nat) : List Spot :=
  dies.flatMap fun d => (List.range (Config.meshRows + 1 - rows)).flatMap fun y =>
    (List.range (Config.meshColumns + 1 - cols)).map fun x => ⟨d, y, x⟩

/-- n clusters fit on some rectangles, no core of them holding more than `cap` teams, beside what is taken: a full
search. -/
def canPack (cap : Nat) (cores : Spot → List (Nat × Nat)) : List Spot → Nat → List (Nat × Nat) → Bool
  | [], n, _ => n == 0
  | p :: rest, n, taken =>
    n == 0 || ((List.range (min n cap + 1)).reverse.any fun k =>
      ((cores p).all fun c => decide (taken.count c + k ≤ cap)) &&
        canPack cap cores rest (n - k) (taken ++ (List.replicate k (cores p)).flatten))

/-- A grid could be placed on some dies if they held no other work (R224, R258, R378). A core taken out of use holds no
team (R359; log 32); where there is one on these dies, the rectangles are searched. -/
def LaunchRec.couldPlace (r : LaunchRec) (bad : List (Nat × Nat)) (dies : List Nat) (clusters : Nat) : Bool :=
  let n := if r.grid then clusters else min clusters 1
  if bad.any fun b => dies.contains b.1 then
    let cores := fun (p : Spot) => (p.cores r.rows r.cols).map fun c => (p.die, c)
    canPack r.teamsPerCore cores ((allSpots dies r.rows r.cols).filter fun p => !(cores p).any bad.contains) n []
  else decide (n ≤ r.capacity dies.length)

/-! ### The checks of READY (R378) -/

/-- What the checks leave: the variant and its entry. -/
structure Prepared where
  variant : Nat
  entry : Addr
  dies : List Nat
  deriving DecidableEq, Repr

/-- Steps 1 to 4 (R239, R378) under the signature read when the launch became ready (R256): a refusal code, or the
variant. -/
def State.prepare (s : State) (c : Context) (r : LaunchRec) (k : LaunchKind) (sig : Addr) : Except Byte Prepared :=
  if !shapeOk r.rows r.cols || (k == .node && (r.rows != 1 || r.cols != 1)) then .error CLUSTER_SHAPE
  else if !r.slots.all slotOk then .error SLOT_INVALID
  else if !r.limitsOk k then .error FOOTPRINT
  else match s.chooseVariant c r.image sig with
    | none => .error NO_VARIANT
    | some (v, e) => .ok ⟨v, e, readyDies sig⟩

/-- The launch record of a unit: one cluster of one team (R260). -/
def LaunchRec.unit (r : LaunchRec) : LaunchRec := { r with rows := 1, cols := 1, count := 1, countAddr := 0 }

/-- Steps 1 to 4 and 6 for a gathering, an evaluator or a combine record (R378). One that must run on a die of its own
finds no place where that die is not ready in the signature (R213, R256, R327). `unit` is the record with the team that
is launched. -/
def State.prepareUnit (s : State) (c : Context) (r unit : LaunchRec) (k : LaunchKind) (sig : Addr) (home : Option Nat) :
    Except Byte Prepared :=
  match s.prepare c r k sig with
  | .error e => .error e
  | .ok p =>
    let dies := match home with
      | some d => p.dies.filter (· == d)
      | none => p.dies
    if unit.couldPlace s.dev.badCores dies 1 then .ok { p with dies := dies } else .error FOOTPRINT

/-! ### Completion (R262, R263) -/

/-- A 64-bit free value (the model's): a field that no rule fixes. -/
def State.freePair (s : State) : Addr := pair (Config.freeWord s.free) (Config.freeWord (s.free + 1))

/-- The colophon (R263): CYCLE at READY is free for a launch that never became READY (log 33). -/
def State.colophonOf (s : State) (l : Launch) (status : Byte) : List Byte :=
  let reached := l.st == .ready || l.st == .running
  record 64 [(0, [status]), (1, leBytes 1 (l.variant.getD 0xFF)), (2, leBytes 2 l.sq), (4, leBytes 4 l.placed),
    (8, leBytes 8 (if reached then l.ready else s.freePair.toNat)), (16, leBytes 8 s.cycle)]

/-- A launch is over: the colophon, the event, and the queue's interrupt, for a host launch (R262, R349). -/
def State.completeLaunch (s : State) (l : Launch) (status : Byte) : State :=
  let s := { s with launches := s.launches.filter fun x => x.lid != l.lid }
  match l.origin with
  | .host => s.devDo ((if l.rcd.colophon == 0 then [] else [.write l.ctx l.rcd.colophon (s.colophonOf l status)]) ++
      (if l.rcd.event == 0 then [] else [.add l.ctx l.rcd.event]) ++ [.irq l.ctx l.sq])
  | _ => s

/-! ### Dependences and READY (R260, R261) -/

/-- A dependence word reads zero, or cannot be read yet (R133). -/
def State.wordZero (s : State) (c : Context) (a : Addr) : Bool := s.devWaits c a 8 || ofLe (s.devRead c a 8) == 0

/-- A launch's dependence words read again, where some were zero (R260). -/
def State.await (s : State) (l : Launch) : Launch :=
  match l.st, s.context l.ctx with
  | .submitted, some c => let w := l.await.filter (s.wordZero c ·); { l with await := w, st := if w.isEmpty then .queued else .waiting }
  | .waiting, some c => let w := l.await.filter (s.wordZero c ·); { l with await := w, st := if w.isEmpty then .queued else .waiting }
  | _, _ => l

/-- After every step, the device has reread each zero dependence word (R260). -/
def State.settle (s : State) : State := { s with launches := s.launches.map (s.await ·) }

/-- Every older record of the launch's queue has been placed, completed or refused (R249). -/
def State.olderPlaced (s : State) (l : Launch) : Bool :=
  s.launches.all fun x => !(x.origin == .host && x.sq == l.sq && decide (x.order < l.order)) || x.st == .running

/-- Steps 5 and 6, once the count is known (R261, R378). -/
def State.readyCount (s : State) (l : Launch) (n : Nat) : State :=
  if 65535 < n then s.completeLaunch l CLUSTER_SHAPE
  else if n = 0 then s.completeLaunch l 0
  else if !l.rcd.couldPlace s.dev.badCores l.dies n then s.completeLaunch l FOOTPRINT
  else s.setLaunch { l with clusters := n, checked := true, stalled := false }

/-- The cause of a fault on a device read. DESIGN CHOICE (log 28): a count word that an error hides is reported with the code
of UNCORRECTABLE: R261 lets any fault stall the launch, and R355 lists TRANSLATION and PERMISSION alone for kind 0x12. -/
def State.readCause (s : State) (c : Context) (a : Addr) : Byte :=
  match s.portXlat c .read a with
  | .bad cause => cause
  | _ => UNCORRECTABLE

/-- The event record of a count read that has faulted: its handle is the launch's id; no instruction issued it and no core
made it, so that those fields are free (log 28). -/
def State.countRecord (s : State) (l : Launch) (cause : Byte) : List Byte :=
  record 64 [(0, [0x12]), (1, [cause]), (2, leBytes 2 l.ctx), (8, leBytes 8 l.lid), (16, leBytes 8 l.rcd.countAddr.toNat),
    (24, leBytes 8 s.freePair.toNat), (32, leBytes 3 (Config.freeWord (s.free + 2)).toNat)]

/-- Step 5: the count read, or a fault that stalls the launch (R261). On a page under invalidation the read waits: LAUNCH_READY
makes it later (R133). -/
def State.readCount (s : State) (c : Context) (l : Launch) : State :=
  if l.rcd.countAddr == 0 then s.readyCount l l.rcd.count
  else if s.devWaits c l.rcd.countAddr 4 then s.setLaunch { l with stalled := false }
  else match s.devRead? c l.rcd.countAddr 4 with
    | some bs => (s.devSaw c l.rcd.countAddr 4).readyCount l (ofLe bs)
    | none =>
      let s := s.devSaw c l.rcd.countAddr 4
      (s.setLaunch { l with stalled := true }).raise (s.countRecord l (s.readCause c l.rcd.countAddr))

/-- LAUNCH_READY (R260, R378). -/
def State.launchReady (s : State) (c : Context) (l : Launch) : State :=
  let l := { l with st := .ready, ready := s.cycle }
  let s := s.imageSaw c l.rcd.image
  match s.prepare c l.rcd .host s.dev.signature with
  | .error code => (s.setLaunch l).completeLaunch l code
  | .ok p =>
    let l := { l with
      variant := some p.variant, entry := p.entry, dies := p.dies, cls := min l.rcd.cls c.ceiling }
    (s.setLaunch l).readCount c l

def execLaunchReady (s : State) : Host.Outcome State Fault Refusal :=
  .next (match s.launch s.ev.launch with
    | none => s
    | some l => match s.context l.ctx with
      | none => s
      | some c =>
        if l.origin != .host || c.st == .ending then s
        else if l.st == .queued && s.olderPlaced l && !s.imageWaits c l.rcd.image then s.launchReady c l
        else if l.st == .ready && !l.checked && !l.stalled then s.readCount c l
        else s)

/-! ### Submission rings (R351) -/

/-- The indices that a tail makes readable; none for a tail that runs too far ahead (R351). -/
def Ring.upTo (r : Ring) (tail : Nat) : Option (List Nat) :=
  let n := (tail % 2 ^ 32 + 2 ^ 32 - r.head) % 2 ^ 32
  if r.slots < n then none else some ((List.range n).map fun k => (r.head + k) % 2 ^ 32)

/-- An entry of a ring in host memory. -/
def State.ringEntry (s : State) (r : Ring) (size idx : Nat) : List Byte :=
  lookups 0 s.mem.host (r.base.toNat + size * (idx % 2 ^ r.k)) size

/-- A submission queue's ring. -/
def Device.sqRing (d : Device) (q : Nat) : Ring := ((d.sq.find? fun x => x.1 == q).map Prod.snd).getD {}
def Device.setSq (d : Device) (q : Nat) (r : Ring) : Device := { d with sq := (q, r) :: d.sq.filter fun x => x.1 != q }

/-- The event of a skipped submission entry (R351, R355). -/
def skipEvent (ctx idx queue : Nat) : List Byte :=
  record 64 [(0, [1]), (1, [2]), (2, leBytes 2 ctx), (5, [7]), (8, leBytes 4 idx), (12, leBytes 1 queue)]

/-- The context of a submission entry, if it is live and the reserved bytes are zero (R351). A context that is ending is not
live (log 83). -/
def State.submitter (s : State) (bs : List Byte) : Option Context :=
  (s.context (field bs 8 2)).filter fun c => c.st != .ending && field bs 10 6 == 0

/-- The launch record of a submission entry lies on a page under invalidation: reading it waits (R133). -/
def State.submitWaits (s : State) (bs : List Byte) : Bool :=
  (s.submitter bs).any fun c => s.devWaits c (BitVec.ofNat 64 (field bs 0 8)) 128

/-- A submission entry read: a SUBMITTED launch, or skipped (R260, R351). -/
def State.submit (s : State) (q idx : Nat) (bs : List Byte) : State :=
  match s.submitter bs with
  | none => s.raise (skipEvent (field bs 8 2) idx q)
  | some c =>
    let (lid, s) := s.fresh
    let a := BitVec.ofNat 64 (field bs 0 8)
    let s := s.devSaw c a 128
    let r := { launchRec (s.devRead c a 128) with aligned := a.toNat % 64 == 0 }
    let l : Launch :=
      { lid := lid, ctx := c.num, origin := .host, sq := q, order := lid, st := .submitted, rcd := r, await := r.deps, cls := r.cls }
    { s with launches := s.launches ++ [l] }

/-- Entries of a submission ring read in order, the head with them, as far as the first whose record waits for a page (R133,
R351). -/
def State.readRing (q : Nat) : List Nat → State → State
  | [], s => s
  | i :: r, s =>
    let ring := s.dev.sqRing q
    let bs := s.ringEntry ring 16 i
    if s.submitWaits bs then s
    else State.readRing q r ((s.setDev (s.dev.setSq q { ring with head := (i + 1) % 2 ^ 32 })).submit q i bs)

/-- Every submission ring read on, after a page has come back. -/
def State.readRings (s : State) : State :=
  (s.dev.sq.map Prod.fst).foldl (fun s q =>
    let r := s.dev.sqRing q
    State.readRing q ((r.upTo r.tail).getD []) s) s

end Sys2Proof.Machine
end

