-- ==== Sys2Proof/Machine/Place.lean ====
section
/-!
DEFINITION. Placement: the room of quads and cores, clusters on rectangles of the mesh, and what a placed group holds
(R65, R66, R68, R126, R213, R245, R257 to R259, R267).
-/
namespace Sys2Proof.Machine

/-! ### Room (R257) -/

/-- The register rows and resident groups that a quad's teams hold. -/
def State.rowsUsed (s : State) (q : QuadId) : Nat × Nat :=
  let gs := s.groups.filter fun g => !g.status.isSpilled && (s.team g.team).any fun t => t.place == q
  ((gs.map Group.nregs).sum, gs.length)

/-- The teams that hold a footprint on a core. -/
def State.coreTeams (s : State) (die core : Nat) : List Team :=
  s.teams.filter fun t => !t.saved && t.place.die == die && t.place.core == core

/-- A contiguous free run of `need` bytes of a buffer, the lowest, beside the runs in use. -/
def freeRun (cap need : Nat) (used : List (Nat × Nat)) : Option Nat :=
  if need = 0 then some 0
  else (0 :: used.map fun u => u.1 + u.2).find? fun b =>
    decide (b + need ≤ cap) && used.all fun u => u.2 == 0 || decide (b + need ≤ u.1) || decide (u.1 + u.2 ≤ b)

/-- What a team asks of a core and quad (R257). -/
structure Foot where
  groups : Nat
  nregs : Nat
  abytes : Nat
  wbytes : Nat
  bars : Nat
  quires : Nat
  deriving DecidableEq, Repr

def LaunchRec.foot (r : LaunchRec) : Foot := ⟨r.groups, r.nregs, r.abytes, r.wbytes, r.bars, r.quires⟩

/-- The runs of a core's buffers that a footprint takes, if the core has room for all but its registers. -/
def State.coreRoom (s : State) (f : Foot) (die core : Nat) : Option (Nat × Nat) :=
  let ts := s.coreTeams die core
  if s.dev.badCores.contains (die, core) then none
  else if 256 < (ts.map Team.nbars).sum + f.bars ∨ 512 < (ts.map fun t => t.quires.length).sum + f.quires then none
  else match freeRun Config.abufBytes f.abytes (ts.map fun t => (t.abase, t.abytes)),
      freeRun Config.wbufBytes f.wbytes (ts.map fun t => (t.wbase, t.wbytes)) with
    | some a, some w => some (a, w)
    | _, _ => none

/-- A quad has the register rows and the places for resident groups. -/
def State.quadRoom (s : State) (f : Foot) (q : QuadId) : Bool :=
  let used := s.rowsUsed q
  decide (used.1 + f.groups * f.nregs ≤ 2048) && decide (used.2 + f.groups ≤ 32)

/-- The quads of a core on which a team fits. -/
def State.fitQuads (s : State) (f : Foot) (die core : Nat) : List QuadId :=
  if (s.coreRoom f die core).isNone then []
  else ((List.range 4).map fun k => (⟨die, core, k⟩ : QuadId)).filter (s.quadRoom f ·)

/-- Every team of a cluster fits on a rectangle at once. -/
def State.fitsAt (s : State) (r : LaunchRec) (p : Spot) : Bool :=
  (p.cores r.rows r.cols).all fun c => !(s.fitQuads r.foot p.die c).isEmpty

/-- Where the clusters of a launch may stand: a child on a core of its parent's rectangle where it fits, otherwise on
the parent's die; any other on the ready dies of its signature (R256, R258, R264). -/
def State.spots (s : State) (l : Launch) : List Spot :=
  let fits := fun (ps : List Spot) => ps.filter (s.fitsAt l.rcd ·)
  match l.parent.map s.cluster with
  | some (some p) =>
    let near := fits ((allSpots [p.die] 1 1).filter fun x =>
      decide (p.row ≤ x.row) && decide (x.row < p.row + p.rows) && decide (p.col ≤ x.col) && decide (x.col < p.col + p.cols))
    if near.isEmpty then fits (allSpots [p.die] 1 1) else near
  | some none => []
  | none => fits (allSpots l.dies l.rcd.rows l.rcd.cols)

/-- One of several alike places (log 22). -/
def pickFrom {α : Type} (step : Nat) (l : List α) : Option α := l[Config.pick step % l.length]?

/-! ### What a placed group holds (R68, R213, R245, R259) -/

/-- The records that a launch delivers to lanes, by record. -/
structure Cargo where
  recs : List (List Word) := []
  /-- v2 to v7 of an evaluator (R213) -/
  vals : List Word := []
  deriving DecidableEq, Repr

/-- The lanes that launch makes active: every lane, or one for each record (R245). -/
def Cargo.lanes (c : Cargo) : LaneSet := if c.recs.isEmpty then laneSet fun _ => true else laneSet fun i => decide (i < c.recs.length)

/-- Every lane of a group. -/
def allLanes : List Nat := List.range 64

/-- A group as placement leaves it. -/
def newGroup (l : Launch) (c : Cargo) (gid tid index cycle : Nat) : Group :=
  let n := l.rcd.nregs
  let g : Group :=
    { gid := gid, team := tid, index := index, cls := BitVec.ofNat 2 l.cls, sched := BitVec.ofNat 2 l.cls, nregs := n
      lanes := c.lanes, splits := [{ label := 0, pc := l.entry, lanes := c.lanes }], lineage := l.lineage
      ageFrom := cycle, since := cycle }
  let g := (g.writeLanes (n - 2) allLanes fun _ => lo32 l.rcd.arg).writeLanes (n - 1) allLanes fun _ => hi32 l.rcd.arg
  let g := (g.writeLanes (n - 3) allLanes fun _ => BitVec.ofNat 32 l.depth).writeLanes (n - 4) allLanes fun _ => BitVec.ofNat 32 l.clusters
  let g := (List.range c.vals.length).foldl (fun g k => g.writeLanes (2 + k) allLanes fun _ => c.vals.getD k 0) g
  (List.range 16).foldl (fun g k => g.writeLanes (1 + k) (List.range c.recs.length) fun i => (c.recs.getD i []).getD k 0) g

/-- A budget on a core where the context has had no team (R267). -/
def Context.openBudget (c : Context) (core scale : Nat) : Context :=
  if c.budgets.any fun b => b.1 == core then c else c.setBudget core (refillUnits c scale)

/-- A team placed on a quad: buffers zeroed, groups RESIDENT, and the acquire of its first issue (R74, R126, R257,
R260). -/
def State.placeTeam (s : State) (l : Launch) (cargo : Cargo) (cl : Cluster) (index : Nat) (q : QuadId) : State :=
  let base := (s.coreRoom l.rcd.foot q.die q.core).getD (0, 0)
  let (tid, s) := s.fresh
  let t : Team :=
    { tid := tid, ctx := l.ctx, launch := l.lid, cluster := cl.cid, index := index, place := q, origin := l.origin
      ngroups := l.rcd.groups, nregs := l.rcd.nregs, abytes := l.rcd.abytes, wbytes := l.rcd.wbytes, abase := base.1, wbase := base.2
      nbars := l.rcd.bars, quires := List.replicate l.rcd.quires {}, slots := l.rcd.slots, arg := l.rcd.arg, depth := l.depth
      nclusters := l.clusters, grid := l.rcd.grid }
  let first := s.nextId
  let s := { s with
    nextId := s.nextId + l.rcd.groups, teams := s.teams ++ [t]
    groups := s.groups ++ (List.range l.rcd.groups).map fun k => newGroup l cargo (first + k) tid k s.cycle }
  let s := match s.context l.ctx with
    | some c => s.setContext (c.openBudget (coreIdx q) s.dev.scale)
    | none => s
  s.setMem (s.mem.flash (coreIdx q))

/-- The teams of a cluster on its cores, each on a quad where it fits. -/
def State.placeTeams (s : State) (l : Launch) (cargo : Cargo) (cl : Cluster) : List (Nat × Nat) → State
  | [] => s
  | (index, core) :: r =>
    match pickFrom (s.free + index + 1) (s.fitQuads l.rcd.foot cl.die core) with
    | some q => State.placeTeams (s.placeTeam l cargo cl index q) l cargo cl r
    | none => s

/-- The next cluster of a launch placed on a rectangle; the launch is RUNNING (R258, R260). -/
def State.placeAt (s : State) (l : Launch) (cargo : Cargo) (p : Spot) : State :=
  let (cid, s) := s.fresh
  let cl : Cluster :=
    { cid := cid, launch := l.lid, index := ((l.parent.bind s.cluster).map Cluster.index).getD l.placed, die := p.die, row := p.row, col := p.col
      rows := l.rcd.rows, cols := l.rcd.cols }
  let cores := p.cores l.rcd.rows l.rcd.cols
  let s := { s with clusters := s.clusters ++ [cl] }
  (s.placeTeams l cargo cl ((List.range cores.length).zip cores)).setLaunch { l with st := .running, placed := l.placed + 1 }

/-- n clusters of a launch placed one after another on free choices of rectangle on some dies; none where one does not
fit. -/
def State.placeMany (lid : Nat) (cargo : Cargo) (dies : List Nat) : Nat → State → Option State
  | 0, s => some s
  | n + 1, s =>
    match s.launch lid with
    | none => none
    | some l => match pickFrom (s.free + 16 * n) ((s.spots l).filter fun p => dies.contains p.die) with
      | some p => State.placeMany lid cargo dies n (s.placeAt l cargo p)
      | none => none

/-- n clusters of a launch placed on some of a list of rectangles, by a full search: on its first, if they fit there, or
else on the others. -/
def State.placeSearch (lid : Nat) (cargo : Cargo) : Nat → List Spot → Nat → State → Option State
  | _, _, 0, s => some s
  | 0, _, _ + 1, _ => none
  | _, [], _ + 1, _ => none
  | f + 1, p :: rest, n + 1, s =>
    match s.launch lid with
    | none => none
    | some l =>
      match (if s.fitsAt l.rcd p then State.placeSearch lid cargo f (p :: rest) n (s.placeAt l cargo p) else none) with
      | some s => some s
      | none => State.placeSearch lid cargo f rest (n + 1) s

/-- What a launch places at once on some dies: every cluster under the grid-barrier flag, otherwise the next one (R224,
R258). The rectangles are free; where a free choice of them leaves no room for a grid that fits, a search finds it some
(log 22). -/
def State.placeNext (s : State) (dies : List Nat) (l : Launch) (cargo : Cargo) : Option State :=
  if l.rcd.grid then
    match State.placeMany l.lid cargo dies l.clusters s with
    | some s => some s
    | none =>
      let ps := (s.spots l).filter fun p => dies.contains p.die
      State.placeSearch l.lid cargo (l.clusters + ps.length) ps l.clusters s
  else State.placeMany l.lid cargo dies 1 s

end Sys2Proof.Machine
end

