-- ==== Sys2Proof/Machine/Kernel.lean ====
section
/-!
DEFINITION. The life of teams and launches: how groups, teams and launches end, fatal traps, trap entry as it runs, EXIT
and SPAWN (R86, R217, R225, R260, R264, R269, R272, R326, R331).
-/
namespace Sys2Proof.Machine

/-! ### Groups go (R74, R225) -/

/-- What waits on a group's behalf is dropped, and it is no longer the current one. -/
def State.dropGroup (s : State) (gid : Nat) : State :=
  { s with
    groups := s.groups.filter fun g => g.gid != gid
    waits := s.waits.filter fun w => match w.who with
      | .group g => g != gid
      | .pass g _ _ => g != gid
      | _ => true
    contexts := s.contexts.map fun c => { c with
      rwaits := c.rwaits.filter fun w => w.gid != gid
      queues := c.queues.map fun q => { q with parked := q.parked.filter (· != gid) } }
    cur := if s.cur == some gid then none else s.cur }

/-- The same; an RWAIT that is the oldest of its counter now ends if its target is reached (R306). -/
def State.forgetGroup (s : State) (gid : Nat) : State :=
  (s.contexts.flatMap fun c => (c.rwaits.filter fun w => w.gid == gid).map fun w => (c.num, w.counter)).foldl
    (fun s x => State.serveWaits x.1 x.2 (((s.context x.1).map fun c => c.rwaits.length).getD 0) s) (s.dropGroup gid)

/-- A group is gone: array, latch, waits, and its arrivals at every barrier (R185, R225). -/
def State.removeGroup (s : State) (gid : Nat) : State :=
  match s.quadOf gid with
  | none => s.forgetGroup gid
  | some q =>
    let s := (((s.drain (·.gid == gid)).releaseArray gid).forgetGroup gid).retestBarriers
    (s.arbitrate q).freeLatch q

/-! ### Teams and launches end -/

/-- A team leaves its core: its barriers, and the latch it holds, are free. -/
def State.dropTeam (s : State) (t : Team) : State :=
  { s with
    teams := s.teams.filter fun x => x.tid != t.tid
    barriers := s.barriers.filter fun b => !(b.level == 0 && b.owner == t.tid)
    arrays := s.arrays.map fun a => if a.latch.any fun l => l.team == t.tid then { a with latch := none } else a }

/-- A cluster without teams is over. -/
def State.dropCluster (s : State) (cid : Nat) : State :=
  if s.teams.any fun t => t.cluster == cid then s
  else { s with
    clusters := s.clusters.filter fun c => c.cid != cid
    barriers := s.barriers.filter fun b => !(b.level == 1 && b.owner == cid) }

/-- A launch leaves the machine. -/
def State.dropLaunch (s : State) (lid : Nat) : State :=
  { s with
    launches := s.launches.filter fun l => l.lid != lid
    barriers := s.barriers.filter fun b => !(b.level == 2 && b.owner == lid) }

/-- A chunk entry freed (R326). -/
def State.freeChunk (s : State) (ctx offset : Nat) : State :=
  match s.context ctx with
  | none => s
  | some c => s.setContext { c with chunks := c.chunks.filter fun e => e.offset != offset }

/-- A record's combine has ended normally: its result is counted and its entry is free (R326, R331). -/
def State.combineDone (s : State) (ctx : Nat) (r : CombineRec) : State :=
  match (s.context ctx).bind fun c => c.chunks.find? fun e => e.offset == r.offset with
  | some e => (s.freeChunk ctx r.offset).count ctx e.counter e.len
  | none => s

/-- A record's combine did not count (R326, R355 kind 0x13). -/
def State.combineLost (s : State) (ctx : Nat) (cause : Byte) (r : CombineRec) : State :=
  (s.freeChunk ctx r.offset).raise (portEvent 4 ctx cause 0xFF 0 (pair (r.words.getD 0 0) (r.words.getD 1 0)) 0 0)

/-- A launch is over, normally or by a fatal trap or end command: what its end does for who launched it (R217, R260,
R264, R272, R326). -/
def State.endLaunch (s : State) (l : Launch) (status cause : Byte) : State :=
  match l.origin with
  | .host => (s.dropLaunch l.lid).completeLaunch l status
  | .child p seq => (s.dropLaunch l.lid).onGroup p fun g => g.complete seq none
  | .gathering _ => s.dropLaunch l.lid
  | .evaluator id => (s.dropLaunch l.lid).endEval id 1
  | .combine _ =>
    (l.recs.foldl (fun s r => if status == 0 then s.combineDone l.ctx r else s.combineLost l.ctx cause r) (s.dropLaunch l.lid)).drainPort

/-- A team whose last group is gone ends; with the last team of its last cluster its launch does (R86, R260). -/
def State.endTeam (s : State) (t : Team) : State :=
  let s := (s.dropTeam t).dropCluster t.cluster
  match s.launch t.launch with
  | none => s
  | some l => if l.placed == l.clusters && !(s.teams.any fun x => x.launch == l.lid) then s.endLaunch l 0 0 else s

/-- A group has exited (R86). -/
def State.exitGroup (s : State) (gid : Nat) : State :=
  match (s.group gid).bind fun g => s.team g.team with
  | none => s
  | some t =>
    let s := s.removeGroup gid
    if s.groups.any fun g => g.team == t.tid then s else s.endTeam t

/-! ### Ending units (R272) -/

/-- The launch that a group belongs to. -/
def State.launchOf (s : State) (gid : Nat) : Option Launch := ((s.group gid).bind fun g => s.team g.team).bind fun t => s.launch t.launch

/-- The launch at the root of a chain of children. -/
def State.rootOf (s : State) : Nat → Launch → Launch
  | 0, l => l
  | f + 1, l => match l.origin with
    | .child p _ => match s.launchOf p with
      | some x => State.rootOf s f x
      | none => l
    | _ => l

/-- The groups of some launches. -/
def State.groupsOf (s : State) (lids : List Nat) : List Nat :=
  (s.groups.filter fun g => (s.team g.team).any fun t => lids.contains t.launch).map Group.gid

/-- Launches with every descendant, to a depth of 4 (R264, R272). -/
def State.withChildren (s : State) : Nat → List Nat → List Nat
  | 0, lids => lids
  | f + 1, lids =>
    let gids := s.groupsOf lids
    let more := (s.launches.filter fun l => match l.origin with
      | .child p _ => gids.contains p && !lids.contains l.lid
      | _ => false).map Launch.lid
    State.withChildren s f (lids ++ more)

/-- The passes of some groups end (R272). -/
def State.dropPasses (s : State) (gids : List Nat) : State :=
  let keep := fun (p : Pass) => !gids.contains p.gid
  { s with arrays := s.arrays.map fun a =>
      let gone := a.posted.any fun p => p.running && gids.contains p.gid
      { a with
        posted := a.posted.filter keep, segs := a.segs.filter keep
        stopping := a.stopping && !gone, limit := a.limit && !gone } }

/-- Some launches ended with all their groups: engine commands and passes are abandoned, every group goes as if it had
exited, and then each launch ends, children before parents (R272). -/
def State.endUnits (s : State) (lids : List Nat) (status cause : Byte) : State :=
  let gids := s.groupsOf lids
  let quads := gids.filterMap s.quadOf
  let ls := s.launches.filter fun l => lids.contains l.lid
  let ts := s.teams.filter fun t => lids.contains t.launch
  let s := (s.abandonEngines gids).dropPasses gids
  let s := gids.foldl State.removeGroup s
  let s := quads.foldl State.resettle s
  let s := ts.foldl (fun s t => (s.dropTeam t).dropCluster t.cluster) s
  ls.reverse.foldl (fun s l => s.endLaunch l status cause) s

/-- A fatal trap (R272): the event record, then the end of the unit that holds the group. -/
def State.fatal (s : State) (gid : Nat) : State :=
  match s.group gid, s.launchOf gid with
  | some g, some l =>
    match g.resume with
    | some r =>
      (s.raise (s.trapRecord 0x10 g r)).endUnits (s.withChildren 4 [(s.rootOf 4 l).lid]) 1 r.info.cause
    | none => s
  | _, _ => s

/-! ### Trap entry as it runs (R269, R276) -/

/-- Step 3 of trap entry: ownership and reservation released (R185, R269). -/
def State.letGo (s : State) (gid : Nat) : State :=
  match s.quadOf gid with
  | some q => (s.releaseArray gid).arbitrate q
  | none => s

/-- A forwarded trap replayed: the group issues again at EPC with no handler run (R276). -/
def State.replayTrap (s : State) (gid : Nat) : State :=
  s.onGroup gid fun g => match g.resume.bind Resume.clause with
    | some cl => g.resumeInside cl s.cycle
    | none => { g with
        status := .resident, window := false, interval := true, resume := none, entry := .none, since := s.cycle, ageFrom := s.cycle }

/-- TRAP_ENTRY (R269, R276). -/
def execTrapEntry (s : State) : Host.Outcome State Fault Refusal :=
  .next (s.whenLive s.ev.g fun s g => match g.entry with
    | .raised => s.trapEntry State.letGo State.fatal g.gid
    | .replied true => s.replayTrap g.gid
    | .replied false => s.enterTrap State.letGo State.fatal g.gid
    | _ => s)

/-! ### EXIT (R86) -/

/-- What an EXIT of the last live split still waits for is its bound ports alone (log 25). -/
def Group.onlyPorts (g : Group) : Bool :=
  g.drained && g.counter .fab == 0 && g.counter .spn == 0 &&
    g.ops.all fun o => o.done || (o.cls == .cpy && g.ports.any fun p => p.cmd == o.ref)

/-- EXIT: the waits, the deferred faults earliest first, then the split's end (R86). The ports end only where no split
remains, one that a SERIAL join would revive included. -/
def Issue.exit (I : Issue) : Eff :=
  if !I.g.quiet then
    if (I.g.exitSplit I.sp).splits.isEmpty && !I.g.ports.isEmpty && I.g.onlyPorts then
      .park (I.g.ports.foldl (fun s p => s.endPort I.g.gid p) I.s) .retry
    else .park I.s .retry
  else match I.g.takeFault fun _ => true with
    | some (i, g) => .trap (I.s.setGroup g) i
    | none =>
      let g := (I.g.exitSplit I.sp).closeClause I.cl I.s.cycle
      if g.splits.isEmpty then .settled (I.s.exitGroup I.g.gid) else .settled (I.s.setGroup g)

def execExit (o : CtlOp) (s : State) : Host.Outcome State Fault Refusal := ctlInstr (.exit o) Issue.exit s

/-! ### SPAWN (R264) -/

/-- The descriptor of a child. -/
def Issue.spawnDesc (I : Issue) (o : CtlOp) : Addr := I.xpair 0 o.w.a I.lane0

/-- A reserved bit set, or a field beyond its range (R264). -/
def badSpawn (d : Addr) : Bool :=
  d.extractLsb' 62 2 != 0 || d.extractLsb' 45 3 != 0 || d.extractLsb' 21 11 != 0 || d.getLsbD 7 ||
    decide (8192 < (d.extractLsb' 48 14).toNat) || decide (4096 < (d.extractLsb' 32 13).toNat) ||
    decide (16 < (d.extractLsb' 14 5).toNat) || decide (32 < (d.extractLsb' 8 6).toNat)

/-- The launch record that a descriptor stands for: one cluster of one team. -/
def spawnRec (d arg : Addr) (slots : List Word) : LaunchRec :=
  { image := 0, arg := arg, colophon := 0, countAddr := 0, count := 1, rows := 1, cols := 1
    groups := (d.extractLsb' 0 4).toNat + 1, regs16 := (d.extractLsb' 4 3).toNat + 1, quires := (d.extractLsb' 8 6).toNat
    bars := (d.extractLsb' 14 5).toNat, flags := 0, abytes := 128 * (d.extractLsb' 32 13).toNat
    wbytes := 128 * (d.extractLsb' 48 14).toNat, slots := slots, deps := [], event := 0, reserved := false }

/-- A ready child (R264). -/
def Issue.child (I : Issue) (o : CtlOp) (lid : Nat) : Launch :=
  let d := I.spawnDesc o
  { lid := lid, ctx := I.c.num, origin := .child I.g.gid I.g.nextSeq, ready := I.s.cycle, st := .ready
    rcd := spawnRec d (I.xpair 0 o.w.b I.lane0) I.t.slots, cls := min (d.extractLsb' 19 2).toNat I.c.ceiling
    entry := I.target o.imm, dies := [I.t.place.die], clusters := 1, depth := I.t.depth + 1, lineage := I.g.lineage
    parent := some I.t.cluster, checked := true }

/-- SPAWN (R264). -/
def Issue.spawn (I : Issue) (o : CtlOp) : Eff :=
  if badSpawn (I.spawnDesc o) then I.trap ILLEGAL_ENCODING
  else if I.t.depth = 4 then I.trap SPAWN_DEPTH
  else
    let (lid, s) := I.s.fresh
    let s := { s with launches := s.launches ++ [I.child o lid] }
    .goto (s.onGroup I.g.gid fun g => g.addOp { seq := 0, cls := .spn, ref := lid, acquire := true }) I.next

def execSpawn (o : CtlOp) (s : State) : Host.Outcome State Fault Refusal :=
  ctlInstr (.spawn o) (fun I => (I.releasing true).spawn o) s

end Sys2Proof.Machine
end

