-- ==== Sys2Proof/Machine/Queue.lean ====
section
/-!
DEFINITION. Node input queues and combine queues: records, gatherings, ENQ, closing (R238 to R246, R327).
-/
namespace Sys2Proof.Machine

/-! ### Records and gatherings -/

/-- A context's queue of a number. -/
def Context.queue (c : Context) (n : Nat) : Option NodeQueue := c.queues.find? fun q => q.num == n
def Context.setQueue (c : Context) (q : NodeQueue) : Context := { c with queues := replace (fun x => x.num == q.num) q c.queues }

/-- A queue of a context in the machine. -/
def State.queueOf (s : State) (ctx n : Nat) : Option (Context × NodeQueue) :=
  (s.context ctx).bind fun c => (c.queue n).map fun q => (c, q)

/-- Entries that hold no record (R241). -/
def NodeQueue.free (q : NodeQueue) : Nat := q.capacity - (q.recs.length + (q.gatherings.map fun g => g.recs.length).sum)

/-- DRAINING or CLOSED (R243). -/
def NodeQueue.ended (q : NodeQueue) : Bool := q.closing || q.closed

/-- The launch that a node kernel's or combine kernel's record gives, once checked (R248, R260, R378). -/
def State.nodeLaunch (s : State) (c : Context) (r : LaunchRec) (p : Prepared) (lid : Nat) (origin : Origin) : Launch :=
  { lid := lid, ctx := c.num, origin := origin, ready := s.cycle, st := .ready, rcd := r.unit, cls := min r.cls c.ceiling
    entry := p.entry, variant := some p.variant, dies := p.dies, clusters := 1, checked := true }

/-- A gathering of the oldest n undispatched records: it awaits placement, or is refused (R242, R243). While the kernel's
record or image lies on a page under invalidation none forms (R133). -/
def State.formOne (s : State) (ctx qn n : Nat) : State :=
  match s.queueOf ctx qn with
  | none => s
  | some (c, q) =>
    if s.kernelWaits c q.kernel then s else
    let r := launchRec (s.devRead c q.kernel 128)
    let s := s.kernelSaw c q.kernel
    match s.prepareUnit c r r.unit .node s.dev.signature none with
    | .error code =>
      (s.setContext (c.setQueue { q with recs := q.recs.drop n })).raise (portEvent 5 ctx code 0xFF qn 0 (min n q.recs.length) 0)
    | .ok p =>
      let (lid, s) := s.fresh
      let q := { q with recs := q.recs.drop n, gatherings := q.gatherings ++ [⟨q.recs.take n, lid⟩] }
      let s := s.setContext (c.setQueue q)
      { s with launches := s.launches ++ [s.nodeLaunch c r p lid (.gathering qn)] }

/-- The count rule: gatherings of the coalescing count, while so many records remain (R242). -/
def State.formFull (ctx qn : Nat) : Nat → State → State
  | 0, s => s
  | f + 1, s =>
    match s.queueOf ctx qn with
    | none => s
    | some (_, q) => if q.coalesce ≤ q.recs.length then State.formFull ctx qn f (s.formOne ctx qn q.coalesce) else s

/-- A record appended, and the gatherings that it completes (R241, R242). -/
def State.appendRec (s : State) (ctx qn : Nat) (ws : List Word) : State :=
  match s.queueOf ctx qn with
  | none => s
  | some (c, q) => State.formFull ctx qn 2 (s.setContext (c.setQueue { q with recs := q.recs ++ [⟨ws, s.cycle⟩] }))

/-- QUEUE_TIMEOUT (R242). -/
def execQueueTimeout (s : State) : Host.Outcome State Fault Refusal :=
  .next (match s.queueOf s.ev.ctx s.ev.queue with
    | none => s
    | some (c, q) =>
      match q.recs with
      | r :: _ =>
        if q.timeout ≠ 0 ∧ r.at' + q.timeout * Config.cyclesPerUs ≤ s.cycle ∧ !q.ended ∧ c.st != .ending then
          s.formOne c.num q.num q.recs.length
        else s
      | [] => s)

/-- A DRAINING queue whose last gathering has gone is CLOSED, and its close command completes (R243). -/
def State.settleQueue (s : State) (ctx qn : Nat) : State :=
  match s.queueOf ctx qn with
  | none => s
  | some (c, q) =>
    if q.closing && !q.closed && q.gatherings.isEmpty && q.recs.isEmpty then
      (s.setContext (c.setQueue { q with closed := true })).raise (completionEvent 0 ctx 0x17 0 q.closeTag)
    else s

/-- A queue closed by the driver (R243). -/
def State.closeQueue (s : State) (c : Context) (q : NodeQueue) (tag : Addr) : State :=
  let s := s.setContext (c.setQueue { q with closing := true, closeTag := tag })
  (if q.recs.isEmpty then s else s.formOne c.num q.num q.recs.length).settleQueue c.num q.num

/-- A queue goes on after a page has come back: the gatherings that had to wait (R133, R242, R243). -/
def State.regather (s : State) (ctx qn : Nat) : State :=
  let n := ((s.queueOf ctx qn).map fun x => x.2.recs.length).getD 0
  let s := State.formFull ctx qn n s
  match s.queueOf ctx qn with
  | none => s
  | some (c, q) => if q.closing && !q.recs.isEmpty then (s.formOne c.num q.num q.recs.length).settleQueue c.num q.num else s

/-- The device's own reads that waited for a page of a context: submission rings, gatherings (R133). Those of a launch, of an
evaluation record and of a dependence word are made again by their own events. -/
def State.pageBack (s : State) (ctx : Nat) : State :=
  ((((s.context ctx).map Context.queues).getD []).map NodeQueue.num).foldl (fun s q => s.regather ctx q) s.readRings

/-! ### ENQ (R246) -/

/-- The queue number, as a uniform value. -/
def Issue.enqNumber (I : Issue) (o : XferOp) : Word := I.xbar o.w.xa o.w.a (I.laneU o.w.m)

/-- A register of the record range is bound as a queue port (R246). -/
def badRecords (o : XferOp) (I : Issue) : Bool := (List.range 16).any fun k => (I.g.port (o.w.b.toNat + k)).isSome

/-- The record of a lane. -/
def Issue.enqRecord (I : Issue) (o : XferOp) (i : Nat) : List Word := (List.range 16).map fun k => I.g.read (o.w.b.toNat + k) i

/-- A trap of an ENQ at its queue number (R246). -/
def Issue.enqTrap (I : Issue) (cause : Byte) (n : Word) : Eff := .trap I.s { cause := cause, addr := n.setWidth 64 }

/-- Records appended while the queue has a free entry: the machine, and the records that remain. -/
def State.appendAll (ctx qn : Nat) : List (List Word) → State → State × List (List Word)
  | [], s => (s, [])
  | ws :: r, s =>
    match s.queueOf ctx qn with
    | none => (s, ws :: r)
    | some (_, q) => if q.free = 0 then (s, ws :: r) else State.appendAll ctx qn r (s.appendRec ctx qn ws)

/-- A group's place among the ENQs that hold records still to append. -/
def State.parkEnq (s : State) (ctx qn gid : Nat) (on : Bool) : State :=
  match s.queueOf ctx qn with
  | none => s
  | some (c, q) =>
    let rest := q.parked.filter (· != gid)
    s.setContext (c.setQueue { q with parked := if on then (if q.parked.contains gid then q.parked else rest ++ [gid]) else rest })

/-- The records of the mask-on lanes, in lane order. -/
def Issue.enqRecords (I : Issue) (o : XferOp) : List (List Word) := (lanesOf (I.maskOn o.w.m)).map (I.enqRecord o)

/-- A blocking ENQ with records still to append, behind older parked ENQs of the queue (R246). What it has read stays with
it while it is parked. -/
def Issue.enqBlock (I : Issue) (rs : List (List Word)) (q : NodeQueue) : Eff :=
  let held := !(q.parked.takeWhile (· != I.g.gid)).isEmpty
  let (s, left) := if held then (I.s, rs) else State.appendAll I.c.num q.num rs I.s
  if left.isEmpty then .done (s.parkEnq I.c.num q.num I.g.gid false)
  else .park ((s.parkEnq I.c.num q.num I.g.gid true).onGroup I.g.gid fun g =>
    { g with enqDone := g.enqDone + (rs.length - left.length), enq := some (q.num, left) }) .enq

/-- ENQ with try: every record or none, and CC.Z of the split (R246). -/
def Issue.enqAll (I : Issue) (rs : List (List Word)) (q : NodeQueue) : Eff :=
  let room := decide (rs.length ≤ q.free) && q.parked.isEmpty
  let s := if room then (State.appendAll I.c.num q.num rs I.s).1 else I.s
  .done (s.onGroup I.g.gid fun g => g.setZ I.sp.label room)

/-- ENQ to a queue number: the queue's checks, then an append (R246). -/
def Issue.enqTo (I : Issue) (n : Word) (append : NodeQueue → Eff) : Eff :=
  match I.c.queue n.toNat with
  | none => I.enqTrap SOFTWARE n
  | some q => if q.ended then I.enqTrap QUEUE_DEAD n else append q

/-- An ENQ that was parked goes on with what it has read (R246). -/
def Issue.enqGoOn (I : Issue) (i : Instr) (n : Nat) (rs : List (List Word)) : Eff :=
  (I.enqTo (BitVec.ofNat 32 n) (I.enqBlock rs)).after fun s => s.onGroup I.g.gid fun g => g.usePorts (I.readsOf i)

/-- ENQ (R246): a release at device scope, made before its first record is appended (R162). One taken up again after a
trap leaves out the records already appended. -/
def execEnq (o : XferOp) (s : State) : Host.Outcome State Fault Refusal :=
  runInstr (.enq o) (fun I => match I.g.enq with
    | some (n, rs) => I.enqGoOn (.enq o) n rs
    | none => prologue (.enq o) (badRecords o) never (withWaits (.enq o) fun I =>
        let I := I.releasing true
        I.enqTo (I.enqNumber o) (I.enqBlock ((I.enqRecords o).drop I.g.enqDone))) I) s

/-- ENQ with try (R246). -/
def execEnqTry (o : XferOp) (s : State) : Host.Outcome State Fault Refusal :=
  runInstr (.enqTry o) (prologue (.enqTry o) (badRecords o) never (withWaits (.enqTry o) fun I =>
    let I := I.releasing true
    I.enqTo (I.enqNumber o) (I.enqAll (I.enqRecords o)))) s

/-- A parked ENQ may go on: its queue has ended, or has a free entry and no older parked ENQ (R246). -/
def Context.enqMay (c : Context) (gid : Nat) : Bool :=
  c.queues.any fun q => q.parked.contains gid && (q.ended || (q.parked.head? == some gid && decide (0 < q.free)))

/-- ENQ_RESUME (R246): the group leaves its wait, and its ENQ goes on, or traps QUEUE_DEAD, when it issues again. -/
def execEnqResume (s : State) : Host.Outcome State Fault Refusal :=
  .next (s.whenLive s.ev.g fun s g => match g.status, s.home g with
    | .parked .enq, some (_, c) => if c.enqMay g.gid then s.setGroup (g.unpark s.cycle) else s
    | _, _ => s)

/-! ### Combine queues (R327) -/

/-- A combine gathering of a die awaits placement. -/
def State.combineWaits (s : State) (ctx die : Nat) : Bool :=
  s.launches.any fun l => l.ctx == ctx && l.origin == .combine die && l.placed == 0

/-- COMBINE_GATHERING (R327): every undispatched record of the die, up to W. -/
def execCombineGathering (s : State) : Host.Outcome State Fault Refusal :=
  .next (match s.context s.ev.ctx with
    | none => s
    | some c =>
      let mine := (c.combines.filter fun r => r.die == s.ev.die).take Config.width
      if mine.isEmpty || s.combineWaits c.num s.ev.die || c.st == .ending || s.kernelWaits c c.combine then s
      else
        let s := (s.setContext { c with combines := c.combines.filter fun r => !mine.any fun x => x.seq == r.seq }).kernelSaw c c.combine
        let r := launchRec (s.devRead c c.combine 128)
        match s.prepareUnit c r r.unit .node s.dev.signature (some s.ev.die) with
        | .error code => (mine.foldl (fun s x => s.combineLost c.num code x) s).drainPort
        | .ok p =>
          let (lid, s) := s.fresh
          let l := s.nodeLaunch c r p lid (.combine s.ev.die)
          { s with launches := s.launches ++ [{ l with recs := mine }] })

end Sys2Proof.Machine
end

