-- ==== Sys2Proof/Machine/Eval.lean ====
section
/-!
DEFINITION. Evaluators: the check of a deferral record, making room by spilling, the endpaper's header, placing the
evaluator's team, and reloading spilled groups (R205, R212 to R217, R249, R279).
-/
namespace Sys2Proof.Machine

/-! ### The endpaper (R279) -/

/-- Bytes of a group record with its registers. -/
def Group.savedBytes (g : Group) : Nat := 2048 + 4 * g.nregs * Config.width

/-- A team's record beside its groups': its buffers, and a latch image. -/
def Team.savedBytes (t : Team) (latch : Bool) : Nat := 512 + t.abytes + t.wbytes + (if latch then 16448 else 0)

/-- A team holds its quad's latch. -/
def State.holdsLatch (s : State) (t : Team) : Bool := (s.array t.place).latch.any fun l => l.team == t.tid

/-- What a context keeps in the endpaper for teams with spilled groups: team records, and bytes in use. -/
def State.spillUse (s : State) (ctx : Nat) : Nat × Nat :=
  let ts := s.teams.filter fun t => t.ctx == ctx && s.groups.any fun g => g.team == t.tid && g.status.isSpilled
  let teamBytes := fun (t : Team) => if t.saved then t.savedBytes (s.holdsLatch t) else 512
  let gs := s.groups.filter fun g => g.status.isSpilled && ts.any fun t => t.tid == g.team
  (ts.length, 64 + (ts.map teamBytes).sum + (gs.map Group.savedBytes).sum)

/-- The header's fields written, under the primary key (R266, R279). -/
def State.putHeader (s : State) (c : Context) (st teams used cycle : Nat) : State :=
  s.physWrite c.endBase (record 64 [(0, leBytes 4 st), (4, leBytes 4 teams), (8, leBytes 8 used), (16, leBytes 8 cycle)])
    (some (s.slotKey c.key))

/-- Bytes that the spec leaves open. -/
def freeBytes (f n : Nat) : List Byte := (List.range n).map fun k => (Config.freeWord (f + k)).setWidth 8

/-- A group record: 2048 B of the device's own format, which are free, and the registers, one register's lanes after the
other's (R279; log 18). -/
def Group.recordBytes (g : Group) (f : Nat) : List Byte :=
  freeBytes f 2048 ++ (List.range g.nregs).flatMap fun v =>
    (List.range Config.width).flatMap fun i => leBytes 4 (lookup 0 g.regs (regKey v i)).toNat

/-- A latch image: 64 B of the device's own format, and the latch's bytes (R279; log 18). -/
def Latch.image (l : Latch) (f : Nat) : List Byte := freeBytes f 64 ++ lookups 0 l.data 0 16384

/-- A team record: 512 B of the device's own format, the buffers' bytes, and the latch image of a team that holds the latch
(R279; log 18). -/
def Team.recordBytes (t : Team) (latch : Option Latch) (f : Nat) : List Byte :=
  freeBytes f 512 ++ lookups 0 t.abuf 0 t.abytes ++ lookups 0 t.wbuf 0 t.wbytes ++ ((latch.map (Latch.image · f)).getD [])

/-- The team and group records written behind the header, under the primary key (R266, R279). -/
def State.putRecords (s : State) (c : Context) (bs : List Byte) : State :=
  s.physWrite (c.endBase + 64) bs (some (s.slotKey c.key))

/-- The records of a context's teams with spilled groups: a team's buffers and latch once its footprint is freed (R215,
R279). -/
def State.spilledBytes (s : State) (ctx : Nat) : List Byte :=
  (s.teams.filter fun t => t.ctx == ctx).flatMap fun t =>
    let gs := s.groups.filter fun g => g.team == t.tid && g.status.isSpilled
    if gs.isEmpty then []
    else (if t.saved then t.recordBytes ((s.array t.place).latch.filter fun l => l.team == t.tid) s.free else freeBytes s.free 512) ++
      gs.flatMap (Group.recordBytes · s.free)

/-- The header as spilled groups leave it; CYCLE is that of the last save. -/
def State.spillHeader (s : State) (ctx cycle : Nat) : State :=
  match s.context ctx with
  | none => s
  | some c =>
    let (n, used) := s.spillUse ctx
    s.putHeader c (if n = 0 then 0 else 1) n used cycle

/-- A save of spilled groups: the records, then the header. -/
def State.spillRecords (s : State) (ctx : Nat) : State :=
  match s.context ctx with
  | none => s
  | some c => (s.putRecords c (s.spilledBytes ctx)).spillHeader ctx s.cycle

/-- CYCLE at the last save, as the header holds it; free where an error hides it (R357; log 27). -/
def State.lastSave (s : State) (c : Context) : Nat :=
  ofLe (if s.unitBad (c.endBase / 64) then freeBytes s.free 8 else s.mem.see s.free (s.slotKey c.key) (c.endBase + 16) 8)

/-! ### Spilling (R215) -/

/-- Cells that a wait is for, whether or not the wait table had room for them (R211). -/
def Wait.cells : Wait → Option (List Nat)
  | .cell us => some us
  | .tableFull _ us => some us
  | _ => none

/-- A group may be spilled: parked on a cell, on the die, in an ACTIVE context. -/
def State.spillable (s : State) (die : Nat) (g : Group) : Bool :=
  (match g.status with | .parked w => w.cells.isSome | _ => false) && (s.home g).any fun h => h.1.place.die == die

/-- The group that is spilled next: the lowest class, then the one that parked earliest. -/
def State.nextSpill (s : State) (die : Nat) : Option Group :=
  best (fun x y => decide (x.sched < y.sched) || (x.sched == y.sched && decide (x.since < y.since))) (s.groups.filter (s.spillable die ·))

/-- A group's running pass is suspended, and its array is offered to others; a segment that runs on the vector path is held
at its step (R186, R198, R278). -/
def State.stopArray (s : State) (gid : Nat) : State :=
  match s.quadOf gid with
  | none => s
  | some q =>
    let s := ((s.array q).segs.filter fun p => p.vec && p.gid == gid && p.running).foldl (fun s p => s.holdPass q p []) s
    match (s.array q).posted.find? fun p => p.gid == gid && p.running with
    | some p => s.suspend q p []
    | none => s

/-- The group's ownership of an array ends once its posted passes have ended (R185). -/
def QArray.leave (a : QArray) (gid : Nat) : QArray :=
  { a with owner := a.owner.map fun o => if o.who == .group gid then { o with leaving := true } else o }

/-- A group spilled, and its team's footprint freed with its last group (R215). It gives up the array once its posted
passes have ended (R185). -/
def State.spill (s : State) (g : Group) : State :=
  let s := s.setGroup { g with
    status := match g.status with | .parked w => .spilled w | x => x
    window := false, interval := true }
  let s := match s.quadOf g.gid with
    | some q => (s.setArray ((s.array q).leave g.gid)).resettle q
    | none => s
  match s.team g.team with
  | none => s
  | some t =>
    let all := s.groups.all fun x => x.team != t.tid || x.status.isSpilled
    let s := if all then s.setTeam { t with saved := true } else s
    s.spillRecords t.ctx

/-- A spill that its endpaper holds (R279). -/
def State.trySpill (s : State) (g : Group) : Option State :=
  let t := s.spill g
  match (t.team g.team).bind fun x => t.context x.ctx with
  | some c => if (t.spillUse c.num).2 ≤ c.endSize then some t else none
  | none => none

/-! ### Launching an evaluator (R213) -/

/-- The fields of a deferral record (R205). -/
structure Deferral where
  kernel : Addr
  arg : Addr
  team : Nat
  cls : Nat
  hint : Nat
  ok : Bool
  deriving DecidableEq, Repr

/-- A deferral record; a hint without bit 15 names no core (log 36). -/
def deferral (bs : List Byte) : Deferral :=
  let kernel := BitVec.ofNat 64 (field bs 0 8)
  let hint := field bs 20 2
  { kernel := kernel, arg := BitVec.ofNat 64 (field bs 8 8), team := field bs 18 1, cls := field bs 19 1, hint := hint
    ok := field bs 63 1 == 1 && (bs.drop 24).take 39 == List.replicate 39 0 && bits hint 7 8 == 0 && decide (field bs 19 1 ≤ 3) &&
      decide (1 ≤ field bs 18 1 ∧ field bs 18 1 ≤ 16) && kernel.toNat % 64 == 0 }

/-- What an evaluation record comes to: its launch and the places where it may stand first, or the cause at which its
extent ends. -/
def State.evalLaunch (s : State) (c : Context) (e : Eval) (lid : Nat) : Except Byte (Launch × List Spot × Cargo) :=
  let d := deferral (s.mem.unit e.head)
  if !d.ok then .error 2
  else
    let r := launchRec (s.devRead c d.kernel 128)
    match s.prepareUnit c r { r.unit with groups := d.team } .evaluator e.sig (some e.die) with
    | .error code => .error code
    | .ok p =>
      let l := s.nodeLaunch c { r with groups := d.team } p lid (.evaluator e.id)
      let l := { l with
        cls := min (max e.cls (max d.cls c.evalClass)) c.ceiling
        lineage := (e.lineage <<< 16) ||| BitVec.ofNat 64 e.id }
      let hint := if d.hint.testBit 15 then [⟨e.die, d.hint % 128 / 16, d.hint % 16⟩] else []
      let vals := [lo32 e.headVa, hi32 e.headVa, lo32 d.arg, hi32 d.arg, BitVec.ofNat 32 e.len, BitVec.ofNat 32 e.id]
      .ok (l, hint, { vals := vals })

/-- The kernel of an evaluation record, or its image, lies on a page under invalidation: its launch waits (R133). -/
def State.evalWaits (s : State) (e : Eval) : Bool :=
  let d := deferral (s.mem.unit e.head)
  d.ok && (s.context e.ctx).any fun c => s.kernelWaits c d.kernel

/-- Where an evaluator's team fits: the hinted core, else any of the home die (R213). -/
def State.evalSpots (s : State) (l : Launch) (hint : List Spot) : List Spot :=
  let near := hint.filter (s.fitsAt l.rcd ·)
  if near.isEmpty then s.spots l else near

/-- An evaluator's team placed where it fits. -/
def State.placeEval (s : State) (e : Eval) (l : Launch) (hint : List Spot) (cargo : Cargo) : Option State :=
  (pickFrom s.free (s.evalSpots l hint)).map fun p =>
    let s := { s with
      nextId := s.nextId + 1, launches := s.launches ++ [l]
      evals := s.evals.map fun (x : Eval) => if x.id == e.id then { x with queued := false } else x }
    s.placeAt l cargo p

/-- Groups spilled one at a time until the evaluator fits (R215). -/
def State.makeRoom (e : Eval) (l : Launch) (hint : List Spot) (cargo : Cargo) : Nat → State → State × Bool
  | 0, s => (s, false)
  | f + 1, s =>
    match s.placeEval e l hint cargo with
    | some s => (s, true)
    | none => match (s.nextSpill e.die).bind s.trySpill with
      | some s => State.makeRoom e l hint cargo f s
      | none => (s, false)

/-- A collective of the context is in flight on a die (R249). -/
def State.collectiveOn (s : State) (ctx die : Nat) : Bool :=
  s.fabric.any fun o => o.ctx == ctx && o.collective && o.place.die == die

/-- A launch that goes first in its class on a die while a collective is in flight there (R249). -/
def State.lightNow (s : State) (die : Nat) (l : Launch) : Bool := l.rcd.light && s.collectiveOn l.ctx die

/-- The order within a kind, on a die: class, the light-memory rule, then the time of becoming ready (R249). -/
def State.sooner (s : State) (die : Nat) (x y : Launch) : Bool :=
  decide (y.cls < x.cls) || (x.cls == y.cls &&
    ((s.lightNow die x && !s.lightNow die y) || (s.lightNow die x == s.lightNow die y &&
      (decide (x.ready < y.ready) || (x.ready == y.ready && decide (x.lid < y.lid))))))

/-- The order of evaluation records: those that will be refused first. -/
def State.evalBefore (s : State) (x y : Eval) : Bool :=
  let launch := fun (e : Eval) => (s.context e.ctx).bind fun c => match s.evalLaunch c e 0 with
    | .ok l => some { l.1 with ready := e.ready }
    | .error _ => none
  match launch x, launch y with
  | none, some _ => true
  | some l, some k => s.sooner x.die l k
  | _, none => false

/-- A list in an order, equals as they stand. -/
def insertBy {α : Type} (before : α → α → Bool) (x : α) : List α → List α
  | [] => [x]
  | y :: r => if before y x then y :: insertBy before x r else x :: y :: r

def sortBy {α : Type} (before : α → α → Bool) : List α → List α
  | [] => []
  | x :: r => insertBy before x (sortBy before r)

/-- The evaluation records of a die that may launch, in order (R249). -/
def State.evalQueue (s : State) (die : Nat) : List Eval :=
  sortBy s.evalBefore
    (s.evals.reverse.filter fun e => e.die == die && e.queued && !s.evalWaits e &&
      (s.context e.ctx).any fun c => c.st == .active)

/-- The first record of a die's queue that launches or is refused; the others wait (R215). -/
def State.takeEval : List Eval → State → State
  | [], s => s
  | e :: r, s =>
    match s.context e.ctx with
    | none => State.takeEval r s
    | some c =>
      let d := deferral (s.mem.unit e.head)
      let s := if d.ok then s.kernelSaw c d.kernel else s
      match s.evalLaunch c e s.nextId with
      | .error cause => s.endEval e.id cause
      | .ok (l, hint, cargo) =>
        match State.makeRoom e l hint cargo (s.groups.length + 1) s with
        | (s, true) => s
        | (s, false) => State.takeEval r s

/-- EVALUATOR_LAUNCH (R213, R215). -/
def execEvaluatorLaunch (s : State) : Host.Outcome State Fault Refusal := .next (State.takeEval (s.evalQueue s.ev.die) s)

/-! ### Reloading (R216) -/

/-- A reservation of some groups. -/
def Resv.ofGroups (gids : List Nat) (r : Resv) : Bool := match r.who with | .group g => gids.contains g | .fifo _ => false

/-- What groups hold at a quad's array: posted passes, segments, reservations and batons, the ownership of one of them, and
the latch of their team. -/
structure ArrayShare where
  posted : List Pass
  segs : List Pass
  resvs : List Resv
  batons : List (Nat × Option Nat)
  owner : Option Resv
  latch : Option Latch

/-- What a team's groups hold at an array. -/
def QArray.share (a : QArray) (tid : Nat) (gids : List Nat) : ArrayShare :=
  { posted := a.posted.filter fun p => gids.contains p.gid, segs := a.segs.filter fun p => gids.contains p.gid
    resvs := a.resvs.filter (Resv.ofGroups gids), batons := a.batons.filter fun b => gids.contains b.1
    owner := a.owner.filter (Resv.ofGroups gids), latch := a.latch.filter fun l => l.team == tid }

/-- An array without what a team's groups held there. -/
def QArray.drop (a : QArray) (tid : Nat) (gids : List Nat) : QArray :=
  { a with
    posted := a.posted.filter fun p => !gids.contains p.gid, segs := a.segs.filter fun p => !gids.contains p.gid
    resvs := a.resvs.filter fun r => !r.ofGroups gids, batons := a.batons.filter fun b => !gids.contains b.1
    owner := a.owner.filter fun r => !r.ofGroups gids, latch := a.latch.filter fun l => l.team != tid }

/-- An array with a share added. A group that owned its old array owns this one, or, where that has an owner, holds its
reservation. -/
def QArray.add (a : QArray) (x : ArrayShare) : QArray :=
  { a with
    posted := a.posted ++ x.posted, segs := a.segs ++ x.segs, batons := a.batons ++ x.batons, latch := x.latch <|> a.latch
    resvs := a.resvs ++ x.resvs ++ (if a.owner.isSome then x.owner.toList else []), owner := a.owner <|> x.owner }

/-- An array has room for a share: 16 posted passes, 16 reservations, one latch (R181, R183, R184). -/
def QArray.admits (a : QArray) (x : ArrayShare) : Bool :=
  decide (a.posted.length + x.posted.length ≤ 16) && decide (a.resvs.length + x.resvs.length + x.owner.toList.length ≤ 16) &&
    (x.latch.isNone || a.latch.isNone)

/-- The groups of a team. -/
def State.gidsOf (s : State) (tid : Nat) : List Nat := (s.groups.filter fun g => g.team == tid).map Group.gid

/-- What a team holds at its quad's array. -/
def State.shareOf (s : State) (t : Team) : ArrayShare := (s.array t.place).share t.tid (s.gidsOf t.tid)

/-- A team's groups leave their array for another quad's, a running pass suspended first. The ownership of a spilled group
whose posted passes have not ended ends on the old quad; on the new one those passes wait for it under the reservation
that keeps its class and age, as after a suspension (R185, R215, R216). -/
def State.moveArray (s : State) (t : Team) (q : QuadId) : State :=
  if t.place == q then s
  else
    let s := (s.gidsOf t.tid).foldl State.stopArray s
    let x := s.shareOf t
    let back : ArrayShare := { x with owner := none, resvs := x.resvs ++ x.owner.toList.map fun o => { o with leaving := false } }
    let s := (s.setArray ((s.array t.place).drop t.tid (s.gidsOf t.tid))).resettle t.place
    (s.setArray ((s.array q).add back)).resettle q

/-- Commands and operations of a team, or of its groups, name the quad where it now stands (R277, R311). -/
def State.followTeam (s : State) (tid : Nat) (gids : List Nat) (q : QuadId) : State :=
  { s with
    engines := s.engines.map fun e => if e.team == tid then { e with place := q } else e
    fabric := s.fabric.map fun o => if gids.contains o.gid then { o with place := q } else o }

/-- A quad where a team whose footprint was freed stands again: on its own core, with room for what its groups hold at
their array. -/
def State.returnQuad (s : State) (t : Team) : Option QuadId :=
  let f : Foot := ⟨t.ngroups, t.nregs, t.abytes, t.wbytes, t.nbars, t.quires.length⟩
  let ok := fun (q : QuadId) => q == t.place || (s.array q).admits (s.shareOf t)
  pickFrom s.free ((s.fitQuads f t.place.die t.place.core).filter ok)

/-- A team whose footprint was freed is placed again (R216). -/
def State.returnTeam (s : State) (t : Team) : Option State :=
  (s.returnQuad t).map fun q =>
    let base := (s.coreRoom ⟨t.ngroups, t.nregs, t.abytes, t.wbytes, t.nbars, t.quires.length⟩ q.die q.core).getD (0, 0)
    ((s.moveArray t q).setTeam { t with saved := false, place := q, abase := base.1, wbase := base.2 }).followTeam t.tid
      (s.gidsOf t.tid) q

/-- A group placed on its quad anew: it comes after the groups that are there (R250). -/
def State.placeGroup (s : State) (g : Group) : State := { s with groups := (s.groups.filter fun x => x.gid != g.gid) ++ [g] }

/-- A group reloaded into its team's quad, if it has room: PARKED on the same wait, which is tested afresh (R74,
R216). -/
def State.reload (s : State) (g : Group) (w : Wait) : State :=
  match s.team g.team with
  | none => s
  | some t =>
    if s.quadRoom ⟨1, g.nregs, 0, 0, 0, 0⟩ t.place then
      let s := s.placeGroup { g with status := .parked w }
      match s.context t.ctx with
      | some c => s.spillHeader t.ctx (s.lastSave c)
      | none => s
    else s

/-- GROUP_RELOAD (R216). -/
def execGroupReload (s : State) : Host.Outcome State Fault Refusal :=
  .next (match s.group s.ev.g with
    | none => s
    | some g => match g.status, s.team g.team with
      | .spilled w, some t =>
        if (w.cells.getD []).all (s.awaits ·) || !(s.context t.ctx).any (fun c => c.st == .active) then s
        else if t.saved then
          match s.returnTeam t with
          | some s => s.reload g w
          | none => s
        else s.reload g w
      | _, _ => s)

/-! ### CLUSTER_PLACE and GATHERING_PLACE (R244, R249, R258) -/

/-- A launch that may place a cluster now: READY and checked, or RUNNING with clusters to place, in an ACTIVE context;
of a queue's gatherings the oldest (R244, R268). -/
def State.mayPlace (s : State) (l : Launch) : Bool :=
  l.checked && !l.stalled && (l.st == .ready || l.st == .running) && decide (l.placed < l.clusters) &&
    (s.context l.ctx).any fun c => c.st == .active && (match l.origin with
      | .gathering qn => (c.queue qn).any fun q => (q.gatherings.head?.map Gathering.lid) == some l.lid
      | .evaluator _ => false
      | _ => true)

/-- The order of the kinds (R249). -/
def Launch.rank (l : Launch) : Nat :=
  match l.origin with
  | .evaluator _ => 0 | .child _ _ => 1 | .gathering _ => 2 | .combine _ => 2 | .host => 3

/-- The scheduler takes x before y for the cores of a die (R249). -/
def State.precedes (s : State) (die : Nat) (x y : Launch) : Bool :=
  decide (x.rank < y.rank) || (x.rank == y.rank && s.sooner die x y)

/-- A ready launch fits now, with a cluster on a die: its next cluster, or its whole grid (R224, R258). -/
def State.fitsNow (s : State) (die : Nat) (l : Launch) : Bool :=
  ((s.spots l).any fun p => p.die == die) && (!l.rcd.grid || (s.placeNext (List.range Config.dies) l {}).isSome)

/-- An evaluation record that fits now on a die. -/
def State.evalFits (s : State) (die : Nat) : Bool :=
  (s.evalQueue die).any fun e => match s.context e.ctx with
    | none => false
    | some c => match s.evalLaunch c e s.nextId with
      | .ok (l, hint, _) => !(s.evalSpots l hint).isEmpty
      | .error _ => false

/-- The dies whose cores a launch may take now: no ready launch that goes before it there fits (R249; log 37). -/
def State.openDies (s : State) (l : Launch) : List Nat :=
  if s.mayPlace l then (List.range Config.dies).filter fun d =>
    !s.evalFits d && s.launches.all fun x => x.lid == l.lid || !(s.mayPlace x && s.precedes d x l && s.fitsNow d x)
  else []

/-- CLUSTER_PLACE (R258): of a host launch, a child or a combine gathering. -/
def execClusterPlace (s : State) : Host.Outcome State Fault Refusal :=
  .next (match s.launch s.ev.launch with
    | none => s
    | some l =>
      match l.origin with
      | .gathering _ => s
      | _ => if s.mayPlace l then (s.placeNext (s.openDies l) l { recs := l.recs.map CombineRec.words }).getD s else s)

/-- GATHERING_PLACE (R244, R245): the queue's oldest gathering; its entries are free. -/
def execGatheringPlace (s : State) : Host.Outcome State Fault Refusal :=
  .next (match s.queueOf s.ev.ctx s.ev.queue with
    | none => s
    | some (c, q) =>
      match q.gatherings with
      | [] => s
      | g :: rest =>
        match s.launch g.lid with
        | none => s
        | some l =>
          if s.mayPlace l then
            match (s.setContext (c.setQueue { q with gatherings := rest })).placeNext (s.openDies l) l
                { recs := g.recs.map Rec.words } with
            | some s => s.settleQueue c.num q.num
            | none => s
          else s)

end Sys2Proof.Machine
end

