-- ==== Sys2Proof/Machine/Command.lean ====
section
/-!
DEFINITION. Driver commands: the fields of an entry, the checks that every command shares, and its completion event (R351
to R355).
-/
namespace Sys2Proof.Machine

/-- n bytes of an entry from byte a, as a number. -/
def cmdField (e : Entry) (a n : Nat) : Nat := (e.extractLsb' (8 * a) (8 * n)).toNat
def cmdAddr (e : Entry) (a : Nat) : Addr := e.extractLsb' (8 * a) 64
def cmdOp (e : Entry) : Nat := cmdField e 0 1
def cmdSub (e : Entry) : Nat := cmdField e 1 1
def cmdCtx (e : Entry) : Nat := cmdField e 2 2
def cmdTag (e : Entry) : Addr := cmdAddr e 8

/-- The bytes of an entry that no field takes are zero; `named` lists the operands (R353). -/
def cmdClean (e : Entry) (context : Bool) (named : List (Nat × Nat)) : Bool :=
  (List.range 64).all fun k =>
    k ≤ 1 || (context && (k == 2 || k == 3)) || decide (8 ≤ k ∧ k ≤ 15) ||
      named.any (fun f => decide (f.1 ≤ k) && decide (k < f.1 + f.2)) || cmdField e k 1 == 0

/-- How a command ends: now, refused with a reason, or later, when another event completes it. -/
inductive CmdEnd where
  | done (s : State)
  | refused (reason : Nat)
  /-- refused, and the errors that its read of memory met are logged (R138, R360) -/
  | unread (a n reason : Nat)
  | later (s : State)
  deriving DecidableEq, Repr

/-- Reasons of a refusal (R355). -/
abbrev badOperand : Nat := 1
abbrev noContext : Nat := 2
abbrev badState : Nat := 3
abbrev smallEndpaper : Nat := 4
abbrev keyInUse : Nat := 5
abbrev badImage : Nat := 6

/-- A command's completion event, at once. -/
def State.cmdDone (s : State) (e : Entry) (context : Bool) (status reason : Nat) : State :=
  s.raise (completionEvent status (if context then cmdCtx e else 0) (cmdOp e) reason (cmdTag e))

/-- What a command of the table declares: opcode, sub-operation and how many there are, whether it acts on a context,
and its operand bytes (R353). -/
structure CmdForm where
  op : Nat
  sub : Nat := 0
  subs : Nat := 1
  context : Bool := true
  named : List (Nat × Nat) := []
  deriving DecidableEq, Repr

/-- The entry is this command's: a sub-operation that the opcode has not falls to its first. -/
def CmdForm.mine (f : CmdForm) (e : Entry) : Bool :=
  cmdOp e == f.op && (cmdSub e == f.sub || (f.sub == 0 && decide (f.subs ≤ cmdSub e)))

/-- A command performed: its checks, its effect, its completion event (R352, R353). In recovery only the recovery
image is served (R361; log 38). -/
def runCommand (f : CmdForm) (body : State → Entry → CmdEnd) (s : State) : Host.Outcome State Fault Refusal :=
  let e := s.ev.entry
  .next (if !f.mine e then s
    else if s.dev.recovery && f.op != 0x1B then s.cmdDone e f.context 2 badState
    else if cmdSub e != f.sub || !cmdClean e f.context f.named then s.cmdDone e f.context 2 badOperand
    else match body s e with
      | .done s => s.cmdDone e f.context 0 0
      | .refused reason => s.cmdDone e f.context 2 reason
      | .unread a n reason => (s.physSaw a n).cmdDone e f.context 2 reason
      | .later s => s)

/-- A command that acts on a live context (R353). -/
def onContext (body : State → Entry → Context → CmdEnd) (s : State) (e : Entry) : CmdEnd :=
  match s.context (cmdCtx e) with
  | some c => body s e c
  | none => .refused noContext

end Sys2Proof.Machine
end

