-- ==== Sys2Proof/Machine/Paging.lean ====
section
/-!
DEFINITION. Driver commands over a context's memory: the page life cycle, the access table, the remote fault log, and
the combine staging region (R133, R134, R204, R307, R309, R310, R325, R353).
-/
namespace Sys2Proof.Machine

/-! ### The page life cycle (R133) -/

/-- The record of a page in its life cycle that begins at an address. -/
def State.lifeAt (s : State) (ctx base : Nat) : Option PageLife := s.mem.pages.find? fun p => p.ctx == ctx && p.base == base

/-- A page enters a state. -/
def State.addLife (s : State) (p : PageLife) : State :=
  let s := s.dropLife p
  s.setMem { s.mem with pages := s.mem.pages ++ [p] }

/-- The mapped page that begins at an address: it is no page of another state. -/
def State.mappedAt (s : State) (c : Context) (va : Addr) : Except Nat Leaf :=
  if va.extractLsb' 56 8 != 0 then .error badOperand
  else if (s.pageLife c.num va.toNat).isSome then .error badState
  else match s.walkNow c.root va.toNat with
    | .none => .error badState
    | .unreadable => .error badState
    | .leaf l => if l.base = va.toNat then .ok l else .error badOperand

/-- Every cell of a page of cached memory is VAL (R204). -/
def State.allVal (s : State) (l : Leaf) : Bool :=
  s.mem.tags.all fun t => t.2 == .val || decide (t.1 < pteAddr l.entry / 64) || decide ((pteAddr l.entry + l.size) / 64 ≤ t.1)

/-- The accesses on their way to a page are performed: its life goes on after them (R133; log 6). -/
def State.settlePage (s : State) (l : Leaf) : State := s.drain (·.meets (pteAddr l.entry) l.size)

/-- MIGRATE (R133, R204). -/
def execMigrate (s : State) : Host.Outcome State Fault Refusal :=
  runCommand { op := 0x11, subs := 3, named := [(16, 8)] } (onContext fun s e c =>
    match s.mappedAt c (cmdAddr e 16) with
    | .error r => .refused r
    | .ok l =>
      if pteML l.entry || (pteCell l.entry && !s.allVal l) then .refused badState
      else .done ((s.settlePage l).addLife { ctx := c.num, base := l.base, size := l.size, st := .migrating, tag := cmdTag e })) s

/-- MIGRATE_COMMIT (R133): the shootdown starts. -/
def execMigrateCommit (s : State) : Host.Outcome State Fault Refusal :=
  runCommand { op := 0x11, sub := 1, subs := 3, named := [(16, 8), (24, 8)] } (onContext fun s e c =>
    match s.lifeAt c.num (cmdAddr e 16).toNat with
    | some p =>
      if p.st == .migrating then .later (s.addLife { p with st := .invalidating (cmdAddr e 24), op := 0x11, tag := cmdTag e })
      else .refused badState
    | none => .refused badState) s

/-- MIGRATE_ABORT (R133). -/
def execMigrateAbort (s : State) : Host.Outcome State Fault Refusal :=
  runCommand { op := 0x11, sub := 2, subs := 3, named := [(16, 8)] } (onContext fun s e c =>
    match s.lifeAt c.num (cmdAddr e 16).toNat with
    | some p => if p.st == .migrating then .done (s.dropLife p) else .refused badState
    | none => .refused badState) s

/-- The size that a code names (R353). -/
def pageSize (code : Nat) : Option Nat :=
  match code with
  | 0 => some (2 ^ 16)
  | 1 => some (2 ^ 21)
  | 2 => some (2 ^ 30)
  | _ => none

/-- UNMAP_REMAP (R133): a mapped page of the size named goes to INVALIDATING. -/
def execUnmapRemap (s : State) : Host.Outcome State Fault Refusal :=
  runCommand { op := 0x12, named := [(16, 8), (24, 1), (32, 8)] } (onContext fun s e c =>
    match pageSize (cmdField e 24 1) with
    | none => .refused badOperand
    | some size =>
      if (cmdAddr e 16).toNat % size != 0 then .refused badOperand
      else match s.mappedAt c (cmdAddr e 16) with
        | .error r => .refused r
        | .ok l =>
          if l.size != size then .refused badState
          else .later ((s.settlePage l).addLife
            { ctx := c.num, base := l.base, size := size, st := .invalidating (cmdAddr e 32), op := 0x12, tag := cmdTag e })) s

/-- A running pass pins lines of a page (R134, R188). -/
def State.pinned (s : State) (p : PageLife) : Bool :=
  s.arrays.any fun a => (a.posted ++ a.segs).any fun x => x.running &&
    ((s.group x.gid).bind fun g => s.team g.team).any (fun t => t.ctx == p.ctx) &&
      x.pins.any fun v => decide (v.toNat / 65536 * 65536 < p.base + p.size) && decide (p.base < v.toNat / 65536 * 65536 + 65536)

/-- The groups of a context that wait for the page of their next clause go on (R133). -/
def State.wakeHeaders (s : State) (ctx : Nat) : State :=
  { s with groups := s.groups.map fun g =>
      if g.status == .parked .header && (s.team g.team).any (fun t => t.ctx == ctx) then g.unpark s.cycle else g }

/-- SHOOTDOWN_COMPLETE (R133): with no pin left, the new entry is in force and the command completes (log 40). -/
def execShootdownComplete (s : State) : Host.Outcome State Fault Refusal :=
  .next (match s.context s.ev.ctx, s.lifeAt s.ev.ctx s.ev.va.toNat with
    | some c, some p => match p.st with
      | .invalidating entry =>
        if s.pinned p then s
        else
          (((s.shotDown c p entry).wakeHeaders p.ctx).pageBack p.ctx).raise (completionEvent 0 p.ctx p.op 0 p.tag)
      | .migrating => s
    | _, _ => s)

/-! ### The access table (R307) -/

/-- A range of 24 bytes, if it is in order (R307). -/
def rangeOf (src ctx : Nat) (bs : List Byte) : Option AccessRange :=
  let len := field bs 8 8
  let rights := BitVec.ofNat 8 (field bs 16 1)
  if 1 ≤ len ∧ len ≤ 2 ^ 56 ∧ rights.extractLsb' 4 4 = 0 ∧ (bs.drop 17).all (· == 0) then
    some ⟨src, ctx, field bs 0 8, len, rights⟩
  else none

/-- The ranges of a table, if all are in order. -/
def rangesOf (src ctx : Nat) (bs : List Byte) (n : Nat) : Option (List AccessRange) :=
  (List.range n).foldr (fun k acc => match rangeOf src ctx ((bs.drop (24 * k)).take 24), acc with
    | some r, some rs => some (r :: rs)
    | _, _ => none) (some [])

/-- ACCESS_TABLE (R307): replaces the ranges of one source device and context. -/
def execAccessTable (s : State) : Host.Outcome State Fault Refusal :=
  runCommand { op := 0x07, named := [(16, 3), (24, 8)] } (onContext fun s e c =>
    let src := cmdField e 16 1
    let ctx := cmdField e 17 1
    let n := cmdField e 18 1
    let a := (cmdAddr e 24).toNat
    if 127 < src ∨ 63 < ctx ∨ 64 < n ∨ a % 8 ≠ 0 then .refused badOperand
    else match (s.physRead a (24 * n)).bind fun bs => rangesOf src ctx bs n with
      | none => .unread a (24 * n) badOperand
      | some rs =>
        .done ((s.physSaw a (24 * n)).setContext { c with access := (c.access.filter fun x => !(x.src == src && x.srcCtx == ctx)) ++ rs })) s

/-! ### The remote fault log and staging (R309, R310, R325) -/

/-- SET_LOG (R309): refused while the log holds entries (log 41). -/
def execSetLog (s : State) : Host.Outcome State Fault Refusal :=
  runCommand { op := 0x15, subs := 3, named := [(16, 8), (24, 8)] } (onContext fun s e c =>
    let base := cmdAddr e 16
    let size := (cmdAddr e 24).toNat
    if base.toNat % 4096 ≠ 0 ∨ size < 65536 ∨ 2 ^ 30 < size then .refused badOperand
    else if !c.log.isEmpty then .refused badState
    else .done ((s.setContext { c with logBase := base, logSize := size, logTail := 0 }).logFreed c)) s

/-- The unit that an entry names is in LOGGING (R310). -/
def unitOk (c : Context) (e : Entry) : Option Nat :=
  let u := (cmdAddr e 16).toNat
  if u % 65536 ≠ 0 then some badOperand
  else if c.units.contains u && !c.replaying.contains u then none else some badState

/-- LOG_REPLAY (R310): the unit enters REPLAYING, and its entries follow, one a step (log 98). -/
def execLogReplay (s : State) : Host.Outcome State Fault Refusal :=
  runCommand { op := 0x15, sub := 1, subs := 3, named := [(16, 8)] } (onContext fun s e c =>
    match unitOk c e with
    | some r => .refused r
    | none => .done (s.setContext { c with replaying := c.replaying ++ [(cmdAddr e 16).toNat] })) s

/-- LOG_DISCARD (R310). -/
def execLogDiscard (s : State) : Host.Outcome State Fault Refusal :=
  runCommand { op := 0x15, sub := 2, subs := 3, named := [(16, 8)] } (onContext fun s e c =>
    match unitOk c e with
    | some r => .refused r
    | none =>
      let s := (s.discardUnit c.num (cmdAddr e 16).toNat).raise (portEvent 2 c.num 0 0xFF 0 (cmdAddr e 16) 0 0)
      .done (s.logFreed c)) s

/-- STAGING_REGION (R325). -/
def execStagingRegion (s : State) : Host.Outcome State Fault Refusal :=
  runCommand { op := 0x16, named := [(16, 8), (24, 8)] } (onContext fun s e c =>
    let base := cmdAddr e 16
    let size := (cmdAddr e 24).toNat
    if base.toNat % 65536 ≠ 0 ∨ size % 65536 ≠ 0 ∨ size < 65536 ∨ 2 ^ 30 < size then .refused badOperand
    else .done (s.setContext { c with staging := base, stagingSize := size })) s

end Sys2Proof.Machine
end

