-- ==== Sys2Proof/Machine/Context.lean ====
section
/-!
DEFINITION. Contexts: creation, ending, pre-emption and resume, the grid map, and the driver's replies to traps and
engine faults (R239, R240, R265 to R268, R272, R276 to R280, R299, R353).
-/
namespace Sys2Proof.Machine

/-! ### Creation (R239, R240, R265) -/

/-- A key index, or with `none` allowed 0xFFFF (R265). -/
def keyOk (none' : Bool) (k : Nat) : Bool := decide (k ≤ 511) || (none' && k == 0xFFFF)

/-- A descriptor within the limits of its table (R265). -/
def descOk (d : List Byte) : Bool :=
  let f := field d
  (d.drop 80).all (· == 0) && f 24 4 == 0 && f 0 8 % 65536 == 0 && f 8 8 % 4096 == 0 && f 16 8 % 4 == 0 &&
    decide (f 28 1 < 4) && decide (f 29 1 < 16) && keyOk false (f 30 2) &&
    (List.range 4).all (fun k => keyOk true (f (32 + 2 * k) 2)) &&
    decide (1 ≤ f 44 4 ∧ f 44 4 ≤ 16777215) && decide (1 ≤ f 40 4 ∧ f 40 4 ≤ f 44 4) && f 48 4 % 2 == 0 &&
    decide (f 48 4 < 2 ^ 28) && decide (f 52 2 ≤ 63) && decide (f 54 2 ≤ 1024) && f 56 8 % 64 == 0 &&
    (f 54 2 != 0 || f 56 8 == 0) && f 64 8 % 64 == 0 && f 72 8 % 4096 == 0

/-- The context of a descriptor, without its queues; its map is its own device alone (R299). -/
def contextOf (d : List Byte) (dev : Nat) : Context :=
  let f := field d
  { num := f 52 2, st := .active, root := f 0 8, endBase := f 8 8, endSize := f 72 8, handler := BitVec.ofNat 64 (f 16 8)
    strict := (f 28 1).testBit 1, fifo := (f 28 1).testBit 0, ceiling := bits (f 29 1) 0 2, evalClass := bits (f 29 1) 2 2
    key := f 30 2, shared := ((List.range 4).map fun k => f (32 + 2 * k) 2).filter (· != 0xFFFF), refill := f 40 4, cap := f 44 4
    forward := BitVec.ofNat 32 (f 48 4), combine := BitVec.ofNat 64 (f 64 8)
    map := { axes := 1, sizes := [1, 1, 1, 1, 1], entries := [(dev, f 52 2)] }, access := [] }

/-- The valid entries of a table, with their indices. -/
def tableEntries (m : Memory) (table n : Nat) : List (Nat × Addr) :=
  (List.range n).filterMap fun i => if pteOk (pteAt m table i) then some (i, pteAt m table i) else none

/-- Every page that the tables of a root map, as the walk takes them (R128, R129). -/
def mappedPages (m : Memory) (root : Nat) : List Leaf :=
  (tableEntries m root 8192).flatMap fun x3 =>
    if pteLeaf x3.2 || pteAddr x3.2 % 65536 != 0 then []
    else (tableEntries m (pteAddr x3.2) 8192).flatMap fun x2 =>
      let v2 := 2 ^ 43 * x3.1 + 2 ^ 30 * x2.1
      if pteLeaf x2.2 then (mkLeaf x2.2 v2 (2 ^ 30)).toList
      else if pteAddr x2.2 % 4096 != 0 then []
      else (tableEntries m (pteAddr x2.2) 512).flatMap fun x1 =>
        let v1 := v2 + 2 ^ 21 * x1.1
        if pteLeaf x1.2 then (mkLeaf x1.2 v1 (2 ^ 21)).toList
        else (tableEntries m (pteAddr x1.2) 32).filterMap fun x0 => mkLeaf x0.2 (v1 + 2 ^ 16 * x0.1) (2 ^ 16)

/-- The record storage of a queue lies in memory, and no page of any context maps it (R240, R377). -/
def State.storageOk (s : State) (c : Context) (q : NodeQueue) : Bool :=
  let a := q.storage.toNat
  let z := a + 64 * q.capacity
  decide (z ≤ Config.memBytes) && !((c :: s.contexts).any fun x => (mappedPages s.mem x.root).any fun l =>
    pteType l.entry != 2 && decide (pteAddr l.entry < z) && decide (a < pteAddr l.entry + l.size))

/-- A queue of a creation entry, if it is in order (R240); a count of 0 selects W. -/
def nodeQueueOf (num : Nat) (bs : List Byte) : Option NodeQueue :=
  let f := field bs
  let n := if f 16 1 = 0 then Config.width else f 16 1
  if f 0 8 % 64 = 0 ∧ f 12 4 = 0 ∧ f 17 1 = 0 ∧ f 20 4 = 0 ∧ f 24 8 % 64 = 0 ∧ 1 ≤ n ∧ n ≤ Config.width ∧ n ≤ f 8 4 ∧
      1 ≤ f 8 4 ∧ f 8 4 ≤ 65536 then
    some { num := num, kernel := BitVec.ofNat 64 (f 0 8), capacity := f 8 4, coalesce := n, timeout := f 18 2
           storage := BitVec.ofNat 64 (f 24 8) }
  else none

/-- A node or combine kernel's launch record that R239 lets through, read through the new context's pages. -/
def State.nodeRecordOk (s : State) (c : Context) (a : Addr) : Bool :=
  match s.devRead? c a 128 with
  | some bs => let r := launchRec bs; r.rows == 1 && r.cols == 1 && decide (2 ≤ r.regs16)
  | none => false

/-- The queues of a table, as far as the first entry that is not in order, and what reading them leaves behind (R239, R240,
R360). -/
def State.readQueues (s : State) (c : Context) (table : Addr) : Nat → Option (List NodeQueue) × State
  | 0 => (some [], s)
  | n + 1 =>
    match State.readQueues s c table n with
    | (none, s) => (none, s)
    | (some qs, s) =>
      let a := table + BitVec.ofNat 64 (32 * n)
      match (s.devRead? c a 32).bind (nodeQueueOf n) with
      | none => (none, s.devSaw c a 32)
      | some q => (if s.nodeRecordOk c q.kernel && s.storageOk c q then some (qs ++ [q]) else none, (s.devSaw c a 32).devSaw c q.kernel 128)

/-- CREATE_CONTEXT (R239, R265). The completion event names the context that the descriptor names. -/
def State.createContext (s : State) (e : Entry) : Nat × State :=
  let a := (cmdAddr e 16).toNat
  match (if a % 256 ≠ 0 then none else s.physRead a 256) with
  | none => (badOperand, if a % 256 ≠ 0 then s else s.physSaw a 256)
  | some d =>
    let s := s.physSaw a 256
    let c := contextOf d s.dev.index
    if !descOk d || (s.context c.num).isSome then (badOperand, s)
    else match s.readQueues c (BitVec.ofNat 64 (field d 56 8)) (field d 54 2) with
      | (none, s) => (badOperand, s)
      | (some qs, s) =>
        let t := if c.combine != 0 then s.devSaw c c.combine 128 else s
        if c.combine != 0 && !s.nodeRecordOk c c.combine then (badOperand, t)
        else (0, { t with contexts := t.contexts ++ [{ c with queues := qs }] })

/-- The context number that a create command's event holds: that of the descriptor, or 0 where it was not read (R353, R355). -/
def State.createdNum (s : State) (e : Entry) : Nat :=
  match (if (cmdAddr e 16).toNat % 256 ≠ 0 then none else s.physRead (cmdAddr e 16).toNat 256) with
  | some d => field d 52 2
  | none => 0

/-- CREATE_CONTEXT; bytes 3-2 of its entry are ignored (R353). -/
def execCreateContext (s : State) : Host.Outcome State Fault Refusal :=
  runCommand { op := 0x02, context := false, named := [(2, 2), (16, 8)] } (fun s e => match s.createContext e with
    | (0, t) => .later (t.raise (completionEvent 0 (s.createdNum e) 2 0 (cmdTag e)))
    | (r, t) => .later (t.raise (completionEvent 2 (s.createdNum e) 2 r (cmdTag e)))) s

/-! ### Ending (R268, R272) -/

/-- The groups whose engine commands belong to a context. -/
def State.engineGroups (s : State) (ctx : Nat) : List Nat := (s.engines.filter fun e => e.ctx == ctx).map Engine.gid

/-- Every launch of a context ended with status 0x01, and every record of its evaluations and chunks (R272; log 35). -/
def State.endContext (s : State) (ctx : Nat) (tag : Addr) : State :=
  let lids := (s.launches.filter fun l => l.ctx == ctx).map Launch.lid
  let evs := (s.evals.filter fun e => e.ctx == ctx && e.queued).map Eval.id
  let s := s.abandonEngines (s.engineGroups ctx)
  let s := match s.context ctx with
    | some c => s.setContext { c with st := .ending, tag := tag, endHeld := [], saved := [], savedClusters := [] }
    | none => s
  evs.foldl (fun s id => s.endEval id 1) (s.endUnits lids 1 0)

/-- END_CONTEXT (R268). -/
def execEndContext (s : State) : Host.Outcome State Fault Refusal :=
  runCommand { op := 0x03 } (onContext fun s e c =>
    match c.st with
    | .active => .later (s.endContext c.num (cmdTag e))
    | .preempted => .later (s.endContext c.num (cmdTag e))
    | .ending => .refused badState
    | _ => .later (s.setContext { c with endHeld := c.endHeld ++ [cmdTag e] })) s

/-- A context that has left PREEMPTING or RESUMING, and the end commands held for it: the first acts, and the others find the
context ENDING (R268). -/
def State.afterHold (s : State) (ctx : Nat) : State :=
  match (s.context ctx).map Context.endHeld with
  | some (tag :: rest) => rest.foldl (fun s t => s.raise (completionEvent 2 ctx 3 badState t)) (s.endContext ctx tag)
  | _ => s

/-- The commands that a context's end completes: page commands and queue closings still under way (R352). -/
def Context.openTags (c : Context) (m : Memory) : List (Nat × Addr) :=
  (m.pages.filterMap fun p => match p.st with
    | .invalidating _ => if p.ctx == c.num then some (p.op, p.tag) else none
    | .migrating => none) ++
  (c.queues.filterMap fun q => if q.closing && !q.closed then some (0x17, q.closeTag) else none)

/-- A context's number freed: the device's accesses that waited for its pages are performed; its records, counters, log,
translations and operations go, and what other devices or its
own requests still wait for is refused (R268, R307). -/
def State.freeContext (s : State) (c : Context) : State :=
  let s := (c.openTags s.mem).foldl (fun s x => s.raise (completionEvent 0 c.num x.1 0 x.2)) s
  let s := (s.setMem { s.mem with pages := s.mem.pages.filter fun p => p.ctx != c.num }).flushActs.readRings
  let parked := s.remotes.filter fun p => p.req.dstCtx == c.num
  let logged := ((c.log.filter fun e => e.rid != 0).map fun e => e.rid).eraseDups.filterMap fun n => c.log.find? fun e => e.rid == n
  let s := { s with
    contexts := s.contexts.filter fun x => x.num != c.num
    remotes := s.remotes.filter fun p => p.req.dstCtx != c.num
    waits := s.waits.filter fun w => match w.who with | .remote r => !parked.any fun p => p.rid == r | _ => true
    fabric := s.fabric.filter fun o => o.ctx != c.num
    mem := { s.mem with tlbs := s.mem.tlbs.filter fun t => t.ctx != c.num } }
  let s := (parked.map Parked.req).foldl (fun s r => s.serve true r) s
  let s := logged.foldl (fun s e => s.answer e.req (.refused ⟨REMOTE_DENIED, e.va, 0⟩)) s
  (c.logAcks.foldl (fun s r => s.answer r .ack) s).drainPort

/-- CONTEXT_ENDED (R268): every team and engine command has ended, and every operation has been sent. -/
def execContextEnded (s : State) : Host.Outcome State Fault Refusal :=
  .next (match s.context s.ev.ctx with
    | none => s
    | some c =>
      if c.st == .ending && !(s.teams.any fun t => t.ctx == c.num) && !(s.engines.any fun e => e.ctx == c.num) &&
          !(s.fabric.any fun o => o.ctx == c.num && !o.unsent.isEmpty) then
        (s.freeContext c).raise (completionEvent 0 c.num 3 0 c.tag)
      else s)

/-! ### Pre-emption (R278, R279) -/

/-- What saving a context takes in its endpaper (R279). -/
def State.saveUse (s : State) (ctx : Nat) : Nat × Nat :=
  let ts := s.teams.filter fun t => t.ctx == ctx
  let gs := s.groups.filter fun g => ts.any fun t => t.tid == g.team
  (ts.length, 64 + (ts.map fun t => t.savedBytes (s.holdsLatch t)).sum + (gs.map Group.savedBytes).sum)

/-- The groups of a context. -/
def State.groupsIn (s : State) (ctx : Nat) : List Group :=
  s.groups.filter fun g => (s.team g.team).any fun t => t.ctx == ctx

/-- Every running pass of a context stops at its step (R186, R278). -/
def State.stopPasses (s : State) (ctx : Nat) : State := (s.groupsIn ctx).foldl (fun s g => s.stopArray g.gid) s

/-- RWAITs leave their queues: they are checked again at resume (R278). -/
def State.dropRwaits (s : State) (c : Context) : State :=
  let gids := c.rwaits.map RWaiter.gid
  { s with
    contexts := s.contexts.map fun x => if x.num == c.num then { x with rwaits := [] } else x
    groups := s.groups.map fun g => if gids.contains g.gid then { g with prog := 0 } else g }

/-- A context changed in place. -/
def State.onCtx (s : State) (n : Nat) (f : Context → Context) : State :=
  { s with contexts := s.contexts.map fun c => if c.num == n then f c else c }

/-- PREEMPT (R278). -/
def execPreempt (s : State) : Host.Outcome State Fault Refusal :=
  runCommand { op := 0x04 } (onContext fun s e c =>
    if c.st != .active then .refused badState
    else if c.endSize < (s.saveUse c.num).2 then .refused smallEndpaper
    else
      let s := (s.dropRwaits c).onCtx c.num fun c => { c with st := .preempting, tag := cmdTag e }
      .later ((s.stopPasses c.num).withdrawRlds c.num)) s

/-- An operation that a pre-emption does not wait for: matrix passes, engine commands, children, and RLDs, which are
withdrawn. -/
def State.opMayStay (s : State) (o : Op) : Bool :=
  o.done || o.cls == .mma || o.cls == .cpy || o.cls == .spn ||
    s.fabric.any fun x => x.oid == o.ref && (x.withdrawn || x.req.kind == .rld)

/-- A group stands at a stopping point: between clauses, parked, or before an instruction that stalls, whether for
energy or, its debit made, for what it waits for (R278; log 45). -/
def State.atStop (s : State) (g : Group) : Bool :=
  g.status != .windowed || g.clause.all fun cl => cl.debited ||
    (match s.team g.team with
     | some t => (s.context t.ctx).any fun c => decide (c.budget (coreIdx t.place) ≤ 0)
     | none => true)

/-- Everything that a pre-emption waits for has come back, and every group stands at a stopping point (R278). -/
def State.stopped (s : State) (ctx : Nat) : Bool :=
  (s.groupsIn ctx).all fun g => s.atStop g && g.ops.all (s.opMayStay ·)

/-- A parked group as it is saved: it checks its instruction again at resume; a wait for counters stays (R278). -/
def Group.saved (g : Group) (cycle : Nat) : Group :=
  let again := match g.status with
    | .parked (.wz _) => false
    | .parked .marker => false
    | .spilled _ => false
    | .trapped => false
    | _ => true
  { g with window := false, interval := true, status := if again then .resident else g.status, since := cycle }

/-- A team with its groups, barriers, latch, passes, reservations and ownership, as they leave the core (R187, R278, R279). -/
def State.saveTeam (s : State) (t : Team) : SavedTeam :=
  let x := s.shareOf t
  { team := t, groups := (s.groups.filter fun g => g.team == t.tid).map (Group.saved · s.cycle)
    barriers := s.barriers.filter fun b => t.owner b.level == b.owner
    latch := x.latch, posted := x.posted, segs := x.segs, resvs := x.resvs, owner := x.owner, batons := x.batons }

/-- A team leaves the machine for the endpaper. -/
def State.takeTeam (s : State) (t : Team) : State :=
  let s := s.drain fun y => y.team == t.tid
  let x := s.saveTeam t
  let gids := x.groups.map Group.gid
  let s := s.setArray ((s.array t.place).drop t.tid gids)
  let s := { s with
    teams := s.teams.filter fun y => y.tid != t.tid
    groups := s.groups.filter fun g => g.team != t.tid
    barriers := s.barriers.filter fun b => !x.barriers.contains b
    waits := s.waits.filter fun w => match w.who with
      | .group g => !gids.contains g
      | .pass g _ _ => !gids.contains g
      | _ => true
    cur := if s.cur.any gids.contains then none else s.cur }
  (s.onCtx t.ctx fun c => { c with saved := c.saved ++ [x] }).resettle t.place

/-- The records of a context's saved teams, each followed by those of its groups (R279). -/
def State.savedRecords (s : State) (ctx : Nat) : List Byte :=
  (((s.context ctx).map Context.saved).getD []).flatMap fun x =>
    x.team.recordBytes x.latch s.free ++ x.groups.flatMap (Group.recordBytes · s.free)

/-- PREEMPT_SAVED (R278): teams and clusters leave the cores, the header says 2, the command completes; an end command
that was held acts (R268). -/
def execPreemptSaved (s : State) : Host.Outcome State Fault Refusal :=
  .next (match s.context s.ev.ctx with
    | none => s
    | some c =>
      if c.st == .preempting && s.stopped c.num then
        let s := (s.dropRwaits c).withdrawRlds c.num
        let use := s.saveUse c.num
        let ts := s.teams.filter fun t => t.ctx == c.num
        let cls := s.clusters.filter fun x => ts.any fun t => t.cluster == x.cid
        let s := ts.foldl State.takeTeam s
        let s := { s with clusters := s.clusters.filter fun x => !cls.contains x }
        let s := (s.putRecords c (s.savedRecords c.num)).putHeader c 2 use.1 use.2 s.cycle
        let s := s.onCtx c.num fun c => { c with st := .preempted, savedClusters := cls }
        (s.raise (completionEvent 0 c.num 4 0 c.tag)).afterHold c.num
      else s)

/-! ### Resume (R280) -/

/-- RESUME (R280). -/
def execResume (s : State) : Host.Outcome State Fault Refusal :=
  runCommand { op := 0x05 } (onContext fun s e c =>
    if c.st == .preempted then .later (s.setContext { c with st := .resuming, tag := cmdTag e }) else .refused badState) s

/-- A saved team's footprint. -/
def Team.foot (t : Team) : Foot := ⟨t.ngroups, t.nregs, t.abytes, t.wbytes, t.nbars, t.quires.length⟩

/-- What a saved team held at its array. -/
def SavedTeam.share (x : SavedTeam) : ArrayShare :=
  { posted := x.posted, segs := x.segs, resvs := x.resvs, batons := x.batons, owner := x.owner, latch := x.latch }

/-- The quads of a core on which a saved team fits, with room at their arrays for what it held at its own; one whose
footprint was freed when its groups were spilled needs no other room. -/
def State.backQuads (s : State) (x : SavedTeam) (die core : Nat) : List QuadId :=
  let qs := if x.team.saved then (List.range 4).map fun k => (⟨die, core, k⟩ : QuadId) else s.fitQuads x.team.foot die core
  qs.filter fun q => (s.array q).admits x.share

/-- The saved teams of a cluster. -/
def Context.savedOf (c : Context) (cid : Nat) : List SavedTeam := c.saved.filter fun x => x.team.cluster == cid

/-- The rectangles of its die where every saved team of a cluster fits. -/
def State.backSpots (s : State) (c : Context) (cl : Cluster) : List Spot :=
  (allSpots [cl.die] cl.rows cl.cols).filter fun p => (c.savedOf cl.cid).all fun x =>
    !(s.backQuads x p.die ((p.cores cl.rows cl.cols).getD (x.team.index) 0)).isEmpty

/-- A saved team placed again on a quad (R280). A group that owned the array owns the new quad's array, or holds its
reservation there while another requester does. -/
def State.putTeam (s : State) (x : SavedTeam) (q : QuadId) : State :=
  let base := (s.coreRoom x.team.foot q.die q.core).getD (0, 0)
  let t := { x.team with place := q, abase := base.1, wbase := base.2 }
  let a := s.array q
  let s := { s with
    teams := s.teams ++ [t]
    groups := s.groups ++ x.groups.map fun (g : Group) => { g with ageFrom := s.cycle, since := s.cycle }
    barriers := s.barriers ++ x.barriers }
  let s := (s.setArray (a.add x.share)).followTeam t.tid (x.groups.map Group.gid) q
  let s := s.onCtx t.ctx fun c => c.openBudget (coreIdx q) s.dev.scale
  s.setMem (s.mem.flash (coreIdx q))

/-- The saved teams of a cluster put on the cores of a rectangle, on free choices of quad. -/
def State.putTeams (s : State) (cl : Cluster) (p : Spot) : List SavedTeam → Option State
  | [] => some s
  | x :: r =>
    let core := (p.cores cl.rows cl.cols).getD x.team.index 0
    match pickFrom (s.free + x.team.index + 1) (s.backQuads x p.die core) with
    | some q => State.putTeams (s.putTeam x q) cl p r
    | none => none

/-- A saved cluster stands again on a rectangle. -/
def State.putCluster (s : State) (cl : Cluster) (p : Spot) : State :=
  let back : Cluster := { cl with row := p.row, col := p.col }
  { s with clusters := s.clusters ++ [back] }

/-- Every saved cluster placed again on free choices; none where one does not fit. -/
def State.putClusters (c : Context) : List Cluster → State → Option State
  | [], s => some s
  | cl :: r, s =>
    match pickFrom s.free (s.backSpots c cl) with
    | some p => (s.putTeams cl p (c.savedOf cl.cid)).bind fun s => State.putClusters c r (s.putCluster cl p)
    | none => none

/-- The saved teams of a cluster on a rectangle, by a full search over their quads, and then the rest. -/
def State.searchTeams (cl : Cluster) (p : Spot) (rest : State → Option State) : List SavedTeam → State → Option State
  | [], s => rest s
  | x :: r, s =>
    (s.backQuads x p.die ((p.cores cl.rows cl.cols).getD x.team.index 0)).findSome? fun q =>
      State.searchTeams cl p rest r (s.putTeam x q)

/-- Every saved cluster placed again, by a full search. -/
def State.searchClusters (c : Context) : List Cluster → State → Option State
  | [], s => some s
  | cl :: r, s => (s.backSpots c cl).findSome? fun p =>
      State.searchTeams cl p (fun s => State.searchClusters c r (s.putCluster cl p)) (c.savedOf cl.cid) s

/-- The saved clusters as a free choice, or where that leaves some without room, as a search places them (log 22). -/
def State.putBack (s : State) (c : Context) : Option State :=
  match State.putClusters c c.savedClusters s with
  | some s => some s
  | none => State.searchClusters c c.savedClusters s

/-- RESUME_COMPLETE (R280): the context is ACTIVE, its budgets restart, its withdrawn RLDs are issued again. -/
def execResumeComplete (s : State) : Host.Outcome State Fault Refusal :=
  .next (match s.context s.ev.ctx with
    | none => s
    | some c =>
      if c.st == .resuming then
        match (s.setContext { c with budgets := [] }).putBack c with
        | none => s
        | some s =>
          let s := s.onCtx c.num fun c => { c with st := .active, saved := [], savedClusters := [] }
          let s := (s.teams.filter fun t => t.ctx == c.num).foldl (fun s t => s.arbitrate t.place) s
          let s := (s.spillHeader c.num (s.lastSave c)).resendRlds c.num
          (s.raise (completionEvent 0 c.num 5 0 c.tag)).afterHold c.num
      else s)

/-! ### The grid map (R299) -/

/-- The map that 264 bytes hold, if it is in order for a device (R299). -/
def gridMapOf (bs : List Byte) (dev : Nat) : Option GridMap :=
  let sizes := (List.range 5).map fun a => field bs (1 + a) 1
  let axes := field bs 0 1
  let n := sizes.foldl (· * ·) 1
  let raw := (List.range 128).map fun k => field bs (8 + 2 * k) 2
  let used := (raw.take n).map fun v => (bits v 0 7, bits v 8 6)
  let devs := used.map Prod.fst
  if field bs 6 2 = 0 ∧ 1 ≤ axes ∧ axes ≤ 5 ∧ sizes.all (· != 0) ∧ n ≤ 128 ∧ (sizes.drop axes).all (· == 1) ∧
      (raw.drop n).all (· == 0) ∧ raw.all (fun v => bits v 7 1 == 0 && bits v 14 2 == 0) ∧
      devs.eraseDups.length = devs.length ∧ devs.contains dev then
    some { axes := axes, sizes := sizes, entries := used }
  else none

/-- GRID_MAP (R299): a team whose footprint is saved and freed is not placed (R215). -/
def execGridMap (s : State) : Host.Outcome State Fault Refusal :=
  runCommand { op := 0x06, named := [(16, 8)] } (onContext fun s e c =>
    let a := (cmdAddr e 16).toNat
    if a % 64 ≠ 0 then .refused badOperand
    else if s.teams.any fun t => t.ctx == c.num && !t.saved then .refused badState
    else match (s.physRead a 264).bind fun bs => gridMapOf bs s.dev.index with
      | some m => .done ((s.physSaw a 264).setContext { c with map := m })
      | none => .unread a 264 badOperand) s

/-! ### Replies to traps and engine faults (R276, R277, R353) -/

/-- The forwarded trap of a group of a context, placed or saved. -/
def State.forwardedIn (s : State) (c : Context) (gid : Nat) : Bool :=
  (s.groupsIn c.num ++ c.saved.flatMap SavedTeam.groups).any fun g => g.gid == gid && g.entry == .forwarded

/-- A reply recorded with the group; it takes effect while the context is ACTIVE (R276). -/
def State.recordReply (s : State) (c : Context) (gid : Nat) (replay : Bool) : State :=
  let f := fun (g : Group) => if g.gid == gid then { g with entry := .replied replay } else g
  let s := { s with groups := s.groups.map f }
  s.onCtx c.num fun c => { c with saved := c.saved.map fun x => { x with groups := x.groups.map f } }

/-- TRAP_REPLAY (R276). -/
def execTrapReplay (s : State) : Host.Outcome State Fault Refusal :=
  runCommand { op := 0x14, subs := 2, named := [(16, 8)] } (onContext fun s e c =>
    let gid := (cmdAddr e 16).toNat
    if s.forwardedIn c gid then
      let s := s.recordReply c gid true
      .done (if c.st == .active then s.replayTrap gid else s)
    else .refused badOperand) s

/-- TRAP_DELIVER (R276): trap entry goes on from its second step (R269). -/
def execTrapDeliver (s : State) : Host.Outcome State Fault Refusal :=
  runCommand { op := 0x14, sub := 1, subs := 2, named := [(16, 8)] } (onContext fun s e c =>
    let gid := (cmdAddr e 16).toNat
    if s.forwardedIn c gid then
      let s := s.recordReply c gid false
      .done (if c.st == .active then s.enterTrap State.letGo State.fatal gid else s)
    else .refused badOperand) s

/-- A stalled remote operation that a handle names. -/
def State.stalledOp (s : State) (ctx handle : Nat) : Option (RemoteOp × Addr) :=
  match s.remoteOp handle with
  | some o => match o.st with
    | .faulted _ a => if o.ctx == ctx then some (o, a) else none
    | _ => none
  | none => none

/-- A launch whose count read has stalled (R261). -/
def State.stalledLaunch (s : State) (ctx handle : Nat) : Option Launch :=
  (s.launch handle).filter fun l => l.ctx == ctx && l.stalled

/-- ENGINE_RETRY (R261, R277). -/
def execEngineRetry (s : State) : Host.Outcome State Fault Refusal :=
  runCommand { op := 0x13, subs := 2, named := [(16, 8)] } (onContext fun s e c =>
    let h := (cmdAddr e 16).toNat
    match s.stalled c.num h, s.stalledOp c.num h, s.stalledLaunch c.num h with
    | some (x, _), _, _ => .done (s.setEngine { x with st := .running })
    | none, some (o, _), _ => .done (s.setRemoteOp { o with st := .running })
    | none, none, some l => .done (s.readCount c { l with stalled := false })
    | none, none, none => .refused badOperand) s

/-- A group changed where its context keeps it. -/
def State.onSaved (s : State) (gid : Nat) (f : Group → Group) : State :=
  { s with contexts := s.contexts.map fun c =>
      { c with saved := c.saved.map fun x => { x with groups := x.groups.map fun g => if g.gid == gid then f g else g } } }

/-- A command ended by the driver: its deferred fault reaches its group, placed or saved (R277). -/
def State.abortEngine (s : State) (e : Engine) (i : TrapInfo) : State :=
  (s.engineFail e i).onSaved e.gid fun g => if e.isPort then g.opFault e.seq 0 i else g.complete e.seq (some i)

/-- ENGINE_ABORT (R261, R277, R311). -/
def execEngineAbort (s : State) : Host.Outcome State Fault Refusal :=
  runCommand { op := 0x13, sub := 1, subs := 2, named := [(16, 8)] } (onContext fun s e c =>
    let h := (cmdAddr e 16).toNat
    match s.stalled c.num h, s.stalledOp c.num h, s.stalledLaunch c.num h with
    | some (x, a), _, _ => .done (s.abortEngine x { cause := ENGINE_FAULT, addr := a })
    | none, some (o, a), _ => .done (s.completeRemote o (some { cause := ENGINE_FAULT, addr := a }))
    | none, none, some l => .done (s.completeLaunch l 2)
    | none, none, none => .refused badOperand) s

/-- CLOSE_NODE_QUEUE (R243). -/
def execCloseNodeQueue (s : State) : Host.Outcome State Fault Refusal :=
  runCommand { op := 0x17, named := [(16, 2)] } (onContext fun s e c =>
    match c.queue (cmdField e 16 2) with
    | none => .refused badOperand
    | some q => if q.ended then .refused badState else .later (s.closeQueue c q (cmdTag e))) s

end Sys2Proof.Machine
end

