-- ==== Sys2Proof/Machine/Link.lean ====
section
/-!
DEFINITION. Links: planes and lanes, flits, sequence numbers and replay, lane states, restriping, link states, laser
modules, and their event records (R281 to R298).
-/
namespace Sys2Proof.Machine

/-! ### Planes and lanes (R282, R283) -/

/-- The installed planes, by lane number. -/
def Device.planeList (d : Device) : List Nat := (List.range 64).filter fun p => decide (p % 16 < d.planes / 4)
def Device.planeOf (d : Device) (lane : Nat) : Nat := d.planeList.getD lane 0

/-- The state of a laser module. -/
def Device.laser (d : Device) (m : Nat) : LaserState := ((d.lasers.find? fun x => x.1 == m).map Prod.snd).getD .absent

/-- The wavelength of a link: the device of index s sends to that of index t on (t - s) mod 128 (R281). -/
def Device.wavelength (d : Device) (peer : Nat) (rx : Bool) : Nat :=
  if rx then (d.index + 128 - peer) % 128 else (peer + 128 - d.index) % 128

/-- A device of the domain has an index: its own, or one of 0 to 127 that is not absent (R2, R281; log 117). -/
def Device.present (d : Device) (t : Nat) : Bool := t == d.index || decide (t < 128) && !d.absent.contains t

/-- The laser module of a lane is lit, and its wavelength leads to a device (R281). -/
def Device.lights (d : Device) (peer k : Nat) : Bool := d.present peer && d.laser (d.planeOf k / 4) == .lit

/-- A link, or one with which nothing has happened yet: its own transmit lanes wait where they are lit. -/
def State.linkOr (s : State) (peer : Nat) (rx : Bool) : Link :=
  (s.link peer rx).getD
    { peer := peer, rx := rx, lanes := (List.range s.dev.planes).map fun k =>
        { lane := k, st := if !rx && s.dev.lights peer k then .locking else .off } }

/-- An event of a link: it leads to a device of the domain (R281), and links run only with verified firmware (R357, R361). -/
def onPeer (f : State → State) (s : State) : Host.Outcome State Fault Refusal :=
  .next (if s.dev.full && s.dev.present s.ev.peer then f s else s)

/-- A link put in its place. -/
def State.putLink (s : State) (l : Link) : State :=
  if (s.link l.peer l.rx).isSome then s.setLink l else { s with links := s.links ++ [l] }

/-- A number of the set of some lanes. -/
def maskOf (ls : List Nat) : LaneSet := laneSet fun k => ls.contains k

/-- A lane of a link, and the link with one replaced. -/
def Link.laneAt (l : Link) (k : Nat) : LinkLane := (l.lanes.find? fun x => x.lane == k).getD { lane := k }
def Link.setLane (l : Link) (x : LinkLane) : Link := { l with lanes := replace (fun y => y.lane == x.lane) x l.lanes }

/-- A, the active lanes of a stripe. -/
def Link.active (l : Link) : Nat := laneCount l.mask

/-! ### Event records (R298) -/

def LaneState.code : LaneState → Nat
  | .off => 0 | .locking => 1 | .active => 2 | .suspect => 3 | .retraining => 4 | .retired => 5
def LinkState.code : LinkState → Nat
  | .dark => 0 | .training => 1 | .up => 2 | .degraded => 3 | .down => 4
def LaserState.code : LaserState → Nat
  | .absent => 0 | .lit => 1 | .failed => 2

/-- 1 ms and 10 s in cycles. -/
def milli : Nat := 1000 * Config.cyclesPerUs
def tenSeconds : Nat := 10000000 * Config.cyclesPerUs
/-- The retrains of a lane in the last 10 s. -/
def LinkLane.recent (x : LinkLane) (cycle : Nat) : List Nat := x.retrains.filter fun t => decide (cycle < t + tenSeconds)

/-- A record of the lane, link or laser kind. -/
def linkEvent (kind new old cause dev peer side plane lane active retrains epoch point count cycle : Nat) : List Byte :=
  record 64 [(0, leBytes 1 kind), (1, leBytes 1 new), (2, leBytes 1 old), (3, leBytes 1 cause), (4, leBytes 1 dev),
    (5, leBytes 1 peer), (6, leBytes 1 side), (7, leBytes 1 plane), (8, leBytes 1 lane), (9, leBytes 1 active),
    (10, leBytes 1 retrains), (11, leBytes 1 epoch), (12, leBytes 4 (point % 2 ^ 20)), (16, leBytes 4 count), (20, leBytes 8 cycle)]

/-- The stripe that the side which raises a record uses: at a receiver the one that it has started, from its start on
(R376; log 118). -/
def Link.shown (l : Link) : Link :=
  match l.pendingEpoch with
  | some (e, p, m) => { l with epoch := e, point := p, mask := m }
  | none => l

/-- The window count that a record of a lane shows: the receiver counts; the spec does not say where a transmitter has its
count from, which is a free value (R292, R298; log 118). -/
def State.windowCount (s : State) (l : Link) (k : Nat) : Nat :=
  if l.rx then (l.laneAt k).last else Config.sentCount s.free k

/-- The record of a lane's change; none on the loopback link, nor where nothing changed. -/
def State.laneEvent (s : State) (l : Link) (k : Nat) (old new : LaneState) (cause : Nat) : State :=
  if l.peer == s.dev.index || old == new then s
  else
    let v := l.shown
    s.raise (linkEvent 0x40 new.code old.code cause s.dev.index l.peer l.rx.toNat (s.dev.planeOf k) k v.active
      ((l.laneAt k).recent s.cycle).length v.epoch v.point (s.windowCount l k) s.cycle)

/-- The record of a link's change. -/
def State.linkRecord (s : State) (l : Link) (old new : LinkState) (cause : Nat) : State :=
  if l.peer == s.dev.index || old == new then s
  else
    let v := l.shown
    s.raise (linkEvent 0x41 new.code old.code cause s.dev.index l.peer l.rx.toNat 0xFF 0xFF v.active 0 v.epoch v.point 0 s.cycle)

/-- A lane moved to a state, with its record. -/
def State.moveLane (s : State) (peer : Nat) (rx : Bool) (k : Nat) (st : LaneState) (cause : Nat)
    (f : LinkLane → LinkLane := id) : State :=
  let l := s.linkOr peer rx
  let x := l.laneAt k
  let l := l.setLane (f { x with
    st := st, waits := if st == .locking then x.waits else false, since := if x.st == st then x.since else s.cycle })
  (s.putLink l).laneEvent l k x.st st cause

/-! ### Flits (R284, R285) -/

/-- One bit of the CRC's division. -/
def crcBit (c : BitVec 64) : BitVec 64 := if c.getLsbD 0 then (c >>> 1) ^^^ 0xC96C5795D7870F42 else c >>> 1

/-- One byte of it. -/
def crcByte (c : BitVec 64) (b : Byte) : BitVec 64 := (List.range 8).foldl (fun c _ => crcBit c) (c ^^^ b.setWidth 64)

/-- The remainder after some bytes. It is matched as a number after each byte, so that it is evaluated byte by byte. -/
def crcFrom : List Byte → Nat → Nat
  | [], c => c
  | b :: r, c => match (crcByte (BitVec.ofNat 64 c) b).toNat with
    | 0 => crcFrom r 0
    | n + 1 => crcFrom r (n + 1)

/-- CRC-64/XZ of a byte string (R284). -/
def crc64 (bs : List Byte) : BitVec 64 := BitVec.ofNat 64 (crcFrom bs 0xFFFFFFFFFFFFFFFF) ^^^ 0xFFFFFFFFFFFFFFFF

/-- A flit's header fields and payload (R284). -/
structure Parsed where
  type : Nat
  seq : Nat
  ack : Nat
  epoch : Nat
  av : Bool
  payload : List Byte
  deriving DecidableEq, Repr

/-- A flit's 128 bytes (R284). -/
def Parsed.bytes (f : Parsed) : List Byte :=
  let head := f.type * 2 ^ 60 + f.seq % 2 ^ 20 * 2 ^ 40 + f.ack % 2 ^ 20 * 2 ^ 20 + f.epoch % 16 * 2 ^ 16 + f.av.toNat * 2 ^ 15
  let body := leBytes 8 head ++ (List.range 112).map fun k => f.payload.getD k 0
  body ++ leBytes 8 (crc64 body).toNat

/-- A received flit; none for one that counts as lost (R285). -/
def parseFlit (raw : List Byte) : Option Parsed :=
  let h := field raw 0 8
  if raw.length ≠ 128 ∨ field raw 120 8 ≠ (crc64 (raw.take 120)).toNat ∨ 4 < bits h 60 4 ∨ bits h 0 15 ≠ 0 then none
  else some ⟨bits h 60 4, bits h 40 20, bits h 20 20, bits h 16 4, h.testBit 15, (raw.drop 8).take 112⟩

/-- The 4096 sequence numbers before a hold n (R288). -/
def before4096 (n a : Nat) : Bool := decide (1 ≤ (a + 2 ^ 20 - n) % 2 ^ 20 ∧ (a + 2 ^ 20 - n) % 2 ^ 20 ≤ 4096)

/-! ### Beats (R284, R286) -/

/-- The active lane of a rank in a stripe. -/
def laneOfRank (mask : LaneSet) (rank : Nat) : Option Nat := (lanesOf mask)[rank]?

/-- A beat of a flit: its global number, the lane that carries it, and its 16 bytes. -/
structure Beat where
  g : Nat
  lane : Option Nat
  data : List Byte
  deriving DecidableEq, Repr

/-- The eight beats of a flit: beat b takes the global number g + b and travels on the active lane of rank (g + b) mod A
(R286). A stripe without lanes, before the first RESTRIPE, gives none (log 99). -/
def Sent.beats (f : Sent) : List Beat :=
  (List.range 8).map fun b => ⟨f.g + b, laneOfRank f.mask ((f.g + b) % laneCount f.mask), (f.raw.drop (16 * b)).take 16⟩

/-- The flit that a receiver puts together from beats, the symbols of each lane corrected (R286). -/
def reassemble (g : Nat) (bs : List Beat) : List Byte :=
  (List.range 8).flatMap fun b => ((bs.find? fun x => x.g == g + b).map Beat.data).getD []

/-- A flit handed to the optics: the beats of a DATA flit are numbered from the restripe point, and those of other flits take
the numbers that come next (R286). -/
def Link.send (l : Link) (type seq cycle : Nat) (raw : List Byte) : Link :=
  let g := if type = 1 then 8 * ((seq + 2 ^ 20 - l.point) % 2 ^ 20) else l.beat
  { l with out := l.out ++ [⟨raw, g, l.mask⟩], beat := g + 8, sentAt := cycle }

/-- A flit handed to the optics of the link to a peer, with the acknowledgement of the reverse link (R289). R284 does not say
when AV is 1: it is while the reverse link is not DARK, for then it has an expected number (log 115). -/
def State.emit (s : State) (peer type seq : Nat) (payload : List Byte) : State :=
  let l := s.linkOr peer false
  let r := s.linkOr peer true
  let f : Parsed := ⟨type, seq, r.expect, l.epoch, r.st != .dark, payload⟩
  s.putLink (l.send type seq s.cycle f.bytes)

/-- A control or IDLE flit: it shows the next sequence number to be sent; a dark link carries none. -/
def State.control (s : State) (peer type : Nat) (payload : List (Nat × List Byte)) : State :=
  let l := s.linkOr peer false
  if l.st == .dark then s else s.emit peer type l.next (record 112 payload)

/-- NACK e, at most once in 2 µs while e is unchanged (R289). -/
def State.nack (s : State) (peer : Nat) : State :=
  let l := s.linkOr peer true
  let again := match l.nackAt with
    | some (e, t) => e != l.expect || decide (t + 2 * Config.cyclesPerUs ≤ s.cycle)
    | none => true
  if again then (s.putLink { l with nackAt := some (l.expect, s.cycle) }).control peer 2 [(0, leBytes 4 l.expect)] else s

/-- Held flits sent again, from a sequence number on or from the oldest (R290); none on a link that has lost lanes, until its
RESTRIPE arrives (R296). -/
def State.resendFrom (s : State) (peer : Nat) (first : Option Nat) : State :=
  let l := s.linkOr peer false
  if l.holdData then s else
  let held : List Flit := match first with
    | some n => l.replay.filter fun f => decide ((f.seq + 2 ^ 20 - n) % 2 ^ 20 < 4096)
    | none => l.replay
  held.foldl (fun s f => s.emit peer 1 f.seq f.payload) s

/-- An acknowledgement: covered flits leave the replay buffer (R288). -/
def State.acked (s : State) (peer : Nat) (f : Parsed) : State :=
  let l := s.linkOr peer false
  let left := l.replay.filter fun x => !before4096 x.seq f.ack
  if f.av && decide (left.length < l.replay.length) then s.putLink { l with replay := left, ackAt := s.cycle } else s

/-! ### Requests and answers become flits (R288; log 17) -/

/-- The payloads of one request or answer, each 112 B, at least one. -/
def payloadsOf (step : Nat) : List (List Byte) :=
  let ps := (Config.flits step).map fun p => (List.range 112).map fun k => p.getD k 0
  if ps.isEmpty then [List.replicate 112 0] else ps

/-- A link takes new DATA flits (R288, R296, R297). -/
def Link.takes (l : Link) (n : Nat) : Bool :=
  (l.st == .up || l.st == .degraded) && !l.holdData && decide (l.replay.length + n ≤ 4096)

/-- A message given the next sequence numbers and sent; held until acknowledged. -/
def State.transmit (s : State) (peer : Nat) (load : Load) (ps : List (List Byte)) : State :=
  ps.foldl (fun s p =>
    let l := s.linkOr peer false
    let s := s.putLink { l with
      next := (l.next + 1) % 2 ^ 20, replay := l.replay ++ [⟨l.next, p, load⟩], ackAt := if l.replay.isEmpty then s.cycle else l.ackAt }
    s.emit peer 1 l.next p) s

/-- A request that cannot reach its member: its operation's answer is REMOTE_UNREACHABLE (R297, R312). -/
def State.lost (s : State) (r : Req) : State :=
  match (s.remoteOp r.tag).bind fun o => o.member r.rank with
  | some m => if r.src == s.dev.index then s.take r.tag r.rank m.owed (.refused ⟨REMOTE_UNREACHABLE, m.coord, 0⟩) else s
  | none => s

/-- Requests handed to the links: sent, kept in order behind a link that takes none, or lost on a DARK one. -/
def State.pumpRequests : List (Nat × Req) → List Nat → State → State
  | [], _, s => s
  | (dev, r) :: rest, held, s =>
    let l := s.linkOr dev false
    let ps := payloadsOf s.free
    if l.st == .dark then State.pumpRequests rest held (s.lost r)
    else if held.contains dev || !l.takes ps.length then
      State.pumpRequests rest (dev :: held) { s with sent := s.sent ++ [(dev, r)] }
    else State.pumpRequests rest held (s.transmit dev (.request r) ps)

/-- Answers handed to the links; one whose link takes none stays. -/
def State.pumpAnswers : List Answer → List Nat → State → State
  | [], _, s => s
  | a :: rest, held, s =>
    let ps := payloadsOf (s.free + 1)
    if held.contains a.dev || !(s.linkOr a.dev false).takes ps.length then
      State.pumpAnswers rest (a.dev :: held) { s with replies := s.replies ++ [a] }
    else State.pumpAnswers rest held (s.transmit a.dev (.answer a) ps)

/-- What the port hands to the links after every step. -/
def State.pump (s : State) : State :=
  let s := State.pumpRequests s.sent [] { s with sent := [] }
  State.pumpAnswers s.replies [] { s with replies := [] }

/-! ### Link states (R297) -/

/-- A link moved to a state, with its record. -/
def State.moveLink (s : State) (peer : Nat) (rx : Bool) (st : LinkState) (cause : Nat) : State :=
  let l := s.linkOr peer rx
  let new := { l with st := st, downAt := if st == .down && l.st != .down then s.cycle else l.downAt }
  (s.putLink new).linkRecord new l.st st cause

/-- UP or DEGRADED by the count of active lanes. -/
def State.litState (s : State) (l : Link) : LinkState := if l.active = s.dev.planes then .up else .degraded

/-- A link that has lost its last lane, or whose reverse link has, goes DOWN; a reverse link that is still in TRAINING has
lost none (R297; log 104). -/
def State.checkDown (s : State) (peer : Nat) (rx : Bool) (cause : Nat) : State :=
  let l := s.linkOr peer rx
  let carries := l.st == .up || l.st == .degraded
  if carries && l.active = 0 then s.moveLink peer rx .down cause
  else if carries && (s.linkOr peer !rx).active = 0 && (s.linkOr peer !rx).st != .training then s.moveLink peer rx .down 8
  else s

/-- The two directions after a change of lanes. -/
def State.checkLinks (s : State) (peer cause : Nat) : State := (s.checkDown peer true cause).checkDown peer false cause

/-- The hold time of a link that is DOWN: 100 ms (R297). -/
def holdTime : Nat := 100 * milli

/-- A link that is DOWN carries again: within the hold time, it has an active lane and its reverse link has one (R297). -/
def State.lift (s : State) (peer : Nat) (rx : Bool) (cause : Nat) : State :=
  let l := s.linkOr peer rx
  if l.st == .down && l.active != 0 && (s.linkOr peer !rx).active != 0 && decide (s.cycle < l.downAt + holdTime) then
    s.moveLink peer rx (s.litState l) cause
  else s

/-- A restripe has taken effect in a direction: the link's state follows the count of active lanes. A reverse link that
waited for it carries again, and its transmitter replays from S (R297). -/
def State.afterStripe (s : State) (peer : Nat) (rx : Bool) (cause : Nat) : State :=
  let l := s.linkOr peer rx
  let s := match l.st with
    | .training => if l.point = 0 then s.moveLink peer rx (s.litState l) cause else s
    | .up => s.moveLink peer rx (s.litState l) cause
    | .degraded => s.moveLink peer rx (s.litState l) cause
    | .down => s.lift peer rx cause
    | .dark => s
  let was := (s.linkOr peer !rx).st
  let s := s.lift peer (!rx) cause
  let rev := s.linkOr peer !rx
  let s := if rx && was == .down && rev.st != .down then s.resendFrom peer (some rev.point) else s
  s.checkLinks peer cause

/-- A link leaves DARK: its sequence, acknowledgement and epoch are 0. -/
def State.startTraining (s : State) (peer : Nat) (rx : Bool) : State :=
  let l := s.linkOr peer rx
  let some' := fun (x : Link) (ok : LaneState → Bool) => x.lanes.any fun k => ok k.st
  if l.st == .dark && some' l (· == .locking) && some' (s.linkOr peer !rx) (fun st => st == .locking || st == .active) then
    (s.putLink { l with
      next := 0, replay := [], expect := 0, epoch := 0, mask := 0, point := 0, nackAt := none, pendingEpoch := none
      holdData := false, beat := 0, why := 0 }).moveLink peer rx .training 0
  else s

/-! ### Restriping at the receiver (R293, R294) -/

/-- The lanes of the next stripe: the ACTIVE ones, and those that wait to be added. -/
def Link.nextMask (l : Link) : LaneSet :=
  maskOf ((l.lanes.filter fun x => x.st == .active || (x.st == .locking && x.waits)).map LinkLane.lane)

/-- The RESTRIPE under way sent, or sent again. -/
def State.sendStripe (s : State) (peer : Nat) : State :=
  let l := s.linkOr peer true
  match l.pendingEpoch with
  | some (e, p, m) =>
    (s.putLink { l with restripeAt := s.cycle }).control peer 3 [(0, leBytes 1 e), (4, leBytes 4 p), (8, leBytes 8 m.toNat)]
  | none => s

/-- A new stripe started with S equal to the expected sequence number, for a cause (R298). -/
def State.startStripe (s : State) (peer cause : Nat) : State :=
  let l := s.linkOr peer true
  if l.st == .dark then s
  else
    let e := ((l.pendingEpoch.map fun x => x.1).getD l.epoch + 1) % 256
    (s.putLink { l with
      pendingEpoch := some (e, l.expect, l.nextMask), why := if cause = 0 then l.why else cause }).sendStripe peer

/-- Both directions tested for training; the first stripe of a link that leaves DARK takes in the lanes that wait (R291,
R297). -/
def State.trainBoth (s : State) (peer : Nat) : State :=
  let s := (s.startTraining peer true).startTraining peer false
  let l := s.linkOr peer true
  if l.st == .training && l.pendingEpoch.isNone && l.mask == 0 && l.lanes.any LinkLane.waits then s.startStripe peer 0 else s

/-- What a restripe in force does to a lane of the receiver (R291). -/
def State.settleLane (s : State) (peer : Nat) (m : LaneSet) (k : Nat) : State :=
  let x := (s.linkOr peer true).laneAt k
  match x.st with
  | .locking => if m.getLsbD k then s.moveLane peer true k .active 0 else s
  | .suspect =>
    if m.getLsbD k then s
    else if 3 ≤ (x.recent s.cycle).length then s.moveLane peer true k .retired 4
    else
      (s.moveLane peer true k .retraining 0 fun x => { x with retrains := x.recent s.cycle ++ [s.cycle] }).control peer 4
        [(0, leBytes 1 k), (1, [1])]
  | _ => s

/-- The stripe under way takes effect at the receiver. -/
def State.adoptRx (s : State) (peer : Nat) : State :=
  let l := s.linkOr peer true
  match l.pendingEpoch with
  | none => s
  | some (e, p, m) =>
    let s := s.putLink { l with epoch := e, point := p, mask := m, pendingEpoch := none, why := 0 }
    let s := (List.range s.dev.planes).foldl (fun s k => s.settleLane peer m k) s
    s.afterStripe peer true l.why

/-- A DATA or IDLE flit of the epoch under way puts it in force. -/
def State.seeEpoch (s : State) (peer : Nat) (f : Parsed) : State :=
  match (s.linkOr peer true).pendingEpoch with
  | some (e, _, _) => if e % 16 = f.epoch then s.adoptRx peer else s
  | none => s

/-! ### Received flits (R289, R290, R293) -/

/-- A flit of a type received from a peer, with its acknowledgement taken. -/
def State.received (s : State) (type : Nat) (act : State → Parsed → State) : State :=
  match parseFlit s.ev.raw with
  | some f => if f.type = type then act (s.acked s.ev.peer f) f else s
  | none => s

/-- FLIT_DATA (R289). -/
def execFlitData (s : State) : Host.Outcome State Fault Refusal :=
  onPeer (fun s => s.received 1 fun s f =>
    let peer := s.ev.peer
    let s := s.seeEpoch peer f
    let l := s.linkOr peer true
    if f.seq = l.expect ∧ f.epoch = l.epoch % 16 then
      s.putLink { l with expect := (l.expect + 1) % 2 ^ 20, delivered := l.delivered ++ [f.payload] }
    else if before4096 f.seq l.expect then s
    else s.nack peer) s

/-- FLIT_IDLE (R289). -/
def execFlitIdle (s : State) : Host.Outcome State Fault Refusal := onPeer (fun s => s.received 0 fun s f => s.seeEpoch s.ev.peer f) s

/-- FLIT_NACK (R290). -/
def execFlitNack (s : State) : Host.Outcome State Fault Refusal :=
  onPeer (fun s => s.received 2 fun s f => s.resendFrom s.ev.peer (some (field f.payload 0 4 % 2 ^ 20))) s

/-- A transmit lane that is OFF while its laser module is lit waits again at once (R291; log 76). -/
def State.lockLane (s : State) (peer k cause : Nat) : State :=
  if ((s.linkOr peer false).laneAt k).st == .off && s.dev.lights peer k then s.moveLane peer false k .locking cause else s

/-- A lane of the transmit side as a RESTRIPE leaves it (R291; log 42): the lane named becomes ACTIVE out of LOCKING, and one
left out passes through OFF. The receiver names a RETRAINING lane only once it is LOCKING. -/
def State.stripeLane (s : State) (peer : Nat) (m : LaneSet) (k : Nat) : State :=
  match ((s.linkOr peer false).laneAt k).st, m.getLsbD k with
  | .locking, true => s.moveLane peer false k .active 0
  | .retraining, true => (s.moveLane peer false k .locking 0).moveLane peer false k .active 0
  | .active, false => (s.moveLane peer false k .off 0).lockLane peer k 0
  | _, _ => s

/-- The lanes of a link that are OFF. -/
def Link.offLanes (l : Link) : LaneSet := maskOf ((l.lanes.filter fun x => x.st == .off).map LinkLane.lane)

/-- The transmitter adopts a stripe (R293): new epoch, mask and point, the beat count restarted, then its held flits from
S. Lanes that are dark stay out of it; a RESTRIPE that names one was sent before the loss, and DATA waits for the next
(R294, R296). -/
def State.adoptTx (s : State) (peer e p : Nat) (m : LaneSet) : State :=
  let l := s.linkOr peer false
  let s := s.putLink { l with
    epoch := e, point := p, mask := m &&& ~~~l.offLanes, holdData := m &&& l.offLanes != 0, beat := 0, why := 0 }
  let s := (List.range s.dev.planes).foldl (fun s k => s.stripeLane peer m k) s
  (s.afterStripe peer false l.why).resendFrom peer (some p)

/-- FLIT_RESTRIPE (R293): of the 128 epochs after the current one. -/
def execFlitRestripe (s : State) : Host.Outcome State Fault Refusal :=
  onPeer (fun s => s.received 3 fun s f =>
    let l := s.linkOr s.ev.peer false
    let e := field f.payload 0 1
    let ahead := (e + 256 - l.epoch) % 256
    if l.st != .dark && decide (1 ≤ ahead ∧ ahead ≤ 128) then
      s.adoptTx s.ev.peer e (field f.payload 4 4 % 2 ^ 20) (BitVec.ofNat 64 (field f.payload 8 8))
    else s) s

/-- FLIT_RETRAIN (R285, R291). -/
def execFlitRetrain (s : State) : Host.Outcome State Fault Refusal :=
  onPeer (fun s => s.received 4 fun s f =>
    let k := field f.payload 0 1
    if s.dev.planes ≤ k then s
    else match field f.payload 1 1 with
      | 1 => s.moveLane s.ev.peer false k .retraining 0 fun x => { x with retrains := x.recent s.cycle ++ [s.cycle] }
      | 2 => (s.moveLane s.ev.peer false k .locking 0).trainBoth s.ev.peer
      | 3 => s.moveLane s.ev.peer false k .retired 4
      | _ => s) s

/-- FLIT_LOST (R285, R289). -/
def execFlitLost (s : State) : Host.Outcome State Fault Refusal :=
  onPeer (fun s => if (parseFlit s.ev.raw).isNone then s.nack s.ev.peer else s) s

/-! ### Timers (R289, R290, R293) -/

/-- IDLE_TIMER (R289): 1 µs without a flit on the link to the peer. -/
def execIdleTimer (s : State) : Host.Outcome State Fault Refusal :=
  onPeer (fun s => if (s.linkOr s.ev.peer false).sentAt + Config.cyclesPerUs ≤ s.cycle then s.control s.ev.peer 0 [] else s) s

/-- REPLAY_TIMEOUT (R290): 100 µs without an advance of the acknowledgement. -/
def execReplayTimeout (s : State) : Host.Outcome State Fault Refusal :=
  onPeer (fun s =>
    let l := s.linkOr s.ev.peer false
    if !l.replay.isEmpty && decide (l.ackAt + 100 * Config.cyclesPerUs ≤ s.cycle) && (l.st == .up || l.st == .degraded) &&
        !l.holdData then
      (s.putLink { l with ackAt := s.cycle }).resendFrom s.ev.peer none
    else s) s

/-- RESTRIPE_REPEAT (R293): every 2 µs. -/
def execRestripeRepeat (s : State) : Host.Outcome State Fault Refusal :=
  onPeer (fun s =>
    let l := s.linkOr s.ev.peer true
    if l.pendingEpoch.isSome && decide (l.restripeAt + 2 * Config.cyclesPerUs ≤ s.cycle) then s.sendStripe s.ev.peer else s) s

/-! ### Lanes at the receiver (R291, R292, R295) -/

/-- An event of a lane of the link from a peer, in a state. -/
def onLane (ok : LinkLane → Bool) (f : State → Nat → Nat → State) (s : State) : Host.Outcome State Fault Refusal :=
  onPeer (fun s =>
    if s.ev.lane < s.dev.planes && ok ((s.linkOr s.ev.peer true).laneAt s.ev.lane) then f s s.ev.peer s.ev.lane else s) s

/-- LIGHT_DETECTED (R291). -/
def execLightDetected (s : State) : Host.Outcome State Fault Refusal :=
  onLane (fun x => x.st == .off) (fun s p k => (s.moveLane p true k .locking 0).trainBoth p) s

/-- A lane that light can be taken from. -/
def LinkLane.lit (x : LinkLane) : Bool := x.st != .off && x.st != .retired

/-- Some lanes of a link go OFF and leave its stripe. -/
def Link.darkened (l : Link) (ks : List Nat) (cycle : Nat) : Link :=
  { l with
    mask := l.mask &&& ~~~(maskOf ks)
    lanes := l.lanes.map fun x => if ks.contains x.lane then { x with st := .off, waits := false, since := cycle } else x }

/-- The records of lanes that have gone OFF. -/
def State.darkRecords (s : State) (was : Link) (ks : List Nat) : State :=
  let l := s.linkOr was.peer was.rx
  ks.foldl (fun s k => s.laneEvent l k (was.laneAt k).st .off 1) s

/-- LOSS_OF_LIGHT (R294, R295): the lanes are removed at once, and a new stripe starts without them where the stripe in force
or the one under way has them. -/
def execLossOfLight (s : State) : Host.Outcome State Fault Refusal :=
  onPeer (fun s =>
    let l := s.linkOr s.ev.peer true
    let ks := (lanesOf s.ev.lanes).filter fun k => decide (k < s.dev.planes) && (l.laneAt k).lit
    if ks.isEmpty then s
    else
      let striped := ks.any fun k => l.mask.getLsbD k || l.pendingEpoch.any fun x => x.2.2.getLsbD k
      let s := s.putLink (l.darkened ks s.cycle)
      let s := if striped then s.startStripe s.ev.peer 1 else s
      (s.darkRecords l ks).checkLinks s.ev.peer 1) s

/-- LOCK_WINDOW (R291, R292): the 1 ms window of a lane closes, with its count of corrected symbols. A lane that has held lock
through the whole of it, below the threshold, is added at the next restripe. A count equal to the threshold has not crossed it
(R292), and is taken as below (log 116). -/
def execLockWindow (s : State) : Host.Outcome State Fault Refusal :=
  onLane (fun x => decide (x.window < s.cycle / milli)) (fun s p k =>
    let l := s.linkOr p true
    let x := l.laneAt k
    let now := s.cycle / milli
    let n := max x.count s.ev.n
    let close := fun (x : LinkLane) => ({ x with last := n, count := 0, window := now } : LinkLane)
    let held := decide (x.since + milli ≤ now * milli) && decide (n ≤ s.dev.linkThreshold)
    if !held then s.putLink (l.setLane (close x))
    else match x.st with
    | .locking =>
      if x.waits then s.putLink (l.setLane (close x)) else (s.putLink (l.setLane { close x with waits := true })).startStripe p 0
    | .retraining =>
      let s := s.moveLane p true k .locking 0 fun x => { close x with waits := true }
      (s.control p 4 [(0, leBytes 1 k), (1, [2])]).startStripe p 0 |>.trainBoth p
    | _ => s.putLink (l.setLane (close x))) s

/-- LOCK_TIMEOUT (R291): no lock within 1 ms. -/
def execLockTimeout (s : State) : Host.Outcome State Fault Refusal :=
  onLane (fun x => x.st == .locking && !x.waits && decide (x.since + milli ≤ s.cycle)) (fun s p k => s.moveLane p true k .off 5) s

/-- An ACTIVE lane becomes SUSPECT, and a stripe without it starts (R291). -/
def State.suspectLane (s : State) (peer k cause : Nat) : State := (s.moveLane peer true k .suspect cause).startStripe peer cause

/-- THRESHOLD_CROSSED (R292): the count of the open window, at once. -/
def execThresholdCrossed (s : State) : Host.Outcome State Fault Refusal :=
  onLane (fun x => x.st == .active && decide (s.dev.linkThreshold < s.ev.n)) (fun s p k =>
    let l := s.linkOr p true
    (s.putLink (l.setLane { l.laneAt k with count := s.ev.n })).suspectLane p k 2) s

/-- UNCORRECTABLE_CODEWORD (R291). -/
def execUncorrectableCodeword (s : State) : Host.Outcome State Fault Refusal :=
  onLane (fun x => x.st == .active) (fun s p k => s.suspectLane p k 3) s

/-- RETRAIN_TIMEOUT (R291): 100 ms without a window below the threshold; the time runs anew for the next retrain. -/
def execRetrainTimeout (s : State) : Host.Outcome State Fault Refusal :=
  onLane (fun x => x.st == .retraining && decide (x.since + 100 * milli ≤ s.cycle)) (fun s p k =>
    let l := s.linkOr p true
    let x := l.laneAt k
    if 3 ≤ (x.recent s.cycle).length then (s.moveLane p true k .retired 4).control p 4 [(0, leBytes 1 k), (1, [3])]
    else s.putLink (l.setLane { x with retrains := x.recent s.cycle ++ [s.cycle], since := s.cycle })) s

/-! ### Readiness (R357) -/

/-- READY (R357): zero in recovery (R361). -/
def Device.readyMap (d : Device) : Addr :=
  let bit := fun (b : Bool) (n : Nat) => if b then 2 ^ n else 0
  let up := fun (f : FnUnit) => d.fnState f == .ready
  if d.recovery then 0
  else BitVec.ofNat 64 (bit (up .mgmt) 0 + ((List.range 4).map fun n => bit (up (.die n)) (1 + n)).sum +
    ((List.range 12).map fun n => bit (up (.stack n)) (5 + n)).sum +
    ((List.range 4).map fun n => bit (up (.jpeg n)) (17 + 3 * n) + bit (up (.bilevel n)) (18 + 3 * n) + bit (up (.dma n)) (19 + 3 * n)).sum +
    bit (d.lasers.any fun x => x.2 == .lit) 29)

/-- The codes of a readiness event (R355 kind 0x20). -/
def fnCode : FnUnit → Nat × Nat
  | .mgmt => (0, 0) | .die n => (1, n) | .stack n => (2, n) | .jpeg n => (3, n) | .bilevel n => (4, n) | .dma n => (5, n)
  | .laser n => (6, n)

def fnStateCode : FnState → Nat
  | .reset => 0 | .training => 1 | .ready => 2 | .failed => 3

def Device.setFn (d : Device) (f : FnUnit) (st : FnState) : Device :=
  { d with functions := (f, st) :: d.functions.filter fun x => x.1 != f }

/-- A function's new state, and its readiness event. -/
def State.moveFn (s : State) (f : FnUnit) (st : FnState) : State :=
  let s := s.setDev (s.dev.setFn f st)
  s.raise (record 64 [(0, [0x20]), (1, leBytes 1 (fnCode f).1), (2, leBytes 1 (fnCode f).2), (3, leBytes 1 (fnStateCode st)),
    (8, leBytes 8 s.dev.readyMap.toNat)])

/-! ### Laser modules (R296) -/

/-- A module's state, with its record. -/
def State.moveLaser (s : State) (m : Nat) (st : LaserState) (cause : Nat) : State :=
  let old := s.dev.laser m
  if old == st then s
  else (s.setDev { s.dev with lasers := (m, st) :: s.dev.lasers.filter fun x => x.1 != m }).raise
    (linkEvent 0x42 st.code old.code cause s.dev.index 0xFF 0 m 0xFF 0 0 0 0 0 s.cycle)

/-- The lanes on a module's planes. -/
def Device.lanesOfModule (d : Device) (m : Nat) : List Nat := (List.range d.planes).filter fun k => d.planeOf k / 4 == m

/-- The transmit link to a peer loses a module's lanes: no DATA until the RESTRIPE, if the stripe had them. A link that has
not been in use has no state but the records of its lanes. -/
def State.darkModule (s : State) (m peer : Nat) : State :=
  match s.link peer false with
  | none => (s.dev.lanesOfModule m).foldl (fun s k => s.laneEvent { peer := peer, rx := false } k .locking .off 1) s
  | some l =>
    let ks := (s.dev.lanesOfModule m).filter fun k => (l.laneAt k).lit
    let hit := ks.any fun k => l.mask.getLsbD k
    let s := s.putLink { l.darkened ks s.cycle with holdData := l.holdData || hit, why := if hit then 1 else l.why }
    (s.darkRecords l ks).checkLinks peer 1

/-- The devices of the domain. -/
def Device.peers (d : Device) : List Nat := (List.range 128).filter d.present

/-- READY [29], at least one laser module lit, has changed or not: a change raises a readiness event (R357). -/
def State.laserReady (s : State) (m : Nat) (was : Bool) (st : FnState) : State :=
  if (s.dev.lasers.any fun x => x.2 == .lit) == was then s.setDev (s.dev.setFn (.laser m) st) else s.moveFn (.laser m) st

/-- LASER_FAILURE (R296). -/
def execLaserFailure (s : State) : Host.Outcome State Fault Refusal :=
  let m := s.ev.module
  .next (if s.dev.laser m == .lit then
    s.dev.peers.foldl (fun s p => s.darkModule m p) ((s.moveLaser m .failed 1).laserReady m true .failed)
  else s)

/-- The transmit lanes of a module that has lit: a RETIRED one passes through OFF (R291). -/
def State.lightLane (s : State) (peer k cause : Nat) : State :=
  let s := if ((s.linkOr peer false).laneAt k).st == .retired then
    s.moveLane peer false k .off cause fun x => { x with retrains := [] } else s
  s.lockLane peer k cause

/-- A RETIRED receive lane of the loopback link, whose module is the device's own, is OFF once that is replaced (R281,
R291). -/
def State.freeLoopback (s : State) (k : Nat) : State :=
  if ((s.linkOr s.dev.index true).laneAt k).st == .retired then
    s.moveLane s.dev.index true k .off 7 fun x => { x with retrains := [] }
  else s

/-- The lanes of a module that has lit on the link to a peer. -/
def State.lightPeer (s : State) (ks : List Nat) (cause peer : Nat) : State :=
  if (s.link peer false).isNone then
    let s := ks.foldl (fun s k => s.laneEvent { peer := peer, rx := false } k .off .locking cause) s
    if s.links.any fun l => l.peer == peer then s.trainBoth peer else s
  else (ks.foldl (fun s k => s.lightLane peer k cause) s).trainBoth peer

/-- A module lights (R296). -/
def State.lightModule (s : State) (m cause : Nat) : State :=
  let s := s.moveLaser m .lit cause
  let ks := s.dev.lanesOfModule m
  let s := if (s.link s.dev.index true).isSome then ks.foldl State.freeLoopback s else s
  s.dev.peers.foldl (fun s p => s.lightPeer ks cause p) s

/-- LASER_REPLACED (R296): a module that failed, or failed to train, is replaced and lights. Before it has trained, in recovery
and while the module is held in RESET, none lights (R357, R361, R364). -/
def execLaserReplaced (s : State) : Host.Outcome State Fault Refusal :=
  .next (if s.dev.full && s.dev.fnState (.laser s.ev.module) == .failed && s.dev.laser s.ev.module != .lit then
      let was := s.dev.lasers.any fun x => x.2 == .lit
      (s.lightModule s.ev.module 7).laserReady s.ev.module was .ready
    else s)

/-! ### The hold time, and the driver's commands -/

/-- What a link leaves when it goes DARK: no replay buffer and no stripe. -/
def Link.dropped (l : Link) : Link := { l with replay := [], mask := 0, pendingEpoch := none }

/-- The lanes of a link that has gone DARK carry no stripe: those that have kept their light wait for the first one
(R291, R297; log 119), and a receiver's RETRAINING lane goes on. -/
def State.unstripe (s : State) (peer : Nat) (rx : Bool) : State :=
  (List.range s.dev.planes).foldl (fun s k =>
    match ((s.linkOr peer rx).laneAt k).st with
    | .active | .suspect => s.moveLane peer rx k .locking 9
    | .retraining => if rx then s else s.moveLane peer rx k .locking 9
    | _ => s) s

/-- LINK_HOLD_EXPIRE (R297): the replay buffer goes, and the operations that own its flits, or wait behind them, meet
REMOTE_UNREACHABLE. -/
def execLinkHoldExpire (s : State) : Host.Outcome State Fault Refusal :=
  onPeer (fun s =>
    let l := s.linkOr s.ev.peer s.ev.rx
    if l.st == .down && decide (l.downAt + holdTime ≤ s.cycle) then
      let behind := fun (x : Nat × Req) => !l.rx && x.1 == l.peer
      let gone := (l.replay.filterMap fun f => match f.load with | .request r => some r | .answer _ => none) ++
        (s.sent.filter behind).map Prod.snd
      let s := ({ s with sent := s.sent.filter fun x => !behind x }.putLink l.dropped).moveLink l.peer l.rx .dark 9
      ((gone.foldl State.lost s).unstripe l.peer l.rx).trainBoth l.peer
    else s) s

/-- REENABLE_LANE (R291). -/
def execReenableLane (s : State) : Host.Outcome State Fault Refusal :=
  runCommand { op := 0x19, context := false, named := [(16, 3)] } (fun s e =>
    let peer := cmdField e 16 1
    let k := cmdField e 17 1
    let side := cmdField e 18 1
    if 127 < peer ∨ s.dev.planes ≤ k ∨ 1 < side then .refused badOperand
    else if ((s.linkOr peer (side == 1)).laneAt k).st == .retired then
      let s := s.moveLane peer (side == 1) k .off 6 fun x => { x with retrains := [] }
      .done (if side = 0 then (s.lockLane peer k 0).trainBoth peer else s)
    else .refused badState) s

/-- LINK_THRESHOLD (R292). -/
def execLinkThreshold (s : State) : Host.Outcome State Fault Refusal :=
  runCommand { op := 0x18, subs := 3, context := false, named := [(16, 4)] } (fun s e =>
    let n := cmdField e 16 4
    if 1 ≤ n ∧ n ≤ 1048575 then .done (s.setDev { s.dev with linkThreshold := n }) else .refused badOperand) s

end Sys2Proof.Machine
end

