-- ==== Sys2Proof/Machine/Device.lean ====
section
/-!
DEFINITION. The device: BAR 0, the rings, BAR 2, thresholds, keys and attestation, bring-up, corrected errors, power and
temperature (R252, R256, R349 to R364).
-/
namespace Sys2Proof.Machine

/-- An event that the device takes only while it serves it. -/
def whenFull (f : State → State) (s : State) : Host.Outcome State Fault Refusal := .next (if s.dev.full then f s else s)
def whenServed (f : State → State) (s : State) : Host.Outcome State Fault Refusal := .next (if s.dev.serves then f s else s)

/-! ### Rings (R350, R351, R354) -/

/-- The base and size that a write of CMDBASE or EVBASE gives; none for a size that no ring has. -/
def ringOf (v : Addr) : Option Ring :=
  let k := (v.extractLsb' 0 5).toNat
  if 4 ≤ k ∧ k ≤ 16 then some { base := (v.extractLsb' 10 42).setWidth 64 <<< 10, k := k } else none

/-- Held records written while the event ring has room (R354). -/
def State.flushEvents : Nat → State → State
  | 0, s => s
  | f + 1, s =>
    match s.dev.evHeld with
    | [] => s
    | r :: rest =>
      if s.dev.ev.used < s.dev.ev.slots then State.flushEvents f (({ s with dev := { s.dev with evHeld := rest } }).pushEvent r) else s

/-- EVHEAD (R354): an index within the ring's entries. -/
def execEvhead (s : State) : Host.Outcome State Fault Refusal :=
  whenServed (fun s =>
    let ev := s.dev.ev
    let v := s.ev.val.toNat % 2 ^ 32
    if (ev.tail + 2 ^ 32 - v) % 2 ^ 32 ≤ ev.used then
      State.flushEvents 4096 (s.setDev { s.dev with ev := { ev with head := v } })
    else s) s

/-- CMDBASE (R351): taken while the ring is empty. -/
def execCmdbase (s : State) : Host.Outcome State Fault Refusal :=
  whenServed (fun s => match ringOf s.ev.val with
    | some r => if s.dev.cmd.head = s.dev.cmd.tail then s.setDev { s.dev with cmd := r } else s
    | none => s) s

/-- EVBASE (R351). -/
def execEvbase (s : State) : Host.Outcome State Fault Refusal :=
  whenServed (fun s => match ringOf s.ev.val with
    | some r => if s.dev.ev.head = s.dev.ev.tail then State.flushEvents 4096 (s.setDev { s.dev with ev := r }) else s
    | none => s) s

/-- CMDTAIL (R351, R352): entries up to the tail are read, in order. -/
def execCmdtail (s : State) : Host.Outcome State Fault Refusal :=
  whenServed (fun s => match s.dev.cmd.upTo s.ev.val.toNat with
    | none => s
    | some idxs =>
      let es := idxs.map fun i => (BitVec.ofNat 512 (ofLe (s.ringEntry s.dev.cmd 64 i)) : Entry)
      let r := { s.dev.cmd with tail := s.ev.val.toNat % 2 ^ 32, head := s.ev.val.toNat % 2 ^ 32 }
      { s with commands := s.commands ++ es, dev := { s.dev with cmd := r } }) s

/-- SQTAIL (R351): entries up to the tail are read, in order. -/
def execSqtail (s : State) : Host.Outcome State Fault Refusal :=
  whenFull (fun s =>
    let q := s.ev.queue
    let r := s.dev.sqRing q
    match (if q < 64 then r.upTo s.ev.val.toNat else none) with
    | none => s
    | some idxs => State.readRing q idxs (s.setDev (s.dev.setSq q { r with tail := s.ev.val.toNat % 2 ^ 32 }))) s

/-- WINBASE (R350, R356): its defined bits. -/
def execWinbase (s : State) : Host.Outcome State Fault Refusal :=
  whenFull (fun s =>
    let v := s.ev.val
    s.setDev { s.dev with winbase := ((v.extractLsb' 52 9).setWidth 64 <<< 52) ||| ((v.extractLsb' 36 16).setWidth 64 <<< 36) }) s

/-- REGISTER_WRITE_IGNORED (R350). -/
def execRegisterWriteIgnored (s : State) : Host.Outcome State Fault Refusal := .next s

/-- SET_QUEUE (R351, R353). -/
def execSetQueue (s : State) : Host.Outcome State Fault Refusal :=
  runCommand { op := 0x01, context := false, named := [(16, 2), (24, 8)] } (fun s e =>
    let q := cmdField e 16 1
    let k := cmdField e 17 1
    let r := s.dev.sqRing q
    if 63 < q ∨ k < 4 ∨ 16 < k ∨ (cmdAddr e 24).toNat % (16 * 2 ^ k) ≠ 0 then .refused badOperand
    else if r.head ≠ r.tail then .refused badState
    else .done (s.setDev (s.dev.setSq q { base := cmdAddr e 24, k := k }))) s

/-! ### BAR 2 (R204, R356) -/

/-- The physical address of an offset in the window. -/
def Device.window (d : Device) (off : Nat) : Nat := (d.winbase.extractLsb' 36 16).toNat * 2 ^ 36 + off

/-- The pieces of a host access below the end of memory, within units: offset, address and length. -/
def Device.hostPieces (d : Device) (off n : Nat) : List (Nat × Nat × Nat) :=
  (cutUnits (n + 1) (BitVec.ofNat 64 (d.window off)) n).map fun p => (p.1.toNat - d.window off, p.1.toNat, p.2)

/-- A piece lies in memory that its stack serves. -/
def State.hostOk (s : State) (a : Nat) : Bool := decide (a < Config.memBytes) && s.stackReady a

/-- A host access within the window. -/
def inWindow (off n : Nat) : Bool := decide (off + n ≤ 2 ^ 36)

/-- The key of BAR 2 (R356, R363): that of the slot that WINBASE names. -/
def State.windowKey (s : State) : List Byte := s.slotKey (s.dev.winbase.extractLsb' 52 9).toNat

/-- The bytes of a piece that a host read gives: zero above memory, free where an error hides them (R138, R356; log 44). -/
def State.hostBytes (s : State) (a n : Nat) : List Byte :=
  if Config.memBytes ≤ a then List.replicate n 0
  else if s.unitBad (a / 64) then (List.range n).map fun k => (Config.freeWord (s.free + k)).setWidth 8
  else s.mem.see s.free s.windowKey a n

/-- The L2 lines of a host access, at their home slices; the spec gives it no reuse value, and the model uses 0 (R136, R356;
log 24). -/
def State.hostLines (s : State) (ps : List (Nat × Nat)) (dirty : Bool) : State :=
  s.setMem (ps.foldl (fun m p => m.l2Lines true p.1 p.2 0 dirty) s.mem)

/-- HOST_READ (R204, R356): stored bytes under the window's key, no tag check. -/
def execHostRead (s : State) : Host.Outcome State Fault Refusal :=
  whenFull (fun s =>
    let ps := s.dev.hostPieces s.ev.off s.ev.n
    if inWindow s.ev.off s.ev.n then
      let s := ps.foldl (fun s p => if decide (p.2.1 < Config.memBytes) && s.mem.poisoned (p.2.1 / 64) then s.memoryError none (p.2.1 / 64) else s) s
      (s.hostLines ((ps.map Prod.snd).filter fun p => s.hostOk p.1 && !s.mem.poisoned (p.1 / 64)) false).setDev
        { s.dev with readData := ps.flatMap fun p => s.hostBytes p.2.1 p.2.2 }
    else s) s

/-- The pieces of a host write that are performed: not above memory, on a ready stack, and a poisoned unit only whole
(R138, R356). -/
def State.hostWrites (s : State) (off : Nat) (bs : List Byte) : List Piece :=
  (s.dev.hostPieces off bs.length).filterMap fun p =>
    if s.hostOk p.2.1 && (!s.mem.poisoned (p.2.1 / 64) || p.2.2 == 64) then
      some { pa := p.2.1, data := (bs.drop p.1).take p.2.2, cell := false, host := false, key := some s.windowKey }
    else none

/-- HOST_WRITE (R204, R356): bytes stored under the window's key, cells VAL. -/
def execHostWrite (s : State) : Host.Outcome State Fault Refusal :=
  whenFull (fun s =>
    let bs := s.ev.data
    if inWindow s.ev.off bs.length then
      let bad := (s.dev.hostPieces s.ev.off bs.length).filter fun p =>
        decide (p.2.1 < Config.memBytes) && s.mem.poisoned (p.2.1 / 64) && p.2.2 != 64
      let ps := s.hostWrites s.ev.off bs
      bad.foldl (fun s p => s.memoryError none (p.2.1 / 64))
        ((s.setMem (s.mem.writePieces s.free ps)).hostLines (ps.map fun p => (p.pa, p.data.length)) true)
    else s) s

/-! ### Settings (R252, R353, R364) -/

/-- CHANNEL_THRESHOLD (R252). -/
def execChannelThreshold (s : State) : Host.Outcome State Fault Refusal :=
  runCommand { op := 0x18, sub := 1, subs := 3, context := false, named := [(16, 4)] } (fun s e =>
    let n := cmdField e 16 4
    if 1 ≤ n ∧ n ≤ 64 then .done (s.setDev { s.dev with channelThreshold := n }) else .refused badOperand) s

/-- POWER_LIMIT (R364). -/
def execPowerLimit (s : State) : Host.Outcome State Fault Refusal :=
  runCommand { op := 0x18, sub := 2, subs := 3, context := false, named := [(16, 4)] } (fun s e =>
    let n := cmdField e 16 4
    if 1000 ≤ n ∧ n ≤ 2800 then .done (s.setDev { s.dev with powerLimit := n }) else .refused badOperand) s

/-- SET_DEVICE_INDEX (R353): while no context is live. -/
def execSetDeviceIndex (s : State) : Host.Outcome State Fault Refusal :=
  runCommand { op := 0x1A, context := false, named := [(16, 1)] } (fun s e =>
    if 127 < cmdField e 16 1 then .refused badOperand
    else if !s.contexts.isEmpty then .refused badState
    else .done (s.setDev { s.dev with index := cmdField e 16 1 })) s

/-- UNKNOWN_COMMAND (R352). -/
def execUnknownCommand (s : State) : Host.Outcome State Fault Refusal :=
  let op := cmdOp s.ev.entry
  .next (if (1 ≤ op ∧ op ≤ 0x0A) ∨ (0x11 ≤ op ∧ op ≤ 0x1B) then s else s.cmdDone s.ev.entry false 1 0)

/-! ### Keys and attestation (R362, R363) -/

/-- A live context names a key slot (R265, R363). -/
def State.keyNamed (s : State) (k : Nat) : Bool := s.contexts.any fun c => c.key == k || c.shared.contains k

/-- A key slot that LOAD_KEY or CLEAR_KEY may name: why not. -/
def State.keyRefusal (s : State) (k : Nat) : Option Nat :=
  if k < 1 ∨ 511 < k then some badOperand else if s.keyNamed k then some keyInUse else none

/-- LOAD_KEY (R363): a wrapped key that does not unwrap is refused. -/
def execLoadKey (s : State) : Host.Outcome State Fault Refusal :=
  runCommand { op := 0x08, context := false, named := [(16, 2), (24, 8)] } (fun s e =>
    let k := cmdField e 16 2
    let a := (cmdAddr e 24).toNat
    match (if a % 64 ≠ 0 then some badOperand else s.keyRefusal k), s.physRead a 384 with
    | some r, _ => .refused r
    | none, none => .unread a 384 badOperand
    | none, some w =>
      if Config.unwrapOk s.dev.resets w then
        let s := s.physSaw a 384
        .done (s.setDev { s.dev with keys := (k, Config.unwrapKey s.dev.resets w) :: s.dev.keys.filter fun x => x.1 != k })
      else .refused badOperand) s

/-- CLEAR_KEY (R363). -/
def execClearKey (s : State) : Host.Outcome State Fault Refusal :=
  runCommand { op := 0x09, context := false, named := [(16, 2)] } (fun s e =>
    let k := cmdField e 16 2
    match s.keyRefusal k with
    | some r => .refused r
    | none => .done (s.setDev { s.dev with keys := s.dev.keys.filter fun x => x.1 != k })) s

/-- ATTEST (R362): the report over the nonce, the firmware, the signature and the boot's transport key, written to memory. -/
def execAttest (s : State) : Host.Outcome State Fault Refusal :=
  runCommand { op := 0x0A, context := false, named := [(16, 40)] } (fun s e =>
    let a := (cmdAddr e 48).toNat
    let report := Config.attestReport
      ⟨(List.range 32).map fun k => BitVec.ofNat 8 (cmdField e (16 + k) 1), s.dev.image, s.dev.signature, s.dev.resets⟩
    let bad := fun (u : Nat) => !s.stackReady (64 * u) || (s.mem.poisoned u && decide (a + report.length < 64 * u + 64))
    if a % 64 ≠ 0 ∨ Config.memBytes < a + report.length ∨ (unitsOf a report.length).any bad then .refused badOperand
    else .done ((s.physWrite a report).setDev { s.dev with report := report })) s

/-! ### Bring-up (R357, R361) -/

/-- Every function but the management core and the lasers. -/
def trainingUnits : List FnUnit :=
  (List.range 4).map .die ++ (List.range 12).map .stack ++ (List.range 4).map .jpeg ++ (List.range 4).map .bilevel ++
    (List.range 4).map .dma ++ (List.range 16).map .laser

/-- The signature computed afresh (R256). -/
def State.resign (s : State) : State := s.setDev { s.dev with signature := s.mapNow }

/-- What a reset leaves: memory and host memory keep their bytes, everything else is as after reset, the count of cycles
included (R116; log 43). -/
def State.cleared (s : State) : State :=
  { State.reset with
    agenda := s.agenda, ev := s.ev, free := s.free, nextId := s.nextId
    mem := { bytes := s.mem.bytes, tags := s.mem.tags, keyed := s.mem.keyed, poison := s.mem.poison, host := s.mem.host }
    dev := { planes := s.dev.planes, absent := s.dev.absent, resets := s.dev.resets } }

/-- The module leaves reset: the management core trains, and is ready with firmware that verifies, whereupon the other
functions train; or the module stays in recovery (R357, R361, R363). -/
def State.boot (s : State) (image : List Byte) (ok : Bool) : State :=
  let s := s.cleared
  let n := s.dev.resets + 1
  let s := (s.setDev { s.dev with resets := n, keys := [(0, Config.bootKey n)], recovery := !ok }).moveFn .mgmt .training
  if !ok then s
  else
    let s := (s.setDev { s.dev with image := image }).moveFn .mgmt .ready
    (trainingUnits.foldl (fun s f => s.moveFn f .training) s).resign

/-- MODULE_RESET (R361): `data` is the firmware image. -/
def execModuleReset (s : State) : Host.Outcome State Fault Refusal := .next (s.boot s.ev.data (Config.imageVerifies s.ev.data))

/-- RECOVERY_IMAGE (R361): only in recovery. -/
def execRecoveryImage (s : State) : Host.Outcome State Fault Refusal :=
  runCommand { op := 0x1B, context := false, named := [(16, 12)] } (fun s e =>
    let a := (cmdAddr e 16).toNat
    if a % 4096 ≠ 0 then .refused badOperand
    else if !s.dev.recovery then .refused badState
    else
      let image := lookups 0 s.mem.host a (cmdField e 24 4)
      if Config.imageVerifies image then .later ((s.cmdDone e false 0 0).boot image true) else .refused badImage) s

/-- A die may become ready: some stack of its own is (R357). -/
def Device.dieMay (d : Device) (n : Nat) : Bool := (List.range 3).any fun k => d.fnState (.stack (3 * n + k)) == .ready

/-- FUNCTION_TRAINED (R357): a die that becomes ready changes the signature (R256); a laser module lights (R296). -/
def execFunctionTrained (s : State) : Host.Outcome State Fault Refusal :=
  let f := s.ev.fn
  .next (if s.dev.fnState f != .training then s
    else match f, s.ev.ok with
      | _, false => s.moveFn f .failed
      | .die n, true => if s.dev.dieMay n then (s.moveFn f .ready).resign else s
      | .laser n, true => (s.lightModule n 0).moveFn f .ready
      | _, true => s.moveFn f .ready)

/-! ### The registers of BAR 0 that the host reads (R350, R360) -/

/-- What the host reads at an offset of BAR 0: a register it may read, 0 at a reserved offset; a register that it only
writes, or that recovery does not serve (R361), is given no value by the spec. -/
def State.register (s : State) (off : Nat) : Option Addr :=
  let d := s.dev
  let of := fun (n : Nat) => some (BitVec.ofNat 64 n)
  let n := (off - 0x500) / 8
  if off % 8 ≠ 0 then none
  else if d.recovery && !(off == 0x408 || off == 0x418 || off == 0x430) then none
  else if off < 0x200 then none
  else if off < 0x400 then of (d.sqRing ((off - 0x200) / 8)).head
  else if off = 0x408 then of d.cmd.head
  else if off = 0x418 then of d.ev.tail
  else if off = 0x420 then of d.evLost
  else if off = 0x430 then some d.readyMap
  else if off = 0x438 then some d.signature
  else if [0x400, 0x410, 0x440, 0x448, 0x450].contains off then none
  else if 0x500 ≤ off ∧ n < 4 then of (lookup 0 s.mem.dropped n)
  else if 0x500 ≤ off ∧ n < 8 then of (lookup 0 d.corrected (n - 4))
  else if 0x500 ≤ off ∧ n < 12 then of (lookup 0 d.uncorrected (n - 8))
  else some 0

/-! ### Corrected errors (R359) -/

/-- The row that a count is of: HBM4E errors are counted by row (R359). -/
def countedRow (x : ErrCount) : Nat := if x.fn == .hbm then Config.rowOf x.addr.toNat else 0

/-- The history of a unit after a window: hot windows of the last ten. -/
def Device.errUnit (d : Device) (x : ErrCount) (window : Nat) : ErrUnit :=
  let u := d.errAt x.fn x.die x.unit (countedRow x)
  let hot := (if 64 < x.count then [window] else []) ++ u.hot.filter fun w => decide (window < w + 10)
  { u with hot := hot, lasting := u.lasting || decide (3 ≤ hot.length), last := x.count }

/-- What becomes of a lasting-faulty unit: a slice is mapped out, and its lines and waiters move; a core takes no more
teams. -/
def State.retire (s : State) (x : ErrCount) : State :=
  match x.fn with
  | .l2 =>
    let m := { s.mem with
      lines := s.mem.lines.filter fun l => l.slice != 512 * x.die + x.unit, slicesOut := s.mem.slicesOut ++ [(x.die, x.unit)] }
    let ws := s.waits.map fun w => { w with slice := m.sliceKey w.unit }
    ({ s with mem := m, waits := ws }).resign
  | .core => s.setDev { s.dev with badCores := s.dev.badCores ++ [(x.die, x.unit)] }
  | _ => s

/-- One unit's corrected errors of a window: its count, and its error event where it becomes lasting-faulty. -/
def State.countErrors (s : State) (window : Nat) (x : ErrCount) : State :=
  let u := s.dev.errUnit x window
  let was := (s.dev.errAt x.fn x.die x.unit (countedRow x)).lasting
  let s := s.setDev { s.dev with
    corrected := put 0 s.dev.corrected x.die (lookup 0 s.dev.corrected x.die + x.count)
    errUnits := u :: s.dev.errUnits.filter fun y => !(y.fn == x.fn && y.die == x.die && y.unit == x.unit && y.row == (countedRow x)) }
  if u.lasting && !was then
    (s.raise (record 64 [(0, [0x21]), (1, leBytes 1 (errCode x.fn)), (2, leBytes 1 x.die), (3, [2]), (4, leBytes 2 x.unit),
      (6, leBytes 2 0xFFFF), (8, leBytes 8 x.addr.toNat), (16, leBytes 4 x.count)])).retire x
  else s

/-- The counts of one unit, or row, are one count. -/
def sumErrs : List ErrCount → List ErrCount
  | [] => []
  | x :: r =>
    let same := fun (y : ErrCount) => y.fn == x.fn && y.die == x.die && y.unit == x.unit && countedRow y == countedRow x
    let rest := sumErrs r
    { x with count := x.count + ((rest.filter same).map ErrCount.count).sum } :: rest.filter fun y => !same y

/-- The number of the 1 s window that is open. -/
def State.secondNow (s : State) : Nat := s.cycle / (1000000 * Config.cyclesPerUs)

/-- ERROR_WINDOW (R359): a 1 s window has closed; a unit without errors in it has counted none. -/
def execErrorWindow (s : State) : Host.Outcome State Fault Refusal :=
  whenFull (fun s =>
    if s.secondNow ≤ s.dev.errWindow then s
    else
      let s := s.setDev { s.dev with errWindow := s.secondNow, errUnits := s.dev.errUnits.map fun u => { u with last := 0 } }
      (sumErrs s.ev.errs).foldl (fun s x => s.countErrors s.secondNow x) s) s

/-- SPARE_COLUMN_SWAP (R359): on a die without teams, with a faulty core and its spare column unused. The cores of the column
are new ones, without a history of errors. -/
def execSpareColumnSwap (s : State) : Host.Outcome State Fault Refusal :=
  let d := s.ev.die
  whenFull (fun s =>
    match s.dev.badCores.find? fun x => x.1 == d with
    | none => s
    | some x =>
      let col := x.2 % Config.meshColumns
      if (s.teams.any fun t => t.place.die == d) || (s.dev.retiredColumn.any fun y => y.1 == d) then s
      else (s.setDev { s.dev with
        retiredColumn := (d, col) :: s.dev.retiredColumn
        errUnits := s.dev.errUnits.filter fun u => !(u.fn == .core && u.die == d && u.unit % Config.meshColumns == col)
        badCores := s.dev.badCores.filter fun y => !(y.1 == d && y.2 % Config.meshColumns == col) }).resign) s

/-! ### Power and temperature (R364) -/

/-- A limit in force, with its code; the junction has its own event. -/
def Device.limitOf (d : Device) : LimitKind → Option (Nat × Nat)
  | .power => some (0, d.powerLimit)
  | .temperature => some (1, Config.temperatureLimit)
  | .junction => none

/-- A power or thermal event (R355 kind 0x30). -/
def powerEvent (kind action limit measured scale : Nat) : List Byte :=
  record 64 [(0, [0x30]), (1, leBytes 1 kind), (2, leBytes 1 action), (4, leBytes 4 limit), (8, leBytes 4 measured), (12, leBytes 4 scale)]

/-- A measurement of a limit's quantity, above the limit or not. -/
def State.measure (s : State) (above : Bool) : State :=
  let others := s.dev.exceeded.filter fun x => x != s.ev.limit
  s.setDev { s.dev with exceeded := if above then s.ev.limit :: others else others }

/-- POWER_EXCEEDED (R364): refills scaled down. -/
def execPowerExceeded (s : State) : Host.Outcome State Fault Refusal :=
  whenFull (fun s => match s.dev.limitOf s.ev.limit with
    | some (k, n) =>
      let s := if n < s.ev.measured then s.measure true else s
      if n < s.ev.measured ∧ s.ev.scale < s.dev.scale then
        (s.setDev { s.dev with scale := s.ev.scale }).raise (powerEvent k 0 n s.ev.measured s.ev.scale)
      else s
    | none => s) s

/-- REFILLS_RESTORED (R355, R364): once power and temperature are both within their limits. -/
def execRefillsRestored (s : State) : Host.Outcome State Fault Refusal :=
  whenFull (fun s => match s.dev.limitOf s.ev.limit with
    | some (k, n) =>
      let s := if s.ev.measured ≤ n then s.measure false else s
      if s.ev.measured ≤ n ∧ s.dev.scale < 65536 ∧ s.dev.exceeded = [] then
        (s.setDev { s.dev with scale := 65536 }).raise (powerEvent k 1 n s.ev.measured 65536)
      else s
    | none => s) s

/-- JUNCTION_OVERTEMP (R364): one event, then RESET until the host resets the module. -/
def execJunctionOvertemp (s : State) : Host.Outcome State Fault Refusal :=
  .next (if 1100 < s.ev.measured ∧ !s.dev.heldReset then
    let s := (s.raise (powerEvent 2 2 1100 s.ev.measured s.dev.scale)).cleared
    s.setDev { s.dev with heldReset := true }
  else s)

end Sys2Proof.Machine
end

