-- ==== Sys2Proof/Machine/Plan.lean ====
section
/-!
DEFINITION. What a step does: the next entry of the agenda, the next driver command, the instruction at the pc of the
group whose turn it is, or an event that such a group waits for (R13 to R22, R80, R250, R352; log 2). And placing an
instruction where the next step fetches it (log 5).
-/
namespace Sys2Proof.Machine

/-- What a step does: an instruction, event or command run in a state, or a state reached without one. -/
inductive Plan where
  | next (s : State)
  | run (i : Instr) (s : State)
  deriving DecidableEq, Repr

/-! ### Commands (R352, R353) -/

/-- The row of the table that a command entry is; a sub-operation that an opcode lacks falls to its first. -/
def commandRow (e : Entry) : Instr :=
  let sub (rows : List Instr) (first : Instr) : Instr := rows.getD (cmdSub e) first
  match cmdOp e with
  | 0x01 => .setQueue
  | 0x02 => .createContext
  | 0x03 => .endContext
  | 0x04 => .preempt
  | 0x05 => .resume
  | 0x06 => .gridMap
  | 0x07 => .accessTable
  | 0x08 => .loadKey
  | 0x09 => .clearKey
  | 0x0A => .attest
  | 0x11 => sub [.migrate, .migrateCommit, .migrateAbort] .migrate
  | 0x12 => .unmapRemap
  | 0x13 => sub [.engineRetry, .engineAbort] .engineRetry
  | 0x14 => sub [.trapReplay, .trapDeliver] .trapReplay
  | 0x15 => sub [.setLog, .logReplay, .logDiscard] .setLog
  | 0x16 => .stagingRegion
  | 0x17 => .closeNodeQueue
  | 0x18 => sub [.linkThreshold, .channelThreshold, .powerLimit] .linkThreshold
  | 0x19 => .reenableLane
  | 0x1A => .setDeviceIndex
  | 0x1B => .recoveryImage
  | _ => .unknownCommand

/-! ### Instructions -/

/-- The trap of a word that is no instruction (R37). -/
def trapOfErr : DecodeErr → TrapInfo
  | .encoding => trap0 ILLEGAL_ENCODING
  | _ => trap0 ILLEGAL_OPCODE

/-- The instruction fetched and its debit made, once however often it is tried again, and its words kept until it is over
(R22, R80, R136). -/
def Issue.debit (I : Issue) (w1 w2 : Word) : State :=
  let core := coreIdx I.t.place
  let s := if I.cl.words.isSome then I.s else I.s.fetched I.c I.t.place I.cl.pc (lengthOf w1)
  let s := if I.cl.debited then s
    else s.setContext (I.c.setBudget core (I.c.budget core - energyUnits I.cl.header))
  s.setGroup { I.g with clause := some { I.cl with debited := true, words := some (w1, w2) } }

/-- The group may issue the instruction at its pc: its context is ACTIVE, or is being pre-empted and the group has not
reached a stopping point (R268, R278); and its budget is above zero, or the debit is made (R22). -/
def Issue.free (I : Issue) : Bool :=
  !I.t.saved && (I.c.st == .active || (I.c.st == .preempting && !I.s.atStop I.g)) &&
    I.cl.fuelled I.c (coreIdx I.t.place)

/-- Time passes. -/
def State.tick (s : State) : State := { s with cycle := s.cycle + 1 }

/-- The words of the instruction at a group's pc: fetched once, and kept while the group tries it again (R80). -/
def Issue.words (I : Issue) : Fetch2 :=
  match I.cl.words with
  | some w => .ok w.1 w.2
  | none => I.s.fetchInstr I.c I.t.place I.cl.pc

/-- The instruction at a group's pc (R14, R22, R37, R80). -/
def Issue.plan (I : Issue) : Plan :=
  match I.words with
  | .wait => .next (I.s.tick.setGroup { I.g with stalled := true })
  | .bad i len => .next (((I.s.tick.fetchError I.c I.t.place i).fetched I.c I.t.place I.cl.pc len).trapGroup I.g len i)
  | .ok w1 w2 =>
    let s := (I.debit w1 w2).tick
    match decodeWords w1 w2 with
    | .ok i => .run i s
    | .error e => .next (s.trapGroup ((s.group I.g.gid).getD I.g) (lengthOf w1) (trapOfErr e))

/-- An error that the device cannot correct (R138, R360; log 90): a unit of memory is poisoned; the instruction that the
current group would issue meets its register or its buffer byte, and traps. -/
def State.upset (s : State) (u : Upset) : State :=
  match u with
  | .memory k => if 64 * k < Config.memBytes ∧ !s.mem.poisoned k then
      let s := s.settleUnits [k]
      s.setMem { s.mem with poison := s.mem.poison ++ [k] }
    else s
  | .register => match s.issue with
    | some I =>
      ((s.uncorrectable .regfile I.t.place.die (4 * I.t.place.core + I.t.place.quad) 0 (some I.c.num) 0).trapGroup I.g
        (match I.words with | .ok w1 _ => lengthOf w1 | _ => 4) (trap0 UNCORRECTABLE))
    | none => s
  | .buffer a => match s.issue with
    | some I =>
      ((s.uncorrectable .buffer I.t.place.die I.t.place.core 0 (some I.c.num) a).trapGroup I.g
        (match I.words with | .ok w1 _ => lengthOf w1 | _ => 4) { cause := UNCORRECTABLE, addr := BitVec.ofNat 64 a })
    | none => s

/-! ### A group's own events -/

/-- The event that a group waits for, where it may happen now: a result lands, a wait is over, a window comes free, a
trap is entered (log 2). -/
def State.owed (s : State) (g : Group) : Option (Instr × EvArgs) :=
  let place := ((s.team g.team).map Team.place).getD default
  let parked := g.status.isParked || g.status == .trapped
  match (if parked then g.ops.find? fun o => o.pending || s.flying g.gid o.seq else none) with
  | some o => some (.resultLand, { g := g.gid, seq := o.seq, lanes := ~~~0 })
  | none =>
    match g.status with
    | .parked (.wz m) => if g.wzMet m then some (.waitZeroEnd, { g := g.gid }) else none
    | .parked .marker => if g.drained then some (.waitZeroEnd, { g := g.gid }) else none
    | .parked (.sleep wake) => if wake ≤ s.cycle then some (.sleepExpire, { g := g.gid }) else none
    | .parked (.tableFull wake _) => if wake ≤ s.cycle then some (.waitTableRetry, { g := g.gid }) else none
    | .resident => some (.windowGrant, { q := place })
    | .trapped => match g.entry with
      | .raised | .replied _ => some (.trapEntry, { g := g.gid })
      | _ => none
    | _ => none

/-- The group of a quad inside a clause whose turn comes after group `gid`; that group again where there is no other. -/
def State.nextInClause (s : State) (q : QuadId) (gid : Nat) : Option Nat :=
  let gs := (s.quadGroups q).filter fun g => g.clause.isSome && g.gid != gid
  (((gs.find? fun g => decide (gid < g.gid)) <|> gs.head?).map Group.gid) <|> some gid

/-- What the quad of a group does when the group has no instruction to issue: the event the group waits for, or the
next clause of the quad, or the turn of another group of the quad that is inside a clause. -/
def State.idle (s : State) (g : Group) : Plan :=
  match s.owed g with
  | some (i, a) => .run i { s.tick with ev := a }
  | none =>
    match (s.team g.team).map Team.place with
    | none => .next s.tick
    | some q =>
      match s.chooseGroup q with
      | some x => .run .clauseIssue { s.tick with ev := { q := q, split := (x.ready.head?.map Split.label).getD 0 } }
      | none => .next { s.tick with cur := s.nextInClause q g.gid }

/-- The turn of the current group: the instruction at its pc, which a parked group tests again (R74), or what it waits
for. -/
def State.turn (s : State) : Plan :=
  match s.cur.bind s.group with
  | none => .next s.tick
  | some g =>
    if g.status == .parked .retry && g.ops.any (fun o => o.pending || s.flying g.gid o.seq) then s.idle g
    else match s.issue <|> s.waiter with
      | some I => if I.free then I.plan else s.idle g
      | none => s.idle g

/-- What the next step does. -/
def State.plan (s : State) : Plan :=
  match s.agenda with
  | .upset u :: r => .next ({ s with agenda := r }.upset u)
  | .elapse n :: r => .next { s with agenda := r, cycle := s.cycle + n }
  | .select g :: r => .next { s with agenda := r, cur := some g }
  | .hold on :: r => .next ({ s with agenda := r }.holdFlights on)
  | .expose k :: r => .next ({ s with agenda := r }.expose k)
  | .perform k :: r => .next ({ s with agenda := r }.performFlight k)
  | .event i a :: r => if i.isEvent then .run i { s with agenda := r, ev := a } else .next { s with agenda := r }
  | [] =>
    match s.commands with
    | e :: r => if s.dev.serves then .run (commandRow e) { s with commands := r, ev := { entry := e } } else s.turn
    | [] => s.turn

/-- What follows every step: the step number, the device's own accesses that waited for a page (R133), the dependence words
that launches watch (R260), a replay of logged writes under way (R310), and the fabric port's requests and answers on their
way as flits (R284). -/
def State.after (s : State) : State := ({ s with free := s.free + 1 }).flushActs.settle.replays.pump

/-! ### Placing an instruction (log 5) -/

/-- The physical address that the current group fetches a word from, and the key of its page, where it issues its next instruction. -/
def Issue.fetchSpot (I : Issue) (va : Addr) : Option (Nat × List Byte) :=
  match I.s.translate I.c I.t.place.die (coreIdx I.t.place) .fetch va with
  | .ok p => if p.host || I.s.mem.poisoned (p.pa / 64) || !I.s.stackReady p.pa then none else some (p.pa, p.key)
  | _ => none

/-- The addresses of the two words that the next step fetches, if it fetches. -/
def State.fetchSpots (s : State) : Option ((Nat × List Byte) × (Nat × List Byte)) :=
  match s.issue with
  | none => none
  | some I =>
    if I.free && I.g.status == .windowed && s.agenda.isEmpty && s.commands.isEmpty then
      match I.fetchSpot I.cl.pc, I.fetchSpot (I.cl.pc + 4) with
      | some a, some b => some (a, b)
      | _, _ => none
    else none

/-- Where a machine that fetches nothing is given its instruction: the physical address of the words, and those of a
page table root and of the table below it. -/
def wordsAt : Nat := 0x1000
def rootAt : Nat := 0x10000
def tableAt : Nat := 0x20000

/-- The smallest context that can run: its tables map virtual 0 to 2^30 - 1 to the same physical addresses, to write
and to execute. -/
def bareContext (dev n : Nat) : Context :=
  { num := n, st := .active, root := rootAt, endBase := 0, endSize := 0, handler := 0, strict := false, fifo := false
    ceiling := 3, evalClass := 0, key := 0, shared := [], refill := 65536, cap := 65536, forward := 0, combine := 0
    budgets := [(0, 65536)], map := { axes := 1, sizes := [1, 1, 1, 1, 1], entries := [(dev, n)] } }

/-- A team of one group on the module's first quad. -/
def bareTeam (n t : Nat) : Team :=
  { tid := t, ctx := n, launch := t, cluster := t, index := 0, place := ⟨0, 0, 0⟩, origin := .host, ngroups := 1, nregs := 128
    abytes := 65536, wbytes := 65536, nbars := 16, quires := List.replicate 16 {}, slots := List.replicate 8 0, arg := 0
    depth := 0, nclusters := 1, grid := false }

/-- Its group, inside a clause of one instruction. -/
def bareGroup (t : Nat) : Group :=
  { gid := t, team := t, index := 0, cls := 0, sched := 0, nregs := 128, lanes := ~~~0, status := .windowed, window := true
    interval := false, splits := [{ label := 0, pc := 0xFFC, lanes := ~~~0 }]
    clause := some { header := 0x1E000000, addr := 0xFFC, split := 0, pc := 0x1000 } }

/-- A machine with that context, team and group, its first stack and die ready, and the tables in memory. -/
def State.bare (s : State) : State :=
  let n := (s.contexts.map fun c => c.num + 1).foldl max 0
  let t := s.nextId
  let tables : List Piece :=
    [{ pa := rootAt, data := leBytes 8 (tableAt + 1), cell := false, host := false },
     { pa := tableAt, data := leBytes 8 7, cell := false, host := false }]
  let mem := s.mem.writePieces s.free tables
  { s with
    agenda := [], commands := [], cur := some t, nextId := t + 1
    mem := { mem with tlbs := mem.tlbs.filter fun x => x.ctx != n, pages := mem.pages.filter fun x => x.ctx != n }
    contexts := s.contexts ++ [bareContext s.dev.index n], teams := s.teams ++ [bareTeam n t], groups := s.groups ++ [bareGroup t]
    dev := { s.dev with functions :=
      (.stack 0, .ready) :: (.die 0, .ready) :: s.dev.functions.filter fun f => f.1 != .stack 0 && f.1 != .die 0 } }

/-- Words of the instruction stream written to memory under a key; their units are free of poison. -/
def State.layWord (s : State) (at' : Nat × List Byte) (bs : List Byte) : State :=
  let m := s.mem.rekey s.free at'.2 (at'.1 / 128)
  s.setMem { m with
    bytes := puts 0 m.bytes at'.1 bs
    poison := m.poison.filter fun u => u != at'.1 / 64 }

/-- The current group fetches the instruction at its pc anew. -/
def State.refetch (s : State) : State :=
  match s.cur with
  | some g => s.onGroup g fun g => { g with clause := g.clause.map fun cl => { cl with words := none } }
  | none => s

/-- The two words of an instruction stored where the next step fetches them. -/
def State.lay (s : State) (bs : List Byte) : State :=
  match s.fetchSpots with
  | some (a, b) => ((s.layWord a (bs.take 4)).layWord b (bs.drop 4)).refetch
  | none => (s.bare.layWord (wordsAt, s.slotKey 0) (bs.take 4)).layWord (wordsAt + 4, s.slotKey 0) (bs.drop 4)

end Sys2Proof.Machine
end

