-- ==== Sys2Proof/Machine/Sync.lean ====
section
/-!
DEFINITION. The SYNC instructions (R232 to R237).
-/
namespace Sys2Proof.Machine

/-- The acquire of a completion at a level's scope: cluster and grid barriers flash the L1 (R162, R163, R223). -/
def Issue.barrierAcquire (I : Issue) (level : Nat) (s : State) : State :=
  if 1 ≤ level then s.setMem (s.mem.flash I.core) else s

/-- The barrier that a SYNC instruction names. -/
def Issue.barrier (I : Issue) (o : SyncOp) : Barrier := I.s.barrier o.level.toNat (I.t.owner o.level.toNat) o.index.toNat

/-- An index at or above the count of its level, or a grid barrier in a launch without the flag (R223, R224). -/
def badBarrier (o : SyncOp) (I : Issue) : Bool :=
  (o.level == 0 && decide (I.t.nbars ≤ o.index.toNat)) || (o.level == 2 && !I.t.grid)
def badQuire (o : SyncOp) (I : Issue) : Bool := decide (I.t.quires.length ≤ o.index.toNat)

/-- The issue of an arrival: a release at its level's scope (R162, R163, R223). -/
def Issue.arriving (I : Issue) (o : SyncOp) : Issue := I.releasing (decide (1 ≤ o.level.toNat))

/-- BARARV (R233). -/
def execBararv (o : SyncOp) (s : State) : Host.Outcome State Fault Refusal :=
  runInstr (.bararv o) (prologue (.bararv o) (badBarrier o) never fun I =>
    match (I.arriving o).s.arrive (I.barrier o) I.g.gid with
    | some s => .done s
    | none => I.trap SYNC_MASK) s

/-- The wait for the pending generation, and its acquire; with no arrival ever made it has no effect (R233). -/
def Issue.barwait (I : Issue) (o : SyncOp) (s : State) : Eff :=
  let b := s.barrier o.level.toNat (I.t.owner o.level.toNat) o.index.toNat
  match (s.group I.g.gid).bind fun g => g.pendingGen o.level.toNat o.index.toNat with
  | none => .done s
  | some n =>
    if n < b.gen then .done (I.barrierAcquire o.level.toNat s)
    else .park (s.onGroup I.g.gid fun g => { g with prog := 1 }) .retry

/-- BARWAIT (R233). -/
def execBarwait (o : SyncOp) (s : State) : Host.Outcome State Fault Refusal :=
  runInstr (.barwait o) (prologue (.barwait o) (badBarrier o) never fun I => I.barwait o I.s) s

/-- BARSYNC (R233): the arrival once, then the wait. -/
def execBarsync (o : SyncOp) (s : State) : Host.Outcome State Fault Refusal :=
  runInstr (.barsync o) (prologue (.barsync o) (badBarrier o) never fun I =>
    if I.g.prog = 1 then I.barwait o I.s
    else match (I.arriving o).s.arrive (I.barrier o) I.g.gid with
      | some s => I.barwait o s
      | none => I.trap SYNC_MASK) s

/-- The GSYNC mask that every Active lane gives, if it is valid (R234). -/
def Issue.gsyncMask (I : Issue) (o : SyncOp) : Option (BitVec 16) :=
  let x := I.g.read o.w.a.toNat I.lane0
  if (lanesOf I.active).any fun i => I.g.read o.w.a.toNat i != x then none
  else if x.extractLsb' 16 16 != 0 || x == 0 || !x.getLsbD I.g.index || decide (2 ^ I.t.ngroups ≤ x.toNat) then none
  else some (x.extractLsb' 0 16)

/-- GSYNC (R226, R234). -/
def execGsync (o : SyncOp) (s : State) : Host.Outcome State Fault Refusal :=
  runInstr (.gsync o) (prologue (.gsync o) (badBarrier o) never (withWaits (.gsync o) fun I =>
    if I.g.prog = 1 then I.barwait o I.s
    else match I.gsyncMask o with
      | none => I.trap SYNC_MASK
      | some m => match (I.arriving o).s.arriveMask (I.barrier o) I.g.gid m with
        | .counted s => I.barwait o s
        | .refused => I.trap SYNC_MASK
        | .mismatch s => .trap s (trap0 SYNC_MASK))) s

/-- STAGE_UNDERFLOW with the quire's number (R231). -/
def underflow (o : SyncOp) : TrapInfo := { cause := STAGE_UNDERFLOW, addr := o.index.setWidth 64 }

/-- The uniform value of a register through its selector (R67, R232). -/
def Issue.uniform (I : Issue) (x : BitVec 2) (v : Reg) : Word := I.xbar x v I.lane0

/-- An older MMA or GMMA of the group still owes its arrival at the side: events of one group come in issue order
(R229). -/
def Issue.arrivalOwed (I : Issue) (o : SyncOp) : Bool :=
  I.g.ops.any fun p => p.arrival == some (o.index.toNat, o.side)

/-- SBEXP (R235). -/
def execSbexp (o : SyncOp) (s : State) : Host.Outcome State Fault Refusal :=
  runInstr (.sbexp o) (prologue (.sbexp o) (badQuire o) never (withWaits (.sbexp o) fun I =>
    let n := if o.side then 0 else (I.uniform o.w.xb o.w.b).toNat
    if I.arrivalOwed o then .stall I.s
    else match (I.s.side I.t.tid o.index.toNat o.side).expect o.w.d.toNat n with
    | none => .trap I.s (underflow o)
    | some q =>
      let s := I.s.setSide I.t.tid o.index.toNat o.side q
      if q.broken then .trap s (underflow o) else .done s)) s

/-- SBARV (R236). -/
def execSbarv (o : SyncOp) (s : State) : Host.Outcome State Fault Refusal :=
  runInstr (.sbarv o) (prologue (.sbarv o) (badQuire o) never fun I =>
    if I.arrivalOwed o then .stall I.s
    else match (I.releaseIn false I.s).quireArrive I.t.tid o.index.toNat o.side with
    | (s, true) => .trap s (underflow o)
    | (s, false) => .done s) s

/-- The acquire of an observed flip: bytes of global memory are acquired at device scope, with the L1 invalidation, and
bytes of the buffers at team scope (R169). -/
def Issue.quireAcquire (I : Issue) (glob : Bool) : State := if glob then I.s.setMem (I.s.mem.flash I.core) else I.s

/-- SBWAIT (R237): a flip that came while it was parked has ended it (R228). -/
def execSbwait (o : SyncOp) (s : State) : Host.Outcome State Fault Refusal :=
  runInstr (.sbwait o) (prologue (.sbwait o) (badQuire o) never (withWaits (.sbwait o) fun I =>
    let q := I.s.side I.t.tid o.index.toNat o.side
    let p := (I.uniform o.w.xa o.w.a).getLsbD 0
    if I.g.woken then .done (I.quireAcquire I.g.wokenGlobal)
    else if q.broken then .trap I.s (underflow o)
    else if q.phase != p then .done (I.quireAcquire q.acq)
    else .park (I.s.setGroup { I.g with prog := waitCode o.index.toNat o.side p }) .retry)) s

/-- SBTRY (R237). -/
def execSbtry (o : SyncOp) (s : State) : Host.Outcome State Fault Refusal :=
  runInstr (.sbtry o) (prologue (.sbtry o) (badQuire o) never (withWaits (.sbtry o) fun I =>
    let q := I.s.side I.t.tid o.index.toNat o.side
    let pass := q.phase != (I.uniform o.w.xa o.w.a).getLsbD 0
    if q.broken then .trap I.s (underflow o)
    else
      let s := if pass then I.quireAcquire q.acq else I.s
      .done (s.setGroup (I.g.writeLanes o.w.d.toNat (lanesOf I.active) fun _ => if pass then 1 else 0)))) s

end Sys2Proof.Machine
end

