-- ==== Sys2Proof/Machine/Dispatch.lean ====
section
/-!
DEFINITION. The dispatch: one arm per row of the opcode table, each one call of that row's meaning.
-/
namespace Sys2Proof.Machine

def exec (i : Instr) (s : State) : Host.Outcome State Fault Refusal :=
  match i with
  | .nop => Sys2Proof.Machine.execNop s
  | .iadd o => Sys2Proof.Machine.execIadd o s
  | .isub o => Sys2Proof.Machine.execIsub o s
  | .imul o => Sys2Proof.Machine.execImul o s
  | .imulhi o => Sys2Proof.Machine.execImulhi o s
  | .imulhu o => Sys2Proof.Machine.execImulhu o s
  | .imad o => Sys2Proof.Machine.execImad o s
  | .iaddi o => Sys2Proof.Machine.execIaddi o s
  | .and o => Sys2Proof.Machine.execAnd o s
  | .or o => Sys2Proof.Machine.execOr o s
  | .xor o => Sys2Proof.Machine.execXor o s
  | .andn o => Sys2Proof.Machine.execAndn o s
  | .shl o => Sys2Proof.Machine.execShl o s
  | .shr o => Sys2Proof.Machine.execShr o s
  | .sar o => Sys2Proof.Machine.execSar o s
  | .shli o => Sys2Proof.Machine.execShli o s
  | .shri o => Sys2Proof.Machine.execShri o s
  | .sari o => Sys2Proof.Machine.execSari o s
  | .imin o => Sys2Proof.Machine.execImin o s
  | .imax o => Sys2Proof.Machine.execImax o s
  | .umin o => Sys2Proof.Machine.execUmin o s
  | .umax o => Sys2Proof.Machine.execUmax o s
  | .iseq o => Sys2Proof.Machine.execIseq o s
  | .isne o => Sys2Proof.Machine.execIsne o s
  | .islt o => Sys2Proof.Machine.execIslt o s
  | .isle o => Sys2Proof.Machine.execIsle o s
  | .isltu o => Sys2Proof.Machine.execIsltu o s
  | .isleu o => Sys2Proof.Machine.execIsleu o s
  | .fadd o => Sys2Proof.Machine.execFadd o s
  | .fsub o => Sys2Proof.Machine.execFsub o s
  | .fmul o => Sys2Proof.Machine.execFmul o s
  | .fmac o => Sys2Proof.Machine.execFmac o s
  | .fmin o => Sys2Proof.Machine.execFmin o s
  | .fmax o => Sys2Proof.Machine.execFmax o s
  | .fseq o => Sys2Proof.Machine.execFseq o s
  | .fslt o => Sys2Proof.Machine.execFslt o s
  | .fsle o => Sys2Proof.Machine.execFsle o s
  | .fsun o => Sys2Proof.Machine.execFsun o s
  | .badd2 o => Sys2Proof.Machine.execBadd2 o s
  | .bmul2 o => Sys2Proof.Machine.execBmul2 o s
  | .bmac2 o => Sys2Proof.Machine.execBmac2 o s
  | .sel o => Sys2Proof.Machine.execSel o s
  | .add64 o => Sys2Proof.Machine.execAdd64 o s
  | .ex2 o => Sys2Proof.Machine.execEx2 o s
  | .lg2 o => Sys2Proof.Machine.execLg2 o s
  | .rcp o => Sys2Proof.Machine.execRcp o s
  | .rsq o => Sys2Proof.Machine.execRsq o s
  | .sqrt o => Sys2Proof.Machine.execSqrt o s
  | .sinpi o => Sys2Proof.Machine.execSinpi o s
  | .cospi o => Sys2Proof.Machine.execCospi o s
  | .tanh o => Sys2Proof.Machine.execTanh o s
  | .sigm o => Sys2Proof.Machine.execSigm o s
  | .erf o => Sys2Proof.Machine.execErf o s
  | .popc o => Sys2Proof.Machine.execPopc o s
  | .clz o => Sys2Proof.Machine.execClz o s
  | .brev o => Sys2Proof.Machine.execBrev o s
  | .iabs o => Sys2Proof.Machine.execIabs o s
  | .ineg o => Sys2Proof.Machine.execIneg o s
  | .fabs o => Sys2Proof.Machine.execFabs o s
  | .fneg o => Sys2Proof.Machine.execFneg o s
  | .frintRne o => Sys2Proof.Machine.execFrintRne o s
  | .frintRz o => Sys2Proof.Machine.execFrintRz o s
  | .frintRp o => Sys2Proof.Machine.execFrintRp o s
  | .frintRm o => Sys2Proof.Machine.execFrintRm o s
  | .cvtfi o => Sys2Proof.Machine.execCvtfi o s
  | .cvtfu o => Sys2Proof.Machine.execCvtfu o s
  | .cvtif o => Sys2Proof.Machine.execCvtif o s
  | .cvtuf o => Sys2Proof.Machine.execCvtuf o s
  | .cvtfb o => Sys2Proof.Machine.execCvtfb o s
  | .cvtbf o => Sys2Proof.Machine.execCvtbf o s
  | .shfl o => Sys2Proof.Machine.execShfl o s
  | .shflx o => Sys2Proof.Machine.execShflx o s
  | .redlIadd o => Sys2Proof.Machine.execRedlIadd o s
  | .redlFadd o => Sys2Proof.Machine.execRedlFadd o s
  | .redlImax o => Sys2Proof.Machine.execRedlImax o s
  | .redlImin o => Sys2Proof.Machine.execRedlImin o s
  | .redlFmax o => Sys2Proof.Machine.execRedlFmax o s
  | .redlFmin o => Sys2Proof.Machine.execRedlFmin o s
  | .redlAnd o => Sys2Proof.Machine.execRedlAnd o s
  | .redlOr o => Sys2Proof.Machine.execRedlOr o s
  | .redlXor o => Sys2Proof.Machine.execRedlXor o s
  | .scanIadd o => Sys2Proof.Machine.execScanIadd o s
  | .scanFadd o => Sys2Proof.Machine.execScanFadd o s
  | .scanImax o => Sys2Proof.Machine.execScanImax o s
  | .scanImin o => Sys2Proof.Machine.execScanImin o s
  | .scanFmax o => Sys2Proof.Machine.execScanFmax o s
  | .scanFmin o => Sys2Proof.Machine.execScanFmin o s
  | .scanAnd o => Sys2Proof.Machine.execScanAnd o s
  | .scanOr o => Sys2Proof.Machine.execScanOr o s
  | .scanXor o => Sys2Proof.Machine.execScanXor o s
  | .scanXIadd o => Sys2Proof.Machine.execScanXIadd o s
  | .scanXFadd o => Sys2Proof.Machine.execScanXFadd o s
  | .scanXImax o => Sys2Proof.Machine.execScanXImax o s
  | .scanXImin o => Sys2Proof.Machine.execScanXImin o s
  | .scanXFmax o => Sys2Proof.Machine.execScanXFmax o s
  | .scanXFmin o => Sys2Proof.Machine.execScanXFmin o s
  | .scanXAnd o => Sys2Proof.Machine.execScanXAnd o s
  | .scanXOr o => Sys2Proof.Machine.execScanXOr o s
  | .scanXXor o => Sys2Proof.Machine.execScanXXor o s
  | .voteAny o => Sys2Proof.Machine.execVoteAny o s
  | .voteAll o => Sys2Proof.Machine.execVoteAll o s
  | .voteCount o => Sys2Proof.Machine.execVoteCount o s
  | .voteFirst o => Sys2Proof.Machine.execVoteFirst o s
  | .voteBallot o => Sys2Proof.Machine.execVoteBallot o s
  | .ucmp o => Sys2Proof.Machine.execUcmp o s
  | .ufcmp o => Sys2Proof.Machine.execUfcmp o s
  | .csrr o => Sys2Proof.Machine.execCsrr o s
  | .csrw o => Sys2Proof.Machine.execCsrw o s
  | .fcpys o => Sys2Proof.Machine.execFcpys o s
  | .ldB o => Sys2Proof.Machine.execLdB o s
  | .ldBs o => Sys2Proof.Machine.execLdBs o s
  | .ldH o => Sys2Proof.Machine.execLdH o s
  | .ldHs o => Sys2Proof.Machine.execLdHs o s
  | .ldW o => Sys2Proof.Machine.execLdW o s
  | .ldD o => Sys2Proof.Machine.execLdD o s
  | .ldQ o => Sys2Proof.Machine.execLdQ o s
  | .stB o => Sys2Proof.Machine.execStB o s
  | .stH o => Sys2Proof.Machine.execStH o s
  | .stW o => Sys2Proof.Machine.execStW o s
  | .stD o => Sys2Proof.Machine.execStD o s
  | .stQ o => Sys2Proof.Machine.execStQ o s
  | .atomAdd o => Sys2Proof.Machine.execAtomAdd o s
  | .atomMin o => Sys2Proof.Machine.execAtomMin o s
  | .atomMax o => Sys2Proof.Machine.execAtomMax o s
  | .atomUmin o => Sys2Proof.Machine.execAtomUmin o s
  | .atomUmax o => Sys2Proof.Machine.execAtomUmax o s
  | .atomAnd o => Sys2Proof.Machine.execAtomAnd o s
  | .atomOr o => Sys2Proof.Machine.execAtomOr o s
  | .atomXor o => Sys2Proof.Machine.execAtomXor o s
  | .atomXchg o => Sys2Proof.Machine.execAtomXchg o s
  | .atomCas o => Sys2Proof.Machine.execAtomCas o s
  | .atomIncb o => Sys2Proof.Machine.execAtomIncb o s
  | .atomFadd o => Sys2Proof.Machine.execAtomFadd o s
  | .atomBadd2 o => Sys2Proof.Machine.execAtomBadd2 o s
  | .atomFmaxa o => Sys2Proof.Machine.execAtomFmaxa o s
  | .redAdd o => Sys2Proof.Machine.execRedAdd o s
  | .redFadd o => Sys2Proof.Machine.execRedFadd o s
  | .redFmaxa o => Sys2Proof.Machine.execRedFmaxa o s
  | .stc o => Sys2Proof.Machine.execStc o s
  | .lde o => Sys2Proof.Machine.execLde o s
  | .pref o => Sys2Proof.Machine.execPref o s
  | .cclean o => Sys2Proof.Machine.execCclean o s
  | .cinv o => Sys2Proof.Machine.execCinv o s
  | .cflush o => Sys2Proof.Machine.execCflush o s
  | .fence o => Sys2Proof.Machine.execFence o s
  | .defer o => Sys2Proof.Machine.execDefer o s
  | .resolve o => Sys2Proof.Machine.execResolve o s
  | .cellq o => Sys2Proof.Machine.execCellq o s
  | .cellfail o => Sys2Proof.Machine.execCellfail o s
  | .modeM o => Sys2Proof.Machine.execModeM o s
  | .modeV o => Sys2Proof.Machine.execModeV o s
  | .mresv o => Sys2Proof.Machine.execMresv o s
  | .mbaton o => Sys2Proof.Machine.execMbaton o s
  | .mma o => Sys2Proof.Machine.execMma o s
  | .gmma o => Sys2Proof.Machine.execGmma o s
  | .mdrain o => Sys2Proof.Machine.execMdrain o s
  | .mfill o => Sys2Proof.Machine.execMfill o s
  | .dotb o => Sys2Proof.Machine.execDotb o s
  | .mstat o => Sys2Proof.Machine.execMstat o s
  | .br o => Sys2Proof.Machine.execBr o s
  | .brz o => Sys2Proof.Machine.execBrz o s
  | .brnz o => Sys2Proof.Machine.execBrnz o s
  | .call o => Sys2Proof.Machine.execCall o s
  | .ret o => Sys2Proof.Machine.execRet o s
  | .jmpr o => Sys2Proof.Machine.execJmpr o s
  | .split o => Sys2Proof.Machine.execSplit o s
  | .merge o => Sys2Proof.Machine.execMerge o s
  | .yield o => Sys2Proof.Machine.execYield o s
  | .yieldc o => Sys2Proof.Machine.execYieldc o s
  | .exit o => Sys2Proof.Machine.execExit o s
  | .spawn o => Sys2Proof.Machine.execSpawn o s
  | .trap o => Sys2Proof.Machine.execTrap o s
  | .trapret o => Sys2Proof.Machine.execTrapret o s
  | .waitc o => Sys2Proof.Machine.execWaitc o s
  | .sleep o => Sys2Proof.Machine.execSleep o s
  | .bkpt o => Sys2Proof.Machine.execBkpt o s
  | .bararv o => Sys2Proof.Machine.execBararv o s
  | .barwait o => Sys2Proof.Machine.execBarwait o s
  | .barsync o => Sys2Proof.Machine.execBarsync o s
  | .gsync o => Sys2Proof.Machine.execGsync o s
  | .sbexp o => Sys2Proof.Machine.execSbexp o s
  | .sbarv o => Sys2Proof.Machine.execSbarv o s
  | .sbwait o => Sys2Proof.Machine.execSbwait o s
  | .sbtry o => Sys2Proof.Machine.execSbtry o s
  | .cpy o => Sys2Proof.Machine.execCpy o s
  | .cpy2d o => Sys2Proof.Machine.execCpy2d o s
  | .gath2d o => Sys2Proof.Machine.execGath2d o s
  | .scat2d o => Sys2Proof.Machine.execScat2d o s
  | .chain o => Sys2Proof.Machine.execChain o s
  | .qbindR o => Sys2Proof.Machine.execQbindR o s
  | .qbindW o => Sys2Proof.Machine.execQbindW o s
  | .qend o => Sys2Proof.Machine.execQend o s
  | .enq o => Sys2Proof.Machine.execEnq o s
  | .enqTry o => Sys2Proof.Machine.execEnqTry o s
  | .decode o => Sys2Proof.Machine.execDecode o s
  | .cpyw o => Sys2Proof.Machine.execCpyw o s
  | .pset o => Sys2Proof.Machine.execPset o s
  | .rst o => Sys2Proof.Machine.execRst o s
  | .rstBlock o => Sys2Proof.Machine.execRstBlock o s
  | .rld o => Sys2Proof.Machine.execRld o s
  | .ratomAdd o => Sys2Proof.Machine.execRatomAdd o s
  | .ratomFadd o => Sys2Proof.Machine.execRatomFadd o s
  | .ratomFmaxa o => Sys2Proof.Machine.execRatomFmaxa o s
  | .ratomCas o => Sys2Proof.Machine.execRatomCas o s
  | .ratomIncb o => Sys2Proof.Machine.execRatomIncb o s
  | .rredAdd o => Sys2Proof.Machine.execRredAdd o s
  | .rredFadd o => Sys2Proof.Machine.execRredFadd o s
  | .rredFmaxa o => Sys2Proof.Machine.execRredFmaxa o s
  | .rcpy o => Sys2Proof.Machine.execRcpy o s
  | .rsig o => Sys2Proof.Machine.execRsig o s
  | .rwait o => Sys2Proof.Machine.execRwait o s
  | .reshard o => Sys2Proof.Machine.execReshard o s
  | .pcount o => Sys2Proof.Machine.execPcount o s
  | .coord o => Sys2Proof.Machine.execCoord o s
  | .setx o => Sys2Proof.Machine.execSetx o s
  | .budget o => Sys2Proof.Machine.execBudget o s
  | .clock o => Sys2Proof.Machine.execClock o s
  | .csrmvRead o => Sys2Proof.Machine.execCsrmvRead o s
  | .csrmvWrite o => Sys2Proof.Machine.execCsrmvWrite o s
  | .ldi o => Sys2Proof.Machine.execLdi o s
  | .iaddl o => Sys2Proof.Machine.execIaddl o s
  | .andl o => Sys2Proof.Machine.execAndl o s
  | .orl o => Sys2Proof.Machine.execOrl o s
  | .xorl o => Sys2Proof.Machine.execXorl o s
  | .cvtq o => Sys2Proof.Machine.execCvtq o s
  | .cvtx o => Sys2Proof.Machine.execCvtx o s
  | .amaxb o => Sys2Proof.Machine.execAmaxb o s
  | .fmal o => Sys2Proof.Machine.execFmal o s
  | .pack o => Sys2Proof.Machine.execPack o s
  | .unpack o => Sys2Proof.Machine.execUnpack o s
  | .lea o => Sys2Proof.Machine.execLea o s
  | .clauseIssue => Sys2Proof.Machine.execClauseIssue s
  | .waitZeroEnd => Sys2Proof.Machine.execWaitZeroEnd s
  | .resultLand => Sys2Proof.Machine.execResultLand s
  | .windowGrant => Sys2Proof.Machine.execWindowGrant s
  | .energyRefill => Sys2Proof.Machine.execEnergyRefill s
  | .sleepExpire => Sys2Proof.Machine.execSleepExpire s
  | .trapEntry => Sys2Proof.Machine.execTrapEntry s
  | .pageWalk => Sys2Proof.Machine.execPageWalk s
  | .l2Prefetch => Sys2Proof.Machine.execL2Prefetch s
  | .shootdownComplete => Sys2Proof.Machine.execShootdownComplete s
  | .launchReady => Sys2Proof.Machine.execLaunchReady s
  | .clusterPlace => Sys2Proof.Machine.execClusterPlace s
  | .queueTimeout => Sys2Proof.Machine.execQueueTimeout s
  | .gatheringPlace => Sys2Proof.Machine.execGatheringPlace s
  | .enqResume => Sys2Proof.Machine.execEnqResume s
  | .evaluatorLaunch => Sys2Proof.Machine.execEvaluatorLaunch s
  | .groupReload => Sys2Proof.Machine.execGroupReload s
  | .parkedRecheck => Sys2Proof.Machine.execParkedRecheck s
  | .waitTableRetry => Sys2Proof.Machine.execWaitTableRetry s
  | .copyProgress => Sys2Proof.Machine.execCopyProgress s
  | .copyComplete => Sys2Proof.Machine.execCopyComplete s
  | .qportRead => Sys2Proof.Machine.execQportRead s
  | .qportWrite => Sys2Proof.Machine.execQportWrite s
  | .arrayGrant => Sys2Proof.Machine.execArrayGrant s
  | .passStart => Sys2Proof.Machine.execPassStart s
  | .stepEnd => Sys2Proof.Machine.execStepEnd s
  | .passTimeLimit => Sys2Proof.Machine.execPassTimeLimit s
  | .reservationPromote => Sys2Proof.Machine.execReservationPromote s
  | .matrixGapEnd => Sys2Proof.Machine.execMatrixGapEnd s
  | .flitData => Sys2Proof.Machine.execFlitData s
  | .flitIdle => Sys2Proof.Machine.execFlitIdle s
  | .flitNack => Sys2Proof.Machine.execFlitNack s
  | .flitRestripe => Sys2Proof.Machine.execFlitRestripe s
  | .flitRetrain => Sys2Proof.Machine.execFlitRetrain s
  | .flitLost => Sys2Proof.Machine.execFlitLost s
  | .idleTimer => Sys2Proof.Machine.execIdleTimer s
  | .replayTimeout => Sys2Proof.Machine.execReplayTimeout s
  | .restripeRepeat => Sys2Proof.Machine.execRestripeRepeat s
  | .lightDetected => Sys2Proof.Machine.execLightDetected s
  | .lossOfLight => Sys2Proof.Machine.execLossOfLight s
  | .lockWindow => Sys2Proof.Machine.execLockWindow s
  | .lockTimeout => Sys2Proof.Machine.execLockTimeout s
  | .thresholdCrossed => Sys2Proof.Machine.execThresholdCrossed s
  | .uncorrectableCodeword => Sys2Proof.Machine.execUncorrectableCodeword s
  | .retrainTimeout => Sys2Proof.Machine.execRetrainTimeout s
  | .laserFailure => Sys2Proof.Machine.execLaserFailure s
  | .laserReplaced => Sys2Proof.Machine.execLaserReplaced s
  | .linkHoldExpire => Sys2Proof.Machine.execLinkHoldExpire s
  | .remoteWriteArrive => Sys2Proof.Machine.execRemoteWriteArrive s
  | .remoteReadArrive => Sys2Proof.Machine.execRemoteReadArrive s
  | .remoteAtomicArrive => Sys2Proof.Machine.execRemoteAtomicArrive s
  | .remoteSignalArrive => Sys2Proof.Machine.execRemoteSignalArrive s
  | .remoteAck => Sys2Proof.Machine.execRemoteAck s
  | .remoteReply => Sys2Proof.Machine.execRemoteReply s
  | .remoteRefusal => Sys2Proof.Machine.execRemoteRefusal s
  | .remoteRetry => Sys2Proof.Machine.execRemoteRetry s
  | .contributionArrive => Sys2Proof.Machine.execContributionArrive s
  | .combineGathering => Sys2Proof.Machine.execCombineGathering s
  | .preemptSaved => Sys2Proof.Machine.execPreemptSaved s
  | .resumeComplete => Sys2Proof.Machine.execResumeComplete s
  | .contextEnded => Sys2Proof.Machine.execContextEnded s
  | .hostRead => Sys2Proof.Machine.execHostRead s
  | .hostWrite => Sys2Proof.Machine.execHostWrite s
  | .sqtail => Sys2Proof.Machine.execSqtail s
  | .cmdtail => Sys2Proof.Machine.execCmdtail s
  | .evhead => Sys2Proof.Machine.execEvhead s
  | .winbase => Sys2Proof.Machine.execWinbase s
  | .cmdbase => Sys2Proof.Machine.execCmdbase s
  | .evbase => Sys2Proof.Machine.execEvbase s
  | .registerWriteIgnored => Sys2Proof.Machine.execRegisterWriteIgnored s
  | .setQueue => Sys2Proof.Machine.execSetQueue s
  | .createContext => Sys2Proof.Machine.execCreateContext s
  | .endContext => Sys2Proof.Machine.execEndContext s
  | .preempt => Sys2Proof.Machine.execPreempt s
  | .resume => Sys2Proof.Machine.execResume s
  | .gridMap => Sys2Proof.Machine.execGridMap s
  | .accessTable => Sys2Proof.Machine.execAccessTable s
  | .loadKey => Sys2Proof.Machine.execLoadKey s
  | .clearKey => Sys2Proof.Machine.execClearKey s
  | .attest => Sys2Proof.Machine.execAttest s
  | .migrate => Sys2Proof.Machine.execMigrate s
  | .migrateCommit => Sys2Proof.Machine.execMigrateCommit s
  | .migrateAbort => Sys2Proof.Machine.execMigrateAbort s
  | .unmapRemap => Sys2Proof.Machine.execUnmapRemap s
  | .engineRetry => Sys2Proof.Machine.execEngineRetry s
  | .engineAbort => Sys2Proof.Machine.execEngineAbort s
  | .trapReplay => Sys2Proof.Machine.execTrapReplay s
  | .trapDeliver => Sys2Proof.Machine.execTrapDeliver s
  | .setLog => Sys2Proof.Machine.execSetLog s
  | .logReplay => Sys2Proof.Machine.execLogReplay s
  | .logDiscard => Sys2Proof.Machine.execLogDiscard s
  | .stagingRegion => Sys2Proof.Machine.execStagingRegion s
  | .closeNodeQueue => Sys2Proof.Machine.execCloseNodeQueue s
  | .linkThreshold => Sys2Proof.Machine.execLinkThreshold s
  | .channelThreshold => Sys2Proof.Machine.execChannelThreshold s
  | .powerLimit => Sys2Proof.Machine.execPowerLimit s
  | .reenableLane => Sys2Proof.Machine.execReenableLane s
  | .setDeviceIndex => Sys2Proof.Machine.execSetDeviceIndex s
  | .recoveryImage => Sys2Proof.Machine.execRecoveryImage s
  | .unknownCommand => Sys2Proof.Machine.execUnknownCommand s
  | .moduleReset => Sys2Proof.Machine.execModuleReset s
  | .functionTrained => Sys2Proof.Machine.execFunctionTrained s
  | .errorWindow => Sys2Proof.Machine.execErrorWindow s
  | .spareColumnSwap => Sys2Proof.Machine.execSpareColumnSwap s
  | .powerExceeded => Sys2Proof.Machine.execPowerExceeded s
  | .junctionOvertemp => Sys2Proof.Machine.execJunctionOvertemp s
  | .refillsRestored => Sys2Proof.Machine.execRefillsRestored s

end Sys2Proof.Machine
end

