-- ==== Sys2Proof/Machine/Step.lean ====
section
/-!
DEFINITION. The step of the machine, and the placing of an instruction where the next step fetches it.
-/
namespace Sys2Proof.Machine

/-- One step: what the plan says, and what follows every step. -/
def step (s : State) : Host.Outcome State Fault Refusal :=
  match s.plan with
  | .next s => .next s.after
  | .run i s =>
    match exec i s with
    | .next s => .next s.after
    | .fault f => .fault f
    | .refused r => .refused r

/-- An instruction of `nbits` bits stored where the next step fetches it; a machine that fetches nothing yet is given
the smallest context, team and group that do (log 5). -/
def State.withFetchWord (s : State) (nbits w : Nat) : State := s.lay (tableBytes nbits w)

end Sys2Proof.Machine
end

