-- ==== Sys2Proof/Safety.lean ====
section
/-!
DEFINITION. The terms that claims are stated in: when nothing stops an instruction before its own effect, how a machine
looks after an instruction wrote registers or posted an operation, what an instruction leaves alone, and the functions of
the spec's tables written out from the spec.
-/
namespace Sys2Proof.Machine

/-! ### When an instruction runs -/

/-- Nothing stops instruction `i` before its own effect: every register it names lies below the count (R66), a masked
instruction has some lane on (R37), STRICT finds no outstanding write (R19), no aliased register waits for the array
(R176), and it names no bound queue port (R344). -/
def Issue.clear (I : Issue) (i : Instr) : Bool :=
  !badRegister i I && (!masked i || I.maskOn true != 0) && !pendHazard i I && !aliasWait i I &&
    (I.readsOf i ++ i.writes).all fun v => (I.g.port v).isNone

/-- The machine that `s` becomes when instruction `i` of the issuing group is over: the next instruction of its clause,
or the end of the clause. -/
def Issue.ended (I : Issue) (i : Instr) (s : State) : State :=
  s.onGroup I.g.gid fun g => g.advance (instrBytes i) s.cycle

/-- After `i` wrote `f` to register `v` in the lanes of `m`, and nothing else. -/
def Issue.wrote (I : Issue) (i : Instr) (v : Nat) (m : LaneSet) (f : Nat → Word) : State :=
  I.ended i (I.s.setGroup (I.g.writeLanes v (lanesOf m) f))

/-- After `i` wrote the 64-bit values `f` to the register pair `v`, `v + 1` in the lanes of `m` (R67). -/
def Issue.wrotePair (I : Issue) (i : Instr) (v : Nat) (m : LaneSet) (f : Nat → Addr) : State :=
  I.ended i (I.s.setGroup
    ((I.g.writeLanes v (lanesOf m) fun j => (f j).extractLsb' 0 32).writeLanes (v + 1) (lanesOf m) fun j =>
      (f j).extractLsb' 32 32))

/-- After `i` posted an operation of a class whose register results `ws` land later (R17, R18). -/
def Issue.posted (I : Issue) (i : Instr) (c : Counter) (ws : List (Nat × Word)) : State :=
  I.ended i (I.s.setGroup (I.g.addOp { seq := 0, cls := c, writes := ws, done := ws.isEmpty }))

/-- After `i` raised a trap: the group stops as TRAPPED, TRAPCAUSE and TRAPADDR are set, and the resume point is kept for
trap entry; later ENQs wait for it no longer, if it was a parked ENQ (R246); every other part of the machine is as it was
(R8, R38, R269). -/
def Issue.raises (I : Issue) (i : Instr) (x : TrapInfo) : State :=
  (I.s.leaveEnq I.g).setGroup (I.g.trapped (I.g.resumeAt I.cl x true I.cl.pc (instrBytes i)))

/-- After the group parked at instruction `i`, which it has not performed. -/
def Issue.parksOn (I : Issue) (w : Wait) : State :=
  I.s.setGroup { I.g with status := .parked w, since := match I.g.status with | .parked _ => I.g.since | _ => I.s.cycle }

/-- The group stays at the instruction at its pc, stalled: it has not performed it. -/
def Issue.stalls (I : Issue) : State := I.s.setGroup { I.g with stalled := true }

/-- No access of a core is on its way (log 6). -/
def State.quiet (s : State) (core : Nat) : Bool := (s.flights.getD []).all fun x => x.core != core

/-- After a control transfer of the issuing split to a header at `pc`. -/
def Issue.jumps (I : Issue) (s : State) (pc : Addr) : State :=
  s.onGroup I.g.gid fun g => match g.clause with
    | some cl => g.endClause cl pc s.cycle
    | none => g

/-- Two groups agree but for registers, ports, position in the clause, and the state that an instruction's end
changes. -/
def Group.sameButRegs (g h : Group) : Prop :=
  h = { g with
    regs := h.regs, ports := h.ports, clause := h.clause, splits := h.splits, status := h.status, since := h.since
    prog := h.prog, enqDone := h.enqDone, enq := h.enq, gapWait := h.gapWait, stalled := h.stalled, woken := h.woken
    wokenGlobal := h.wokenGlobal }

/-- Splits agree but for their pc. -/
def sameButPc (xs ys : List Split) : Prop :=
  xs.map (fun x => (x.label, x.lanes, x.cc, x.join, x.parked)) = ys.map (fun x => (x.label, x.lanes, x.cc, x.join, x.parked))

/-- Every part of two machines but their groups agrees, and so does every group but one. -/
def State.sameButGroup (s t : State) (gid : Nat) : Prop :=
  t = { s with groups := t.groups } ∧ ∀ h, h ≠ gid → t.group h = s.group h

/-- After `i` left the machine as `s` and posted an operation of a class whose register results land later (R17, R18). -/
def Issue.postedFrom (I : Issue) (i : Instr) (s : State) (c : Counter) (ws : List (Nat × Word)) : State :=
  I.ended i (s.onGroup I.g.gid fun g => g.addOp { seq := 0, cls := c, writes := ws, done := ws.isEmpty })

/-- After `i` left the machine as `s` and sent accesses on their way, with an operation of LD that waits for the registers they
give (R17, R157; log 6). -/
def Issue.awaited (I : Issue) (i : Instr) (s : State) (xs : List Flight) (due : List Nat) : State :=
  I.ended i ({ s with flights := some (s.flights.getD [] ++ xs) }.onGroup I.g.gid fun g =>
    g.addOp { seq := 0, cls := .ld, due := due, done := due.isEmpty })

/-- The same as `clear` for a MAT instruction, which does not wait for aliased registers as others do (R176). -/
def Issue.clearMat (I : Issue) (i : Instr) : Bool :=
  !badRegister i I && (!masked i || I.maskOn true != 0) && !pendHazard i I &&
    (I.readsOf i ++ i.writes).all fun v => (I.g.port v).isNone

/-- An access of `n` bytes at `a` meets none of the checks of R141: it is aligned, translates with permission, its unit
is free of errors, and the cell it touches, if its page has cells, holds its value. A page begins on a boundary of its
own size (R127), so an address lies in its 64 B unit as its place does. -/
abbrev Issue.fine (I : Issue) (u : Use) (n : Nat) (a : Addr) (p : Place) : Prop :=
  a.toNat % n = 0 ∧ I.xlat u a = .ok p ∧ p.pa % 64 = a.toNat % 64 ∧
    (p.host = false → I.s.unitBad (p.pa / 64) = false ∧ (p.cell = true → I.s.mem.tag (p.pa / 64) = .val))

/-- The same for a store, which may also overwrite a cell that is no longer to be evaluated or has failed (R208). -/
abbrev Issue.writable (I : Issue) (n : Nat) (a : Addr) (p : Place) : Prop :=
  a.toNat % n = 0 ∧ I.xlat .write a = .ok p ∧ p.pa % 64 = a.toNat % 64 ∧
    (p.host = false → I.s.unitBad (p.pa / 64) = false ∧ (p.cell = true → I.s.busy none (p.pa / 64) = false))

/-- Two memories agree but for what their caches hold and the prefetches they dropped. -/
def Memory.sameButFills (m n : Memory) : Prop := n = { m with sectors := n.sectors, lines := n.lines, dropped := n.dropped }

/-- A place where an ordinary write of the issuing group may wait on its way (log 6): one of host memory, or of a unit whose
cell, if it is one, holds its value. -/
abbrev Issue.mayWait (I : Issue) (p : Place) : Prop := p.host = true ∨ p.cell = false ∨ I.s.mem.tag (p.pa / 64) = .val

/-- A byte of a line that some of the places of an instruction's writes lie on, which was last written under another key
than that of their page, is lost (R127; log 16). -/
def Memory.lost (m : Memory) (ls : List Nat) (pl : Nat → Place) (x : Nat) : Bool :=
  ls.any fun i => !(pl i).host && (pl i).pa / 128 == x / 128 && m.keyOf (x / 128) != (pl i).key

/-- The key that the last of some places on a line leaves it under (log 16). -/
def Memory.keyAfter (m : Memory) (ls : List Nat) (pl : Nat → Place) (line : Nat) : List Byte :=
  match ls.reverse.find? fun i => !(pl i).host && (pl i).pa / 128 == line with
  | some i => (pl i).key
  | none => m.keyOf line

/-- Two memories agree but for what their caches hold. -/
def Memory.sameButCaches (m n : Memory) : Prop := n = { m with sectors := n.sectors, lines := n.lines }

/-- What a core's L1 holds is what the homes hold (R135). -/
abbrev State.freshL1 (s : State) (core : Nat) : Prop :=
  ∀ x ∈ s.mem.sectors, x.core = core → x.data = s.mem.see s.free x.key (32 * x.idx) 32

/-- The last lane of an ascending list whose `n` bytes, from `at' i` on, take in byte `x`: its byte wins (R143). -/
def lastOver (ls : List Nat) (at' : Nat → Nat) (n x : Nat) : Option Nat :=
  ls.reverse.find? fun i => decide (at' i ≤ x) && decide (x < at' i + n)

/-- After `i` left the machine as `s` and started an engine command: one more in CPY (R337), whose wait acquires where it
writes global memory (R168). -/
def Issue.started (I : Issue) (i : Instr) (s : State) (e : Engine) : State :=
  I.ended i ({ s with nextId := s.nextId + 1, engines := s.engines ++ [e] }.onGroup I.g.gid fun g =>
    g.addOp { seq := 0, cls := .cpy, ref := s.nextId, acquire := e.writesGlobal })

/-- After `i` left the machine as `s` and issued a remote operation (R313): one in FAB, for RLD and RATOM one in LD with
registers outstanding; where it has one request for all, that goes to each member by its link (R315). -/
def Issue.sends (I : Issue) (i : Instr) (s : State) (op : RemoteOp) (due : Option (List Nat)) : State :=
  I.ended i ({ s with
    nextId := s.nextId + 1, fabric := s.fabric ++ [op]
    sent := s.sent ++ (if op.unsent = [] then op.members.map fun (m : Member) => (m.dev, { op.req with rank := m.rank, dstCtx := m.ctx }) else [])
    }.onGroup I.g.gid fun g =>
      (match due with
        | some ks => g.addOp { seq := 0, cls := .ld, due := ks, ref := s.nextId }
        | none => g).addOp { seq := 0, cls := .fab, ref := s.nextId, acquire := due.isSome })

/-- The driver's command in the slot is one of an opcode and sub-operation, in order: nothing in it but its operands is
set (R353), and the device is not in recovery (R361). -/
abbrev State.commanded (s : State) (op sub : Nat) (context : Bool) (named : List (Nat × Nat)) : Prop :=
  cmdOp s.ev.entry = op ∧ cmdSub s.ev.entry = sub ∧ cmdClean s.ev.entry context named = true ∧ s.dev.recovery = false

/-- After a command left the machine as `t`: its completion event is raised (R355). -/
def State.completes (s t : State) (context : Bool) (status reason : Nat) : State :=
  t.raise (completionEvent status (if context then cmdCtx s.ev.entry else 0) (cmdOp s.ev.entry) reason (cmdTag s.ev.entry))

/-- The bytes that stand at the pc of an issue: both words where both can be fetched, the first alone where only it
can. -/
def Issue.codeBytes (I : Issue) : List Byte :=
  match I.s.fetchWord I.c I.t.place I.cl.pc with
  | .ok w1 => wordBytes w1 ++ (match I.s.fetchWord I.c I.t.place (I.cl.pc + 4) with
    | .ok w2 => wordBytes w2
    | _ => [])
  | _ => []

end Sys2Proof.Machine

/-! ### The spec's tables -/
namespace Sys2Proof.Spec
open Sys2Proof.Machine

/-- A whole number as a 32-bit word, modulo 2^32. -/
def word (n : Int) : Word := BitVec.ofInt 32 n

/-- 1 if a statement holds, else 0 (R95). -/
def flag (p : Bool) : Word := if p then 1 else 0

/-- f(x, y) of the three-register integer instructions (R95). -/
def integer : List ((SOp → Instr) × (Word → Word → Word)) :=
  [ (.iadd, fun x y => word (x.toNat + y.toNat)),
    (.isub, fun x y => word (x.toNat - y.toNat)),
    (.imul, fun x y => word (x.toNat * y.toNat)),
    (.imulhi, fun x y => word (x.toInt * y.toInt / 2 ^ 32)),
    (.imulhu, fun x y => word (x.toNat * y.toNat / 2 ^ 32)),
    (.and, fun x y => x &&& y),
    (.or, fun x y => x ||| y),
    (.xor, fun x y => x ^^^ y),
    (.andn, fun x y => x &&& ~~~y),
    (.shl, fun x y => word (x.toNat * 2 ^ y.toNat)),
    (.shr, fun x y => word (x.toNat / 2 ^ y.toNat)),
    (.sar, fun x y => word (x.toInt / 2 ^ y.toNat)),
    (.imin, fun x y => word (min x.toInt y.toInt)),
    (.imax, fun x y => word (max x.toInt y.toInt)),
    (.umin, fun x y => word (min x.toNat y.toNat)),
    (.umax, fun x y => word (max x.toNat y.toNat)),
    (.iseq, fun x y => flag (x.toNat == y.toNat)),
    (.isne, fun x y => flag (x.toNat != y.toNat)),
    (.islt, fun x y => flag (decide (x.toInt < y.toInt))),
    (.isle, fun x y => flag (decide (x.toInt ≤ y.toInt))),
    (.isltu, fun x y => flag (decide (x.toNat < y.toNat))),
    (.isleu, fun x y => flag (decide (x.toNat ≤ y.toNat))) ]

/-- The results of the immediate forms, from x and imm9 (R96). -/
def immediate : List ((IOp → Instr) × (Word → BitVec 9 → Word)) :=
  [ (.iaddi, fun x n => word (x.toNat + n.toInt)),
    (.shli, fun x n => word (x.toNat * 2 ^ n.toNat)),
    (.shri, fun x n => word (x.toNat / 2 ^ n.toNat)),
    (.sari, fun x n => word (x.toInt / 2 ^ n.toNat)) ]

/-- The results of the long-immediate forms of one word, from x and imm32 (R119). -/
def longImmediate : List ((L3Op → Instr) × (Word → Word → Word)) :=
  [ (.ldi, fun _ n => n),
    (.iaddl, fun x n => word (x.toNat + n.toNat)),
    (.andl, fun x n => x &&& n),
    (.orl, fun x n => x ||| n),
    (.xorl, fun x n => x ^^^ n) ]

/-- Round(FP32, RNE, v) as a pattern. -/
def single (v : Machine.Num) : Word := BitVec.ofNat 32 (round 0 false false v)
/-- Round(BF16, RNE, v) as a pattern. -/
def brain (v : Machine.Num) : BitVec 16 := BitVec.ofNat 16 (round 1 false false v)
/-- fp(x): the value of a pattern read as FP32 (R93). -/
def fp32 (x : Word) : Machine.Num := valueOf 0 x.toNat
/-- bf(x.h) of the half of a word that begins at bit k (R93, R100). -/
def bf16 (x : Word) (k : Nat) : Machine.Num := valueOf 1 (x.toNat / 2 ^ k % 2 ^ 16)

/-- Two BF16 results packed, the low half first (R100). -/
def packed (f : Nat → Machine.Num) : Word := brain (f 16) ++ brain (f 0)

/-- f(x, y) of the FP32 and packed BF16 instructions of two sources that are not multiplications (R98, R100). -/
def floating : List ((SOp → Instr) × (Word → Word → Word)) :=
  [ (.fadd, fun x y => single ((fp32 x).add (fp32 y))),
    (.fsub, fun x y => single ((fp32 x).add (fp32 y).neg)),
    (.fmin, fun x y =>
      if (fp32 x).isNan then (if (fp32 y).isNan then 0x7FC00000 else y)
      else if (fp32 y).isNan then x
      else if (fp32 x).lt (fp32 y) || ((fp32 x).eq (fp32 y) && x.msb) then x else y),
    (.fmax, fun x y =>
      if (fp32 x).isNan then (if (fp32 y).isNan then 0x7FC00000 else y)
      else if (fp32 y).isNan then x
      else if (fp32 y).lt (fp32 x) || ((fp32 x).eq (fp32 y) && !x.msb) then x else y),
    (.fseq, fun x y => flag ((fp32 x).eq (fp32 y))),
    (.fslt, fun x y => flag ((fp32 x).lt (fp32 y))),
    (.fsle, fun x y => flag ((fp32 x).lt (fp32 y) || (fp32 x).eq (fp32 y))),
    (.fsun, fun x y => flag ((fp32 x).isNan || (fp32 y).isNan)),
    (.fcpys, fun x y => y.extractLsb' 31 1 ++ x.extractLsb' 0 31),
    (.badd2, fun x y => packed fun k => (bf16 x k).add (bf16 y k)) ]

/-- f(x, y) of the multiplying FP32 and packed BF16 instructions of two sources (R98, R100). -/
def multiplying : List ((SOp → Instr) × (Word → Word → Word)) :=
  [ (.fmul, fun x y => single ((fp32 x).mul (fp32 y))),
    (.bmul2, fun x y => packed fun k => (bf16 x k).mul (bf16 y k)) ]

/-- The instructions that add to their destination: its old value c, and x and y (R95, R99, R100). -/
def accumulating : List ((SOp → Instr) × (Word → Word → Word → Word)) :=
  [ (.imad, fun c x y => word (c.toNat + x.toNat * y.toNat)),
    (.fmac, fun c x y => single ((fp32 c).add ((fp32 x).mul (fp32 y)))),
    (.bmac2, fun c x y => packed fun k => (bf16 c k).add ((bf16 x k).mul (bf16 y k))) ]

/-- A value truncated towards zero and clamped to [lo, hi]; NaN gives 0 (R102). -/
def truncated (v : Machine.Num) (lo hi : Int) : Word :=
  match v with
  | .nan => 0
  | .inf neg => word (if neg then lo else hi)
  | .fin neg m e =>
    let q : Int := if 0 ≤ e then (m : Int) * 2 ^ e.toNat else (m : Int) / 2 ^ (-e).toNat
    word (max lo (min hi (if neg then -q else q)))

/-- The functions of UNI but FRINT (R102). -/
def unary : List ((UOp → Instr) × (Word → Word)) :=
  [ (.popc, fun x => word ((List.range 32).countP fun j => x.getLsbD j)),
    (.clz, fun x => word (((List.range 32).takeWhile fun j => !x.getLsbD (31 - j)).length)),
    (.brev, fun x => x.reverse),
    (.iabs, fun x => word x.toInt.natAbs),
    (.ineg, fun x => word (0 - x.toNat)),
    (.fabs, fun x => BitVec.ofBool false ++ x.extractLsb' 0 31),
    (.fneg, fun x => BitVec.ofBool (!x.msb) ++ x.extractLsb' 0 31),
    (.cvtfi, fun x => truncated (fp32 x) (-2 ^ 31) (2 ^ 31 - 1)),
    (.cvtfu, fun x => truncated (fp32 x) 0 (2 ^ 32 - 1)),
    (.cvtif, fun x => single (.fin (decide (x.toInt < 0)) x.toInt.natAbs 0)),
    (.cvtuf, fun x => single (.fin false x.toNat 0)),
    (.cvtfb, fun x => (brain (fp32 x)).setWidth 32),
    (.cvtbf, fun x => single (bf16 x 0)),
    (.shfl, fun x => x) ]

/-- The FRINT functions and their directions (R102). -/
def rounding : List ((UOp → Instr) × Dir) :=
  [(.frintRne, .rne), (.frintRz, .rz), (.frintRp, .rp), (.frintRm, .rm)]

/-- The operators of REDL and SCAN with their identities, and the three instructions of each (R108). -/
def combining : List ((Word → Word → Word) × Word × (UOp → Instr) × (UOp → Instr) × (UOp → Instr)) :=
  [ (fun p q => word (p.toNat + q.toNat), 0, .redlIadd, .scanIadd, .scanXIadd),
    (fun p q => single ((fp32 p).add (fp32 q)), 0x80000000, .redlFadd, .scanFadd, .scanXFadd),
    (fun p q => word (max p.toInt q.toInt), 0x80000000, .redlImax, .scanImax, .scanXImax),
    (fun p q => word (min p.toInt q.toInt), 0x7FFFFFFF, .redlImin, .scanImin, .scanXImin),
    (Sys2Proof.Machine.fmax, 0x7FC00000, .redlFmax, .scanFmax, .scanXFmax),
    (Sys2Proof.Machine.fmin, 0x7FC00000, .redlFmin, .scanFmin, .scanXFmin),
    (fun p q => p &&& q, 0xFFFFFFFF, .redlAnd, .scanAnd, .scanXAnd),
    (fun p q => p ||| q, 0, .redlOr, .scanOr, .scanXOr),
    (fun p q => p ^^^ q, 0, .redlXor, .scanXor, .scanXXor) ]

/-- t[i] after the steps s = 1, 2, 4 and so on of REDL: the value of the subtree of 2^k lanes from lane i (R109). -/
def tree (op : Word → Word → Word) (t : Nat → Word) : Nat → Nat → Word
  | 0, i => t i
  | k + 1, i => op (tree op t k i) (tree op t k (i + 2 ^ k))

/-- t[i] after k steps of SCAN (R110). -/
def ladder (op : Word → Word → Word) (t : Nat → Word) : Nat → Nat → Word
  | 0, i => t i
  | k + 1, i => if 2 ^ k ≤ i then op (ladder op t k (i - 2 ^ k)) (ladder op t k i) else ladder op t k i

/-- The multiplying vector instructions (R94). -/
def multiplies : Instr → Bool
  | .imul _ | .imulhi _ | .imulhu _ | .imad _ | .fmul _ | .fmac _ | .bmul2 _ | .bmac2 _ | .fmal _ => true
  | _ => false

/-- A 64-bit number as a pair's value, modulo 2^64. -/
def long (n : Int) : Addr := BitVec.ofInt 64 n

/-- The value of a register pair through a selector: both words from one lane (R67, R97, R139). -/
def pairValue (I : Issue) (x : BitVec 2) (v : Reg) (i : Nat) : Nat :=
  (I.g.xbar x v.toNat i).toNat + 2 ^ 32 * (I.g.xbar x (v.toNat + 1) i).toNat

/-- What the CSRs read as, by number, in lane i (R35, R72, R114, R267, R270). -/
def csrs (I : Issue) (i : Nat) : List (Nat × Addr) :=
  [ (0x00, 64), (0x01, BitVec.ofNat 64 i), (0x02, BitVec.ofNat 64 I.g.index), (0x03, BitVec.ofNat 64 I.t.index),
    (0x04, BitVec.ofNat 64 (((I.s.cluster I.t.cluster).map Cluster.index).getD 0)),
    (0x05, BitVec.ofNat 64 I.t.place.core), (0x06, BitVec.ofNat 64 I.t.place.die), (0x07, BitVec.ofNat 64 I.s.dev.index) ] ++
  (List.range 5).map (fun k => (8 + k, BitVec.ofNat 64 (I.ownCoord.getD k 0))) ++
  [ (0x10, I.sp.cc.setWidth 64), (0x11, I.g.mode.setWidth 64), (0x12, I.g.cls.setWidth 64),
    (0x13, long (I.c.budget (coreIdx I.t.place))), (0x14, I.g.xset), (0x15, I.g.lineage), (0x16, I.g.mthresh.setWidth 64),
    (0x20, I.g.trapCause.setWidth 64), (0x21, I.g.trapAddr), (0x22, I.g.epc),
    (0x23, (BitVec.ofBool I.g.handling ++ BitVec.ofBool (I.g.claim.isSome && !I.g.dropClaim) ++ (0 : BitVec 6) ++ I.g.estFwd ++ I.g.estCount ++
      I.g.estLane).setWidth 64) ]

/-- What a mask-on lane contributes to REDL and SCAN, and every other lane (R109, R110). -/
def contribution (I : Issue) (o : UOp) (ident : Word) (i : Nat) : Word :=
  if (I.maskOn o.m).getLsbD i then I.xbar o.xa o.a i else ident

/-- The mask-on lanes in which VOTE's predicate holds, ascending (R111). -/
def voters (I : Issue) (o : UOp) : List Nat :=
  (List.range 64).filter fun i => (I.maskOn o.m).getLsbD i && I.xbar o.xa o.a i != 0

/-- UCMP's flags Z, N, C, V from x - y (R113). -/
def ucmp (x y : Word) : Bool × Bool × Bool × Bool :=
  (x.toNat == y.toNat, (word (x.toNat - y.toNat)).msb, decide (y.toNat ≤ x.toNat),
    decide (x.toInt - y.toInt < -2 ^ 31 ∨ 2 ^ 31 - 1 < x.toInt - y.toInt))

/-- UFCMP's flags Z, N, C, V (R113). -/
def ufcmp (x y : Word) : Bool × Bool × Bool × Bool :=
  if (fp32 x).isNan || (fp32 y).isNan then (false, false, true, true)
  else if (fp32 x).lt (fp32 y) then (false, true, false, false)
  else if (fp32 x).eq (fp32 y) then (true, false, true, false)
  else (false, false, true, false)

/-- A CC value from Z, N, C, V with E kept (R72, R112). -/
def ccOf (old : BitVec 5) (f : Bool × Bool × Bool × Bool) : BitVec 5 :=
  BitVec.ofBool (old.getLsbD 4) ++ BitVec.ofBool f.2.2.2 ++ BitVec.ofBool f.2.2.1 ++ BitVec.ofBool f.2.1 ++ BitVec.ofBool f.1

/-- The SFU's functions (R104). -/
def special : List ((UOp → Instr) × (Word → Word)) :=
  [ (.ex2, sfuEx2), (.lg2, sfuLg2), (.rcp, sfuRcp), (.rsq, sfuRsq), (.sqrt, sfuSqrt), (.sinpi, sfuSinpi), (.cospi, sfuCospi),
    (.tanh, sfuTanh), (.sigm, sfuSigm), (.erf, sfuErf) ]

/-! ### Encodings -/

/-- The assigned functs and function codes (R25, R27 to R34). -/
def assigned : List (Nat × List Nat) :=
  [ (0x2B, List.range 10), (0x2C, List.range 17), (0x2F, List.range 9),
    (0x30, List.range 9 ++ (List.range 9).map (64 + ·)), (0x31, List.range 5),
    (0x38, List.range 7 ++ (List.range 5).map (8 + ·) ++ (List.range 14).map (0x10 + ·) ++ (List.range 3).map (0x20 + ·) ++
      [0x28, 0x29] ++ (List.range 5).map (0x30 + ·) ++ (List.range 4).map (0x38 + ·)),
    (0x39, List.range 10), (0x3A, List.range 17), (0x3B, List.range 8), (0x3C, List.range 10), (0x3D, List.range 11),
    (0x3E, (List.range 4).map (0x10 + ·)), (0x3F, List.range 12) ]

/-- The engine class of an opcode that is assigned: 0 ALU, 1 SFU, 2 MEM, 3 MAT, 4 XFER, 5 CTL, 6 FAB (R13, R24 to R34). -/
def engine (op : Nat) : Nat :=
  ([(0x2B, 1), (0x38, 2), (0x39, 3), (0x3A, 5), (0x3B, 5), (0x3C, 4), (0x3D, 6), (0x3E, 5)].lookup op).getD 0

/-- The opcodes and functs of the control transfers: every CTL funct but YIELD, WAITC, SLEEP and BKPT, and the SYNC functs
that can park (R16, R29, R30). -/
def transfers : List (Nat × Nat) :=
  ((List.range 17).filter fun f => f ∉ ([0x08, 0x0E, 0x0F, 0x10] : List Nat)).map (fun f => (0x3A, f)) ++ [1, 2, 5, 7].map fun f => (0x3B, f)

/-- Where a word holds its funct: word 2 [31:24] in the long families, word 1's b field where b is a function code. -/
def functOf (w1 w2 : Word) : Nat :=
  let op := w1.toNat / 2 ^ 26
  if 0x38 ≤ op ∧ op ≠ 0x3F then w2.toNat / 2 ^ 24 else w1.toNat / 2 ^ 3 % 128

/-! ### Memory -/

/-- Loads: bytes, and whether fewer than four extend by their sign (R142). -/
def loads : List ((MemOp → Instr) × Nat × Bool) :=
  [(.ldB, 1, false), (.ldBs, 1, true), (.ldH, 2, false), (.ldHs, 2, true), (.ldW, 4, false), (.ldD, 8, false), (.ldQ, 16, false)]

/-- Stores and their bytes (R143). -/
def stores : List ((MemOp → Instr) × Nat) := [(.stB, 1), (.stH, 2), (.stW, 4), (.stD, 8), (.stQ, 16)]

/-- What n loaded bytes give to register d + k (R142). -/
def loaded (n : Nat) (signed : Bool) (bs : List Byte) (k : Nat) : Word :=
  if 4 ≤ n then BitVec.ofNat 32 (ofLe ((bs.drop (4 * k)).take 4))
  else if signed && decide (2 ^ (8 * n - 1) ≤ ofLe bs) then word ((ofLe bs : Int) - 2 ^ (8 * n))
  else BitVec.ofNat 32 (ofLe bs)

/-- Registers that n bytes fill. -/
def registers (n : Nat) : Nat := if 4 ≤ n then n / 4 else 1

/-- Byte j of what lane i stores: byte j of the registers from b on (R143). -/
def stored (I : Issue) (o : MemOp) (i j : Nat) : Byte :=
  BitVec.ofNat 8 ((I.g.xbar o.w.xb (o.w.b.toNat + j / 4) i).toNat / 2 ^ (8 * (j % 4)))

/-- A word after a sequence of operands, by F (R144, R145). -/
def sequential (F : Word → Word → Word → Word) (m : Word) (xs : List (Word × Word)) : Word :=
  xs.foldl (fun m x => F m x.1 x.2) m

/-- A word after combined operands (R146). -/
def combined (add : Word → Word → Word) (p : Word) (m : Word) (xs : List (Word × Word)) : Word :=
  add m (xs.foldl (fun p x => add p x.1) p)

/-- F of ATOM.FMAXA (R147). -/
def magnitude (m x : Word) : Word :=
  if (fp32 x).isNan then m
  else if (fp32 m).isNan then x &&& 0x7FFFFFFF
  else if (fp32 (m &&& 0x7FFFFFFF)).lt (fp32 (x &&& 0x7FFFFFFF)) then x &&& 0x7FFFFFFF else m &&& 0x7FFFFFFF

def plusOf : Word → List (Word × Word) → Word := sequential fun m x _ => word (m.toNat + x.toNat)
def sumOf : Word → List (Word × Word) → Word := combined (fun m x => single ((fp32 m).add (fp32 x))) 0x80000000
def magnitudeOf : Word → List (Word × Word) → Word := sequential fun m x _ => magnitude m x

/-- The atomics: what a word becomes of its operands, lane by lane (R145 to R147). -/
def atomics : List ((MemOp → Instr) × AtomOp × (Word → List (Word × Word) → Word)) :=
  [ (.atomAdd, .add, plusOf),
    (.atomMin, .min, sequential fun m x _ => word (min m.toInt x.toInt)),
    (.atomMax, .max, sequential fun m x _ => word (max m.toInt x.toInt)),
    (.atomUmin, .umin, sequential fun m x _ => word (min m.toNat x.toNat)),
    (.atomUmax, .umax, sequential fun m x _ => word (max m.toNat x.toNat)),
    (.atomAnd, .and, sequential fun m x _ => m &&& x),
    (.atomOr, .or, sequential fun m x _ => m ||| x),
    (.atomXor, .xor, sequential fun m x _ => m ^^^ x),
    (.atomXchg, .xchg, sequential fun _ x _ => x),
    (.atomCas, .cas, sequential fun m x y => if m = x then y else m),
    (.atomIncb, .incb, sequential fun m x _ => if x.toNat ≤ m.toNat then m else word (m.toNat + 1)),
    (.atomFadd, .fadd, sumOf),
    (.atomBadd2, .badd2, combined (fun m x => packed fun k => (bf16 m k).add (bf16 x k)) 0x80008000),
    (.atomFmaxa, .fmaxa, magnitudeOf) ]

/-- RED's functs (R149). -/
def reductions : List ((MemOp → Instr) × AtomOp × (Word → List (Word × Word) → Word)) :=
  [(.redAdd, .add, plusOf), (.redFadd, .fadd, sumOf), (.redFmaxa, .fmaxa, magnitudeOf)]

/-- A lane's operands of an atomic: x, and the new value of CAS (R145). -/
def operands (I : Issue) (o : MemOp) (i : Nat) : Word × Word :=
  (I.g.xbar o.w.xb o.w.b.toNat i, I.g.xbar o.w.xb (o.w.b.toNat + 1) i)

/-- The operands of the lanes of one word that lie below lane i, ascending. -/
def earlier (I : Issue) (o : MemOp) (ls : List Nat) (pa : Nat → Nat) (a i : Nat) : List (Word × Word) :=
  (ls.filter fun j => decide (j < i) && pa j == a).map (operands I o)

/-- What the atomic leaves in byte x of memory (R144; a line last written under another key loses its other bytes, log 16). -/
def updated (I : Issue) (o : MemOp) (upd : Word → List (Word × Word) → Word) (ls : List Nat) (pl : Nat → Place) (x : Nat) : Byte :=
  let pa := fun i => (pl i).pa
  match ls.find? fun i => decide (pa i ≤ x) && decide (x < pa i + 4) with
  | some i =>
    BitVec.ofNat 8 ((upd (I.s.mem.word I.s.free (pl i).key (pa i)) (earlier I o ls pa (pa i) 64)).toNat / 2 ^ (8 * (x - pa i)))
  | none => if I.s.mem.lost ls pl x then Config.underKey I.s.free x else I.s.mem.byteAt x

/-- The rank of a lane among the contributing lanes (R150). -/
def rank (ls : List Nat) (i : Nat) : Nat := (ls.filter fun j => decide (j < i)).length

/-- What CELLQ gives for a place (R221). -/
def cellWord (s : State) (p : Place) : Word :=
  let u := p.pa / 64
  let follower := if s.mem.byteAt (64 * u + 63) = 2 then 4 else 0
  if p.cell then
    match s.mem.tag u with
    | .val => 0
    | .def' => BitVec.ofNat 32 (1 + follower)
    | .evl => match s.view u with
      | .evl id => BitVec.ofNat 32 (2 + follower + 65536 * id)
      | _ => 0
    | .err => BitVec.ofNat 32 (3 + 256 * (s.mem.byteAt (64 * u)).toNat)
  else 8

/-! ### The array -/

/-- MSTAT's word (R202). -/
def mstat (I : Issue) (a : QArray) : Word :=
  let mine := (a.posted ++ a.segs).find? fun p => p.gid == I.g.gid
  let bit := fun (b : Bool) => if b then 1 else 0
  BitVec.ofNat 32 (bit I.g.inM + 2 * bit ((a.owner.map Resv.who) == some (.group I.g.gid)) +
    4 * bit (a.resvs.any fun r => r.who == .group I.g.gid) + 8 * bit (mine.any Pass.suspended) +
    16 * bit (I.g.deferred.any (fun d => d.cls == .mma) || I.g.ops.any fun p => p.cls == .mma && p.done && p.fault.isSome) +
    32 * bit (a.latch.any fun l => l.team == I.t.tid) + 256 * a.resvs.length + 65536 * a.posted.length +
    16777216 * ((mine.map Pass.step).getD 0))

/-! ### Control -/

/-- The conditions of BR, by code, over Z, N, C, V and E from bit 0 up (R72, R73). -/
def condition (cc : BitVec 5) (code : Nat) : Bool :=
  let z := cc.getLsbD 0
  let n := cc.getLsbD 1
  let c := cc.getLsbD 2
  let v := cc.getLsbD 3
  let e := cc.getLsbD 4
  [true, z, !z, n, !n, c, !c, v, !v, c && !z, !c || z, n == v, n != v, !z && n == v, z || n != v, e, !e].getD code false

/-! ### CHAIN -/

/-- CHAIN's operations, by opcode, with their constant (R341). -/
def chainStep (y : Word) (op : Nat × Word) : Word :=
  match op.1 with
  | 1 => single ((fp32 y).add (fp32 op.2))
  | 2 => single ((fp32 y).mul (fp32 op.2))
  | 3 => Sys2Proof.Machine.fmax y op.2
  | 4 => Sys2Proof.Machine.fmin y op.2
  | 5 => sfuEx2 y
  | 6 => sfuSigm y
  | 7 => sfuTanh y
  | _ => sfuRcp y

/-- An element through CHAIN's list (R342). -/
def chained (inFmt outFmt : Nat) (ops : List (Nat × Word)) (q : Nat) : Nat :=
  round outFmt false false (fp32 (ops.foldl chainStep (single (valueOf inFmt q))))

/-! ### Patterns -/

/-- The 16-bit field of axis a in a pattern's three words (R301). -/
def axis (p : Word × Word × Word) (a : Nat) : BitVec 16 := ((p.2.2 ++ p.2.1 ++ p.1 : BitVec 96)).extractLsb' (16 * a) 16

/-- An axis field is well formed for an axis of size n (R301, R302). -/
abbrev axisFits (f : BitVec 16) (n : Nat) : Prop :=
  let kind := f.toNat / 2 ^ 14
  let hi := f.toNat / 2 ^ 7 % 2 ^ 7
  let lo := f.toNat % 2 ^ 7
  if kind = 2 then lo ≤ hi ∧ hi < n else if kind = 0 then hi = 0 ∧ lo < n else hi = 0 ∧ lo = 0

/-- An axis field matches x, where this device stands at `own` on the axis (R302). -/
abbrev axisMatches (f : BitVec 16) (own x : Nat) : Prop :=
  let kind := f.toNat / 2 ^ 14
  let hi := f.toNat / 2 ^ 7 % 2 ^ 7
  let lo := f.toNat % 2 ^ 7
  (kind = 0 → x = lo) ∧ (kind = 2 → lo ≤ x ∧ x ≤ hi) ∧ (kind = 3 → x = own)

/-- A pattern is well formed (R302). -/
abbrev patternFits (m : GridMap) (p : Word × Word × Word) : Prop :=
  (∀ a < 5, axisFits (axis p a) (m.size a)) ∧ p.2.2.toNat / 2 ^ 17 ≤ 1

/-! ### Driver commands -/

/-- A row of the driver's commands: its opcode and sub-operation, whether it acts on a context, and the operand bytes that
the table names, each as its first byte and how many (R353). -/
structure DriverCommand where
  row : Instr
  op : Nat
  sub : Nat
  context : Bool
  operands : List (Nat × Nat)
  deriving DecidableEq, Repr

/-- The driver's commands (R352, R353). -/
def commands : List DriverCommand :=
  [⟨.setQueue, 0x01, 0, false, [(16, 1), (17, 1), (24, 8)]⟩, ⟨.createContext, 0x02, 0, false, [(2, 2), (16, 8)]⟩,
    ⟨.endContext, 0x03, 0, true, []⟩, ⟨.preempt, 0x04, 0, true, []⟩, ⟨.resume, 0x05, 0, true, []⟩,
    ⟨.gridMap, 0x06, 0, true, [(16, 8)]⟩, ⟨.accessTable, 0x07, 0, true, [(16, 1), (17, 1), (18, 1), (24, 8)]⟩,
    ⟨.loadKey, 0x08, 0, false, [(16, 2), (24, 8)]⟩, ⟨.clearKey, 0x09, 0, false, [(16, 2)]⟩,
    ⟨.attest, 0x0A, 0, false, [(16, 32), (48, 8)]⟩, ⟨.migrate, 0x11, 0, true, [(16, 8)]⟩,
    ⟨.migrateCommit, 0x11, 1, true, [(16, 8), (24, 8)]⟩, ⟨.migrateAbort, 0x11, 2, true, [(16, 8)]⟩,
    ⟨.unmapRemap, 0x12, 0, true, [(16, 8), (24, 1), (32, 8)]⟩, ⟨.engineRetry, 0x13, 0, true, [(16, 8)]⟩,
    ⟨.engineAbort, 0x13, 1, true, [(16, 8)]⟩, ⟨.trapReplay, 0x14, 0, true, [(16, 8)]⟩,
    ⟨.trapDeliver, 0x14, 1, true, [(16, 8)]⟩] ++
  [⟨.setLog, 0x15, 0, true, [(16, 8), (24, 8)]⟩, ⟨.logReplay, 0x15, 1, true, [(16, 8)]⟩,
    ⟨.logDiscard, 0x15, 2, true, [(16, 8)]⟩, ⟨.stagingRegion, 0x16, 0, true, [(16, 8), (24, 8)]⟩,
    ⟨.closeNodeQueue, 0x17, 0, true, [(16, 2)]⟩, ⟨.linkThreshold, 0x18, 0, false, [(16, 4)]⟩,
    ⟨.channelThreshold, 0x18, 1, false, [(16, 4)]⟩, ⟨.powerLimit, 0x18, 2, false, [(16, 4)]⟩,
    ⟨.reenableLane, 0x19, 0, false, [(16, 1), (17, 1), (18, 1)]⟩, ⟨.setDeviceIndex, 0x1A, 0, false, [(16, 1)]⟩,
    ⟨.recoveryImage, 0x1B, 0, false, [(16, 8), (24, 4)]⟩]

end Sys2Proof.Spec
end

