-- ==== Sys2Proof/Certificates/Slice0/Obligations.lean ====
section
/-!
DEFINITION. The statements for the provers. Each says in its docstring which rules of the spec it formalises; a
statement that rests on a choice of the model's own names the log entry.
-/

open Sys2Proof Sys2Proof.Machine

/-! ### The encoding -/

/-- Decoding the bytes of an encoded instruction gives the instruction back, with every operand at every value that the
encoding admits, and leaves the bytes that follow (R23 to R34, R37, R38). Events and commands have no encoding.
Each word means one instruction: what the decoder accepts is a well-formed instruction, no event, whose encoding is
the very bytes read (R23 to R38). -/
def Obligations.DecodeEncode : Prop :=
  (∀ (i : Instr) (rest : List Byte), i.isEvent = false → wf i = true →
     decodeBytes (encodeBytes i ++ rest) = .ok (i, rest)) ∧
  (∀ (bs : List Byte) (i : Instr) (rest : List Byte), decodeBytes bs = .ok (i, rest) →
     wf i = true ∧ i.isEvent = false ∧ bs = encodeBytes i ++ rest)

/-- Words that the spec prints decode to the instructions that it prints them for: redl.fadd v6, v5 (R110's example);
shli v4, v2, 12 and csrr v2, ax0 (the broadcast program); cvtq v3, v2, f2 (R123's example); chain [v20], [v22], v8
(R342's example); rcpy p0 with counter 1 (the broadcast program). -/
def Obligations.DecodePrintedWords : Prop :=
  decodeWords 0xBC305008 0 = .ok (.redlFadd ⟨6, 5, 0, false⟩) ∧
  decodeWords 0x3C202018 0 = .ok (.shli ⟨4, 2, 0, 12, false⟩) ∧
  decodeWords 0xD0108000 0 = .ok (.csrr ⟨2, 8, 0, 0, 0, false⟩) ∧
  decodeWords 0xFC182028 2 = .ok (.cvtq ⟨3, 2, 0, false, 2⟩) ∧
  decodeWords 0xF04140B0 0x04000000 = .ok (.chain ⟨⟨8, 20, 0, 22, 0, false⟩, false, 0, 0, 0, false⟩) ∧
  decodeWords 0xF4804020 0x05002000 = .ok (.rcpy ⟨⟨16, 4, 0, 4, 0, false⟩, 0, 1, 0⟩)

/-! ### The machine's step -/

/-- When the bytes at the pc decode to an instruction, a step of the machine runs that instruction: it debits its energy,
lets a cycle pass, executes, and does what follows every step; it keeps the words it has fetched until the instruction is
over, and an instruction tried again is the one fetched first. The hypotheses say that it is the group's turn (nothing
else stands on the agenda or in the command queue; the group issues, or it is parked at an instruction that tests its
condition again and waits for no result, and no access of it is on its way, log 6) and that R22, R268 and R278 let it issue
(R13, R22, R23, R37, R38). The model's choices: the order of turns (log 2), one cycle for each turn (log 11), and a debit made
once, with the words kept, however often the instruction is tried (log 52). -/
def Obligations.StepRunsDecoded : Prop :=
  ∀ (s : State) (I : Issue) (i : Instr),
    s.agenda = [] → s.commands = [] →
    (s.issue = some I ∨ (s.issue = none ∧ s.waiter = some I ∧
        ∀ op ∈ I.g.ops, op.pending = false ∧ s.flying I.g.gid op.seq = false)) → I.free = true →
    let runs := fun (w1 w2 : Word) => step s = match exec i (I.debit w1 w2).tick with
      | .next t => .next t.after
      | .fault f => .fault f
      | .refused r => .refused r
    (∀ rest, I.cl.words = none → decodeBytes I.codeBytes = .ok (i, rest) →
      ∃ w1 w2, I.s.fetchInstr I.c I.t.place I.cl.pc = .ok w1 w2 ∧ decodeWords w1 w2 = .ok i ∧ runs w1 w2) ∧
    (∀ w1 w2, I.cl.words = some (w1, w2) → decodeWords w1 w2 = .ok i → runs w1 w2)

/-- The machine always goes on: no step ends in a fault or a refusal, from any state whatever. -/
def Obligations.StepAnswers : Prop :=
  ∀ s : State, ∃ t, step s = .next t

/-- An instruction stops only where no group is in a position to issue it, with that fault; an event or command never
stops. -/
def Obligations.StopsOnlyWithoutIssuer : Prop :=
  ∀ (i : Instr) (s : State),
    (∃ t, exec i s = .next t) ∨ (exec i s = .fault .noIssuer ∧ i.isEvent = false ∧ s.issue = none ∧ s.waiter = none)

/-- Right after reset every table of the memory is in canonical form. -/
def Obligations.ResetMemoryCanonical : Prop :=
  State.reset.mem.wf = true

/-- Every step keeps every table of the memory in canonical form: keys strictly rising, no entry equal to what an
unlisted key reads as. -/
def Obligations.StepKeepsMemoryCanonical : Prop :=
  ∀ s t : State, s.mem.wf = true → step s = .next t → t.mem.wf = true

/-! ### Writing registers -/

/-- What an instruction that wrote register `v` in the lanes of `m` leaves behind (R8, R17, R66, R69, R91): each of those
lanes of `v` reads the value written; a write to v0 is discarded and v0 reads 0; every other lane of `v` and every other
register reads as before; flags, lanes and joins of the splits, every other field of the group, every other group and the
rest of the machine, memory included, stay. A bound queue port is not a register.
The same for a register pair: the low word in `v`, the high word in `v + 1` (R67). -/
def Obligations.RegisterWrites : Prop :=
  (∀ (s : State) (I : Issue) (i : Instr) (v : Nat) (m : LaneSet) (f : Nat → Word),
     s.issue = some I → I.g.port v = none →
     ∃ g, (I.wrote i v m f).group I.g.gid = some g ∧
       (∀ u j, j < 64 → I.g.port u = none →
         g.read u j = if u = v ∧ v ≠ 0 ∧ m.getLsbD j = true then f j else I.g.read u j) ∧
       (∀ j, g.read 0 j = 0) ∧
       I.g.sameButRegs g ∧ sameButPc I.g.splits g.splits ∧ s.sameButGroup (I.wrote i v m f) I.g.gid) ∧
  (∀ (s : State) (I : Issue) (i : Instr) (v : Nat) (m : LaneSet) (f : Nat → Addr),
     s.issue = some I → I.g.port v = none → I.g.port (v + 1) = none →
     ∃ g, (I.wrotePair i v m f).group I.g.gid = some g ∧
       (∀ u j, j < 64 → I.g.port u = none →
         g.read u j =
           if u = v ∧ v ≠ 0 ∧ m.getLsbD j = true then BitVec.ofNat 32 ((f j).toNat % 2 ^ 32)
           else if u = v + 1 ∧ m.getLsbD j = true then BitVec.ofNat 32 ((f j).toNat / 2 ^ 32)
           else I.g.read u j) ∧
       I.g.sameButRegs g ∧ sameButPc I.g.splits g.splits ∧ s.sameButGroup (I.wrotePair i v m f) I.g.gid)

/-! ### Before an instruction's own effect -/

/-- Registers named at or above the count trap ILLEGAL_ENCODING before anything else; the MR register is checked only
with m = 1 (R38, R66). An ENQ that was parked goes on with what it has read (R246): it is checked when it begins.
A masked instruction whose mask is off in every active lane has no effect: the group goes on to its next instruction,
and nothing else happens (R37); but one that is no matrix instruction stalls first while its mask register is aliased and an
earlier matrix operation or another outstanding result still writes it (R176).
A multiplying vector instruction waits while a pass runs on its quad (R94): the group stands where it stood, marked
as waiting for a gap.
With STRICT set, an instruction that names a register with an outstanding result in a mask-on lane traps PEND_HAZARD
before any part of its effect (R19, R38). The lane arithmetic of two sources stands for every instruction without operand
checks and privilege.
Privilege (R35, R115, R271, R273 to R275): outside a handler CSRMV and TRAPRET trap PRIVILEGED, and so does CSRW of any
register but CC and MTHRESH; in a handler CSRW of an access-R register still does. The checks that come first are those of
R38. -/
def Obligations.BeforeEffect : Prop :=
  ((∀ (s : State) (I : Issue) (i : Instr), s.issue = some I → i.isEvent = false → i ≠ .nop → I.g.enq = none →
      (∃ v ∈ i.reads ++ i.writes ++ (if masked i then [I.cl.mr] else []), I.g.nregs ≤ v ∧ I.g.port v = none) →
      exec i s = .next (s.setGroup (I.g.trapped (I.g.resumeAt I.cl { cause := 0x02, addr := 0 } true I.cl.pc (instrBytes i))))) ∧
   (∀ (s : State) (I : Issue) (i : Instr), s.issue = some I → masked i = true → badRegister i I = false → I.g.enq = none →
      I.readWait [I.cl.mr] = none → (isMat i = true ∨ I.accBusy I.cl.mr = false) → I.maskOn true = 0 →
      exec i s = .next (I.ended i s)) ∧
   (∀ (s : State) (I : Issue) (i : Instr), s.issue = some I → masked i = true → badRegister i I = false → I.g.enq = none →
      I.readWait [I.cl.mr] = none → isMat i = false → I.accBusy I.cl.mr = true → exec i s = .next I.stalls) ∧
   (∀ (s : State) (I : Issue) (i : Instr), s.issue = some I → Spec.multiplies i = true → I.clear i = true →
      I.arrayRuns = true → exec i s = .next (s.setGroup { I.g with gapWait := true, stalled := true })) ∧
   (∀ (s : State) (I : Issue) (i : Instr) (v : Nat) (j : Nat), s.issue = some I → I.c.strict = true →
      ((∃ p ∈ Spec.integer, ∃ o, i = p.1 o) ∨ (∃ p ∈ Spec.floating, ∃ o, i = p.1 o) ∨ (∃ p ∈ Spec.unary, ∃ o, i = p.1 o) ∨
        (∃ p ∈ Spec.loads, ∃ o, i = p.1 o) ∨ (∃ p ∈ Spec.stores, ∃ o, i = p.1 o)) →
      badRegister i I = false →
      (masked i = true → I.readWait [I.cl.mr] = none ∧ I.accBusy I.cl.mr = false ∧ I.maskOn true ≠ 0) →
      v ∈ i.reads ++ i.writes → v ≠ 0 → I.g.aliased v = false → j < 64 → (I.maskOn (masked i)).getLsbD j = true →
      (∃ p ∈ I.g.ops, ∃ w, (64 * v + j, w) ∈ p.writes) →
      exec i s = .next (I.raises i { cause := 0x0F, addr := 0 }))) ∧
  (∀ (s : State) (I : Issue), s.issue = some I →
     (∀ o : SOp, I.clear (.csrw o) = true → o.d ∉ [0x10, 0x16] →
       (I.g.handling = false ∨ o.d ∉ [0x11, 0x12, 0x20, 0x23]) →
       exec (.csrw o) s = .next (I.raises (.csrw o) { cause := 0x04, addr := 0 })) ∧
     (I.g.handling = false →
       (∀ o : SysOp, I.clear (.csrmvRead o) = true →
         exec (.csrmvRead o) s = .next (I.raises (.csrmvRead o) { cause := 0x04, addr := 0 })) ∧
       (∀ o : SysOp, I.clear (.csrmvWrite o) = true →
         exec (.csrmvWrite o) s = .next (I.raises (.csrmvWrite o) { cause := 0x04, addr := 0 })) ∧
       (∀ o : CtlOp, I.clear (.trapret o) = true →
         exec (.trapret o) s = .next (I.raises (.trapret o) { cause := 0x04, addr := 0 }))))

/-! ### Lane arithmetic -/

/-- The rational value of a finite number. -/
def Sys2Proof.Spec.rational : Sys2Proof.Machine.Num → Option ℚ
  | .fin neg m e => some ((if neg then -1 else 1) * (m : ℚ) * (2 : ℚ) ^ e)
  | _ => none

/-- The three-register integer instructions write f(x, y) of R95's table in every mask-on lane, x and y read through the
selectors before any lane is written (R91, R92, R95). The multiplying ones do so when no pass runs on the quad (R94).
The immediate forms write R96's results; NOP has no effect; the long-immediate forms write R119's results (R91, R96,
R119). -/
def Obligations.IntegerResults : Prop :=
  (∀ (s : State) (I : Issue), s.issue = some I → ∀ p ∈ Spec.integer, ∀ o : SOp, I.clear (p.1 o) = true →
     (Spec.multiplies (p.1 o) = true → I.arrayRuns = false) →
     exec (p.1 o) s = .next (I.wrote (p.1 o) o.d.toNat (I.maskOn o.m) fun i =>
       p.2 (I.xbar o.xa o.a i) (I.xbar o.xb o.b i))) ∧
  (∀ (s : State) (I : Issue), s.issue = some I →
     (∀ p ∈ Spec.immediate, ∀ o : IOp, I.clear (p.1 o) = true → wf (p.1 o) = true →
       exec (p.1 o) s = .next (I.wrote (p.1 o) o.d.toNat (I.maskOn o.m) fun i => p.2 (I.xbar o.xa o.a i) o.imm)) ∧
     (∀ p ∈ Spec.longImmediate, ∀ o : L3Op, I.clear (p.1 o) = true →
       exec (p.1 o) s = .next (I.wrote (p.1 o) o.d.toNat (I.maskOn o.m) fun i => p.2 (I.xbar o.xa o.a i) o.imm)) ∧
     exec .nop s = .next (I.ended .nop s))

/-- The floating-point instructions of two sources write R98's and R100's results, and those that add to their
destination R95's, R99's and R100's (R91, R93 to R95, R98 to R100, R119). -/
def Obligations.FloatResults : Prop :=
  ∀ (s : State) (I : Issue), s.issue = some I →
    (∀ p ∈ Spec.floating, ∀ o : SOp, I.clear (p.1 o) = true →
      exec (p.1 o) s = .next (I.wrote (p.1 o) o.d.toNat (I.maskOn o.m) fun i =>
        p.2 (I.xbar o.xa o.a i) (I.xbar o.xb o.b i))) ∧
    (I.arrayRuns = false →
      (∀ p ∈ Spec.multiplying, ∀ o : SOp, I.clear (p.1 o) = true →
        exec (p.1 o) s = .next (I.wrote (p.1 o) o.d.toNat (I.maskOn o.m) fun i =>
          p.2 (I.xbar o.xa o.a i) (I.xbar o.xb o.b i))) ∧
      (∀ p ∈ Spec.accumulating, ∀ o : SOp, I.clear (p.1 o) = true →
        exec (p.1 o) s = .next (I.wrote (p.1 o) o.d.toNat (I.maskOn o.m) fun i =>
          p.2 (I.g.read o.d.toNat i) (I.xbar o.xa o.a i) (I.xbar o.xb o.b i))) ∧
      (∀ o : L3Op, I.clear (.fmal o) = true →
        exec (.fmal o) s = .next (I.wrote (.fmal o) o.d.toNat (I.maskOn o.m) fun i =>
          Spec.single ((Spec.fp32 (I.g.read o.d.toNat i)).add
            ((Spec.fp32 (I.xbar o.xa o.a i)).mul (Spec.fp32 o.imm))))))

/-- Round(FP32, RNE, v) of a finite v is a nearest FP32 value: where the rounded pattern is finite, no finite pattern lies
nearer, and of two equally near ones the pattern chosen is even (R50, R51, R93). -/
def Obligations.RoundNearestEven : Prop :=
  ∀ (neg : Bool) (m : Nat) (e : Int) (r x y : ℚ) (w : Word),
    let z := Spec.single (.fin neg m e)
    Spec.rational (.fin neg m e) = some r → Spec.rational (Spec.fp32 z) = some x → Spec.rational (Spec.fp32 w) = some y →
    |x - r| ≤ |y - r| ∧ (|x - r| = |y - r| → x ≠ y → z.toNat % 2 = 0)

/-- UNI's functions and SHFL write R102's and R106's results in every mask-on lane (R91, R102, R106).
The SFU posts one operation that counts in SFU and whose results, one for each mask-on lane, land later; no register
has changed yet (R18, R91, R103, R104).
ADD64 and LEA write 64-bit sums to a pair; SEL writes a in mask-on lanes and b in the other active ones (R91, R97, R101,
R119). -/
def Obligations.LaneResults : Prop :=
  (∀ (s : State) (I : Issue), s.issue = some I →
     (∀ p ∈ Spec.unary, ∀ o : UOp, I.clear (p.1 o) = true →
       exec (p.1 o) s = .next (I.wrote (p.1 o) o.d.toNat (I.maskOn o.m) fun i => p.2 (I.xbar o.xa o.a i))) ∧
     (∀ p ∈ Spec.rounding, ∀ o : UOp, I.clear (p.1 o) = true →
       exec (p.1 o) s = .next (I.wrote (p.1 o) o.d.toNat (I.maskOn o.m) fun i => frint p.2 (I.xbar o.xa o.a i)))) ∧
  (∀ (s : State) (I : Issue), s.issue = some I → ∀ p ∈ Spec.special, ∀ o : UOp, I.clear (p.1 o) = true →
     exec (p.1 o) s = .next (I.posted (p.1 o) .sfu
       ((lanesOf (I.maskOn o.m)).map fun i => (64 * o.d.toNat + i, p.2 (I.xbar o.xa o.a i))))) ∧
  (∀ (s : State) (I : Issue), s.issue = some I →
     (∀ o : SOp, I.clear (.add64 o) = true →
       exec (.add64 o) s = .next (I.wrotePair (.add64 o) o.d.toNat (I.maskOn o.m) fun i =>
         Spec.long (Spec.pairValue I o.xa o.a i + Spec.pairValue I o.xb o.b i))) ∧
     (∀ o : L3Op, I.clear (.lea o) = true →
       exec (.lea o) s = .next (I.wrotePair (.lea o) o.d.toNat (I.maskOn o.m) fun i =>
         Spec.long (Spec.pairValue I o.xa o.a i + o.imm.toInt))) ∧
     (∀ o : SOp, I.clear (.sel o) = true →
       exec (.sel o) s = .next (I.wrote (.sel o) o.d.toNat I.active fun i =>
         if (I.maskOn o.m).getLsbD i then I.xbar o.xa o.a i else I.xbar o.xb o.b i)))

/-- SHFLX moves data by a per-lane index; REDL writes the value of the tree over all lanes to every mask-on lane; SCAN
writes lane i the step-wise scan up to i, the exclusive form up to i - 1 with the identity in lane 0 (R107 to R110). -/
def Obligations.CrossLaneResults : Prop :=
  ∀ (s : State) (I : Issue), s.issue = some I →
    (∀ o : SOp, I.clear (.shflx o) = true →
      exec (.shflx o) s = .next (I.wrote (.shflx o) o.d.toNat (I.maskOn o.m) fun i =>
        I.xbar o.xa o.a ((I.xbar o.xb o.b i).toNat % 64))) ∧
    ∀ p ∈ Spec.combining, ∀ o : UOp,
      (I.clear (p.2.2.1 o) = true → exec (p.2.2.1 o) s = .next (I.wrote (p.2.2.1 o) o.d.toNat (I.maskOn o.m) fun _ =>
        Spec.tree p.1 (Spec.contribution I o p.2.1) 6 0)) ∧
      (I.clear (p.2.2.2.1 o) = true → exec (p.2.2.2.1 o) s = .next (I.wrote (p.2.2.2.1 o) o.d.toNat (I.maskOn o.m) fun i =>
        Spec.ladder p.1 (Spec.contribution I o p.2.1) 6 i)) ∧
      (I.clear (p.2.2.2.2 o) = true → exec (p.2.2.2.2 o) s = .next (I.wrote (p.2.2.2.2 o) o.d.toNat (I.maskOn o.m) fun i =>
        if i = 0 then p.2.1 else Spec.ladder p.1 (Spec.contribution I o p.2.1) 6 (i - 1)))

/-- VOTE.COUNT, VOTE.FIRST and VOTE.BALLOT write what R111 says to every mask-on lane; VOTE.ANY and VOTE.ALL set CC.Z of
the issuing split, and change nothing when no lane is on (R111).
Setting CC.Z of a split leaves its other flags, its pc, lanes and join, and every other split and field (R72,
R111). -/
def Obligations.VoteResults : Prop :=
  (∀ (s : State) (I : Issue) (o : UOp), s.issue = some I →
     (I.clear (.voteCount o) = true → exec (.voteCount o) s =
       .next (I.wrote (.voteCount o) o.d.toNat (I.maskOn o.m) fun _ => Spec.word (Spec.voters I o).length)) ∧
     (I.clear (.voteFirst o) = true → exec (.voteFirst o) s =
       .next (I.wrote (.voteFirst o) o.d.toNat (I.maskOn o.m) fun _ =>
         match (Spec.voters I o).head? with | some i => Spec.word i | none => 0xFFFFFFFF)) ∧
     (I.clear (.voteBallot o) = true → exec (.voteBallot o) s =
       .next (I.wrotePair (.voteBallot o) o.d.toNat (I.maskOn o.m) fun _ =>
         Spec.long (((Spec.voters I o).map fun i => 2 ^ i).sum : Nat))) ∧
     (I.clear (.voteAny o) = true → exec (.voteAny o) s = .next (I.ended (.voteAny o)
       (if I.maskOn o.m = 0 then s else s.setGroup (I.g.setZ I.sp.label (!(Spec.voters I o).isEmpty))))) ∧
     (I.clear (.voteAll o) = true → exec (.voteAll o) s = .next (I.ended (.voteAll o)
       (if I.maskOn o.m = 0 then s
        else s.setGroup (I.g.setZ I.sp.label (decide ((Spec.voters I o).length = laneCount (I.maskOn o.m)))))))) ∧
  (∀ (g : Group) (l : Nat) (z : Bool),
     g.setZ l z = { g with splits := (g.setZ l z).splits } ∧ (g.setZ l z).splits.length = g.splits.length ∧
       ∀ (k : Nat) (x : Split), g.splits[k]? = some x → ∃ y : Split, (g.setZ l z).splits[k]? = some y ∧ y = { x with cc := y.cc } ∧
         (x.label ≠ l → y.cc = x.cc) ∧
         (x.label = l → y.cc.getLsbD 0 = z ∧ ∀ b, 1 ≤ b → y.cc.getLsbD b = x.cc.getLsbD b))

/-- UCMP and UFCMP set Z, N, C and V of the issuing split from the values in the lowest mask-on lane, keep E, and write no
register; with no such lane they have no effect (R112, R113). -/
def Obligations.CompareResults : Prop :=
  ∀ (s : State) (I : Issue) (o : SOp), s.issue = some I →
    (∀ u, (lanesOf (I.maskOn o.m)).head? = some u →
      (I.clear (.ucmp o) = true → exec (.ucmp o) s = .next (I.ended (.ucmp o) (s.setGroup
        (I.g.setCc I.sp.label (Spec.ccOf I.sp.cc (Spec.ucmp (I.xbar o.xa o.a u) (I.xbar o.xb o.b u))))))) ∧
      (I.clear (.ufcmp o) = true → exec (.ufcmp o) s = .next (I.ended (.ufcmp o) (s.setGroup
        (I.g.setCc I.sp.label (Spec.ccOf I.sp.cc (Spec.ufcmp (I.xbar o.xa o.a u) (I.xbar o.xb o.b u)))))))) ∧
    (I.maskOn o.m = 0 → (I.clear (.ucmp o) = true → exec (.ucmp o) s = .next (I.ended (.ucmp o) s)) ∧
      (I.clear (.ufcmp o) = true → exec (.ufcmp o) s = .next (I.ended (.ufcmp o) s)))

/-- CSRR, CSRMV's read, CLOCK and BUDGET write what R35, R114, R116, R117 and R275 say to every mask-on lane: a 32-bit CSR to
one register, a 64-bit one to a pair. CSRMV reads only in a handler.
What CSRW, CSRMV and SETX write (R71, R115, R174, R270, R271, R275): the value comes from the lowest mask-on lane u. A
claim that ESTATE.C gives up is abandoned at TRAPRET, and CLASS is in force from then on. (The model's choices: that the
scaled refill is rounded down, log 56, and that one count of cycles serves the whole device, log 55.) -/
def Obligations.CsrAccess : Prop :=
  (∀ (s : State) (I : Issue), s.issue = some I →
     (∀ o : SOp, I.clear (.csrr o) = true → wf (.csrr o) = true → ∃ val : Nat → Addr,
       (∀ i, (o.a.toNat, val i) ∈ Spec.csrs I i) ∧
       exec (.csrr o) s = .next (
         if o.a.toNat ∈ [0x14, 0x15, 0x21, 0x22] then I.wrotePair (.csrr o) o.d.toNat (I.maskOn o.m) val
         else I.wrote (.csrr o) o.d.toNat (I.maskOn o.m) fun i => (val i).setWidth 32)) ∧
     (∀ o : SysOp, I.clear (.csrmvRead o) = true → wf (.csrmvRead o) = true → I.g.handling = true → ∃ val : Nat → Addr,
       (∀ i, ((o.f.extractLsb' 16 7).toNat, val i) ∈ Spec.csrs I i) ∧
       exec (.csrmvRead o) s = .next (I.wrotePair (.csrmvRead o) o.w.d.toNat (I.maskOn o.w.m) val)) ∧
     (∀ o : SysOp, I.clear (.clock o) = true →
       exec (.clock o) s = .next (I.wrotePair (.clock o) o.w.d.toNat (I.maskOn o.w.m) fun _ => BitVec.ofNat 64 s.cycle)) ∧
     (∀ o : SysOp, I.clear (.budget o) = true →
       exec (.budget o) s = .next (I.wrotePair (.budget o) o.w.d.toNat (I.maskOn o.w.m) fun _ =>
         (BitVec.ofNat 32 (I.c.refill * s.dev.scale / 65536) : Word) ++ (BitVec.ofInt 32 (I.c.budget (coreIdx I.t.place)) : Word)))) ∧
  (∀ (s : State) (I : Issue), s.issue = some I →
     (∀ (o : SOp) (u : Nat), I.clear (.csrw o) = true → (lanesOf (I.maskOn o.m)).head? = some u →
       let x := I.xbar o.xa o.a u
       let wrote := fun g => exec (.csrw o) s = .next (I.ended (.csrw o) (s.setGroup g))
       (o.d = 0x10 → wrote (I.g.setCc I.sp.label (x.setWidth 5))) ∧
       (o.d = 0x16 → wrote { I.g with mthresh := BitVec.ofNat 32 (max 1 (min 64 x.toNat)) }) ∧
       (I.g.handling = true →
         (o.d = 0x12 → wrote { I.g with cls := BitVec.ofNat 2 (min (x.toNat % 4) I.c.ceiling) }) ∧
         (o.d = 0x20 → wrote { I.g with trapCause := x.setWidth 8 }) ∧
         (o.d = 0x23 → wrote { I.g with dropClaim := I.g.claim.isSome && !x.getLsbD 30 }) ∧
         (o.d = 0x11 → x &&& 0x00037F01 = I.g.mode → wrote I.g) ∧
         (o.d = 0x11 → x &&& 0x00037F01 ≠ I.g.mode →
           exec (.csrw o) s = .next (I.raises (.csrw o) { cause := 0x11, addr := 0 })))) ∧
     (∀ (o : SysOp) (u : Nat), I.clear (.csrmvWrite o) = true → I.g.handling = true →
       (lanesOf (I.maskOn o.w.m)).head? = some u →
       let v := BitVec.ofNat 64 (Spec.pairValue I o.w.xa o.w.a u)
       let n := (o.f.extractLsb' 16 7).toNat
       let wrote := fun g => exec (.csrmvWrite o) s = .next (I.ended (.csrmvWrite o) (s.setGroup g))
       (n = 0x14 → xsetOk v = true → wrote { I.g with xset := v }) ∧
       (n = 0x14 → xsetOk v = false → exec (.csrmvWrite o) s = .next (I.raises (.csrmvWrite o) { cause := 0x02, addr := 0 })) ∧
       (n = 0x15 → wrote { I.g with lineage := v }) ∧ (n = 0x21 → wrote { I.g with trapAddr := v }) ∧
       (n = 0x22 → wrote { I.g with epc := v })) ∧
     (∀ o : SysOp, I.clear (.setx o) = true → wf (.setx o) = true → ∃ x : BitVec 64,
       exec (.setx o) s = .next (I.ended (.setx o) (s.setGroup { I.g with xset := x })) ∧
       ∀ k, 1 ≤ k → k ≤ 4 → x.extractLsb' (16 * (k - 1)) 16 =
         if k = (o.f.extractLsb' 22 2).toNat then o.f.extractLsb' 0 16 else I.g.xset.extractLsb' (16 * (k - 1)) 16))

/-- CVTQ of single values and of blocks of 32 lanes, CVTX, AMAXB, PACK and UNPACK (R54, R57, R120 to R123), and the trap of a
slot that an instruction does not take (R60). A block's codes, scale and special marks are those of `quantise`. -/
def Obligations.SlotResults : Prop :=
  ∀ (s : State) (I : Issue) (o : L3Op), s.issue = some I →
    (I.clear (.cvtq o) = true →
      let f := I.t.slots.getD o.imm.toNat 0
      ((slotElem f = 0 ∨ 9 < slotElem f) → exec (.cvtq o) s = .next (I.raises (.cvtq o) { cause := 0x19, addr := 0 })) ∧
      (1 ≤ slotElem f → slotElem f ≤ 9 → (slotElem f ≤ 2 ∨ slotScale f = 0) →
        exec (.cvtq o) s = .next (I.wrote (.cvtq o) o.d.toNat (I.maskOn o.m) fun i =>
          BitVec.ofNat 32 (round (slotElem f) (slotRz f) (slotSat f) (Spec.fp32 (I.xbar o.xa o.a i))))) ∧
      (3 ≤ slotElem f → slotElem f ≤ 9 → slotScale f ≠ 0 → ∃ block : Nat → Block,
        (∀ b, block b = quantise (slotElem f) (slotRz f) (slotSat f) ((List.range 32).map fun j =>
          if (I.maskOn o.m).getLsbD (32 * b + j) then Spec.fp32 (I.xbar o.xa o.a (32 * b + j)) else .fin false 0 0)) ∧
        exec (.cvtq o) s = .next (I.wrote (.cvtq o) o.d.toNat (I.maskOn o.m) fun i =>
          BitVec.ofNat 32 ((block (i / 32)).codes.getD (i % 32) 0 + 256 * (block (i / 32)).scale +
            65536 * (block (i / 32)).special)))) ∧
    (I.clear (.cvtx o) = true →
      let f := I.t.slots.getD o.imm.toNat 0
      ((slotElem f = 0 ∨ 9 < slotElem f) → exec (.cvtx o) s = .next (I.raises (.cvtx o) { cause := 0x19, addr := 0 })) ∧
      (1 ≤ slotElem f → slotElem f ≤ 9 → exec (.cvtx o) s = .next (I.wrote (.cvtx o) o.d.toNat (I.maskOn o.m) fun i =>
        BitVec.ofNat 32 (round 0 (slotRz f) false (expandLane f (I.xbar o.xa o.a i)))))) ∧
    (I.clear (.amaxb o) = true →
      let f := I.t.slots.getD o.imm.toNat 0
      ((slotElem f < 3 ∨ 9 < slotElem f ∨ slotScale f ≠ 1) → exec (.amaxb o) s = .next (I.raises (.amaxb o) { cause := 0x19, addr := 0 })) ∧
      (3 ≤ slotElem f → slotElem f ≤ 9 → slotScale f = 1 → ∃ xs : Nat → List Sys2Proof.Machine.Num,
        (∀ b, xs b = (List.range 32).map fun j =>
          if (I.maskOn o.m).getLsbD (32 * b + j) then Spec.fp32 (I.xbar o.xa o.a (32 * b + j)) else .fin false 0 0) ∧
        exec (.amaxb o) s = .next (I.wrotePair (.amaxb o) o.d.toNat (I.maskOn o.m) fun i =>
          (BitVec.ofNat 32 (quantise (slotElem f) (slotRz f) (slotSat f) (xs (i / 32))).scale : Word) ++
            Spec.single (amax (xs (i / 32)))))) ∧
    (I.clear (.pack o) = true → exec (.pack o) s = .next (I.wrote (.pack o) o.d.toNat (I.maskOn o.m) fun i =>
      let w := packWidth o.imm
      if i < 2 * w then Spec.word ((((List.range 64).map fun j =>
        (I.xbar o.xa o.a j).toNat % 2 ^ w * 2 ^ (w * j)).sum / 2 ^ (32 * i) % 2 ^ 32 : Nat)) else 0)) ∧
    (I.clear (.unpack o) = true → exec (.unpack o) s = .next (I.wrote (.unpack o) o.d.toNat (I.maskOn o.m) fun i =>
      let w := packWidth o.imm
      Spec.word ((((List.range (2 * w)).map fun j => (I.xbar o.xa o.a j).toNat * 2 ^ (32 * j)).sum / 2 ^ (w * i) % 2 ^ w : Nat))))


/-- Words that are no instruction: op 0 with another bit set, op 0x37, and a funct or function code that is not assigned
(R25, R26, R37); and issuing such a word traps, ILLEGAL_OPCODE or ILLEGAL_ENCODING, at its address (R22, R37, R38). The
model's choices: the order of turns (log 2), one cycle for each turn (log 11), and a debit made once, with the words kept
(log 52). -/
def Obligations.UnassignedWords : Prop :=
  (∀ w1 w2 : Word,
    (w1.toNat / 2 ^ 26 = 0 → w1 ≠ 0 → decodeWords w1 w2 = .error .encoding) ∧
    (w1.toNat / 2 ^ 26 = 0x37 → decodeWords w1 w2 = .error .opcode) ∧
    (∀ p ∈ Spec.assigned, w1.toNat / 2 ^ 26 = p.1 → Spec.functOf w1 w2 ∉ p.2 → decodeWords w1 w2 = .error .opcode)) ∧
  ∀ (s : State) (I : Issue) (w1 w2 : Word) (e : DecodeErr),
    s.agenda = [] → s.commands = [] → s.issue = some I →
    I.free = true → I.cl.words = none → I.s.fetchInstr I.c I.t.place I.cl.pc = .ok w1 w2 → decodeWords w1 w2 = .error e →
    e ≠ .short →
    ∃ g, (I.debit w1 w2).tick.group I.g.gid = some g ∧
      step s = .next ((I.debit w1 w2).tick.trapGroup g (lengthOf w1)
        { cause := if e = .opcode then 0x01 else 0x02, addr := 0 }).after

/-! ### Memory -/

/-- Loads (R125, R126, R139 to R142): every mask-on lane reads its bytes at EA, in global space what its place holds under the
key of its page (where the L1 holds what the homes hold), in a buffer the team's own bytes; the results count in LD and
land later, and nothing but caches changes in memory. Where accesses wait on their way (R157; log 6), the load waits as it
was issued, and its registers are outstanding in LD; performed, it gives them the bytes that its place holds then, and leaves
the list. -/
def Obligations.Loads : Prop :=
  (∀ (s : State) (I : Issue), s.issue = some I → ∀ p ∈ Spec.loads, ∀ o : MemOp, I.clear (p.1 o) = true →
    let ls := lanesOf (I.maskOn o.w.m)
    let n := p.2.1
    let ea := fun i => I.ea o.w o.imm i
    let due := ls.flatMap fun i => (List.range (Spec.registers n)).map fun k => 64 * (o.w.d.toNat + k) + i
    let deed : Deed := .load I.g.nextSeq o.w.d.toNat p.2.2
    let results := fun (bytes : Nat → List Byte) => ls.flatMap fun i => (List.range (Spec.registers n)).map fun k =>
      (64 * (o.w.d.toNat + k) + i, Spec.loaded n p.2.2 (bytes i) k)
    (∀ pl : Nat → Place, o.space = 0 → (∀ i ∈ ls, I.fine .read n (ea i) (pl i)) →
      (s.flights = none → s.freshL1 I.core → ∃ m, s.mem.sameButCaches m ∧
        exec (p.1 o) s = .next (I.postedFrom (p.1 o) (s.setMem m) .ld
          (results fun i => s.mem.readAt s.free (pl i).host (pl i).key (pl i).pa n))) ∧
      (s.flights.isSome = true → ∃ m, m = { s.mem with lines := m.lines } ∧
        exec (p.1 o) s = .next (I.awaited (p.1 o) (s.setMem m)
          (ls.map fun i => I.flight o (oneLane i) ⟨ea i, n, pl i⟩ deed) due))) ∧
    (o.space ≠ 0 → (∀ i ∈ ls, (ea i).toNat % n = 0 ∧ (ea i).toNat + n ≤ I.t.footprint o.space.toNat) →
      (s.flights = none → exec (p.1 o) s = .next (I.postedFrom (p.1 o) s .ld
        (results fun i => lookups 0 (I.t.buffer o.space.toNat) (ea i).toNat n))) ∧
      (s.flights.isSome = true → exec (p.1 o) s = .next (I.awaited (p.1 o) s
        (ls.map fun i => I.bufferFlight o (oneLane i) (ea i).toNat n deed) due)))) ∧
  (∀ (s : State) (k : Nat) (r : List Act) (l : List Flight) (x : Flight) (seq d i : Nat) (signed : Bool),
    s.agenda = .perform k :: r → s.flights = some l → l[k]? = some x →
    (∀ y ∈ l.take k, x.after y = false) → (∀ y ∈ l, y.core = x.core → y.shown = false) →
    x.deed = .load seq d signed → (x.cached = true → x.host = false) → i < 64 → x.lanes = oneLane i → x.n ∈ [1, 2, 4, 8, 16] → x.pa % 32 + x.n ≤ 32 →
    s.freshL1 x.core →
    let bytes := if x.space = 0 then s.mem.readAt s.free x.host x.key x.pa x.n
      else ((s.team x.team).map fun t => lookups 0 (t.buffer x.space) x.pa x.n).getD []
    (x.space ≠ 0 → (s.team x.team).isSome = true) →
    ∃ m, s.mem.sameButCaches m ∧ step s = .next (({ s with agenda := r, flights := some (l.erase x), mem := m }.onGroup x.gid
      fun g => g.gain seq ((List.range (Spec.registers x.n)).map fun j =>
        (64 * (d + j) + i, Spec.loaded x.n signed bytes j))).after))

/-- Stores (R125, R126, R140, R141, R143, R204, R208): every mask-on lane's bytes stand at its EA, a higher lane's byte
winning; a stored cell holds its value, and the other bytes of one that was DEF or ERR are zero; every other byte and tag of
memory, every byte of host memory that no lane stored to, and everything else but caches stays. A line last written under
another key loses its other bytes (log 16). Where accesses wait on their way (R157; log 6), a store to cells without a value
is performed as it issues, and any other waits as it was issued; performed, its bytes stand at their home. A release at domain
scope with remote writes outstanding stalls (R163; that it stalls is log 61's choice). The same in the A-buffer, whose other
bytes, and the W-buffer, stay. -/
def Obligations.Stores : Prop :=
  (∀ (s : State) (I : Issue), s.issue = some I → ∀ p ∈ Spec.stores, ∀ o : MemOp, I.clear (p.1 o) = true →
    (I.releaseWaits o.order.toNat o.scope.toNat = true → exec (p.1 o) s = .next I.stalls) ∧
    (I.releaseWaits o.order.toNat o.scope.toNat = false →
    let ls := lanesOf (I.maskOn o.w.m)
    let n := p.2
    let ea := fun i => I.ea o.w o.imm i
    let bytes := fun i => (List.range n).map (Spec.stored I o i)
    (∀ pl : Nat → Place, o.space = 0 → (∀ i ∈ ls, I.writable n (ea i) (pl i)) →
      (s.flights = none ∨ (s.quiet I.core = true ∧ ∃ i ∈ ls, ¬I.mayWait (pl i)) →
      let emptied : Nat → Bool := fun u => match ls.find? fun i => !(pl i).host && (pl i).pa / 64 == u with
        | some i => (pl i).cell && (s.mem.tag u == .def' || s.mem.tag u == .err)
        | none => false
      ∃ m, exec (p.1 o) s = .next (I.ended (p.1 o) (s.setMem m)) ∧
        (∀ x, m.byteAt x = match lastOver (ls.filter fun i => !(pl i).host) (fun i => (pl i).pa) n x with
          | some i => Spec.stored I o i (x - (pl i).pa)
          | none => if emptied (x / 64) then 0 else if s.mem.lost ls pl x then Config.underKey s.free x else s.mem.byteAt x) ∧
        (∀ x, lookup 0 m.host x = match lastOver (ls.filter fun i => (pl i).host) (fun i => (pl i).pa) n x with
          | some i => Spec.stored I o i (x - (pl i).pa)
          | none => lookup 0 s.mem.host x) ∧
        (∀ u, m.tag u = if ls.any fun i => !(pl i).host && (pl i).pa / 64 == u then .val else s.mem.tag u) ∧
        m = { s.mem with
          bytes := m.bytes, host := m.host, tags := m.tags, keyed := m.keyed, sectors := m.sectors, lines := m.lines }) ∧
      (s.flights.isSome = true → (∀ i ∈ ls, I.mayWait (pl i)) → ∃ m, m = { s.mem with lines := m.lines } ∧
        exec (p.1 o) s = .next (I.ended (p.1 o) { s with
          mem := m
          flights := some (s.flights.getD [] ++ ls.map fun i =>
            I.flight o (oneLane i) ⟨ea i, n, pl i⟩ (.store (bytes i) false)) }))) ∧
    (o.space = 1 → (∀ i ∈ ls, (ea i).toNat % n = 0 ∧ (ea i).toNat + n ≤ I.t.abytes) →
      (s.flights = none → ∃ t : Team, exec (p.1 o) s = .next (I.ended (p.1 o) (s.setTeam t)) ∧
        (∀ x, lookup 0 t.abuf x = match lastOver ls (fun i => (ea i).toNat) n x with
          | some i => Spec.stored I o i (x - (ea i).toNat)
          | none => lookup 0 I.t.abuf x) ∧
        t = { I.t with abuf := t.abuf }) ∧
      (s.flights.isSome = true → exec (p.1 o) s = .next (I.ended (p.1 o) { s with
        flights := some (s.flights.getD [] ++ ls.map fun i =>
          I.bufferFlight o (oneLane i) (ea i).toNat n (.store (bytes i) false)) }))))) ∧
  (∀ (s : State) (k : Nat) (r : List Act) (l : List Flight) (x : Flight) (bs : List Byte) (drop : Bool),
    s.agenda = .perform k :: r → s.flights = some l → l[k]? = some x → (∀ y ∈ l.take k, x.after y = false) →
    x.deed = .store bs drop → x.space = 0 → x.host = false → x.cell = false → 0 < bs.length → bs.length ≤ 16 →
    x.pa % 64 + bs.length ≤ 64 →
    ∃ m, step s = .next ({ s with agenda := r, flights := some (l.erase x), mem := m }.after) ∧
      (∀ y, m.byteAt y = if x.pa ≤ y ∧ y < x.pa + bs.length then bs.getD (y - x.pa) 0
        else if y / 128 = x.pa / 128 ∧ s.mem.keyOf (y / 128) ≠ x.key then Config.underKey s.free y else s.mem.byteAt y) ∧
      (∀ u, m.tag u = if u = x.pa / 64 then .val else s.mem.tag u) ∧
      m = { s.mem with bytes := m.bytes, tags := m.tags, keyed := m.keyed, sectors := m.sectors, lines := m.lines })

/-- Where a load, store, atomic or RED traps or parks (R126, R130, R138, R140, R141, R208, R209, R211, R214): the lane
that fails or waits, all others being in order, with the first failing byte: a misaligned address, a page that does not
translate or does not permit the access, a table word that cannot be read (log 59), a page under invalidation (a wait), a
poisoned unit (logged, its first byte, and not looked at as a cell, log 21) or one whose stack is not ready, a buffer's end;
a store to a cell under evaluation (CELL_BUSY); and a touch of a cell that failed, of one whose evaluation stands in the
toucher's lineage, of an orphan, of one whose evaluation would be the fifth nested one, of one under evaluation (a wait), and
of a deferred one, which starts its evaluation where an id is free and waits. TRAPADDR is the failing address (log 49).
Walking the tables for the lanes' addresses uses L2 lines, and nothing else of what the instruction does happens. -/
def Obligations.AccessTraps : Prop :=
  ∀ (s : State) (I : Issue) (i : Instr) (o : MemOp) (n : Nat) (u : Use) (k : Nat) (pl : Nat → Place), s.issue = some I →
    ((∃ p ∈ Spec.loads, i = p.1 o ∧ n = p.2.1 ∧ u = .read) ∨ (∃ p ∈ Spec.stores, i = p.1 o ∧ n = p.2 ∧ u = .write) ∨
      (∃ p ∈ Spec.atomics, i = p.1 o ∧ n = 4 ∧ u = .update ∧ o.space = 0) ∨
      (∃ p ∈ Spec.reductions, i = p.1 o ∧ n = 4 ∧ u = .update ∧ o.space = 0)) →
    I.clear i = true → I.releaseWaits o.order.toNat o.scope.toNat = false → k ∈ lanesOf (I.maskOn o.w.m) →
    let a := I.ea o.w o.imm k
    let W := I.walked ((lanesOf (I.maskOn o.w.m)).map fun j => I.ea o.w o.imm j)
    let trapFrom := fun (t : State) (cause fwd : Byte) (at' : Addr) =>
      exec i s = .next ({ I with s := t }.raises i { cause := cause, addr := at', lane := BitVec.ofNat 8 k, fwd := fwd })
    let waits := fun (t : State) (v : Nat) => exec i s = .next (
      if t.tableFull [v] then { I with s := t }.parksOn (.tableFull (t.cycle + 4096) [v])
      else { I with s := t.enterWaits (.group I.g.gid) [v] }.parksOn (.cell [v]))
    (o.space = 0 → W = { s with mem := { s.mem with lines := W.mem.lines } }) ∧
    (o.space = 0 → (∀ j ∈ lanesOf (I.maskOn o.w.m), j ≠ k → I.fine u n (I.ea o.w o.imm j) (pl j)) →
      (a.toNat % n ≠ 0 → trapFrom W 0x05 0 a) ∧
      (∀ cause, cause = 0x06 ∨ cause = 0x07 → a.toNat % n = 0 → I.xlat u a = .bad cause → trapFrom W cause 0 a) ∧
      (a.toNat % n = 0 → I.xlat u a = .bad 0x15 → trapFrom (W.tableError I.c a) 0x15 0 a) ∧
      (a.toNat % n = 0 → I.xlat u a = .wait → exec i s = .next ({ I with s := W }.parksOn .retry)) ∧
      (∀ p : Place, a.toNat % n = 0 → I.xlat u a = .ok p → p.host = false →
        let v := p.pa / 64
        (s.mem.poisoned v = true → trapFrom (W.memoryError (some I.c.num) v) 0x15 0 (a &&& ~~~63)) ∧
        (s.mem.poisoned v = false → s.stackReady p.pa = false → trapFrom W 0x15 0 a) ∧
        (s.unitBad v = false → s.stackReady p.pa = true → p.cell = true →
          (u = .write → s.busy none v = true → trapFrom W 0x0C 0 a) ∧
          (u ≠ .write →
            (∀ c, s.view v = .err c → trapFrom W 0x0B c a) ∧
            (s.view v = .orphan → trapFrom (W.setMem (W.mem.failCell 3 0 v)) 0x0B 3 a) ∧
            (∀ id, s.view v = .evl id →
              (inLineage id I.g.lineage = true → trapFrom W 0x09 0 a) ∧ (inLineage id I.g.lineage = false → waits W v)) ∧
            (∀ h, s.view v = .deferred h →
              (I.g.lineage.extractLsb' 48 16 ≠ 0 → trapFrom
                (W.setMem ((h :: s.mem.followers h).foldl (fun m w => m.failCell 0x0A 0 w) W.mem)) 0x0A 0x0A a) ∧
              (I.g.lineage.extractLsb' 48 16 = 0 →
                (s.freeIds (Config.dieOf (64 * h)) = [] → waits W v) ∧
                (s.freeIds (Config.dieOf (64 * h)) ≠ [] → ∃ id ∈ s.freeIds (Config.dieOf (64 * h)),
                  waits (W.startEval I.toucher h id ((a &&& ~~~63) - BitVec.ofNat 64 (64 * (v - h)))) v))))))) ∧
    (o.space ≠ 0 →
      let F := I.t.footprint o.space.toNat
      (∀ j ∈ lanesOf (I.maskOn o.w.m), j ≠ k →
        (I.ea o.w o.imm j).toNat % n = 0 ∧ (I.ea o.w o.imm j).toNat + n ≤ F) →
      (a.toNat % n ≠ 0 → trapFrom s 0x05 0 a) ∧
      (a.toNat % n = 0 → F < a.toNat + n → trapFrom s 0x08 0 (if a.toNat < F then BitVec.ofNat 64 F else a)))

/-- Atomics and RED (R144 to R147, R149): each word becomes what its mask-on lanes' operands make of it in ascending lane
order, or combined as R146 says; an atomic's lane is given the value that stood before it, as an outstanding result of
LD; RED returns nothing. No other byte changes (but those that a line last written under another key loses, log 16), the units
hold values, and everything else but caches stays. Where accesses wait on their way (R157; log 6), the atomic waits as it was
issued, one access for each word; performed, it does the same to the word that stands there then. -/
def Obligations.Atomics : Prop :=
  (∀ (s : State) (I : Issue) (o : MemOp) (pl : Nat → Place), s.issue = some I →
    I.releaseWaits o.order.toNat o.scope.toNat = false →
    let ls := lanesOf (I.maskOn o.w.m)
    let ea := fun i => I.ea o.w o.imm i
    let pa := fun i => (pl i).pa
    (∀ i ∈ ls, I.fine .update 4 (ea i) (pl i)) →
    let holds := fun (upd : Word → List (Word × Word) → Word) (m : Memory) =>
      (∀ x, m.byteAt x = Spec.updated I o upd ls pl x) ∧
      (∀ u, m.tag u = if ls.any fun i => pa i / 64 == u then .val else s.mem.tag u) ∧
      m = { s.mem with bytes := m.bytes, tags := m.tags, keyed := m.keyed, sectors := m.sectors, lines := m.lines }
    let sent := fun (op : AtomOp) (res : Option (Nat × Nat)) (xs : List Flight) =>
      xs.map Flight.pa = (ls.map pa).eraseDups ∧ ∀ x ∈ xs, ∃ i ∈ ls, pa i = x.pa ∧ (∀ j ∈ ls, pa j = x.pa → i ≤ j) ∧
        x = I.flight o (laneSet fun j => ls.contains j && pa j == x.pa) ⟨ea i, 4, pl i⟩
          (.atom op ((ls.filter fun j => pa j == x.pa).map fun j => (j, Spec.operands I o j)) res)
    (s.flights = none → (∀ i ∈ ls, ∀ j ∈ ls, pa i / 128 = pa j / 128 → (pl i).key = (pl j).key) →
      (∀ p ∈ Spec.atomics, I.clear (p.1 o) = true → ∃ m ws,
        exec (p.1 o) s = .next (I.postedFrom (p.1 o) (s.setMem m) .ld ws) ∧
        ws.Perm (ls.map fun i =>
          (64 * o.w.d.toNat + i, p.2.2 (s.mem.word s.free (pl i).key (pa i)) (Spec.earlier I o ls pa (pa i) i))) ∧
        holds p.2.2 m) ∧
      (∀ p ∈ Spec.reductions, I.clear (p.1 o) = true → ∃ m,
        exec (p.1 o) s = .next (I.ended (p.1 o) (s.setMem m)) ∧ holds p.2.2 m)) ∧
    (s.flights.isSome = true →
      (∀ p ∈ Spec.atomics, I.clear (p.1 o) = true → ∃ m xs, m = { s.mem with lines := m.lines } ∧
        sent p.2.1 (some (I.g.nextSeq, o.w.d.toNat)) xs ∧
        exec (p.1 o) s = .next (I.awaited (p.1 o) (s.setMem m) xs (ls.map fun i => 64 * o.w.d.toNat + i))) ∧
      (∀ p ∈ Spec.reductions, I.clear (p.1 o) = true → ∃ m xs, m = { s.mem with lines := m.lines } ∧ sent p.2.1 none xs ∧
        exec (p.1 o) s = .next (I.ended (p.1 o) { s with mem := m, flights := some (s.flights.getD [] ++ xs) })))) ∧
  (∀ (s : State) (k : Nat) (r : List Act) (l : List Flight) (x : Flight) (args : List (Nat × Word × Word))
      (res : Option (Nat × Nat)), ∀ p ∈ Spec.atomics,
    s.agenda = .perform k :: r → s.flights = some l → l[k]? = some x → (∀ y ∈ l.take k, x.after y = false) →
    (∀ y ∈ l, y.core = x.core → y.shown = false) → x.deed = .atom p.2.1 args res → x.host = false → x.cell = false →
    x.pa % 4 = 0 →
    let old := s.mem.word s.free x.key x.pa
    let xs := args.map Prod.snd
    let give := fun (t : State) => match res with
      | some (seq, d) => t.onGroup x.gid fun g => g.gain seq ((List.range args.length).map fun j =>
          (64 * d + (args.getD j (0, 0, 0)).1, p.2.2 old (xs.take j)))
      | none => t
    ∃ m, step s = .next (give { s with agenda := r, flights := some (l.erase x), mem := m }).after ∧
      (∀ y, m.byteAt y = if x.pa ≤ y ∧ y < x.pa + 4 then BitVec.ofNat 8 ((p.2.2 old xs).toNat / 2 ^ (8 * (y - x.pa)))
        else if y / 128 = x.pa / 128 ∧ s.mem.keyOf (y / 128) ≠ x.key then Config.underKey s.free y else s.mem.byteAt y) ∧
      m = { s.mem with bytes := m.bytes, tags := m.tags, keyed := m.keyed, sectors := m.sectors, lines := m.lines })

/-- STC advances the pointer word at EA of the lowest mask-on lane and writes the contributing lanes' words in a run from
its old value; every active lane is given the base and the count (R150). With a claim held, the run is written at the kept
base and nothing is advanced (R151). The pointer's advance is performed as the STC issues; where accesses wait on their way,
the words of the run join them (log 6). LDE gives the contributing lanes consecutive words (R152), or waits as a load does.
Nothing but bytes, tags, keys and caches changes in memory. -/
def Obligations.RunInstructions : Prop :=
  ∀ (s : State) (I : Issue) (o : MemOp) (u : Nat) (pl : Nat → Place), s.issue = some I →
    I.releaseWaits o.order.toNat o.scope.toNat = false → s.quiet I.core = true → (lanesOf (I.maskOn o.w.m)).head? = some u →
    let ls := lanesOf (I.maskOn o.w.m)
    let results := fun (base : Addr) => (lanesOf I.active).flatMap fun i =>
      [(64 * o.w.d.toNat + i, base.extractLsb' 0 32), (64 * (o.w.d.toNat + 1) + i, base.extractLsb' 32 32),
       (64 * (o.w.d.toNat + 2) + i, Spec.word ls.length)]
    let run := fun (m m' : Memory) => (∀ x, m'.byteAt x = match lastOver ls (fun i => (pl i).pa) 4 x with
        | some i => Spec.stored I o i (x - (pl i).pa)
        | none => if m.lost ls pl x then Config.underKey s.free x else m.byteAt x) ∧
      (∀ v, m'.tag v = if ls.any fun i => (pl i).pa / 64 == v then .val else m.tag v) ∧
      m' = { m with bytes := m'.bytes, tags := m'.tags, keyed := m'.keyed, sectors := m'.sectors, lines := m'.lines }
    let word := fun (base : Addr) (i : Nat) => base + BitVec.ofNat 64 (4 * Spec.rank ls i)
    let writes := fun (base : Addr) (t : State) =>
      (s.flights = none → ∃ m, run t.mem m ∧ exec (.stc o) s = .next (I.postedFrom (.stc o) (t.setMem m) .ld (results base))) ∧
      (∀ l, s.flights = some l → ∃ m, m = { t.mem with lines := m.lines } ∧
        exec (.stc o) s = .next (I.postedFrom (.stc o) { t with
          mem := m
          flights := some (l ++ ls.map fun i => I.flight o (oneLane i) ⟨word base i, 4, pl i⟩
            (.store ((List.range 4).map (Spec.stored I o i)) true)) } .ld (results base)))
    (∀ p : Place, I.clear (.stc o) = true → (I.g.claim = none ∨ I.g.handling = true) → I.fine .update 8 (I.ea o.w o.imm u) p →
      let base := BitVec.ofNat 64 (ofLe (s.mem.see s.free p.key p.pa 8))
      let t := (I.walked [I.ea o.w o.imm u]).writeHome I.core o.reuse.toNat true
        [(⟨I.ea o.w o.imm u, 8, p⟩, leBytes 8 (base.toNat + 4 * ls.length))]
      (∀ i ∈ ls, { I with s := t }.fine .update 4 (word base i) (pl i)) →
      (∀ x, t.mem.byteAt x = if p.pa ≤ x ∧ x < p.pa + 8 then BitVec.ofNat 8 ((base.toNat + 4 * ls.length) / 2 ^ (8 * (x - p.pa)))
        else if s.mem.lost [u] (fun _ => p) x then Config.underKey s.free x else s.mem.byteAt x) ∧
      t = { s with mem := { s.mem with
        bytes := t.mem.bytes, tags := t.mem.tags, keyed := t.mem.keyed, sectors := t.mem.sectors, lines := t.mem.lines } } ∧
      writes base t) ∧
    (∀ (base : Addr) (n : Nat), I.clear (.stc o) = true → I.g.claim = some (base, n) → I.g.handling = false →
      (∀ i ∈ ls, I.fine .update 4 (word base i) (pl i)) → writes base (s.setGroup { I.g with claim := none })) ∧
    (I.clear (.lde o) = true →
      let at' := fun i => I.ea o.w o.imm u + BitVec.ofNat 64 (4 * Spec.rank ls i)
      let due := ls.map fun i => 64 * o.w.d.toNat + i
      let deed : Deed := .load I.g.nextSeq o.w.d.toNat false
      (o.space = 0 → (∀ i ∈ ls, I.fine .read 4 (at' i) (pl i)) →
        (s.flights = none → s.freshL1 I.core →
          ∃ m, s.mem.sameButCaches m ∧ exec (.lde o) s = .next (I.postedFrom (.lde o) (s.setMem m) .ld
            (ls.map fun i => (64 * o.w.d.toNat + i,
              BitVec.ofNat 32 (ofLe (s.mem.readAt s.free (pl i).host (pl i).key (pl i).pa 4)))))) ∧
        (s.flights.isSome = true → ∃ m, m = { s.mem with lines := m.lines } ∧
          exec (.lde o) s = .next (I.awaited (.lde o) (s.setMem m)
            (ls.map fun i => I.flight o (oneLane i) ⟨at' i, 4, pl i⟩ deed) due))) ∧
      (o.space ≠ 0 → (∀ i ∈ ls, (at' i).toNat % 4 = 0 ∧ (at' i).toNat + 4 ≤ I.t.footprint o.space.toNat) →
        (s.flights = none → exec (.lde o) s = .next (I.postedFrom (.lde o) s .ld
          (ls.map fun i => (64 * o.w.d.toNat + i, BitVec.ofNat 32 (ofLe (lookups 0 (I.t.buffer o.space.toNat) (at' i).toNat 4)))))) ∧
        (s.flights.isSome = true → exec (.lde o) s = .next (I.awaited (.lde o) s
          (ls.map fun i => I.bufferFlight o (oneLane i) (at' i).toNat 4 deed) due))))

/-- PREF and maintenance change nothing but caches (R133, R153, R154): PREF brings lines in, and with level 0 none to the
L1; a prefetch's fill may be dropped and counted (R137). The length of maintenance is Read(b, u), read without a selector
(log 20). The accesses of its lanes that are on their way are performed first, and for CCLEAN and CFLUSH at L1 every write of
the group to the range (R173; log 6). CINV and CFLUSH at L1 leave the core's L1 exactly the sectors outside the range, and at
L2 they leave exactly the lines outside; CCLEAN at L2 leaves every line of the range clean. An instruction that meets a page
under invalidation parks. FENCE flashes the L1 when it acquires at cluster scope or wider, and where accesses wait on their
way it joins them in that place, as one fence, or below cluster scope with both orders as a release fence and an acquire
fence; at domain scope it stalls while a remote write is outstanding (R135, R155, R163, R164; log 61). -/
def Obligations.CacheInstructions : Prop :=
  ∀ (s : State) (I : Issue) (o : MemOp), s.issue = some I →
    let first := (I.ea o.w o.imm I.lane0).toNat
    let len := (I.g.read o.w.b.toNat I.lane0).toNat
    let runs := I.runsOf first len
    let still := ∀ r ∈ pieces64 first len, ∀ b, s.pageLife I.c.num r.1 ≠ some (.invalidating b)
    let W := I.walked ((pieces64 first len).map fun r => BitVec.ofNat 64 r.1)
    let own := fun (y : Flight) => y.gid == I.g.gid && y.lanes &&& I.active != 0
    let written := fun (y : Flight) => y.gid == I.g.gid && y.writes && runs.any fun r => y.meets r.1 r.2
    let drained := fun (clean : Bool) => W.drain fun y => own y || (clean && written y)
    let settled := fun (clean : Bool) =>
      (∀ x ∈ (drained clean).flights.getD [], own x = false ∧ (clean = true → written x = false)) ∧
      ((∀ x ∈ s.flights.getD [], own x = false ∧ written x = false) → drained clean = W) ∧
      W = { s with mem := { s.mem with lines := W.mem.lines } }
    (I.clear (.pref o) = true →
      ((∃ i ∈ lanesOf I.active, I.xlat .read (I.ea o.w o.imm i) = .wait) → exec (.pref o) s = .next (I.parksOn .retry)) ∧
      ((∀ i ∈ lanesOf I.active, I.xlat .read (I.ea o.w o.imm i) ≠ .wait) →
        ∃ m, s.mem.sameButFills m ∧ (o.w.d = 0 → m.sectors = s.mem.sectors) ∧
          exec (.pref o) s = .next (I.ended (.pref o) (s.setMem m)))) ∧
    (∀ i ∈ [Instr.cclean o, Instr.cinv o, Instr.cflush o], I.clear i = true → ¬still → exec i s = .next (I.parksOn .retry)) ∧
    (I.clear (.cclean o) = true → still →
      (o.w.d = 0 → settled true ∧ exec (.cclean o) s = .next (I.ended (.cclean o) (drained true))) ∧
      (o.w.d ≠ 0 → settled false ∧ ∃ m, exec (.cclean o) s = .next (I.ended (.cclean o) ((drained false).setMem m)) ∧
        m = { (drained false).mem with lines := m.lines } ∧ m.lines.map Line.idx = (drained false).mem.lines.map Line.idx ∧
        ∀ l ∈ m.lines, lineIn runs l.idx = true → l.dirty = false)) ∧
    (∀ i ∈ [Instr.cinv o, Instr.cflush o], I.clear i = true → still →
      let clean := decide (i = .cflush o ∧ o.w.d = 0)
      let t := drained clean
      settled clean ∧ ∃ m, exec i s = .next (I.ended i (t.setMem m)) ∧ t.mem.sameButCaches m ∧
      (∀ x, x ∈ m.sectors ↔ x ∈ t.mem.sectors ∧ ¬(o.w.d = 0 ∧ x.core = I.core ∧ sectorIn runs x.idx = true)) ∧
      (∀ l, l ∈ m.lines ↔ l ∈ t.mem.lines ∧ ¬(o.w.d ≠ 0 ∧ lineIn runs l.idx = true))) ∧
    (I.clear (.fence o) = true → wf (.fence o) = true →
      (I.releaseWaits o.order.toNat o.scope.toNat = true → exec (.fence o) s = .next I.stalls) ∧
      (I.releaseWaits o.order.toNat o.scope.toNat = false →
        let fence := fun (order : Nat) => ({
          core := I.core, gid := I.g.gid, team := I.t.tid, lanes := I.active, at' := s.free, order := order
          scope := o.scope.toNat, deed := .fence } : Flight)
        (s.flights = none → exec (.fence o) s = .next (I.ended (.fence o)
          (if o.order.getLsbD 0 = true ∧ 3 ≤ o.scope.toNat
           then s.setMem { s.mem with sectors := s.mem.sectors.filter fun x => x.core != I.core } else s))) ∧
        (∀ l, s.flights = some l → exec (.fence o) s = .next (I.ended (.fence o) { s with flights := some (l ++
          if o.order = 3 ∧ o.scope.toNat < 3 then [fence 2, fence 1] else [fence o.order.toNat]) }))))

/-- The cell instructions (R206, R207, R218 to R222). DEFER writes a deferral record and its followers over a whole extent
and makes every cell of it DEF, in one step (log 105); RESOLVE writes the cells that its lanes name, whole, and makes them
VAL; CELLFAIL makes its lanes' cells ERR with their causes; RESOLVE and CELLFAIL of a cell that another evaluation fills trap
CELL_BUSY (R209); CELLQ reads each lane's cell word. No other unit changes (but the other half of a line last written under
another key, log 16), and nothing else but caches. (No access of the core, nor one that meets the cells, is on its way: those
come before, log 6.) -/
def Obligations.CellInstructions : Prop :=
  ∀ (s : State) (I : Issue) (o : MemOp) (pl : Nat → Place), s.issue = some I → s.quiet I.core = true →
    let ls := lanesOf (I.maskOn o.w.m)
    let unit := fun i => (pl i).pa / 64
    let own := (I.g.lineage.extractLsb' 0 16).toNat
    let b := fun i => I.g.xbar o.w.xb o.w.b.toNat i
    let settled := fun (us : List Nat) => ∀ x ∈ s.flights.getD [], ∀ u ∈ us, x.meets (64 * u) 64 = false
    let others := fun (m : Memory) (ks : List Nat) => (∀ u, u ∉ ks.map unit →
      m.tag u = s.mem.tag u ∧ ∀ k, k < 64 → m.byteAt (64 * u + k) =
        if s.mem.lost ks pl (64 * u + k) then Config.underKey s.free (64 * u + k) else s.mem.byteAt (64 * u + k)) ∧
      m = { s.mem with bytes := m.bytes, tags := m.tags, keyed := m.keyed, sectors := m.sectors, lines := m.lines }
    (I.clear (.defer o) = true →
      let h := I.ea o.w o.imm I.lane0
      let rcd := fun k => BitVec.ofNat 8 ((b (k / 4)).toNat / 2 ^ (8 * (k % 4)))
      let cells := List.range ((rcd 16).toNat + 256 * (rcd 17).toNat + 1)
      h.toNat % 64 = 0 → (cells.map unit).Nodup → settled (cells.map unit) →
      (∀ c ∈ cells, I.xlat .update (h + BitVec.ofNat 64 (64 * c)) = .ok (pl c) ∧ (pl c).cell = true ∧
        I.s.unitBad (unit c) = false ∧ I.s.busy none (unit c) = false) →
      ∃ m, exec (.defer o) s = .next (I.ended (.defer o) (s.setMem m)) ∧
        (∀ c ∈ cells, m.tag (unit c) = .def' ∧ ∀ k, k < 64 → m.byteAt (64 * unit c + k) =
          if c = 0 then (if k = 22 ∨ k = 23 then 0 else rcd k)
          else if k < 4 then BitVec.ofNat 8 (c / 2 ^ (8 * k)) else if k = 63 then 2 else 0) ∧
        others m cells) ∧
    ((∀ i ∈ ls, I.xlat .update (I.ea o.w o.imm i) = .ok (pl i) ∧ (pl i).cell = true ∧ I.s.unitBad (unit i) = false ∧
        I.s.busy (some own) (unit i) = false) → settled (ls.map unit) →
      (I.clear (.resolve o) = true →
        (∀ i ∈ ls, (I.ea o.w o.imm i).toNat % 4 = 0 ∧ (pl i).pa % 64 = (I.ea o.w o.imm i).toNat % 64) → ∃ m, exec (.resolve o) s = .next (I.ended (.resolve o) (s.setMem m)) ∧
        (∀ u ∈ ls.map unit, m.tag u = .val ∧ ∀ k, k < 64 → m.byteAt (64 * u + k) =
          match lastOver ls (fun i => (pl i).pa) 4 (64 * u + k) with
          | some i => Spec.stored I o i (64 * u + k - (pl i).pa)
          | none => 0) ∧
        others m ls) ∧
      (I.clear (.cellfail o) = true → ∃ m, exec (.cellfail o) s = .next (I.ended (.cellfail o) (s.setMem m)) ∧
        (∀ i ∈ ls, (∀ j ∈ ls, unit j = unit i → j ≤ i) → m.tag (unit i) = .err ∧ ∀ k, k < 64 →
          m.byteAt (64 * unit i + k) =
            if k = 0 then BitVec.ofNat 8 (0x40 + (b i).toNat % 64)
            else if k = 2 ∨ k = 3 then BitVec.ofNat 8 (own / 2 ^ (8 * (k - 2))) else 0) ∧
        others m ls)) ∧
    (I.clear (.cellq o) = true → (∀ i ∈ ls, I.xlat .query (I.ea o.w o.imm i) = .ok (pl i) ∧
        ((pl i).host = false → I.s.unitBad (unit i) = false)) →
      ∃ m, s.mem.sameButCaches m ∧ exec (.cellq o) s = .next (I.postedFrom (.cellq o) (s.setMem m) .ld
        (ls.map fun i => (64 * o.w.d.toNat + i, Spec.cellWord s (pl i))))) ∧
    (∀ i ∈ [Instr.resolve o, Instr.cellfail o], I.clear i = true → ∀ k ∈ ls,
      (∀ j ∈ ls, (i = .resolve o → (I.ea o.w o.imm j).toNat % 4 = 0) ∧ I.xlat .update (I.ea o.w o.imm j) = .ok (pl j) ∧
        (pl j).cell = true ∧ I.s.unitBad (unit j) = false ∧ (I.s.busy (some own) (unit j) = true ↔ j = k)) →
      ∃ m, m = { s.mem with lines := m.lines } ∧
        exec i s = .next ({ I with s := s.setMem m }.raises i { cause := 0x0C, addr := I.ea o.w o.imm k, lane := BitVec.ofNat 8 k }))

/-! ### The matrix instructions -/

/-- MODE.M, MODE.V, MRESV, MBATON and MSTAT (R174, R181, R184, R185, R193 to R196, R202): MODE takes the base and column
code; leaving mode M gives up ownership, reservation and an unused latch; MRESV leaves the group owning or reserving the
array; MBATON hands a free-standing array to the group it names, and by a non-owner, or one that has passed it on, does nothing; MSTAT's word is an
outstanding result of MMA. In the wrong mode they trap MATRIX_STATE. (That a free array is granted at once is log 64; from when
on a deferred fault is pending, log 68; what MSTAT shows of the vector path and after a data error, log 93; that the
recipient of a baton is judged at the hand-over, log 109.) -/
def Obligations.MatrixModes : Prop :=
  ∀ (s : State) (I : Issue) (o : MatOp), s.issue = some I →
    let a := s.array I.t.place
    let cols := 16 * (o.n.toNat + 1)
    let mine : Holder := .group I.g.gid
    (I.clearMat (.modeM o) = true → o.w.d.toNat + cols ≤ I.g.nregs →
      (I.g.inM = true → exec (.modeM o) s = .next (I.raises (.modeM o) { cause := 0x11, addr := 0 })) ∧
      (I.g.inM = false → (∀ p ∈ I.g.ports, p.reg < o.w.d.toNat ∨ o.w.d.toNat + cols ≤ p.reg) →
        exec (.modeM o) s = .next (I.ended (.modeM o)
          (s.setGroup { I.g with mode := BitVec.ofNat 32 (1 + 256 * o.w.d.toNat + 65536 * o.n.toNat) })))) ∧
    (I.clearMat (.modeV o) = true →
      (I.g.inM = false → exec (.modeV o) s = .next (I.ended (.modeV o) s)) ∧
      (I.g.inM = true → (∀ p ∈ I.g.ops, p.cls ≠ .mma) → (∀ d ∈ I.g.deferred, d.cls ≠ .mma) →
        ∃ t, exec (.modeV o) s = .next (I.ended (.modeV o) t) ∧ t.group I.g.gid = some { I.g with mode := 0 } ∧
          ((t.array I.t.place).owner.map Resv.who ≠ some mine) ∧ (∀ r ∈ (t.array I.t.place).resvs, r.who ≠ mine) ∧
          (∀ l, (t.array I.t.place).latch = some l → a.latch = some l ∧ ∃ g ∈ t.groups, g.team = l.team ∧ g.inM = true) ∧
          t = { s with groups := t.groups, arrays := t.arrays })) ∧
    (I.g.inM = false → ∀ i ∈ [Instr.mresv o, Instr.mbaton o], I.clearMat i = true →
      exec i s = .next (I.raises i { cause := 0x11, addr := 0 })) ∧
    (I.clearMat (.mresv o) = true → I.g.inM = true →
      ((I.c.fifo = true ∨ (∃ r, a.owner = some r ∧ r.who = mine ∧ r.leaving = false) ∨ ∃ r ∈ a.resvs, r.who = mine) →
        exec (.mresv o) s = .next (I.ended (.mresv o) s)) ∧
      (I.c.fifo = false → a.resvs.length < 16 → ∃ t, exec (.mresv o) s = .next (I.ended (.mresv o) t) ∧
        ((t.array I.t.place).owner.map Resv.who = some mine ∨ ∃ r ∈ (t.array I.t.place).resvs, r.who = mine) ∧
        t = { s with arrays := t.arrays })) ∧
    (I.clearMat (.mbaton o) = true → I.g.inM = true →
      ((I.c.fifo = true ∨ (∀ r, a.owner = some r → r.who = mine → r.leaving = true) ∨ ∃ b ∈ a.batons, b.1 = I.g.gid) →
        exec (.mbaton o) s = .next (I.ended (.mbaton o) s)) ∧
      (∀ (h : Group) (r : Resv), I.c.fifo = false → a.owner = some r → r.who = mine → r.leaving = false →
        (∀ b ∈ a.batons, b.1 ≠ I.g.gid) → a.posted = [] → a.resvs = [] → s.isSpilled h.gid = false →
        o.w.a ≠ 0 → (I.g.read o.w.a.toNat I.lane0).toNat ≠ I.g.index →
        (s.groups.find? fun g => g.team == I.t.tid && g.index == (I.g.read o.w.a.toNat I.lane0).toNat && g.inM) = some h →
        s.group h.gid = some h →
        ∃ t, exec (.mbaton o) s = .next (I.ended (.mbaton o) t) ∧
          (t.array I.t.place).owner = some { who := .group h.gid, cls := h.sched.toNat, since := s.cycle, raised := s.cycle } ∧
          t = { s with arrays := t.arrays })) ∧
    (I.clearMat (.mstat o) = true → exec (.mstat o) s = .next (I.postedFrom (.mstat o) s .mma
      ((lanesOf I.active).map fun i => (64 * o.w.d.toNat + i, Spec.mstat I a))))

/-- MMA and GMMA once their checks have passed, for a group that may post (R183, R184, R191, R192, R197, R198): one posted
operation of class mma, with its quire arrival; an MMA is one pass, a GMMA one for each segment, on the vector path where
it has fewer rows than MTHRESH. Nothing is computed yet; translating its B ranges uses L2 lines. (It is a release of its
lanes, and comes after what they have on its way, log 6; a GMMA's array segments are posted one at a time, log 63.) A wrong
mode, N or latch traps MATRIX_STATE, a wrong slot FORMAT_SLOT. The trap conditions are those of `Issue.modeBad`,
`Issue.latchBad`, `Issue.slotsBad`, `Issue.operandTrap` and `Issue.segments` (R181, R188, R192, R198). -/
def Obligations.MatrixPosts : Prop :=
  ∀ (s : State) (I : Issue) (o : MatOp), s.issue = some I →
    let a := s.array I.t.place
    let arrival : Option (Nat × Bool) :=
      if o.w.d.getLsbD 6 then some ((o.w.d.extractLsb' 0 5).toNat, o.w.d.getLsbD 5) else none
    let reached := fun (i : Instr) => I.clearMat i = true ∧ (o.w.d.getLsbD 6 = true → (o.w.d.extractLsb' 0 5).toNat < I.t.quires.length)
    let mayPost := a.posted.length < 16 ∧ (I.c.fifo = true ∨ a.owns I.g.gid = true) ∧ s.quiet I.core = true
    let pass := fun (seg : Nat) (vec : Bool) (base : Addr) (rows : LaneSet) =>
      ({ gid := I.g.gid, seq := I.g.nextSeq, seg := seg, vec := vec, slotA := I.t.slots.getD o.slotA.toNat 0
         slotB := I.t.slots.getD o.slotB.toNat 0, latch := o.srcA == 1, oa := (I.g.read o.w.a.toNat I.lane0).toNat
         l2 := o.srcB == 1, ob := base, n := 16 * (o.n.toNat + 1), k := 32 * o.k.toNat, rows := rows, acc := o.acc
         at' := s.cycle } : Pass)
    let post := fun (i : Instr) (posted segs : List Pass) => ∃ t, exec i s = .next (I.ended i t) ∧
      (t.array I.t.place).posted = a.posted ++ posted ∧ (t.array I.t.place).segs = a.segs ++ segs ∧
      t.group I.g.gid = some (I.g.addOp { seq := 0, cls := .mma, arrival := arrival }) ∧
      t = { s with groups := t.groups, arrays := t.arrays, mem := { s.mem with lines := t.mem.lines } } ∧
      (o.srcB ≠ 1 → t.mem = s.mem)
    (reached (.mma o) →
      (I.modeBad o = true ∨ I.latchBad o = true → exec (.mma o) s = .next (I.raises (.mma o) { cause := 0x11, addr := 0 })) ∧
      (I.modeBad o = false → I.latchBad o = false → I.slotsBad o = true →
        exec (.mma o) s = .next (I.raises (.mma o) { cause := 0x19, addr := 0 })) ∧
      (I.modeBad o = false → I.latchBad o = false → I.slotsBad o = false → I.operandTrap o (I.bBase o) = .ok → mayPost →
        post (.mma o) [pass 0 false (I.bBase o) (I.maskOn o.w.m)] [])) ∧
    (reached (.gmma o) →
      (I.modeBad o = true ∨ I.latchBad o = true → exec (.gmma o) s = .next (I.raises (.gmma o) { cause := 0x11, addr := 0 })) ∧
      (I.modeBad o = false → I.latchBad o = false → I.slotsBad o = true →
        exec (.gmma o) s = .next (I.raises (.gmma o) { cause := 0x19, addr := 0 })) ∧
      (∀ xs, I.modeBad o = false → I.latchBad o = false → I.slotsBad o = false → I.segments o = (.ok, xs) → mayPost →
        let small := fun (x : Segment) => decide (x.count < I.g.mthresh.toNat)
        let ps := (List.range xs.length).map fun e =>
          pass e (small (xs.getD e ⟨0, 0, 0, false⟩)) (xs.getD e ⟨0, 0, 0, false⟩).base
            (laneSet (fun i => decide ((xs.getD e ⟨0, 0, 0, false⟩).first ≤ i) &&
              decide (i < (xs.getD e ⟨0, 0, 0, false⟩).first + (xs.getD e ⟨0, 0, 0, false⟩).count)) &&& I.maskOn o.w.m)
        post (.gmma o) ((ps.filter fun p => !p.vec).take 1) ((ps.filter fun p => !p.vec).drop 1 ++ ps.filter Pass.vec)))

/-- DOTB, MFILL and MDRAIN (R179, R192, R199 to R201): DOTB's sums, step by step from the operands' bytes, and MFILL's words
are outstanding results of class mma; MDRAIN writes the converted tile over its destination in the A-buffer, whose other
bytes stay, or to the latch. (Each comes after the accesses of its lanes that are on their way, log 6; the sums are those of
`stepValue`, the drained bytes those of `Issue.drain`.) -/
def Obligations.MatrixVectorPath : Prop :=
  ∀ (s : State) (I : Issue) (o : MatOp), s.issue = some I → s.quiet I.core = true →
    let ls := lanesOf (I.maskOn o.w.m)
    let cols := 16 * (o.n.toNat + 1)
    let at' := (I.g.read o.w.a.toNat I.lane0).toNat
    let a := s.array I.t.place
    (I.clearMat (.dotb o) = true → I.arrayRuns = false → I.latchBad o = false → I.slotsBad o = false →
      I.operandTrap o (BitVec.ofNat 64 (I.g.read o.w.b.toNat I.lane0).toNat) = .ok →
      ((∀ j, j < cols → I.g.aliased (o.w.d.toNat + j) = false) ∨ I.accWaits = false) →
      let sa := I.t.slots.getD o.slotA.toNat 0
      let sb := I.t.slots.getD o.slotB.toNat 0
      exec (.dotb o) s = .next (I.postedFrom (.dotb o) s .mma (ls.flatMap fun i => (List.range cols).map fun j =>
        (64 * (o.w.d.toNat + j) + i, (List.range o.k.toNat).foldl (fun c t =>
          stepValue sa sb cols (readA I.t a (o.srcA == 1) at' (stepRuns sa (32 * o.k.toNat) 64 t))
            ((stepRuns sb (32 * o.k.toNat) cols t).map fun r => lookups 0 I.t.wbuf ((I.g.read o.w.b.toNat I.lane0).toNat + r.1) r.2)
            i j c)
          (if o.acc then I.g.read (o.w.d.toNat + j) i else 0))))) ∧
    (I.clearMat (.mfill o) = true → I.modeBad o = false → I.accWaits = false →
      (at' % 128 ≠ 0 → exec (.mfill o) s = .next (I.raises (.mfill o) { cause := 0x05, addr := BitVec.ofNat 64 at' })) ∧
      (at' % 128 = 0 → at' + cols * 256 ≤ I.t.abytes →
        exec (.mfill o) s = .next (I.postedFrom (.mfill o) s .mma (ls.flatMap fun i => (List.range cols).map fun j =>
          (64 * (I.g.tileBase + j) + i, BitVec.ofNat 32 (ofLe (lookups 0 I.t.abuf (at' + (j * 64 + i) * 4) 4))))))) ∧
    (I.clearMat (.mdrain o) = true → I.modeBad o = false → I.latchHeld o = false → I.accWaits = false →
      let f := I.t.slots.getD o.slotA.toNat 0
      let n := operandBytes f cols 64
      (slotScale f = 1 → cols = 32 ∨ cols = 64) →
      (o.srcA = 0 → at' % 128 = 0 → at' + n ≤ I.t.abytes →
        ∃ t : Team, exec (.mdrain o) s = .next (I.postedFrom (.mdrain o) (s.setTeam t) .mma []) ∧
          t = { I.t with abuf := t.abuf } ∧
          lookups 0 t.abuf at' n = I.drain o (lookups 0 I.t.abuf at' n) ∧
          ∀ x, (x < at' ∨ at' + n ≤ x) → lookup 0 t.abuf x = lookup 0 I.t.abuf x) ∧
      (o.srcA = 1 → ∃ l : Latch, exec (.mdrain o) s =
          .next (I.postedFrom (.mdrain o) (s.setArray { a with latch := some l }) .mma []) ∧
        l.slot = o.slotA.toNat ∧ l.n = cols ∧ l.team = I.t.tid ∧ lookups 0 l.data 0 n = I.drain o (List.replicate n 0)))

/-! ### Control -/

/-- Branches, calls and returns (R16, R73, R80 to R83): the split goes on at a header, at the target of the word offset or
behind the instruction's two words; CALL writes the latter to its link pair in every active lane; RET and JMPR take a
pair's value, bits [63:56] ignored, and trap MISALIGNED where it is no multiple of 4. -/
def Obligations.Branches : Prop :=
  ∀ (s : State) (I : Issue) (o : CtlOp), s.issue = some I →
    let next := Spec.long (I.cl.pc.toNat + 8)
    let target := Spec.long (I.cl.pc.toNat + 4 * o.imm.toInt)
    (I.clear (.br o) = true →
      exec (.br o) s = .next (I.jumps s (if Spec.condition I.sp.cc o.w.d.toNat then target else next))) ∧
    (I.clear (.brz o) = true → exec (.brz o) s = .next (I.jumps s
      (if I.maskOn o.w.m = 0 ∨ ∃ i ∈ lanesOf (I.maskOn o.w.m), I.xbar o.w.xa o.w.a i ≠ 0 then next else target))) ∧
    (I.clear (.brnz o) = true → exec (.brnz o) s = .next (I.jumps s
      (if ∃ i ∈ lanesOf (I.maskOn o.w.m), I.xbar o.w.xa o.w.a i ≠ 0 then target else next))) ∧
    (I.clear (.call o) = true → exec (.call o) s = .next (I.jumps
      (if o.w.d = 0 then s else s.setGroup
        ((I.g.writeLanes o.w.d.toNat (lanesOf I.active) fun _ => next.extractLsb' 0 32).writeLanes (o.w.d.toNat + 1)
          (lanesOf I.active) fun _ => next.extractLsb' 32 32)) target)) ∧
    ∀ i ∈ [Instr.ret o, Instr.jmpr o], I.clear i = true →
      let v := Spec.pairValue I 0 o.w.a I.lane0 + if i = .jmpr o then 4 * o.imm.toInt else 0
      let t := BitVec.ofInt 64 (v % 2 ^ 56)
      (v % 4 = 0 → exec i s = .next (I.jumps s t)) ∧
      (v % 4 ≠ 0 → exec i s = .next (I.raises i { cause := 0x05, addr := t }))

/-- SPLIT divides the active lanes by a register, MERGE brings them together (R76 to R78, R84, R85): where only one side has
lanes the split goes that way; otherwise the lanes that hold non-zero become a split of their own at the target, both
under a new join record of two, or, with four splits, run first while the others wait in the record. MERGE without a
record of its own header goes on; with another split of its record still to come it parks there; the last one to come,
which for a SERIAL record is that of the remainder, fuses all the parked lanes, and the lanes that a SERIAL record has run
already, into one split at the word after the MERGE, with the flags of the part that held the lowest lane and the record's
parent as its join; the record is free, and every other split stays. In a handler it is the trapping split still where that
is one of them (R274). -/
def Obligations.SplitsAndMerges : Prop :=
  ∀ (s : State) (I : Issue) (o : CtlOp), s.issue = some I →
    let next := Spec.long (I.cl.pc.toNat + 8)
    let target := Spec.long (I.cl.pc.toNat + 4 * o.imm.toInt)
    let T := I.active &&& laneSet fun i => I.xbar o.w.xa o.w.a i != 0
    let F := I.active &&& ~~~T
    let merge := Spec.long (I.cl.pc.toNat + 4 * (o.w.d ++ o.w.b : BitVec 14).toInt)
    let ends := fun (g : Group) (pc : Addr) => exec (.merge o) s = .next (s.setGroup (g.endClause I.cl pc s.cycle))
    (I.clear (.split o) = true →
      (T = 0 → exec (.split o) s = .next (I.jumps s next)) ∧
      (T ≠ 0 → F = 0 → exec (.split o) s = .next (I.jumps s target)) ∧
      (T ≠ 0 → F ≠ 0 → (∀ n < 16, ∃ j ∈ I.g.joins, j.idx = n) →
        exec (.split o) s = .next (I.raises (.split o) { cause := 0x18, addr := 16 })) ∧
      (T ≠ 0 → F ≠ 0 → ∀ n < 16, (∀ j ∈ I.g.joins, j.idx ≠ n) → (∀ k < n, ∃ j ∈ I.g.joins, j.idx = k) →
        let j : Join := { idx := n, merge := merge, parent := I.sp.join, kind := .split, count := 2, handler := I.g.handling }
        (I.g.splits.length < 4 → ∃ l, (∀ x ∈ I.g.splits, x.label ≠ l) ∧
          exec (.split o) s = .next (I.jumps (s.setGroup { I.g with
            splits := (I.g.splits.map fun x => if x.label = I.sp.label then { I.sp with lanes := F, join := some n } else x) ++
              [{ label := l, pc := target, lanes := T, cc := I.sp.cc, join := some n }]
            joins := I.g.joins ++ [j] }) next)) ∧
        (4 ≤ I.g.splits.length → exec (.split o) s = .next (I.jumps (s.setGroup { I.g with
            splits := I.g.splits.map fun x => if x.label = I.sp.label then { I.sp with lanes := T, join := some n } else x
            joins := I.g.joins ++
              [{ j with kind := .serial, count := 1, rest := F, restPc := next, restCc := I.sp.cc }] }) target)))) ∧
    (I.clear (.merge o) = true →
      ((I.sp.join = none ∨ ∃ k j, I.sp.join = some k ∧ I.g.joins.find? (fun j => j.idx == k) = some j ∧ j.merge ≠ I.cl.addr) →
        ends I.g next) ∧
      (∀ k j, I.sp.join = some k → I.g.joins.find? (fun j => j.idx == k) = some j → j.merge = I.cl.addr →
        let g := { I.g with
          splits := I.g.splits.map fun x => if x.label = I.sp.label then { I.sp with parked := true } else x
          joins := I.g.joins.map fun x => if x.idx = j.idx then { j with count := j.count - 1 } else x }
        let here := fun (x : Split) => x.label ≠ I.sp.label ∧ x.parked = true ∧ x.join = some k
        ((j.kind = .split ∨ j.rest = 0) → 2 ≤ j.count → ends g next) ∧
        ((j.kind = .split ∨ j.rest = 0) → j.count ≤ 1 → ∃ t h, exec (.merge o) s = .next t ∧ t.group I.g.gid = some h ∧
          (∀ x ∈ h.joins, x.idx ≠ k) ∧ (∀ x ∈ I.g.joins, x.idx ≠ k → x ∈ h.joins) ∧ s.sameButGroup t I.g.gid ∧
          h.regs = I.g.regs ∧ h.clause = none ∧ (∀ x ∈ I.g.splits, x.label ≠ I.sp.label → ¬here x → x ∈ h.splits) ∧
          ∃ one ∈ h.splits, one.join = j.parent ∧ one.parked = false ∧
            (∀ n, one.lanes.getLsbD n = true ↔
              (I.sp.lanes.getLsbD n = true ∨ j.done.getLsbD n = true ∨ ∃ x ∈ I.g.splits, here x ∧ x.lanes.getLsbD n = true)) ∧
            ((∀ x ∈ I.g.splits, here x → x.pc = next) → one.pc = next) ∧
            (I.sp.lanes ≠ 0 → ∃ n, (∀ m < n, one.lanes.getLsbD m = false) ∧
              ((I.sp.lanes.getLsbD n = true ∧ one.cc = I.sp.cc) ∨ (j.done.getLsbD n = true ∧ one.cc = j.doneCc) ∨
                ∃ x ∈ I.g.splits, here x ∧ x.lanes.getLsbD n = true ∧ one.cc = x.cc)) ∧
            (∀ r, I.g.resume = some r → (I.sp.label = r.split ∨ ∃ x ∈ I.g.splits, here x ∧ x.label = r.split) →
              one.label = r.split)) ∧
        (j.kind = .serial → j.rest ≠ 0 → ends { I.g with
          splits := I.g.splits.map fun x => if x.label = I.sp.label then { I.sp with lanes := j.rest, cc := j.restCc } else x
          joins := I.g.joins.map fun x => if x.idx = j.idx then
            { j with done := I.sp.lanes, doneCc := I.sp.cc, donePc := next, rest := 0 } else x } j.restPc)))

/-- YIELD, YIELDC, SLEEP and WAITC (R87, R88, R90, R163, R168): YIELD starts the group's age afresh; YIELDC ends the clause at
its target and gives the window back; SLEEP of 0 cycles, or one whose time is over, goes on, and any other parks until
its cycle; WAITC parks while more than n operations of its class are outstanding, and otherwise goes on, or traps the
earliest deferred fault that it covers. -/
def Obligations.Waits : Prop :=
  ∀ (s : State) (I : Issue) (o : CtlOp), s.issue = some I →
    (I.clear (.yield o) = true → exec (.yield o) s = .next (I.ended (.yield o) (s.setGroup { I.g with ageFrom := s.cycle }))) ∧
    (I.clear (.yieldc o) = true → ∃ t g, exec (.yieldc o) s = .next t ∧ t.group I.g.gid = some g ∧ g.clause = none ∧
      g.window = false ∧ g.interval = true ∧ (I.cl.marker = false → g.status = .resident) ∧ g.regs = I.g.regs ∧
      (∀ x ∈ g.splits, x.label = I.cl.split → x.pc = Spec.long (I.cl.pc.toNat + 4 * o.imm.toInt)) ∧
      s.sameButGroup t I.g.gid) ∧
    (I.clear (.sleep o) = true →
      ((o.imm = 0 ∨ I.g.prog = 1) → exec (.sleep o) s = .next (I.ended (.sleep o) s)) ∧
      (o.imm ≠ 0 → I.g.prog ≠ 1 → ∃ t g, exec (.sleep o) s = .next t ∧ t.group I.g.gid = some g ∧
        g.status = .parked (.sleep (s.cycle + o.imm.toNat)) ∧ (g.window = true ↔ (I.g.window = true ∧ o.imm.toNat < 4096)) ∧
        g.clause = I.g.clause ∧ g.regs = I.g.regs ∧ s.sameButGroup t I.g.gid)) ∧
    (I.clear (.waitc o) = true →
      let n := o.imm.toNat % 256
      ∀ k c, (o.imm.extractLsb' 8 3).toNat = k → [Counter.ld, .sfu, .mma, .cpy, .fab, .spn][k]? = some c →
        (n < I.g.counter c → exec (.waitc o) s = .next (I.parksOn .retry)) ∧
        (I.g.counter c ≤ n →
          let cov := fun (nth : Nat) => decide (nth + n ≤ I.g.issuedOf c)
          let g := { I.g with acqs := I.g.acqs.filter fun x => !(x.1 == c && cov x.2) }
          let t := if I.g.acqs.any fun x => x.1 == c && cov x.2
            then s.setMem { s.mem with sectors := s.mem.sectors.filter fun x => x.core != I.core } else s
          ((∀ d ∈ I.g.deferred, ¬(d.cls = c ∧ cov d.nth = true)) →
            exec (.waitc o) s = .next (I.ended (.waitc o) (t.setGroup g))) ∧
          (∀ d ∈ I.g.deferred, d.cls = c → cov d.nth = true →
            (∀ e ∈ I.g.deferred, e.cls = c → cov e.nth = true → e ≠ d → d.seq < e.seq) →
            ∃ u h, exec (.waitc o) s = .next u ∧ u.group I.g.gid = some h ∧ h.status = .trapped ∧
              h.trapCause = d.info.cause ∧ h.trapAddr = d.info.addr ∧ h.deferred = I.g.deferred.filter fun x => x != d)))

/-- TRAP and BKPT raise SOFTWARE and BREAKPOINT with their immediate as the address (R8, R89, R273). Trap entry waits for
the group's register results, then writes EPC and ESTATE, sets the handler flag and sends the trapping split to the
context's handler, all other state unchanged; with no handler, or for a trap taken in a handler, the unit ends (R269, R270,
R272). TRAPRET restores the trapping split's lanes and join and keeps its flags, drops the splits that overlap them and the
handler's joins, and puts CLASS in force; with EPC as it was it issues the same instruction of the recorded clause again
(a claim stays unless the handler gave it up, an ENQ keeps its count); with EPC at the clause's next instruction that one
issues; and with any other EPC a header is decoded there, bits [63:56] ignored (R80, R270, R271, R274). (The model's choices:
a group is TRAPPED until trap entry ends, and RESIDENT after TRAPRET, log 51; only the trapping split's lanes issue in a
handler, and the flags kept are those that the split has at TRAPRET, log 10; the end of a unit is one step, log 69.) -/
def Obligations.TrapsAndReturns : Prop :=
  (∀ (s : State) (I : Issue) (o : CtlOp), s.issue = some I →
    (I.clear (.trap o) = true → exec (.trap o) s = .next (I.raises (.trap o) { cause := 0x18, addr := o.imm.setWidth 64 })) ∧
    (I.clear (.bkpt o) = true → exec (.bkpt o) s = .next (I.raises (.bkpt o) { cause := 0x17, addr := o.imm.setWidth 64 })) ∧
    (∀ r : Resume, I.clear (.trapret o) = true → I.g.handling = true → I.g.resume = some r → I.cl.marker = false →
      ∃ t g, exec (.trapret o) s = .next t ∧ t.group I.g.gid = some g ∧ g.handling = false ∧ g.status = .resident ∧
        g.window = false ∧ g.interval = true ∧ g.resume = none ∧ g.sched = I.g.cls ∧ g.regs = I.g.regs ∧
        s.sameButGroup t I.g.gid ∧ (∀ j, j ∈ g.joins ↔ j ∈ I.g.joins ∧ j.handler = false) ∧
        (∀ y ∈ I.g.splits, y.lanes &&& r.lanes = 0 → y ∈ g.splits) ∧
        (∃ x ∈ g.splits, x.label = r.split ∧ x.pc = (I.g.epc.extractLsb' 0 56).setWidth 64 ∧ x.lanes = r.lanes ∧
          x.join = r.join ∧ x.parked = false ∧
          (∀ y, I.g.splits.find? (fun y => y.label == r.split) = some y → x.cc = y.cc) ∧
          ∀ y ∈ g.splits, y = x ∨ (y ∈ I.g.splits ∧ y.lanes &&& r.lanes = 0)) ∧
        (∀ cl, I.g.epc = r.epc → r.byInstr = true → r.clause = some cl →
          g.clause = some { cl with debited := false, words := none } ∧ g.enqDone = r.appended ∧
          g.claim = if I.g.dropClaim then none else I.g.claim) ∧
        (∀ cl, I.g.epc ≠ r.epc → I.g.epc = r.epc + BitVec.ofNat 64 r.len → r.byInstr = true → r.clause = some cl →
          cl.idx + 1 < cl.count →
          g.clause = some { cl with idx := cl.idx + 1, pc := I.g.epc, debited := false, words := none } ∧ g.claim = none ∧
            g.enqDone = 0) ∧
        ((I.g.epc ≠ r.epc ∨ r.byInstr = false) →
          (I.g.epc ≠ r.epc + BitVec.ofNat 64 r.len ∨ r.byInstr = false ∨ ∀ cl, r.clause = some cl → cl.count ≤ cl.idx + 1) →
          g.clause = none ∧ g.claim = none))) ∧
  ∀ (s : State) (g : Group) (t : Team) (c : Context) (r : Resume), s.group s.ev.g = some g → s.home g = some (t, c) →
    g.status = .trapped → g.entry = .raised → g.resume = some r → (c.forwards r.info.cause = false ∨ g.double = true) →
    (g.drained = false → exec .trapEntry s = .next s) ∧
    (g.drained = true → c.handler ≠ 0 → g.double = false → ∃ u h, exec .trapEntry s = .next u ∧ u.group g.gid = some h ∧
      h = { g with
        epc := r.epc, estFwd := r.info.fwd, estCount := r.info.count, estLane := r.info.lane, entry := .none, handling := true
        clause := none, interval := true, status := if g.window then .windowed else .resident, ageFrom := s.cycle
        since := s.cycle, prog := 0
        splits := g.splits.map fun x => if x.label == r.split then { x with pc := c.handler } else x } ∧
      u = { s with groups := u.groups, arrays := u.arrays } ∧
      (u.array t.place).owner.map Resv.who ≠ some (.group g.gid) ∧ ∀ x ∈ (u.array t.place).resvs, x.who ≠ .group g.gid) ∧
    (g.drained = true → (c.handler = 0 ∨ g.double = true) → s.evals = [] →
      (∃ l, s.launch t.launch = some l ∧ l.origin = .host) →
      (∀ l ∈ s.launches, l.origin = .host ∨ ∃ p n, l.origin = .child p n) →
      ∃ u, exec .trapEntry s = .next u ∧ u.group g.gid = none ∧ u.launch t.launch = none)

/-- EXIT waits while anything is outstanding, and then traps the deferred faults, the earliest first; the exit of one of several splits ends that split; that of the last one
removes the group, and with its last group the team (R74, R86, R90). Under a join record: a SERIAL remainder is revived where
it waits; a record that still counts others counts one less; the splits parked at one that counts no others are fused with
its lanes that are done; done lanes alone are revived behind the MERGE; and a record with no lanes left is free, the exit
going on with its parent (R76, R78, R86). Ports stay bound while a split remains; where the last one waits for its bound ports
alone, every binding ends as QEND ends it (R345; log 25). SPAWN starts a child of one team at its target with its descriptor's
shape, one more in SPN, and goes on (R264); at depth 4 it traps SPAWN_DEPTH. (While an access of its lanes or a write of the
core is on its way, it comes after it, log 6.) -/
def Obligations.ExitAndSpawn : Prop :=
  ∀ (s : State) (I : Issue) (o : CtlOp), s.issue = some I →
    let others := I.g.splits.filter fun y => y.label != I.sp.label
    (I.clear (.exit o) = true →
      ((I.g.ports = [] ∨ (others ≠ [] ∧ I.sp.join = none) ∨ ∃ c, c ≠ .cpy ∧ I.g.counter c ≠ 0) → (∃ c, I.g.counter c ≠ 0) →
        exec (.exit o) s = .next (I.parksOn .retry)) ∧
      (others = [] → I.sp.join = none → I.g.ports ≠ [] → I.g.counter .cpy ≠ 0 → (∀ c, c ≠ .cpy → I.g.counter c = 0) →
        (∀ p ∈ I.g.ops, p.done = true ∨ (p.cls = .cpy ∧ ∃ q ∈ I.g.ports, q.cmd = p.ref)) → (I.g.ports.map Port.cmd).Nodup →
        ∃ t g, exec (.exit o) s = .next t ∧ t.group I.g.gid = some g ∧ g.status = .parked .retry ∧ g.ports = [] ∧
          g.clause = I.g.clause ∧ g.splits = I.g.splits ∧ g.regs = I.g.regs ∧
          ∀ p ∈ I.g.ports, (p.dir = .read → ∀ e ∈ t.engines, e.cid ≠ p.cmd) ∧
            (p.dir = .write → ∀ e, s.engine p.cmd = some e → e.dead = none →
              ∃ e', t.engine p.cmd = some e' ∧ e'.ending = true ∧ e'.data = e.data ++ p.given.flatMap fun w => leBytes 4 w.2.toNat)) ∧
      ((∀ c, I.g.counter c = 0) → ∀ d ∈ I.g.deferred, (∀ e ∈ I.g.deferred, e ≠ d → d.seq < e.seq) →
        ∃ t g, exec (.exit o) s = .next t ∧ t.group I.g.gid = some g ∧ g.status = .trapped ∧ g.trapCause = d.info.cause ∧
          g.trapAddr = d.info.addr ∧ g.splits = I.g.splits ∧ g.deferred = I.g.deferred.filter fun x => x != d) ∧
      ((∀ c, I.g.counter c = 0) → I.g.deferred = [] →
        (∀ k j, I.sp.join = some k → I.g.joins.find? (fun j => j.idx == k) = some j →
          let here := fun (x : Split) => x.label ≠ I.sp.label ∧ x.parked = true ∧ x.join = some k
          let goesOn := fun (g : Group) => ∃ t h, exec (.exit o) s = .next t ∧ t.group I.g.gid = some h ∧
            h.splits = g.splits ∧ h.joins = g.joins ∧ h.clause = none ∧ h.ports = I.g.ports ∧ h.regs = I.g.regs ∧
            s.sameButGroup t I.g.gid
          (j.kind = .serial → j.rest ≠ 0 → I.g.splits.length ≤ 4 → ∃ l, (∀ x ∈ others, x.label ≠ l) ∧ goesOn { I.g with
            splits := others ++ [{ label := l, pc := j.restPc, lanes := j.rest, cc := j.restCc, join := some k }]
            joins := I.g.joins.map fun x => if x.idx = k then { j with rest := 0 } else x }) ∧
          ((j.kind = .split ∨ j.rest = 0) →
            (2 ≤ j.count → others ≠ [] → goesOn { I.g with
              splits := others, joins := I.g.joins.map fun x => if x.idx = k then { j with count := j.count - 1 } else x }) ∧
            (j.count ≤ 1 → (∃ x ∈ I.g.splits, here x) → ∃ one : Split, one.join = j.parent ∧ one.parked = false ∧
              (∀ n, one.lanes.getLsbD n = true ↔
                (j.done.getLsbD n = true ∨ ∃ x ∈ I.g.splits, here x ∧ x.lanes.getLsbD n = true)) ∧
              (∃ x ∈ I.g.splits, here x ∧ one.pc = x.pc) ∧
              (one.lanes ≠ 0 → ∃ n, (∀ m < n, one.lanes.getLsbD m = false) ∧
                ((j.done.getLsbD n = true ∧ one.cc = j.doneCc) ∨
                  ∃ x ∈ I.g.splits, here x ∧ x.lanes.getLsbD n = true ∧ one.cc = x.cc)) ∧
              goesOn { I.g with
                splits := one :: others.filter fun x => !(x.parked && x.join == some k)
                joins := I.g.joins.filter fun x => x.idx != k }) ∧
            (j.count ≤ 1 → (¬∃ x ∈ I.g.splits, here x) → j.done ≠ 0 → I.g.splits.length ≤ 4 → ∃ l,
              (∀ x ∈ others, x.label ≠ l) ∧
              goesOn { I.g with
              splits := others ++ [{ label := l, pc := j.donePc, lanes := j.done, cc := j.doneCc, join := j.parent }]
              joins := I.g.joins.filter fun x => x.idx != k }) ∧
            (j.count ≤ 1 → (¬∃ x ∈ I.g.splits, here x) → j.done = 0 → others ≠ [] → I.g.joins.length ≤ 16 →
              let s' := s.setGroup { I.g with
                splits := I.g.splits.map fun x => if x.label = I.sp.label then { x with join := j.parent } else x
                joins := I.g.joins.filter fun x => x.idx != k }
              ∃ t t' h, exec (.exit o) s = .next t ∧ exec (.exit o) s' = .next t' ∧ t.group I.g.gid = some h ∧
                t'.group I.g.gid = some h ∧ s.sameButGroup t I.g.gid))) ∧
        (others ≠ [] → I.sp.join = none → ∃ t g, exec (.exit o) s = .next t ∧
          t.group I.g.gid = some g ∧ g.splits = others ∧ g.joins = I.g.joins ∧ g.clause = none ∧
          g.ports = I.g.ports ∧ g.regs = I.g.regs ∧ s.sameButGroup t I.g.gid) ∧
        (others = [] → (I.sp.join = none ∨ ∃ k j, I.sp.join = some k ∧ I.g.joins.find? (fun j => j.idx == k) = some j ∧
            (j.kind = .split ∨ j.rest = 0) ∧ j.count ≤ 1 ∧ j.done = 0 ∧ j.parent = none) → s.barriers = [] →
          (∃ l, s.launch I.t.launch = some l ∧ l.origin = .host) →
          ∃ t, exec (.exit o) s = .next t ∧ t.group I.g.gid = none ∧
            ((∀ h ∈ s.groups, h.team = I.t.tid → h.gid = I.g.gid) → t.team I.t.tid = none)))) ∧
    (I.clear (.spawn o) = true → s.quiet I.core = true →
      let d := Spec.pairValue I 0 o.w.a I.lane0
      let fits := d / 2 ^ 62 = 0 ∧ d / 2 ^ 45 % 8 = 0 ∧ d / 2 ^ 21 % 2 ^ 11 = 0 ∧ d / 2 ^ 7 % 2 = 0 ∧ d / 2 ^ 48 % 2 ^ 14 ≤ 8192 ∧
        d / 2 ^ 32 % 2 ^ 13 ≤ 4096 ∧ d / 2 ^ 14 % 32 ≤ 16 ∧ d / 2 ^ 8 % 64 ≤ 32
      (¬fits → exec (.spawn o) s = .next (I.raises (.spawn o) { cause := 0x02, addr := 0 })) ∧
      (fits → I.t.depth = 4 → exec (.spawn o) s = .next (I.raises (.spawn o) { cause := 0x16, addr := 0 })) ∧
      (fits → I.t.depth ≠ 4 → ∃ l : Launch,
        exec (.spawn o) s = .next (I.jumps ({ s with nextId := s.nextId + 1, launches := s.launches ++ [l] }.onGroup I.g.gid fun g =>
          g.addOp { seq := 0, cls := .spn, ref := s.nextId, acquire := true }) (Spec.long (I.cl.pc.toNat + 8))) ∧
        l.lid = s.nextId ∧ l.ctx = I.c.num ∧ l.origin = .child I.g.gid I.g.nextSeq ∧ l.st = .ready ∧
        l.entry = Spec.long (I.cl.pc.toNat + 4 * o.imm.toInt) ∧ l.depth = I.t.depth + 1 ∧ l.lineage = I.g.lineage ∧
        l.clusters = 1 ∧ l.rcd.groups = d % 16 + 1 ∧ l.rcd.nregs = 16 * (d / 16 % 8 + 1) ∧ l.rcd.quires = d / 2 ^ 8 % 64 ∧
        l.rcd.bars = d / 2 ^ 14 % 32 ∧ l.rcd.abytes = 128 * (d / 2 ^ 32 % 2 ^ 13) ∧ l.rcd.wbytes = 128 * (d / 2 ^ 48 % 2 ^ 14) ∧
        l.parent = some I.t.cluster ∧ l.rcd.slots = I.t.slots ∧ l.rcd.arg.toNat = Spec.pairValue I 0 o.w.b I.lane0 ∧
        l.cls = min (d / 2 ^ 19 % 4) I.c.ceiling))

/-! ### Barriers -/

/-- Fixed barriers (R223 to R226, R233, R234). An arrival is counted in the open generation, or once in the next; a third
one traps SYNC_MASK. When every live member has arrived the next generation opens with the early arrivals. BARWAIT waits
for the generation that its group arrived in, and has no effect without one; BARSYNC and GSYNC do both. A cluster or grid
barrier's completion flashes the L1. A GSYNC mask must name the group and only groups of its team; with no generation open
it opens one, the same mask in an open one is counted there, and the last of the named groups completes it; another mask
in an open generation, or a second arrival there, fails it: the groups parked in it trap SYNC_MASK as the arriving one
does, and the next generation opens (R226). (An arrival comes after the accesses of its lanes that are on their way, and at
cluster and grid level after the writes of the core, log 6; that the number of a failed generation rises is log 62's choice.) -/
def Obligations.FixedBarriers : Prop :=
  ∀ (s : State) (I : Issue) (o : SyncOp), s.issue = some I →
    let l := o.level.toNat
    let x := o.index.toNat
    let b := s.barrier l (I.t.owner l) x
    let all := fun (ms : List Group) (ids : List Nat) => ms.all fun h => ids.contains h.gid
    let ms := s.members l (I.t.owner l)
    let valid := (l = 0 → x < I.t.nbars) ∧ (l = 2 → I.t.grid = true)
    let still := s.quiet I.core = true
    let wrong := (l = 0 ∧ I.t.nbars ≤ x) ∨ (l = 2 ∧ I.t.grid = false)
    let now := b.arrived ++ [I.g.gid]
    let after : Barrier :=
      if all ms now = false then { b with arrived := now }
      else if all ms b.early = false then { b with gen := b.gen + 1, arrived := b.early, early := [] }
      else { b with gen := b.gen + 2, arrived := [], early := [] }
    let first := (s.setGroup (I.g.setPending l x b.gen)).setBarrier after
    let early := (s.setGroup (I.g.setPending l x (b.gen + 1))).setBarrier { b with early := b.early ++ [I.g.gid] }
    let flash := fun (t : State) =>
      if 1 ≤ l then t.setMem { t.mem with sectors := t.mem.sectors.filter fun y => y.core != I.core } else t
    let waits := fun (t : State) (g : Group) => t.setGroup { g with
      prog := 1, status := .parked .retry, since := match I.g.status with | .parked _ => I.g.since | _ => s.cycle }
    let trap := fun (i : Instr) => exec i s = .next (I.raises i { cause := 0x0E, addr := 0 })
    let wait := fun (i : Instr) =>
      (I.g.pendingGen l x = none → exec i s = .next (I.ended i s)) ∧
      (∀ n, I.g.pendingGen l x = some n → n < b.gen → exec i s = .next (I.ended i (flash s))) ∧
      (∀ n, I.g.pendingGen l x = some n → b.gen ≤ n → exec i s = .next (waits s I.g))
    (valid →
      (I.clear (.bararv o) = true →
        (b.mask = none → I.g.gid ∉ b.arrived → still → exec (.bararv o) s = .next (I.ended (.bararv o) first)) ∧
        (b.mask = none → I.g.gid ∈ b.arrived → I.g.gid ∉ b.early → still →
          exec (.bararv o) s = .next (I.ended (.bararv o) early)) ∧
        ((b.mask ≠ none ∨ (I.g.gid ∈ b.arrived ∧ I.g.gid ∈ b.early)) → trap (.bararv o))) ∧
      (I.clear (.barwait o) = true → wait (.barwait o)) ∧
      (I.clear (.barsync o) = true →
        (I.g.prog = 1 → wait (.barsync o)) ∧
        (I.g.prog ≠ 1 → (b.mask ≠ none ∨ (I.g.gid ∈ b.arrived ∧ I.g.gid ∈ b.early)) → trap (.barsync o)) ∧
        (I.g.prog ≠ 1 → b.mask = none → still →
          (I.g.gid ∉ b.arrived → all ms now = true → exec (.barsync o) s = .next (I.ended (.barsync o) (flash first))) ∧
          (I.g.gid ∉ b.arrived → all ms now = false →
            exec (.barsync o) s = .next (waits first (I.g.setPending l x b.gen))) ∧
          (I.g.gid ∈ b.arrived → I.g.gid ∉ b.early →
            exec (.barsync o) s = .next (waits early (I.g.setPending l x (b.gen + 1)))))) ∧
      (I.clear (.gsync o) = true →
        let m := I.g.read o.w.a.toNat I.lane0
        let uniform := ∀ i ∈ lanesOf I.active, I.g.read o.w.a.toNat i = m
        let good := uniform ∧ m.toNat < 2 ^ 16 ∧ m.toNat < 2 ^ I.t.ngroups ∧ m.getLsbD I.g.index = true
        let named := ms.filter fun h => (m.extractLsb' 0 16).getLsbD h.index
        (I.g.prog = 1 → wait (.gsync o)) ∧
        (I.g.prog ≠ 1 → ¬good → trap (.gsync o)) ∧
        (I.g.prog ≠ 1 → good → b.mask = none → b.arrived ≠ [] → trap (.gsync o)) ∧
        (I.g.prog ≠ 1 → good → b.mask = none → b.arrived = [] → b.early = [] → still →
          (all named [I.g.gid] = true → exec (.gsync o) s = .next (I.ended (.gsync o) (flash
            ((s.setGroup (I.g.setPending l x b.gen)).setBarrier { b with gen := b.gen + 1 })))) ∧
          (all named [I.g.gid] = false → exec (.gsync o) s = .next (waits
            ((s.setGroup (I.g.setPending l x b.gen)).setBarrier { b with mask := some (m.extractLsb' 0 16), arrived := [I.g.gid] })
            (I.g.setPending l x b.gen)))) ∧
        (I.g.prog ≠ 1 → good → b.mask = some (m.extractLsb' 0 16) → I.g.gid ∉ b.arrived → b.early = [] → still →
          (all named now = true → exec (.gsync o) s = .next (I.ended (.gsync o) (flash
            ((s.setGroup (I.g.setPending l x b.gen)).setBarrier
              { b with gen := b.gen + 1, mask := none, arrived := [], early := [] })))) ∧
          (all named now = false → exec (.gsync o) s = .next (waits
            ((s.setGroup (I.g.setPending l x b.gen)).setBarrier { b with arrived := now }) (I.g.setPending l x b.gen)))) ∧
        (I.g.prog ≠ 1 → good → still → ∀ k, b.mask = some k → (k ≠ m.extractLsb' 0 16 ∨ I.g.gid ∈ b.arrived) →
          ∃ t h, exec (.gsync o) s = .next t ∧ t.group I.g.gid = some h ∧ h.status = .trapped ∧ h.trapCause = 0x0E ∧
          (∀ n p, n ∈ b.arrived → s.group n = some p → p.clause ≠ none → ∃ p', t.group n = some p' ∧ p'.status = .trapped ∧
            p'.trapCause = 0x0E ∧ p'.regs = p.regs ∧ p'.pendingGen l x = none) ∧
          t.barrier l (I.t.owner l) x = { b with gen := b.gen + 1, mask := none, arrived := [], early := [] }))) ∧
    (wrong → ∀ i ∈ [Instr.bararv o, .barwait o, .barsync o, .gsync o], I.clear i = true →
      exec i s = .next (I.raises i { cause := 0x02, addr := 0 }))

/-- Quires (R227 to R232, R235 to R237). Each event changes one side and then tests it: with nothing owed and no bytes
pending the phase flips, the arrivals are owed afresh, and every group that waits for it may go on; with bytes below zero
the side breaks. A flip remembers whether bytes of global memory were counted for it: who observes it flashes the L1 then,
and only then (R169). SBEXP sets the arrivals and adds bytes, SBARV arrives; SBWAIT parks while the phase equals the parity in
its register, and SBTRY reads whether it does not. An event of a side at which an older MMA or GMMA of the group still
owes its arrival stalls (R229). A broken side traps STAGE_UNDERFLOW with the quire's number. (SBARV comes after the accesses of
its lanes that are on their way, log 6.) -/
def Obligations.Quires : Prop :=
  ∀ (s : State) (I : Issue) (o : SyncOp), s.issue = some I →
    let x := o.index.toNat
    let quire := I.t.quires.getD x {}
    let q := quire.side o.side
    let put := fun (r : QSide) => s.setTeam { I.t with quires := I.t.quires.set x (quire.setSide o.side r) }
    let flip := fun (r : QSide) =>
      { put { r with phase := !r.phase, owed := r.owedEach, acq := r.glob, glob := false } with
        groups := s.groups.map fun (h : Group) =>
          if h.team = I.t.tid ∧ h.prog = waitCode x o.side q.phase then { h with woken := true, wokenGlobal := h.wokenGlobal || r.glob } else h }
    let flash := fun (t : State) => t.setMem { t.mem with sectors := t.mem.sectors.filter fun y => y.core != I.core }
    let tests := fun (i : Instr) (r : QSide) =>
      ((r.owed ≠ 0 ∨ 0 < r.bytes) → exec i s = .next (I.ended i (put r))) ∧
      (r.owed = 0 → r.bytes = 0 → exec i s = .next (I.ended i (flip r))) ∧
      (r.owed = 0 → r.bytes < 0 → ∃ t h, exec i s = .next t ∧ t.group I.g.gid = some h ∧ h.status = .trapped ∧
        h.trapCause = 0x1B ∧ h.trapAddr = o.index.setWidth 64 ∧ ∀ u, t.team I.t.tid = some u →
          (u.quires.getD x {}).side o.side = { r with broken := true })
    let n : Int := if o.side then 0 else (I.xbar o.w.xb o.w.b I.lane0).toNat
    let c := o.w.d.toNat
    let p := (I.xbar o.w.xa o.w.a I.lane0).getLsbD 0
    (x < I.t.quires.length → (∀ r ∈ I.g.ops, r.arrival ≠ some (x, o.side)) → q.broken = false →
      (I.clear (.sbexp o) = true → q.bytes + n ≤ 2 ^ 31 - 1 → tests (.sbexp o)
        { q with bytes := q.bytes + n, owedEach := if c = 0 then q.owedEach else c
                 owed := if c ≠ 0 ∧ q.owed = q.owedEach then c else q.owed }) ∧
      (I.clear (.sbarv o) = true → s.quiet I.core = true → q.owed ≠ 0 → tests (.sbarv o) { q with owed := q.owed - 1 }) ∧
      (I.clear (.sbarv o) = true → s.quiet I.core = true → q.owed = 0 → ∃ t h, exec (.sbarv o) s = .next t ∧ t.group I.g.gid = some h ∧
        h.status = .trapped ∧ h.trapCause = 0x1B ∧ h.trapAddr = o.index.setWidth 64) ∧
      (I.clear (.sbwait o) = true →
        ((I.g.woken = true ∨ q.phase ≠ p) → exec (.sbwait o) s = .next (I.ended (.sbwait o)
          (if (if I.g.woken then I.g.wokenGlobal else q.acq) = true then flash s else s))) ∧
        (I.g.woken = false → q.phase = p → exec (.sbwait o) s =
          .next ({ I with g := { I.g with prog := waitCode x o.side p } }.parksOn .retry))) ∧
      (I.clear (.sbtry o) = true → exec (.sbtry o) s = .next (I.ended (.sbtry o)
        ((if q.phase ≠ p ∧ q.acq = true then flash s else s).setGroup
          (I.g.writeLanes o.w.d.toNat (lanesOf I.active) fun _ => Spec.flag (q.phase != p)))))) ∧
    (x < I.t.quires.length → (∀ r ∈ I.g.ops, r.arrival ≠ some (x, o.side)) → q.broken = true → I.g.woken = false →
      ∀ i ∈ [Instr.sbexp o, .sbwait o, .sbtry o], I.clear i = true →
        exec i s = .next (I.raises i { cause := 0x1B, addr := o.index.setWidth 64 })) ∧
    (x < I.t.quires.length → (∃ r ∈ I.g.ops, r.arrival = some (x, o.side)) → ∀ i ∈ [Instr.sbexp o, .sbarv o],
      I.clear i = true → exec i s = .next I.stalls) ∧
    (I.t.quires.length ≤ x → ∀ i ∈ [Instr.sbexp o, .sbarv o, .sbwait o, .sbtry o], I.clear i = true →
      exec i s = .next (I.raises i { cause := 0x02, addr := 0 }))

/-! ### Engine commands -/

/-- The copies at issue (R336 to R342, R346): once every range lies in its buffer, one command with the runs of the
instruction's table, none of them empty, all of them left to move, and one more in CPY; no byte has moved. (A command comes
after the accesses of its lanes that are on their way, log 6.) Nothing to move has no effect. A range beyond its buffer traps
BUFFER_BOUNDS, a quire that the team has not ILLEGAL_ENCODING. CHAIN reads its list at issue; DECODE checks its parameters, and
its destination's range is its capacity and the header of 64 B (R337, R348). -/
def Obligations.CopyCommands : Prop :=
  ∀ (s : State) (I : Issue) (o : XferOp) (u : Nat), s.issue = some I → (lanesOf (I.maskOn o.w.m)).head? = some u →
    let dst := Spec.long (Spec.pairValue I o.w.xa o.w.a u)
    let src := Spec.long (Spec.pairValue I o.w.xb o.w.b u)
    let d := fun k => (I.g.read (o.w.d.toNat + k) u).toNat
    let quire := o.q = true → o.quire.toNat < I.t.quires.length
    let command := fun (kind : EngineKind) (rs : List Run) =>
      ({ cid := s.nextId, kind := kind, ctx := I.c.num, gid := I.g.gid, seq := I.g.nextSeq, team := I.t.tid
         place := I.t.place, cls := I.g.sched.toNat, lineage := I.g.lineage, srcSpace := o.src.toNat, dstSpace := o.dst.toNat
         quire := if o.q then some o.quire.toNat else none, runs := rs, rest := rs, teams := [I.t.tid], pc := I.cl.pc } : Engine)
    let inside := fun (space : BitVec 2) (a : Addr) (n : Nat) => space = 0 ∨ a.toNat + n ≤ I.t.footprint space.toNat
    let copies := fun (i : Instr) (kind : EngineKind) (all : List Run) (f : Engine → Engine) =>
      let rs := all.filter fun r => r.len != 0
      I.clear i = true → quire → (∀ r ∈ rs, inside o.dst r.dst r.len ∧ inside o.src r.src r.len) →
        (rs = [] → exec i s = .next (I.ended i s)) ∧
        (rs ≠ [] → s.quiet I.core = true → exec i s = .next (I.started i s (f (command kind rs))))
    copies (.cpy o) .copy [⟨src, dst, d 0⟩] id ∧
    (d 1 ≤ 65535 → copies (.cpy2d o) .copy2d ((List.range (d 1)).map fun r =>
      ⟨src + Spec.long ((r * d 2 : Nat)), dst + Spec.long ((r * d 3 : Nat)), d 0⟩) id) ∧
    copies (.gath2d o) .gather ((lanesOf (I.maskOn o.w.m)).map fun i =>
      ⟨src + Spec.long (((I.g.read (o.w.d.toNat + 3) i).toNat * d 1 : Nat)), dst + Spec.long ((i * d 2 : Nat)), d 0⟩) id ∧
    copies (.scat2d o) .scatter ((lanesOf (I.maskOn o.w.m)).map fun i =>
      ⟨src + Spec.long ((i * d 1 : Nat)), dst + Spec.long (((I.g.read (o.w.d.toNat + 3) i).toNat * d 2 : Nat)), d 0⟩) id ∧
    copies (.cpyw o) .copyw [⟨src, dst, d 0⟩] (fun e => { e with
      teams := if o.c then (s.teams.filter fun t => t.cluster == I.t.cluster).map Team.tid else [I.t.tid] }) ∧
    (I.clear (.cpy o) = true → quire → d 0 ≠ 0 → o.dst ≠ 0 → I.t.footprint o.dst.toNat < dst.toNat + d 0 →
      exec (.cpy o) s = .next (I.raises (.cpy o)
        { cause := 0x08, addr := if dst.toNat < I.t.footprint o.dst.toNat then BitVec.ofNat 64 (I.t.footprint o.dst.toNat) else dst })) ∧
    (¬quire → ∀ i ∈ [Instr.cpy o, .cpy2d o, .gath2d o, .scat2d o, .cpyw o, .chain o, .decode o], I.clear i = true →
      exec i s = .next (I.raises i { cause := 0x02, addr := 0 })) ∧
    (I.clear (.cpy2d o) = true → quire → 65535 < d 1 →
      exec (.cpy2d o) s = .next (I.raises (.cpy2d o) { cause := 0x02, addr := 0 })) ∧
    (∀ pl : Nat → Place, I.clear (.chain o) = true → quire → s.quiet I.core = true → o.src = 0 → o.dst = 0 →
      (∀ k < 9, I.fine .read 8 (Spec.long (d 0 + 2 ^ 32 * d 1) + BitVec.ofNat 64 (8 * k)) (pl k)) → s.freshL1 I.core →
      let bs := (List.range 9).flatMap fun k => s.mem.readAt s.free (pl k).host (pl k).key (pl k).pa 8
      let f := fun (a n : Nat) => ofLe ((bs.drop a).take n)
      let size := fun (fmt : Nat) => if fmt = 0 then 4 else 2
      let inOrder := 1 ≤ f 4 1 ∧ f 4 1 ≤ 8 ∧ f 5 1 ≤ 2 ∧ f 6 1 ≤ 2 ∧ f 7 1 = 0 ∧ ∀ k < 8,
        if k < f 4 1 then 1 ≤ f (8 + 8 * k) 1 ∧ f (8 + 8 * k) 1 ≤ 8 ∧ f (9 + 8 * k) 3 = 0 ∧
          (5 ≤ f (8 + 8 * k) 1 → f (12 + 8 * k) 4 = 0)
        else f (8 + 8 * k) 8 = 0
      ∃ m, s.mem.sameButCaches m ∧
        (¬inOrder → exec (.chain o) s = .next ({ I with s := s.setMem m }.raises (.chain o) { cause := 0x02, addr := 0 })) ∧
        (inOrder → dst.toNat % size (f 6 1) = 0 → src.toNat % size (f 5 1) = 0 → f 0 4 ≠ 0 →
          exec (.chain o) s = .next (I.started (.chain o) (s.setMem m)
            { command .chain [⟨src, dst, f 0 4 * size (f 6 1)⟩] with
              inBytes := size (f 5 1), outBytes := size (f 6 1), inFmt := f 5 1, outFmt := f 6 1
              chain := (List.range (f 4 1)).map fun k => (f (8 + 8 * k) 1, BitVec.ofNat 32 (f (12 + 8 * k) 4)) }))) ∧
    (I.clear (.decode o) = true → quire → s.quiet I.core = true →
      let t6 := d 1 / 8 % 2 = 1
      let inOrder := d 0 ≠ 0 ∧ d 1 / 2 ^ 16 ≠ 0 ∧ d 1 / 16 % 2 ^ 12 = 0 ∧
        (if t6 then d 3 % 2 ^ 16 ≠ 0 ∧ d 3 / 2 ^ 16 ≠ 0 else d 3 = 0)
      (¬inOrder → exec (.decode o) s = .next (I.raises (.decode o) { cause := 0x02, addr := 0 })) ∧
      (inOrder → dst.toNat % 16 ≠ 0 → exec (.decode o) s = .next (I.raises (.decode o) { cause := 0x05, addr := dst })) ∧
      let n := max 64 (d 2)
      (inOrder → dst.toNat % 16 = 0 → ¬inside o.dst dst n → exec (.decode o) s = .next (I.raises (.decode o)
        { cause := 0x08, addr := if dst.toNat < I.t.footprint o.dst.toNat then BitVec.ofNat 64 (I.t.footprint o.dst.toNat) else dst })) ∧
      (inOrder → dst.toNat % 16 = 0 → inside o.dst dst n → exec (.decode o) s = .next (I.started (.decode o) s
        { command .decode [⟨src, 0, d 0⟩] with
          dstSpace := 3
          params := (List.range 4).map (fun k => I.g.read (o.w.d.toNat + k) u) ++
            [dst.extractLsb' 0 32, dst.extractLsb' 32 32, o.dst.setWidth 32] })))

/-- A running command with one run left to move, all of its bytes in order and no page boundary inside it, moves one word of
its destination (R158, R337, R338, R342): which one is free (log 29). It writes the bytes of one 4 B word, from the source
bytes or through CHAIN's list, or it reads the source bytes of that word up to the end of one of their words, and writes
nothing yet; a unit so begun is finished with the bytes that stand in the others then. Nothing else changes but the tags, keys
and L2 lines of what it writes and reads. COPY_COMPLETE ends a command with nothing left to move, and CPY falls. -/
def Obligations.CopyProgress : Prop :=
  ∀ (s : State) (e : Engine) (c : Context), s.engine s.ev.cmd = some e → s.context e.ctx = some c → c.st = .active →
    e.dead = none → e.st = .running → e.kind ≠ .readPort → e.kind ≠ .writePort → e.kind ≠ .decode → e.channel = false →
    (∀ (src dst : Addr) (len : Nat) (P Q : Place) (v : Team), s.remoteOp s.ev.cmd = none → s.ev.n = 1 →
      e.rest = [⟨src, dst, len⟩] → 0 < len → e.quire = none → s.team e.team = some v →
      (if e.kind = .chain then (e.inBytes = 2 ∨ e.inBytes = 4) ∧ (e.outBytes = 2 ∨ e.outBytes = 4) else e.inBytes = 1 ∧ e.outBytes = 1) →
      len % e.outBytes = 0 → dst.toNat % e.outBytes = 0 →
      let S := fun n => n / e.outBytes * e.inBytes
      let at' := fun (k : Nat) =>
        if e.srcSpace = 0 then (s.mem.see s.free P.key (P.pa + k) 1).headD 0 else lookup 0 (v.buffer e.srcSpace) (src.toNat + k)
      ((e.srcSpace = 0 ∧ src.toNat % 65536 + S len ≤ 65536 ∧ P.host = false ∧ P.cell = false ∧
          ∀ k < S len, s.translate c e.place.die (coreIdx e.place) .read (src + BitVec.ofNat 64 k) = .ok { P with pa := P.pa + k } ∧
            s.unitBad ((P.pa + k) / 64) = false) ∨
        ((e.srcSpace = 1 ∨ e.srcSpace = 2) ∧ src.toNat + S len ≤ 2 ^ 32)) →
      ((e.dstSpace = 0 ∧ dst.toNat % 65536 + len ≤ 65536 ∧ Q.host = false ∧ Q.cell = false ∧ Q.pa % 64 = dst.toNat % 64 ∧
          ∀ k < len, s.translate c e.place.die (coreIdx e.place) .write (dst + BitVec.ofNat 64 k) = .ok { Q with pa := Q.pa + k } ∧
            s.unitBad ((Q.pa + k) / 64) = false) ∨
        ((e.dstSpace = 1 ∨ e.dstSpace = 2) ∧ e.teams = [e.team] ∧ dst.toNat + len ≤ 2 ^ 32)) →
      let U := s.dropWaits (.engine s.ev.cmd)
      let out := fun (bs : List Byte) (j : Nat) =>
        if e.kind = .chain then
          BitVec.ofNat 8 (Spec.chained e.inFmt e.outFmt e.chain (ofLe ((bs.drop (j / e.outBytes * e.inBytes)).take e.inBytes)) /
            2 ^ (8 * (j % e.outBytes)))
        else bs.getD j 0
      let unit := fun (a b : Nat) => (⟨src + BitVec.ofNat 64 (S a), dst + BitVec.ofNat 64 a, b - a⟩ : Run)
      let word := fun (a b : Nat) => a < b ∧ b ≤ len ∧ b ≤ a + 4 ∧ (a = 0 ∨ (dst.toNat + a) % 4 = 0) ∧ (b = len ∨ (dst.toNat + b) % 4 = 0)
      let finished := fun (a b : Nat) (got : List Byte) => ∃ t, exec .copyProgress s = .next t ∧
        let bs := got ++ (List.range (S (b - a) - got.length)).map fun k => at' (S a + got.length + k)
        t.engine s.ev.cmd = some { e with rest := [unit 0 a, unit b len].filter (fun r => r.len != 0), cur := none, got := [] } ∧
        (∀ k, k ≠ s.ev.cmd → t.engine k = s.engine k) ∧
        t = { U with engines := t.engines, teams := t.teams, mem := { s.mem with
          bytes := t.mem.bytes, tags := t.mem.tags, keyed := t.mem.keyed, lines := t.mem.lines } } ∧
        (e.dstSpace = 0 → t.teams = s.teams ∧
          (∀ x, t.mem.byteAt x = if Q.pa + a ≤ x ∧ x < Q.pa + b then out bs (x - (Q.pa + a))
            else if x / 128 = (Q.pa + a) / 128 ∧ s.mem.keyOf (x / 128) ≠ Q.key then Config.underKey s.free x else s.mem.byteAt x) ∧
          (∀ u, t.mem.tag u = if u = (Q.pa + a) / 64 then .val else s.mem.tag u)) ∧
        (e.dstSpace ≠ 0 → t.mem = { s.mem with lines := t.mem.lines } ∧ (∀ k, k ≠ e.team → t.team k = s.team k) ∧
          ∃ w, t.team e.team = some w ∧ w = (if e.dstSpace = 1 then { v with abuf := w.abuf } else { v with wbuf := w.wbuf }) ∧
            ∀ x, lookup 0 (w.buffer e.dstSpace) x = if dst.toNat + a ≤ x ∧ x < dst.toNat + b then out bs (x - (dst.toNat + a))
              else lookup 0 (v.buffer e.dstSpace) x)
      let begun := fun (a b : Nat) => ∃ t n, exec .copyProgress s = .next t ∧ 0 < n ∧ n < S (b - a) ∧ (src.toNat + S a + n) % 4 = 0 ∧
        t.engine s.ev.cmd = some { e with cur := some (unit a b), got := (List.range n).map fun k => at' (S a + k) } ∧
        (∀ k, k ≠ s.ev.cmd → t.engine k = s.engine k) ∧ t = { U with engines := t.engines, mem := { s.mem with lines := t.mem.lines } }
      (e.cur = none → e.got = [] → ∃ a b, word a b ∧ (finished a b [] ∨ begun a b)) ∧
      (∀ a b, word a b → a % e.outBytes = 0 → b % e.outBytes = 0 → e.cur = some (unit a b) → e.got ≠ [] →
        e.got.length < S (b - a) → finished a b e.got)) ∧
    (e.rest = [] → ∃ t, exec .copyComplete s = .next t ∧ t.engine s.ev.cmd = none ∧ t.mem = s.mem ∧
      t.teams = s.teams ∧ s.sameButGroup { t with engines := s.engines, waits := s.waits } e.gid ∧
      ∀ g, s.group e.gid = some g → (∀ p ∈ g.ops, p.cls = .cpy → p.seq = e.seq) →
        ∃ h, t.group e.gid = some h ∧ h.counter .cpy = 0 ∧ h.regs = g.regs)

/-- Queue ports (R343 to R345). QBIND starts a stream and binds the port; a port already bound or a length that is no
multiple of 4 traps ILLEGAL_ENCODING, an aliased one ALIAS_CONFLICT, a misaligned address MISALIGNED. QEND of an unbound
port has no effect, of a read port ends the stream at once, of a write port waits for a result that is still to land there
and then lets its appended words be performed first.
QPORT_READ delivers word k to lane k, of the words buffered up to the first that is missing, with zeros behind the last; the
words of a channel are acquired. A closed port with no word left gives zeros and sets CC.E. QPORT_WRITE appends what an
instruction wrote, in ascending lane order. (A binding comes after the accesses of its lanes that are on their way, log 6.) -/
def Obligations.QueuePorts : Prop :=
  (∀ (s : State) (I : Issue) (o : XferOp) (u : Nat), s.issue = some I → (lanesOf (I.maskOn o.w.m)).head? = some u → o.q = false →
    let at' := Spec.long (Spec.pairValue I o.w.xa o.w.a u)
    let len := (I.xbar o.w.xb o.w.b u).toNat
    let stream := fun (kind : EngineKind) (run : Run) =>
      ({ cid := s.nextId, kind := kind, ctx := I.c.num, gid := I.g.gid, seq := I.g.nextSeq, team := I.t.tid
         place := I.t.place, cls := I.g.sched.toNat, lineage := I.g.lineage, srcSpace := o.src.toNat, dstSpace := o.dst.toNat
         runs := [run], rest := [run].filter (fun r => r.len != 0), teams := [I.t.tid], pc := I.cl.pc } : Engine)
    let bound := fun (i : Instr) (dir : PortDir) (e : Engine) => exec i s = .next (I.ended i
      ({ s with nextId := s.nextId + 1, engines := s.engines ++ [e] }.onGroup I.g.gid fun g =>
        { g.addOp { seq := 0, cls := .cpy, ref := s.nextId, acquire := e.writesGlobal } with
          ports := { reg := o.w.d.toNat, dir := dir, cmd := s.nextId } :: g.ports }))
    let trap := fun (i : Instr) (cause : Byte) (a : Addr) => exec i s = .next (I.raises i { cause := cause, addr := a })
    let free := I.g.port o.w.d.toNat = none ∧ len % 4 = 0
    let plain := I.g.aliased o.w.d.toNat = false ∧ at'.toNat % 4 = 0
    let inside := fun (space : BitVec 2) => space = 0 ∨ at'.toNat + len ≤ I.t.footprint space.toNat
    (I.clear (.qbindR o) = true → s.quiet I.core = true → free → plain → inside o.src →
      let channel := decide (o.src = 0 ∧ len = 0)
      let e := stream .readPort ⟨at', 0, len⟩
      bound (.qbindR o) .read
        { e with dstSpace := 3, channel := channel, rest := if channel then [⟨at', 0, 2 ^ 64⟩] else e.rest }) ∧
    (I.clear (.qbindW o) = true → s.quiet I.core = true → free → plain → inside o.dst →
      bound (.qbindW o) .write { stream .writePort ⟨0, at', len⟩ with srcSpace := 3 }) ∧
    (∀ i ∈ [Instr.qbindR o, .qbindW o], I.clear i = true →
      (¬free → trap i 0x02 0) ∧
      (free → I.g.aliased o.w.d.toNat = true → trap i 0x10 0) ∧
      (free → I.g.aliased o.w.d.toNat = false → at'.toNat % 4 ≠ 0 → trap i 0x05 at')) ∧
    (I.clear (.qend o) = true →
      (I.g.port o.w.d.toNat = none → exec (.qend o) s = .next (I.ended (.qend o) s)) ∧
      (∀ (p : Port) (e : Engine), I.g.port o.w.d.toNat = some p → s.engine p.cmd = some e → e.gid = I.g.gid →
        ((p.dir = .read ∨ (e.dead ≠ none ∧ I.g.pendingWrite p.reg (0 - 1) = false)) → ∃ t g, exec (.qend o) s = .next (I.ended (.qend o) t) ∧ t.engine p.cmd = none ∧
          t.group I.g.gid = some g ∧ g.port o.w.d.toNat = none ∧ g.regs = I.g.regs ∧ t.mem = s.mem) ∧
        (p.dir = .write → I.g.pendingWrite p.reg (0 - 1) = true → exec (.qend o) s = .next I.stalls) ∧
        (p.dir = .write → e.dead = none → I.g.pendingWrite p.reg (0 - 1) = false → ∃ t g, exec (.qend o) s = .next (I.ended (.qend o) t) ∧
          t.engine p.cmd = some { e with ending := true, data := e.data ++ p.given.flatMap fun w => leBytes 4 w.2.toNat } ∧
          t.group I.g.gid = some g ∧ g.port o.w.d.toNat = none ∧ g.regs = I.g.regs ∧ t.mem = s.mem)))) ∧
  ∀ (s : State) (g : Group) (t : Team) (c : Context) (p : Port) (e : Engine), s.group s.ev.g = some g → s.home g = some (t, c) →
    let v := s.ev.port.toNat
    124 ≤ v → g.port v = some p → s.engine p.cmd = some e → e.ready.length % 4 = 0 →
    let words := e.ready.length / 4
    let closed := e.dead = none ∧ (e.channel = false ∨ e.closed = true) ∧ e.rest = []
    (p.dir = .read → p.wanted = true → p.taken = none →
      ((64 ≤ words ∨ ((closed ∨ e.dead ≠ none) ∧ words ≠ 0)) → ∃ u h, exec .qportRead s = .next u ∧ u.group g.gid = some h ∧
        (∀ k < 64, h.read v k = BitVec.ofNat 32 (if k < words then ofLe ((e.ready.drop (4 * k)).take 4) else 0)) ∧
        u.engine p.cmd = some { e with base := e.base + 4 * min 64 words, data := e.data.drop (4 * min 64 words) } ∧
        u.mem = (if e.channel then { s.mem with sectors := s.mem.sectors.filter fun x => x.core != coreIdx t.place } else s.mem) ∧
        h.splits = g.splits ∧ h.regs = g.regs) ∧
      (closed → words = 0 → ∃ u h, exec .qportRead s = .next u ∧ u.group g.gid = some h ∧ (∀ k < 64, h.read v k = 0) ∧
        (∀ cl, g.clause = some cl → ∀ x ∈ h.splits, x.label = cl.split → x.cc.getLsbD 4 = true) ∧ h.regs = g.regs) ∧
      (words < 64 → ¬closed → e.dead = none → exec .qportRead s = .next s)) ∧
    (p.dir = .write → p.given ≠ [] → g.pendingWrite p.reg (0 - 1) = false → e.dead = none → ∃ u h,
      exec .qportWrite s = .next u ∧ u.group g.gid = some h ∧ h.port v = some { p with given := [], wanted := false } ∧
      u.engine p.cmd = some { e with data := e.data ++ p.given.flatMap fun w => leBytes 4 w.2.toNat } ∧
      u.mem = s.mem ∧ h.regs = g.regs)

/-- Node input queues (R241 to R243, R246). ENQ appends one record for each of its lanes, in ascending order, while the
queue has entries, and otherwise parks with the rest, which it keeps as it read it; with older parked ENQs it appends
nothing. A parked ENQ that goes on appends what it kept. The record that completes the coalescing count makes a gathering
of them all, as a launch of its own, or, where that is refused, they are lost with an event. The try form appends all or
nothing and sets CC.Z. A queue that the context has not traps SOFTWARE, an ended one QUEUE_DEAD. A queue whose oldest
record has waited for its time forms a gathering of all of them; closing a queue does so too, and refuses a second close. While
the kernel's record or image lies on a page under invalidation no gathering forms (R133). The model's choices: the records
are plain data, and the bytes of the queue's storage stay (log 19); what the device cannot read of the kernel's record is free
(log 27); ENQ comes after the accesses of its lanes and the writes of its core that are on their way (log 6). -/
def Obligations.NodeQueues : Prop :=
  (∀ (s : State) (I : Issue) (o : XferOp) (u : Nat), s.issue = some I → (lanesOf (I.maskOn o.w.m)).head? = some u →
    (∀ k < 16, I.g.port (o.w.b.toNat + k) = none) → s.quiet I.core = true → I.g.enq = none →
    let n := I.xbar o.w.xa o.w.a u
    let ls := lanesOf (I.maskOn o.w.m)
    let words := fun (i : Nat) => (List.range 16).map fun k => I.g.read (o.w.b.toNat + k) i
    let rcd := fun (i : Nat) => (⟨words i, s.cycle⟩ : Rec)
    let with' := fun (q : NodeQueue) (rs : List Rec) (waiting : List Nat) =>
      s.setContext (I.c.setQueue { q with recs := q.recs ++ rs, parked := waiting })
    let stops := fun (i : Instr) (cause : Byte) => exec i s = .next (I.raises i { cause := cause, addr := n.setWidth 64 })
    let parks := fun (t : State) (done : Nat) (num : Nat) (rest : List Nat) => exec (.enq o) s = .next (t.setGroup { I.g with
      enqDone := done, enq := some (num, rest.map words), status := .parked .enq, since := s.cycle })
    let fills := fun (q : NodeQueue) (run : State → Prop) =>
      q.parked = [] → ls.length ≤ q.free → q.recs.length + ls.length = q.coalesce →
      let c := I.c.setQueue { q with recs := q.recs ++ ls.map rcd }
      let full := s.setContext c
      let r := launchRec (full.devRead c q.kernel 128)
      let k := full.kernelSaw c q.kernel
      (full.kernelWaits c q.kernel = true → run full) ∧
      (full.kernelWaits c q.kernel = false →
      (∀ p, k.prepareUnit c r r.unit .node k.dev.signature none = .ok p → ∃ t l, run t ∧
        t.context I.c.num = some (I.c.setQueue { q with
          recs := [], gatherings := q.gatherings ++ [⟨q.recs ++ ls.map rcd, s.nextId⟩] }) ∧
        t.launches = s.launches ++ [l] ∧ l.lid = s.nextId ∧ l.ctx = I.c.num ∧ l.origin = .gathering q.num ∧ l.st = .ready ∧
        l.variant = some p.variant ∧ l.entry = p.entry ∧ t.groups = s.groups ∧ t.mem = k.mem) ∧
      (∀ code, k.prepareUnit c r r.unit .node k.dev.signature none = .error code →
        run ((k.setContext (I.c.setQueue { q with recs := [] })).raise
          (portEvent 5 I.c.num code 0xFF q.num 0 q.coalesce 0))))
    (∀ i ∈ [Instr.enq o, .enqTry o], I.clear i = true →
      (I.c.queue n.toNat = none → stops i 0x18) ∧
      (∀ q, I.c.queue n.toNat = some q → (q.closing = true ∨ q.closed = true) → stops i 0x0D)) ∧
    (∀ q, I.c.queue n.toNat = some q → q.closing = false → q.closed = false →
      (I.clear (.enq o) = true → I.g.enqDone = 0 →
        (q.parked = [] → ls.length ≤ q.free → q.recs.length + ls.length < q.coalesce →
          exec (.enq o) s = .next (I.ended (.enq o) (with' q (ls.map rcd) []))) ∧
        fills q (fun t => exec (.enq o) s = .next (I.ended (.enq o) t)) ∧
        (q.parked = [] → q.free < ls.length → q.recs.length + q.free < q.coalesce →
          parks (with' q ((ls.take q.free).map rcd) [I.g.gid]) q.free q.num (ls.drop q.free)) ∧
        (∀ h w, q.parked = h :: w → h ≠ I.g.gid → I.g.gid ∉ w → parks (with' q [] (q.parked ++ [I.g.gid])) 0 q.num ls)) ∧
      (I.clear (.enqTry o) = true →
        (q.parked = [] → ls.length ≤ q.free → q.recs.length + ls.length < q.coalesce →
          exec (.enqTry o) s = .next (I.ended (.enqTry o) ((with' q (ls.map rcd) []).setGroup (I.g.setZ I.sp.label true)))) ∧
        fills q (fun t => exec (.enqTry o) s = .next (I.ended (.enqTry o) (t.setGroup (I.g.setZ I.sp.label true)))) ∧
        ((q.parked ≠ [] ∨ q.free < ls.length) →
          exec (.enqTry o) s = .next (I.ended (.enqTry o) (s.setGroup (I.g.setZ I.sp.label false))))))) ∧
  (∀ (s : State) (I : Issue) (o : XferOp) (q : NodeQueue) (n : Nat) (rs : List (List Word)), s.issue = some I →
    I.g.enq = some (n, rs) → n < 2 ^ 32 → I.c.queue n = some q → I.g.ports = [] →
    ((q.closing = true ∨ q.closed = true) → exec (.enq o) s = .next (I.raises (.enq o)
      { cause := 0x0D, addr := BitVec.ofNat 64 n })) ∧
    (∀ w, q.closing = false → q.closed = false → q.parked = I.g.gid :: w → I.g.gid ∉ w →
      (rs.length ≤ q.free → q.recs.length + rs.length < q.coalesce → exec (.enq o) s = .next (I.ended (.enq o)
        (s.setContext (I.c.setQueue { q with recs := q.recs ++ rs.map (⟨·, s.cycle⟩), parked := w })))) ∧
      (q.free < rs.length → q.recs.length + q.free < q.coalesce → exec (.enq o) s = .next
        ((s.setContext (I.c.setQueue { q with recs := q.recs ++ (rs.take q.free).map (⟨·, s.cycle⟩) })).setGroup { I.g with
          enqDone := I.g.enqDone + q.free, enq := some (q.num, rs.drop q.free), status := .parked .enq
          since := s.cycle })))) ∧
  (∀ (s : State) (g : Group) (t : Team) (c : Context), s.group s.ev.g = some g → s.home g = some (t, c) →
    let may := ∃ q ∈ c.queues, g.gid ∈ q.parked ∧ (q.ended = true ∨ (q.parked.head? = some g.gid ∧ 0 < q.free))
    (g.status = .parked .enq → may → exec .enqResume s = .next (s.setGroup { g with
      status := if g.window then .windowed else .resident, since := s.cycle, ageFrom := s.cycle })) ∧
    ((g.status ≠ .parked .enq ∨ ¬may) → exec .enqResume s = .next s)) ∧
  (∀ (s : State) (c : Context) (q : NodeQueue), s.context s.ev.ctx = some c → c.queue s.ev.queue = some q →
    (∀ r w, q.recs = r :: w → q.timeout ≠ 0 → r.at' + q.timeout * Config.cyclesPerUs ≤ s.cycle → q.ended = false → c.st ≠ .ending →
      let r := launchRec (s.devRead c q.kernel 128)
      let k := s.kernelSaw c q.kernel
      (s.kernelWaits c q.kernel = true → exec .queueTimeout s = .next s) ∧
      ∀ p, s.kernelWaits c q.kernel = false → k.prepareUnit c r r.unit .node k.dev.signature none = .ok p → ∃ t l, exec .queueTimeout s = .next t ∧
        t.context s.ev.ctx = some (c.setQueue { q with recs := [], gatherings := q.gatherings ++ [⟨q.recs, s.nextId⟩] }) ∧
        t.launches = s.launches ++ [l] ∧ l.lid = s.nextId ∧ l.ctx = c.num ∧ l.origin = .gathering q.num ∧ l.st = .ready ∧
        l.variant = some p.variant ∧ l.entry = p.entry ∧ t.groups = s.groups ∧ t.mem = k.mem) ∧
    ((q.recs = [] ∨ q.timeout = 0 ∨ q.ended = true ∨ (∃ r w, q.recs = r :: w ∧ s.cycle < r.at' + q.timeout * Config.cyclesPerUs)) →
      exec .queueTimeout s = .next s)) ∧
  ∀ (s : State) (c : Context) (q : NodeQueue), s.commanded 0x17 0 true [(16, 2)] → s.context (cmdCtx s.ev.entry) = some c →
    c.queue (cmdField s.ev.entry 16 2) = some q →
    (q.ended = true → exec .closeNodeQueue s = .next (s.completes s true 2 3)) ∧
    (q.ended = false → q.recs = [] → q.gatherings = [] → exec .closeNodeQueue s = .next (s.completes
      (s.setContext (c.setQueue { q with closing := true, closed := true, closeTag := cmdTag s.ev.entry })) true 0 0)) ∧
    (q.ended = false → q.recs = [] → q.gatherings ≠ [] → exec .closeNodeQueue s = .next
      (s.setContext (c.setQueue { q with closing := true, closeTag := cmdTag s.ev.entry }))) ∧
    (q.ended = false → q.recs ≠ [] →
      let d := c.setQueue { q with closing := true, closeTag := cmdTag s.ev.entry }
      let full := s.setContext d
      let r := launchRec (full.devRead d q.kernel 128)
      let k := full.kernelSaw d q.kernel
      (full.kernelWaits d q.kernel = true → exec .closeNodeQueue s = .next full) ∧
      (∀ p, full.kernelWaits d q.kernel = false → k.prepareUnit d r r.unit .node k.dev.signature none = .ok p →
        ∃ t l, exec .closeNodeQueue s = .next t ∧ t.context c.num = some (c.setQueue { q with
            closing := true, closeTag := cmdTag s.ev.entry, recs := []
            gatherings := q.gatherings ++ [⟨q.recs, s.nextId⟩] }) ∧
          t.launches = s.launches ++ [l] ∧ l.lid = s.nextId ∧ l.ctx = c.num ∧ l.origin = .gathering q.num ∧ l.st = .ready ∧
          t.groups = s.groups ∧ t.mem = k.mem) ∧
      (∀ code, full.kernelWaits d q.kernel = false → k.prepareUnit d r r.unit .node k.dev.signature none = .error code →
        let lost := fun (done : Bool) => c.setQueue { q with
          closing := true, closed := done, closeTag := cmdTag s.ev.entry, recs := [] }
        let t := (k.setContext (lost false)).raise (portEvent 5 c.num code 0xFF q.num 0 q.recs.length 0)
        exec .closeNodeQueue s = .next
          (if q.gatherings = [] then s.completes (t.setContext (lost true)) true 0 0 else t)))

/-! ### The fabric -/

/-- PSET, PCOUNT and COORD (R304, R314, R321): PSET writes the slot alone; PCOUNT gives the number of members, COORD this
device's rank, or 0xFFFFFFFF where it does not match, and its linear index; their results land later. A malformed pattern traps
ILLEGAL_ENCODING (R311). (Each is a release of its lanes at its issue, and comes after what they have on its way, log 6.)
The members of a pattern (R299, R302, R303): the coordinates of the grid that match on every axis, without this
device's own unless it is taken in; each once, in ascending linear index, or with order 1 in ascending index with axis 4
fastest. -/
def Obligations.PatternResults : Prop :=
  (∀ (s : State) (I : Issue) (o : Sys2Proof.FabOp) (u : Nat), s.issue = some I → (lanesOf (I.maskOn o.w.m)).head? = some u →
     let p := I.g.patterns.getD o.pat.toNat (0, 0, 0)
     let w := fun k => I.g.xbar o.w.xa (o.w.a.toNat + k) u
     let all := I.c.map.members I.ownCoord p true
     let ls := lanesOf (I.maskOn o.w.m)
     (I.clear (.pset o) = true →
       (Spec.patternFits I.c.map (w 0, w 1, w 2) → ∃ g, exec (.pset o) s = .next (I.ended (.pset o) (s.setGroup g)) ∧
         g = { I.g with patterns := g.patterns } ∧
         ∀ k < 8, g.patterns.getD k (0, 0, 0) = if k = o.pat.toNat then (w 0, w 1, w 2) else I.g.patterns.getD k (0, 0, 0)) ∧
       (¬Spec.patternFits I.c.map (w 0, w 1, w 2) → exec (.pset o) s = .next (I.raises (.pset o) { cause := 0x02, addr := 0 }))) ∧
     (Spec.patternFits I.c.map p →
       (I.clear (.pcount o) = true → s.quiet I.core = true → exec (.pcount o) s = .next (I.postedFrom (.pcount o) s .ld (ls.map fun i =>
         (64 * o.w.d.toNat + i, Spec.word (I.c.map.members I.ownCoord p (p.2.2.getLsbD 16)).length)))) ∧
       (I.clear (.coord o) = true → s.quiet I.core = true → exec (.coord o) s = .next (I.postedFrom (.coord o) s .ld (ls.flatMap fun i =>
         [(64 * o.w.d.toNat + i, if I.ownCoord ∈ all then Spec.word (all.idxOf I.ownCoord) else 0xFFFFFFFF),
          (64 * (o.w.d.toNat + 1) + i, Spec.word (I.c.map.own s.dev.index))])))) ∧
     (¬Spec.patternFits I.c.map p → ∀ i ∈ [Instr.pcount o, .coord o, .rst o, .rstBlock o, .rld o, .ratomAdd o, .ratomFadd o,
         .ratomFmaxa o, .ratomCas o, .ratomIncb o, .rredAdd o, .rredFadd o, .rredFmaxa o, .rcpy o, .rsig o, .rwait o],
       I.clear i = true → (i = .rwait o → I.g.woken = false ∧ I.g.prog ≠ 1) → exec i s = .next (I.raises i { cause := 0x02, addr := 0 }))) ∧
  (∀ (m : GridMap) (own : List Nat) (p : Word × Word × Word) (self : Bool),
     (∀ c, c ∈ m.members own p self ↔
       c.length = m.sizes.length ∧ (∀ a < m.sizes.length, c.getD a 0 < m.sizes.getD a 0) ∧
       (∀ a < 5, Spec.axisMatches (Spec.axis p a) (own.getD a 0) (c.getD a 0)) ∧ (self = true ∨ c ≠ own)) ∧
     (m.members own p self).Pairwise fun c d =>
       if p.2.2.toNat / 2 ^ 17 % 4 = 1 then linearOf m.sizes.reverse c.reverse < linearOf m.sizes.reverse d.reverse
       else linearOf m.sizes c < linearOf m.sizes d)

/-- The remote instructions at issue, their pattern well formed and every member's link up (R303, R311, R313, R315 to R320,
R332, R333): one operation over the members in rank order. RST, RLD, RATOM and RSIG send their request to each member,
none of which is this device; RCPY, RRED and RESHARD have their streams still to send. RLD and RATOM, at one member, leave
their registers outstanding. An operation without members completes at once; a member that cannot be reached traps
REMOTE_UNREACHABLE, another number of members than one PATTERN_ARITY. RWAIT takes its target off the counter, or waits, with
the target of its issue. The accesses of the lanes are performed, since the issue is a release (R167; log 6). (The model's
choices: bits of RRED's root on axes without wildcard or range are ignored, log 75; requests queue behind their link before
they leave as flits, log 17.) -/
def Obligations.RemoteIssue : Prop :=
  ∀ (s : State) (I : Issue) (o : Sys2Proof.FabOp) (u : Nat), s.issue = some I → (lanesOf (I.maskOn o.w.m)).head? = some u →
    s.quiet I.core = true →
    let p := I.g.patterns.getD o.pat.toNat (0, 0, 0)
    let cs := I.c.map.members I.ownCoord p (p.2.2.getLsbD 16)
    let entry := fun (c : List Nat) => I.c.map.entries.getD (linearOf I.c.map.sizes c) (0, 0)
    let ls := lanesOf (I.maskOn o.w.m)
    let at' := fun (i : Nat) => Spec.long (Spec.pairValue I o.w.xa o.w.a i)
    let src := Spec.long (Spec.pairValue I o.w.xb o.w.b u)
    let word := fun (i : Nat) => leBytes 4 (I.xbar o.w.xb o.w.b i).toNat
    let linked := fun (c : List Nat) => ∃ l, s.link (entry c).1 false = some l ∧ (l.st = .up ∨ l.st = .degraded)
    let reached := fun (c : List Nat) => (entry c).1 = s.dev.index ∨ linked c
    let away := ∀ c ∈ cs, (entry c).1 ≠ s.dev.index ∧ linked c
    let member := fun (owed k : Nat) (c : List Nat) =>
      ({ rank := k, dev := (entry c).1, ctx := (entry c).2, coord := BitVec.ofNat 64 (packCoord c), owed := owed } : Member)
    let members := fun (owed : Nat) => (List.range cs.length).map fun k => member owed k (cs.getD k [])
    let request := fun (kind : ReqKind) (sub : BitVec 3) (parts : List ReqPart) (inc : Word) =>
      ({ src := s.dev.index, srcCtx := I.c.num, dstCtx := 0, tag := s.nextId, rank := 0, kind := kind, ctr := o.ctr, sub := sub
         parts := parts, inc := inc, contrib := none } : Req)
    let op := fun (funct : Nat) (ms : List Member) (r : Req) (unsent : List Send) (many : Bool) (ld : Option Nat) =>
      ({ oid := s.nextId, ctx := I.c.num, gid := I.g.gid, seq := if ld = none then I.g.nextSeq else I.g.nextSeq + 1, ldSeq := ld
         lanes := I.maskOn o.w.m, req := r, members := ms, unsent := unsent, place := I.t.place, cls := I.g.sched.toNat
         lineage := I.g.lineage, pc := I.cl.pc, funct := funct, collective := many } : RemoteOp)
    let many := decide (1 < cs.length)
    let raises := fun (i : Instr) (cause : Byte) => exec i s = .next (I.raises i { cause := cause, addr := 0 })
    (Spec.patternFits I.c.map p → cs ≠ [] → away →
      (I.clear (.rst o) = true → (∀ i ∈ ls, (at' i).toNat % 4 = 0) →
        exec (.rst o) s = .next (I.sends (.rst o) s
          (op 1 (members 1) (request .rst o.sub (ls.map fun i => (⟨at' i, word i⟩ : ReqPart)) 0) [] many none) none)) ∧
      (∀ pl : Nat → Place, I.clear (.rstBlock o) = true → (at' u).toNat % 256 = 0 → src.toNat % 256 = 0 →
        (∀ k < 4, I.fine .read 1 (src + BitVec.ofNat 64 (64 * k)) (pl k)) →
        ∃ m, m = { s.mem with lines := m.lines } ∧ exec (.rstBlock o) s = .next (I.sends (.rstBlock o) (s.setMem m)
          (op 1 (members 1) (request .rst o.sub
            [⟨at' u, (List.range 4).flatMap fun k => s.mem.readAt s.free (pl k).host (pl k).key (pl k).pa 64⟩] 0) [] many none) none)) ∧
      (I.clear (.rsig o) = true → exec (.rsig o) s = .next (I.sends (.rsig o) s
        (op 6 (members 1) (request .rsig o.sub [] (I.xbar o.w.xb o.w.b u)) [] false none) none)) ∧
      (cs.length = 1 → (∀ i ∈ ls, (at' i).toNat % 4 = 0) →
        let due := if o.w.d = 0 then [] else ls.map fun i => 64 * o.w.d.toNat + i
        (I.clear (.rld o) = true → exec (.rld o) s = .next (I.sends (.rld o) s
          (op 2 (members 1) (request .rld o.sub (ls.map fun i => (⟨at' i, []⟩ : ReqPart)) 0) [] false (some I.g.nextSeq)) (some due))) ∧
        (∀ x ∈ [(Instr.ratomAdd o, (0 : BitVec 3)), (.ratomFadd o, 1), (.ratomFmaxa o, 2), (.ratomCas o, 3), (.ratomIncb o, 4)],
          I.clear x.1 = true → exec x.1 s = .next (I.sends x.1 s
            (op 3 (members 1) (request .ratom x.2 (ls.map fun i => (⟨at' i, word i ++
              (if x.2 = 3 then leBytes 4 (I.g.xbar o.w.xb (o.w.b.toNat + 1) i).toNat else [])⟩ : ReqPart)) 0) [] false (some I.g.nextSeq))
            (some due))))) ∧
    (Spec.patternFits I.c.map p → cs.length ≠ 1 → ∀ i ∈ [Instr.rld o, .ratomAdd o, .ratomFadd o, .ratomFmaxa o, .ratomCas o, .ratomIncb o],
      I.clear i = true → raises i 0x14) ∧
    (I.clear (.rcpy o) = true → Spec.patternFits I.c.map p →
      let n := (I.g.read o.w.d.toNat u).toNat
      ((n % 4 ≠ 0 ∨ n < 4 ∨ 16777216 < n) → raises (.rcpy o) 0x02) ∧
      (n % 4 = 0 → 4 ≤ n → n ≤ 16777216 → (at' u).toNat % 4 = 0 → src.toNat % 4 = 0 →
        (cs = [] → exec (.rcpy o) s = .next (I.ended (.rcpy o)
          (s.onGroup I.g.gid fun g => g.addOp { seq := 0, cls := .fab, done := true }))) ∧
        (cs ≠ [] → (∀ c ∈ cs, reached c) → exec (.rcpy o) s = .next (I.sends (.rcpy o) s
          (op 5 (members 0) (request .rcpy o.sub [] 0) [⟨List.range cs.length, src, at' u, n, none, 0⟩] many none) none)) ∧
        (∀ (k : Nat) (c : List Nat), cs[k]? = some c → ¬reached c → (∀ (j : Nat) (d : List Nat), j < k → cs[j]? = some d → reached d) →
          exec (.rcpy o) s = .next (I.raises (.rcpy o) { cause := 0x13, addr := BitVec.ofNat 64 (packCoord c) })))) ∧
    (∀ x ∈ [(Instr.rredAdd o, 0), (.rredFadd o, 1), (.rredFmaxa o, 2)], I.clear x.1 = true → Spec.patternFits I.c.map p →
      let all := I.c.map.members I.ownCoord p true
      let off := (I.g.read o.w.d.toNat u).toNat
      let n := (I.g.read (o.w.d.toNat + 1) u).toNat
      let root := fun (a : Nat) => Spec.pairValue I o.w.xb o.w.b u / 2 ^ (7 * a) % 2 ^ 7
      let open' := fun (a : Nat) => (Spec.axis p a).toNat / 2 ^ 14 = 1 ∨ (Spec.axis p a).toNat / 2 ^ 14 = 2
      let D := (List.range I.ownCoord.length).map fun a => if open' a then root a else I.ownCoord.getD a 0
      I.ownCoord.length ≤ 5 → off % 128 = 0 → n % 128 = 0 → 128 ≤ n → n ≤ 1048576 →
      (I.ownCoord ∉ all → raises x.1 0x14) ∧
      (I.ownCoord ∈ all → (∀ a < 5, open' a → Spec.axisMatches (Spec.axis p a) (I.ownCoord.getD a 0) (root a) ∧ root a < I.c.map.size a) →
        (at' u).toNat % 4 = 0 → reached D →
        let r := all.idxOf I.ownCoord
        let k := if D ∈ all then all.idxOf D else 0
        exec x.1 s = .next (I.sends x.1 s
          (op 4 [member 0 k D] (request .rred o.sub [] 0)
            [⟨[k], at' u, BitVec.ofNat 64 (off + r * n), n, some
              { rred := true, offset := off, chunk := n, len := n, n := all.length, rank := r, op := x.2, slot := 0, result := 0
                pos := 0, data := [] }, 0⟩] true none) none))) ∧
    (I.clear (.rwait o) = true → Spec.patternFits I.c.map p →
      let t := cs.length * (I.xbar o.w.xb o.w.b u).toNat
      let v := lookup 0 I.c.counters o.ctr.toNat
      let flash := fun (s : State) => s.setMem { s.mem with sectors := s.mem.sectors.filter fun x => x.core != I.core }
      (((t = 0 ∧ I.g.prog ≠ 1) ∨ I.g.woken = true) → exec (.rwait o) s = .next (I.ended (.rwait o) (flash s))) ∧
      (I.g.prog = 1 → I.g.woken = false → exec (.rwait o) s = .next (I.parksOn .retry)) ∧
      (t ≠ 0 → I.g.woken = false → I.g.prog ≠ 1 → (∀ w ∈ I.c.rwaits, w.counter ≠ o.ctr.toNat) →
        (t ≤ v → ∃ c, exec (.rwait o) s = .next (I.ended (.rwait o) (flash (s.setContext c))) ∧
          c = { I.c with counters := c.counters } ∧
          ∀ k, lookup 0 c.counters k = if k = o.ctr.toNat then v - t else lookup 0 I.c.counters k) ∧
        (v < t → exec (.rwait o) s = .next ({ I with
            s := s.setContext { I.c with rwaits := I.c.rwaits ++ [(⟨o.ctr.toNat, I.g.gid, t⟩ : RWaiter)] }
            g := { I.g with prog := 1 } }.parksOn .retry)))) ∧
    (∀ (pl : Nat → Place) (e : Exchange), I.clear (.reshard o) = true → (at' u).toNat % 64 = 0 → src.toNat % 64 = 0 →
      I.fine .read 1 (at' u) (pl 0) → I.fine .read 1 src (pl 1) →
      let read := fun (k : Nat) => layoutOf (s.mem.readAt s.free (pl k).host (pl k).key (pl k).pa 64)
      I.exchange (read 0) (read 1) o.sub.toNat = .ok e →
      let ss := e.streams.filter fun x => x.len != 0
      let to' := (List.range (e.map.coords 0).length).filter fun r => ss.any fun x => x.ranks.contains r
      let ms := to'.map fun r => member 0 r ((e.map.coords 0).getD r [])
      ∃ m, m = { s.mem with lines := m.lines } ∧
      ((ss = [] ∨ to' = []) → exec (.reshard o) s = .next (I.ended (.reshard o)
        ((s.setMem m).onGroup I.g.gid fun g => g.addOp { seq := 0, cls := .fab, done := true }))) ∧
      (ss ≠ [] → to' ≠ [] → (∀ r ∈ to', reached ((e.map.coords 0).getD r [])) → exec (.reshard o) s = .next
        (I.sends (.reshard o) (s.setMem m) (op 8 ms (request .rcpy o.sub [] 0) ss true none) none)))

/-- What a request of another device comes to at the port (R305 to R310, R316, R317, R319, R325 to R327). Without a live
context or a range that grants its right it is refused REMOTE_DENIED, and reaches nothing: one range covers every byte of a
request (which lanes are refused where none does is log 70's choice); a page that forbids the access refuses it PERMISSION;
of several refused lanes the lowest-numbered gives the cause. A write whose bytes are all in order is performed, counted and
acknowledged (a line last written under another key loses its other bytes, log 16); one that meets TRANSLATION is appended to
the remote fault log, unanswered. RLD gives its words, RATOM applies its lanes in ascending order and is counted, and both are
told to retry where TRANSLATION stands in the way. RSIG adds its operand, and an RWAIT that it satisfies takes its target and
goes on. A contribution is written to its slot and counted in its chunk's entry, which the first one opens as it arrives, be
it logged; one that reaches beyond the staging region is refused (log 73's choice); the last one sends the combine record.
Behind a held request of its device or a full log a request is held. Walking the tables uses L2 lines. -/
def Obligations.RemoteArrivals : Prop :=
  ∀ (s : State) (r : Req), s.ev.req = some r → r.src ≠ s.dev.index → (r.contrib.isSome = true ↔ r.kind = .rred) →
    let arrival : Instr := match r.kind with
      | .rst => .remoteWriteArrive
      | .rcpy => .remoteWriteArrive
      | .rred => .contributionArrive
      | .rld => .remoteReadArrive
      | .ratom => .remoteAtomicArrive
      | .rsig => .remoteSignalArrive
    let right : Nat := match r.kind with | .rld => 0 | .ratom => 2 | .rsig => 3 | _ => 1
    let answered := fun (what : Reply) => s.replies ++ [⟨r.src, r.tag, r.rank, what⟩]
    let answers := fun (what : Reply) => exec arrival s = .next { s with replies := answered what }
    let walksAnswer := fun (what : Reply) => ∃ m, m = { s.mem with lines := m.lines } ∧
      exec arrival s = .next { s with mem := m, replies := answered what }
    (((∃ q ∈ s.held, q.req.src = r.src) ∨ ∃ c, s.context r.dstCtx = some c ∧ c.logFull = true) →
      exec arrival s = .next { s with held := s.held ++ [⟨r, false⟩] }) ∧
    (s.held = [] → s.context r.dstCtx = none → answers (.refused ⟨0x12, (r.parts.head?.map ReqPart.addr).getD 0, 0⟩)) ∧
    ∀ (c : Context) (P : Nat → Place), s.held = [] → s.context r.dstCtx = some c → c.logFull = false →
      let covers := fun (x : AccessRange) (a n : Nat) => x.src = r.src ∧ x.srcCtx = r.srcCtx ∧ x.rights.getLsbD right = true ∧
        (r.kind = .rsig ∨ (x.base ≤ a ∧ a + n ≤ x.base + x.len))
      let granted := fun (a n : Nat) => ∃ x ∈ c.access, covers x a n
      let isRead := r.kind = .rld ∨ r.kind = .ratom
      let isWrite := r.kind = .rst ∨ r.kind = .rcpy
      let use : Use := if r.kind = .rld then .read else if r.kind = .ratom then .update else .write
      let part := fun (i : Nat) => r.parts.getD i ⟨0, []⟩
      let ns := List.range r.parts.length
      let fine := fun (Q : Place) (a : Addr) => Q.host = false ∧ Q.pa % 64 = a.toNat % 64 ∧ logUnit a ∉ c.units
      let unitFine := fun (Q : Place) (k : Nat) => s.unitBad ((Q.pa + k) / 64) = false ∧ (Q.cell = true → s.mem.tag ((Q.pa + k) / 64) = .val)
      let writable := fun (Q : Place) (p : ReqPart) => fine Q p.addr ∧ ∀ k < p.data.length,
        s.portXlat c .write (p.addr + BitVec.ofNat 64 k) = .ok { Q with pa := Q.pa + k } ∧ unitFine Q k ∧
        logUnit (p.addr + BitVec.ofNat 64 k) ∉ c.units
      let lost := fun (Q : Place) (n x : Nat) => s.mem.keyOf (x / 128) ≠ Q.key ∧ ∃ k < n, (Q.pa + k) / 128 = x / 128
      let leftOver := fun (m : Memory) (gone : Prop) (x : Nat) =>
        (gone → m.byteAt x = Config.underKey s.free x) ∧ (¬gone → m.byteAt x = s.mem.byteAt x)
      let noWait := ∀ w ∈ c.rwaits, w.counter ≠ r.ctr.toNat
      let counts := fun (c' : Context) (n : Nat) => ∀ k, lookup 0 c'.counters k =
        if k = r.ctr.toNat then (lookup 0 c.counters k + n) % 2 ^ 48 else lookup 0 c.counters k
      (∀ p ps, r.parts = p :: ps → (isRead ∨ isWrite) →
        (¬granted p.addr.toNat (if isRead then 4 else p.data.length) → walksAnswer (.refused ⟨0x12, p.addr, 0⟩)) ∧
        (ps = [] → granted p.addr.toNat (if isRead then 4 else p.data.length) → p.addr.toNat % 4 = 0 →
          (isWrite → p.data.length = 4) → s.portXlat c use p.addr = .bad 0x07 → walksAnswer (.refused ⟨0x07, p.addr, 0⟩)) ∧
        (ps = [] → isRead → granted p.addr.toNat 4 → p.addr.toNat % 4 = 0 → s.portXlat c use p.addr = .bad 0x06 →
          walksAnswer .retry) ∧
        (isRead → granted p.addr.toNat 4 → p.addr.toNat % 4 = 0 → s.portXlat c use p.addr = .bad 0x07 →
          (∃ q ∈ ps, ¬granted q.addr.toNat 4) → walksAnswer (.refused ⟨0x07, p.addr, 0⟩)) ∧
        (ps = [] → isWrite → granted p.addr.toNat p.data.length → p.data ≠ [] → p.addr.toNat % 256 + p.data.length ≤ 256 →
          (∀ k < p.data.length, s.portXlat c .write (p.addr + BitVec.ofNat 64 k) = .bad 0x06) →
          c.logRoom (32 + (p.data.length + 31) / 32 * 32) = true → ∃ t c' e, exec arrival s = .next t ∧ t.replies = s.replies ∧
            t.context r.dstCtx = some c' ∧ c'.log = c.log ++ [e] ∧ e.seq = c.logSeq ∧ e.va = p.addr ∧ e.data = p.data ∧
            c'.logSeq = c.logSeq + 1 ∧ p.addr.toNat / 65536 * 65536 ∈ c'.units ∧ c'.counters = c.counters)) ∧
      (isWrite → (∃ x ∈ c.access, ∀ i ∈ ns, covers x (part i).addr.toNat (part i).data.length) →
        (∀ i ∈ ns, writable (P i) (part i)) → noWait →
        ∃ t c', exec arrival s = .next t ∧ t.replies = answered .ack ∧ t.groups = s.groups ∧ t.context r.dstCtx = some c' ∧
          c' = { c with counters := c'.counters } ∧ counts c' (ns.map fun i => (part i).data.length).sum ∧
          ∀ x, match ns.reverse.find? fun i => decide ((P i).pa ≤ x) && decide (x < (P i).pa + (part i).data.length) with
            | some i => t.mem.byteAt x = (part i).data.getD (x - (P i).pa) 0
            | none => leftOver t.mem (∃ i ∈ ns, lost (P i) (part i).data.length x) x) ∧
      (isRead → (∃ x ∈ c.access, ∀ i ∈ ns, covers x (part i).addr.toNat 4) →
        (∀ i ∈ ns, (part i).addr.toNat % 4 = 0 ∧ fine (P i) (part i).addr ∧
          s.portXlat c use (part i).addr = .ok (P i) ∧ unitFine (P i) 0) →
        (r.kind = .rld → ∃ t, exec arrival s = .next t ∧ s.mem.sameButCaches t.mem ∧
          t = { s with mem := t.mem, replies := answered (.values (ns.map fun i => s.mem.word s.free (P i).key (P i).pa)) }) ∧
        (r.kind = .ratom → r.sub.toNat ≤ 4 → noWait →
          (∀ i ∈ ns, ∀ j ∈ ns, (P i).pa / 128 = (P j).pa / 128 → (P i).key = (P j).key) →
          let upd := [Spec.plusOf, Spec.sumOf, Spec.magnitudeOf, Spec.sequential fun m x y => if m = x then y else m,
            Spec.sequential fun m x _ => if x.toNat ≤ m.toNat then m else Spec.word (m.toNat + 1)].getD r.sub.toNat Spec.plusOf
          let operand := fun (i : Nat) => ((BitVec.ofNat 32 (ofLe ((part i).data.take 4)) : Word),
            (BitVec.ofNat 32 (ofLe (((part i).data.drop 4).take 4)) : Word))
          let before := fun (a n : Nat) => ((List.range n).filter fun j => (P j).pa == a).map operand
          ∃ t c', exec arrival s = .next t ∧ t.context r.dstCtx = some c' ∧ counts c' (4 * r.parts.length) ∧
            t.replies = answered (.values (ns.map fun i => upd (s.mem.word s.free (P i).key (P i).pa) (before (P i).pa i))) ∧
            ∀ x, match ns.find? fun i => decide ((P i).pa ≤ x) && decide (x < (P i).pa + 4) with
              | some i => t.mem.byteAt x = BitVec.ofNat 8
                  ((upd (s.mem.word s.free (P i).key (P i).pa) (before (P i).pa r.parts.length)).toNat / 2 ^ (8 * (x - (P i).pa)))
              | none => leftOver t.mem (∃ i ∈ ns, lost (P i) 4 x) x)) ∧
      (r.kind = .rsig →
        (¬granted 0 0 → answers (.refused ⟨0x12, 0, 0⟩)) ∧
        (granted 0 0 → noWait → ∃ c', exec arrival s = .next { s.setContext c' with replies := answered .ack } ∧
          c' = { c with counters := c'.counters } ∧ counts c' r.inc.toNat) ∧
        (∀ w g, granted 0 0 → c.rwaits = [w] → w.counter = r.ctr.toNat → s.group w.gid = some g →
          let v := (lookup 0 c.counters r.ctr.toNat + r.inc.toNat) % 2 ^ 48
          w.target ≤ v → ∃ t c', exec arrival s = .next t ∧ t.group w.gid = some { g with woken := true } ∧
            t.context r.dstCtx = some c' ∧ c'.rwaits = [] ∧ t.replies = answered .ack ∧
            ∀ k, lookup 0 c'.counters k = if k = r.ctr.toNat then v - w.target else lookup 0 c.counters k)) ∧
      (∀ k, r.contrib = some k →
        let a := c.staging + BitVec.ofNat 64 (k.offset + k.rank * k.chunk + k.pos)
        let slot0 := c.staging + BitVec.ofNat 64 k.offset
        let n := k.data.length
        let entry : Chunk := { offset := k.offset, len := k.len, n := k.n, op := k.op, slot := k.slot, counter := r.ctr.toNat
                               result := if k.rred then slot0 else k.result }
        let rest := c.chunks.filter fun x => x.offset != k.offset
        ((c.combine = 0 ∨ c.stagingSize < k.offset + k.rank * k.chunk + k.pos + n) → walksAnswer (.refused ⟨0x12, a, 0⟩)) ∧
        (c.combine ≠ 0 → k.offset + k.rank * k.chunk + k.pos + n ≤ c.stagingSize → granted a.toNat n → k.data ≠ [] →
          c.chunks.find? (fun x => x.offset == k.offset) = none → c.chunks.length < 4096 → a.toNat % 256 + n ≤ 256 →
          (∀ j < n, s.portXlat c .write (a + BitVec.ofNat 64 j) = .bad 0x06) → c.logRoom (32 + (n + 31) / 32 * 32) = true →
          ∃ t c' e, exec arrival s = .next t ∧ t.replies = s.replies ∧ t.context r.dstCtx = some c' ∧
            c'.chunks = entry :: c.chunks ∧ c'.log = c.log ++ [e] ∧ e.va = a) ∧
        (∀ d, c.combine ≠ 0 → k.offset + k.rank * k.chunk + k.pos + n ≤ c.stagingSize → granted a.toNat n →
          writable (P 0) ⟨a, k.data⟩ → noWait →
          ((c.chunks.find? (fun x => x.offset == k.offset) = none ∧ c.chunks.length < 4096 ∧ d = 0) ∨
            c.chunks.find? (fun x => x.offset == k.offset) = some { entry with done := d }) →
          ∃ t c', exec arrival s = .next t ∧ t.replies = answered .ack ∧ t.context r.dstCtx = some c' ∧
            counts c' (if k.rred then n else 0) ∧
            (∀ x, if (P 0).pa ≤ x ∧ x < (P 0).pa + n then t.mem.byteAt x = k.data.getD (x - (P 0).pa) 0
              else leftOver t.mem (lost (P 0) n x) x) ∧
            (d + n < k.n * k.len → c'.chunks = { entry with done := d + n } :: rest ∧ c'.combines = c.combines) ∧
            (k.n * k.len ≤ d + n → k.n < 256 → k.op < 256 → k.len < 2 ^ 32 →
              c'.chunks = { entry with done := d + n, st := .combining } :: rest ∧ c'.combineSeq = c.combineSeq + 1 ∧
              ∃ q, c'.combines = c.combines ++ [q] ∧ q.seq = c.combineSeq ∧ q.offset = k.offset ∧ q.words =
                [slot0.extractLsb' 0 32, slot0.extractLsb' 32 32, entry.result.extractLsb' 0 32, entry.result.extractLsb' 32 32, 0,
                 Spec.word k.len, Spec.word (k.n * 2 ^ 8 + k.op * 2 ^ 16 + r.ctr.toNat * 2 ^ 24), k.slot, Spec.word c.combineSeq,
                 Spec.word (c.combineSeq / 2 ^ 32 : Nat), 0, 0, 0, 0, 0, 0])))

/-- What the sender makes of an answer (R308, R312, R313, R316), for an operation at one member, all of it sent: an
acknowledgement ends it; a refusal, of a cause that a member may give, ends it with a deferred fault that names the cause, the first refused byte and the
member's rank, or the cell's cause, and leaves the registers of RLD and RATOM as they are; values become the outstanding
results of the instruction; a reply without values makes it try again 4096 cycles later (log 30). -/
def Obligations.RemoteAnswers : Prop :=
  ∀ (s : State) (o : RemoteOp) (m : Member) (g : Group), s.remoteOp s.ev.op = some o → o.members = [m] → m.rank = s.ev.rank →
    m.dev ≠ s.dev.index → o.unsent = [] → o.withdrawn = false → m.refused = none → s.group o.gid = some g →
    let fab := g.ops.filter fun p => p.cls == .fab
    (∃ p, fab = [p] ∧ p.seq = o.seq ∧ p.done = false ∧ p.fault = none) → (∀ p ∈ g.ops, p.seq = o.seq → p.cls = .fab) →
    (∀ q, o.ldSeq = some q → q ≠ o.seq ∧ ∃ p ∈ g.ops, p.seq = q ∧ p.cls = .ld ∧ ∀ x ∈ g.ops, x.seq = q → x = p) →
    let gone := fun (t : State) (h : Group) => t.remoteOp s.ev.op = none ∧ t.group o.gid = some h ∧ h.counter .fab = 0 ∧
      h.regs = g.regs ∧ t.mem = s.mem ∧ t.sent = s.sent
    (o.ldSeq = none → ∃ t h, exec .remoteAck s = .next t ∧ gone t h ∧ h.deferred = g.deferred) ∧
    (∀ r, s.ev.refused = some r → r.cause ∉ ([0x12, 0x07, 0x0C, 0x0B, 0x15, 0x06] : List Byte) → exec .remoteRefusal s = .next s) ∧
    (∀ r, s.ev.refused = some r → r.cause ∈ ([0x12, 0x07, 0x0C, 0x0B, 0x15, 0x06] : List Byte) → ∃ t h, exec .remoteRefusal s = .next t ∧ gone t h ∧
      (∃ d ∈ h.deferred, d.seq = o.seq ∧ d.cls = .fab ∧ d.info = { cause := r.cause, addr := r.addr
                                                                   fwd := if r.cause = 0x0B then r.cell else BitVec.ofNat 8 m.rank }) ∧
      ∀ q, o.ldSeq = some q → ∀ p ∈ h.ops, p.seq = q → p.due = [] ∧ p.writes = []) ∧
    (∀ q, o.ldSeq = some q → s.ev.values ≠ [] → s.ev.values.length = o.req.parts.length →
      (∀ p ∈ g.ops, p.seq = q → p.due ≠ []) → ∃ t h, exec .remoteReply s = .next t ∧ gone t h ∧
        ∀ p ∈ g.ops, p.seq = q → ∃ p' ∈ h.ops, p' = { p with due := [], writes := p.due.zip s.ev.values }) ∧
    (s.ev.values = [] → o.ldSeq ≠ none →
      exec .remoteReply s = .next (s.setRemoteOp { o with retryAt := some (s.cycle + 4096) })) ∧
    (∀ w, o.retryAt = some w →
      (w ≤ s.cycle → exec .remoteRetry s = .next { s.setRemoteOp { o with retryAt := none, withdrawn := false } with
        sent := s.sent ++ [(m.dev, { o.req with rank := m.rank, dstCtx := m.ctx })] }) ∧
      (s.cycle < w → exec .remoteRetry s = .next s))

/-- The driver's commands on a context's access table, remote fault log and combine staging (R307, R309, R310, R325, R355),
and the combine queues (R327). SET_LOG is refused while the log holds entries (the model's choice, log 41). LOG_REPLAY
makes a unit REPLAYING, and every step after performs its next entry as if it arrived now and acknowledges it (one a step:
the model's choice, log 98); with none left the unit is CLEAR, and one that faults leaves it in LOGGING. LOG_DISCARD refuses
an entry with TRANSLATION. A combine queue forms a gathering of every record of its die, up to 64, when none awaits placement,
and its team stands on the queue's die (log 81's choice). What the device reads leaves its lines in L2 (log 24), and a read of
a page under invalidation waits (R133). -/
def Obligations.RemoteTables : Prop :=
  (∀ (s : State) (c : Context), s.context (cmdCtx s.ev.entry) = some c → s.held = [] →
    let f := fun (a n : Nat) => cmdField s.ev.entry a n
    let done := fun (i : Instr) (t : State) => exec i s = .next (s.completes t true 0 0)
    let refused := fun (i : Instr) (reason : Nat) => exec i s = .next (s.completes s true 2 reason)
    (s.commanded 0x07 0 true [(16, 3), (24, 8)] → ∀ bs, s.physRead (f 24 8) (24 * f 18 1) = some bs →
      let g := fun (k a n : Nat) => ofLe ((bs.drop (24 * k + a)).take n)
      let inOrder := f 16 1 ≤ 127 ∧ f 17 1 ≤ 63 ∧ f 18 1 ≤ 64 ∧ f 24 8 % 8 = 0 ∧ ∀ k < f 18 1,
        1 ≤ g k 8 8 ∧ g k 8 8 ≤ 2 ^ 56 ∧ g k 16 1 < 16 ∧ g k 17 7 = 0
      (inOrder → ∃ m, m = { s.mem with lines := m.lines } ∧ done .accessTable ((s.setMem m).setContext { c with
        access := (c.access.filter fun x => !(x.src == f 16 1 && x.srcCtx == f 17 1)) ++
          (List.range (f 18 1)).map fun k => ⟨f 16 1, f 17 1, g k 0 8, g k 8 8, BitVec.ofNat 8 (g k 16 1)⟩ })) ∧
      (¬inOrder → ∃ m, m = { s.mem with lines := m.lines } ∧
        exec .accessTable s = .next (s.completes (s.setMem m) true 2 1))) ∧
    (s.commanded 0x15 0 true [(16, 8), (24, 8)] →
      let inOrder := f 16 8 % 4096 = 0 ∧ 65536 ≤ f 24 8 ∧ f 24 8 ≤ 2 ^ 30
      (¬inOrder → refused .setLog 1) ∧
      (inOrder → c.log ≠ [] → refused .setLog 3) ∧
      (inOrder → c.log = [] → done .setLog (s.setContext { c with
        logBase := BitVec.ofNat 64 (f 16 8), logSize := f 24 8, logTail := 0, logFull := false }))) ∧
    (s.commanded 0x16 0 true [(16, 8), (24, 8)] →
      let inOrder := f 16 8 % 65536 = 0 ∧ f 24 8 % 65536 = 0 ∧ 65536 ≤ f 24 8 ∧ f 24 8 ≤ 2 ^ 30
      (¬inOrder → refused .stagingRegion 1) ∧
      (inOrder → done .stagingRegion (s.setContext { c with staging := BitVec.ofNat 64 (f 16 8), stagingSize := f 24 8 }))) ∧
    (∀ x ∈ [(Instr.logReplay, 1), (.logDiscard, 2)], s.commanded 0x15 x.2 true [(16, 8)] →
      (f 16 8 % 65536 ≠ 0 → refused x.1 1) ∧
      (f 16 8 % 65536 = 0 → (f 16 8 ∉ c.units ∨ f 16 8 ∈ c.replaying) → refused x.1 3)) ∧
    (f 16 8 % 65536 = 0 → f 16 8 ∈ c.units → f 16 8 ∉ c.replaying →
      (s.commanded 0x15 1 true [(16, 8)] →
        done .logReplay (s.setContext { c with replaying := c.replaying ++ [f 16 8] })) ∧
      (∀ e : LogEntry, s.commanded 0x15 2 true [(16, 8)] → c.log = [e] → e.va.toNat / 65536 * 65536 = f 16 8 → e.rid ≠ 0 →
        e.req.src ≠ s.dev.index → ∃ t c', exec .logDiscard s = .next t ∧ t.context c.num = some c' ∧ c'.log = [] ∧
          f 16 8 ∉ c'.units ∧ t.replies = s.replies ++ [⟨e.req.src, e.req.tag, e.req.rank, .refused ⟨0x06, e.va, 0⟩⟩]))) ∧
  (∀ (s : State) (c : Context) (unit : Nat) (rest : List Nat), s.contexts = [c] → s.held = [] → c.replaying = unit :: rest →
    let next := c.log.find? fun e => e.va.toNat / 65536 * 65536 == unit
    let left := c.replaying.filter (· != unit)
    (next = none → s.replays = (s.setContext { c with replaying := left, units := c.units.filter (· != unit) }).raise
      (portEvent 2 c.num 0 0xFF 0 (BitVec.ofNat 64 unit) 0 0)) ∧
    ∀ (e : LogEntry) (p : ReqPart) (P : Place), next = some e → e.req.parts = [p] → e.req.contrib = none → p.data ≠ [] →
      (s.portXlat c .write p.addr = .bad 0x06 → s.replays = (s.setContext { c with replaying := left }).raise
        (portEvent 1 c.num 0x06 e.req.src 0 (BitVec.ofNat 64 unit) 0 e.seq)) ∧
      (c.log = [e] → c.logAcks = [] → e.rid ≠ 0 → e.req.src ≠ s.dev.index →
        (∀ w ∈ c.rwaits, w.counter ≠ e.req.ctr.toNat) → P.host = false → P.cell = false → P.pa % 64 = p.addr.toNat % 64 →
        (∀ k < p.data.length, s.portXlat c .write (p.addr + BitVec.ofNat 64 k) = .ok { P with pa := P.pa + k } ∧
          s.unitBad ((P.pa + k) / 64) = false) →
        ∃ c', s.replays.context c.num = some c' ∧ c'.log = [] ∧ c'.replaying = c.replaying ∧
          lookup 0 c'.counters e.req.ctr.toNat = (lookup 0 c.counters e.req.ctr.toNat + p.data.length) % 2 ^ 48 ∧
          s.replays.replies = s.replies ++ [⟨e.req.src, e.req.tag, e.req.rank, .ack⟩] ∧
          ∀ x, s.replays.mem.byteAt x =
            if P.pa ≤ x ∧ x < P.pa + p.data.length then p.data.getD (x - P.pa) 0
            else if P.pa / 128 ≤ x / 128 ∧ x / 128 ≤ (P.pa + p.data.length - 1) / 128 ∧ s.mem.keyOf (x / 128) ≠ P.key then
              Config.underKey s.free x
            else s.mem.byteAt x)) ∧
  ∀ (s : State) (c : Context), s.context s.ev.ctx = some c →
    let mine := (c.combines.filter fun q => q.die == s.ev.die).take 64
    let waits := ∃ l ∈ s.launches, l.ctx = c.num ∧ l.origin = .combine s.ev.die ∧ l.placed = 0
    ((mine = [] ∨ waits ∨ c.st = .ending ∨ s.kernelWaits c c.combine = true) → exec .combineGathering s = .next s) ∧
    (mine ≠ [] → ¬waits → c.st ≠ .ending → s.kernelWaits c c.combine = false →
      let k := (s.setContext { c with
        combines := c.combines.filter fun q => !mine.any fun x => x.seq == q.seq }).kernelSaw c c.combine
      let r := launchRec (k.devRead c c.combine 128)
      ∀ p, k.prepareUnit c r r.unit .node k.dev.signature (some s.ev.die) = .ok p → ∃ t l, exec .combineGathering s = .next t ∧
        t.launches = s.launches ++ [l] ∧ l.recs = mine ∧ l.origin = .combine s.ev.die ∧ l.st = .ready ∧ l.ctx = c.num ∧
        l.dies = [s.ev.die] ∧ l.entry = p.entry ∧
        t.context s.ev.ctx = some { c with combines := c.combines.filter fun q => !mine.any fun x => x.seq == q.seq })

/-! ### Events of the quad -/

/-- CLAUSE_ISSUE (R13, R14, R16, R20, R80, R250): while no group of the quad is inside a clause and unstalled, the quad issues
from the windowed, unparked group of highest effective class between clauses, the oldest among equals, then the one placed
first. Its next clause begins, the WZ counters at zero, or the group parks at the header, as it does where the page of the
header is under invalidation (R133). A header that is misaligned or cannot be fetched traps, and so does a clause that fails its check: at the header where N is 0 or a reserved bit is set, at
the instruction for the first one whose class differs from ENG, unless that is MIX, or that is a control transfer and not the
last; an unassigned word has no class (nor has a word whose function code is unassigned, so that one fails no check, log 100's
choice). Nothing else in the machine changes but the L1, which the end of a wait may flash, and the L2 lines that the fetch
uses. -/
def Obligations.ClauseIssue : Prop :=
  (∀ s : State, (s.chooseGroup s.ev.q = none ↔
      (∃ g ∈ s.groups, s.midClause s.ev.q g = true) ∨ ∀ g ∈ s.groups, s.candidate s.ev.q g = false) ∧
    (s.chooseGroup s.ev.q = none → exec .clauseIssue s = .next s) ∧
    ∀ g, s.chooseGroup s.ev.q = some g → g ∈ s.groups ∧ s.candidate s.ev.q g = true ∧
      ∀ h ∈ s.groups, s.candidate s.ev.q h = true →
        let eff := fun (x : Group) => min 3 (x.sched.toNat + (s.cycle - x.ageFrom) / 4096)
        let age := fun (x : Group) => s.cycle - x.ageFrom
        eff h < eff g ∨ (eff h = eff g ∧ (age h < age g ∨ (age h = age g ∧ s.groups.idxOf g ≤ s.groups.idxOf h)))) ∧
  ∀ (s : State) (g : Group) (t : Team) (c : Context) (x : Split) (h : Word),
    s.chooseGroup s.ev.q = some g → s.group g.gid = some g → s.home g = some (t, c) → g.pickSplit s.ev.split = some x →
    let after := fun (k : Group) => ∃ m, m = { s.mem with lines := m.lines } ∧
      exec .clauseIssue s = .next ((s.setMem m).setGroup k)
    let waits := fun (w : Wait) => { g with status := .parked w, since := s.cycle }
    let trap := fun (cause : Byte) (a : Addr) => { g with
      trapCause := cause, trapAddr := a, status := .trapped, entry := .raised, double := g.handling, prog := 0, enqDone := 0
      enq := none, stalled := false, gapWait := false
      resume := some { clause := none, epc := x.pc, split := x.label, lanes := x.lanes, join := x.join, byInstr := false, len := 0
                       info := { cause := cause, addr := a } } }
    let traps := fun (cause : Byte) (a : Addr) => after (trap cause a)
    (x.pc.toNat % 4 ≠ 0 → exec .clauseIssue s = .next (s.setGroup (trap 0x05 x.pc))) ∧
    (∀ i, x.pc.toNat % 4 = 0 → s.fetchWord c s.ev.q x.pc = .bad i → i.cause ≠ 0x15 → traps i.cause x.pc) ∧
    (x.pc.toNat % 4 = 0 → s.fetchWord c s.ev.q x.pc = .wait → exec .clauseIssue s = .next (s.setGroup (waits .header))) ∧
    (x.pc.toNat % 4 = 0 → s.fetchWord c s.ev.q x.pc = .ok h →
      let named := (List.range 6).filter fun k => h.getLsbD (8 + k)
      let zero := ∀ k ∈ named, ∀ cl, [Counter.ld, .sfu, .mma, .cpy, .fab, .spn][k]? = some cl → g.counter cl = 0
      ((h.toNat / 2 ^ 28 = 0 ∨ h.toNat % 2 ^ 8 ≠ 0) → traps 0x03 x.pc) ∧
      (∀ (at' : Nat → Addr) (code : Nat → Word × Word) (j : Nat),
        let n := h.toNat / 2 ^ 28
        let eng := h.toNat / 2 ^ 25 % 8
        let op := fun (k : Nat) => (code k).1.toNat / 2 ^ 26
        let other := fun (k : Nat) => eng ≠ 7 ∧ decodeWords (code k).1 (code k).2 ≠ .error .opcode ∧ Spec.engine (op k) ≠ eng
        let early := fun (k : Nat) => k + 1 < n ∧ (op k, (code k).2.toNat / 2 ^ 24) ∈ Spec.transfers
        j < n → h.toNat % 2 ^ 8 = 0 → at' 0 = x.pc + 4 →
        (∀ k < j, at' (k + 1) = at' k + (if 0x38 ≤ op k then 8 else 4) ∧ ¬other k ∧ ¬early k) →
        (∀ k ≤ j, s.fetchInstr c s.ev.q (at' k) = .ok (code k).1 (code k).2) →
        ((other j ∨ early j) → traps 0x03 (at' j)) ∧
        (j + 1 = n → ¬other j → s.checkClause c s.ev.q x.pc h = .ok)) ∧
      (s.checkClause c s.ev.q x.pc h = .ok →
        (zero → ∃ u k, exec .clauseIssue s = .next u ∧ u.cur = some g.gid ∧ u.group g.gid = some k ∧
          k = { g with clause := some { header := h, addr := x.pc, split := x.label, pc := x.pc + 4 }, interval := false
                       ageFrom := s.cycle, acqs := k.acqs } ∧
          (∀ j, j ≠ g.gid → u.group j = s.group j) ∧
          u = { s with cur := u.cur, groups := u.groups, mem := { s.mem with sectors := u.mem.sectors, lines := u.mem.lines } }) ∧
        (¬zero → after (waits (.wz (h.extractLsb' 8 6))))))

/-- The other events of a group and its quad (R18, R20 to R22, R74, R75, R88, R90, R211, R267): a result lands in the lanes
named (the registers of a lane together, log 96's choice), once its accesses are performed (R157; log 6), and the operation
leaves its counter when nothing of it is outstanding; a wait ends when its counters are zero, its cycle has come, or an awaited
cell is no longer awaited; a window goes to the highest class that waits longest, if need be from the group that parked first,
which stays parked; refill adds to every budget up to its cap (the floor of the scaled refill: log 56's choice). -/
def Obligations.IssueEvents : Prop :=
  (∀ (s : State) (g : Group) (o : Op), s.group s.ev.g = some g → g.ops.find? (fun p => p.seq == s.ev.seq && p.pending) = some o →
    (∀ p ∈ g.ops, p.seq = o.seq → p = o) → s.flying s.ev.g s.ev.seq = false →
    ∃ t h, exec .resultLand s = .next t ∧ t.group g.gid = some h ∧ s.sameButGroup t g.gid ∧
      (∀ v j, j < 64 → g.port v = none → h.read v j =
        match (o.writes.filter fun w => w.1 == 64 * v + j && s.ev.lanes.getLsbD j).getLast? with
        | some w => if v = 0 then 0 else w.2
        | none => g.read v j) ∧
      ((∃ w ∈ o.writes, s.ev.lanes.getLsbD (w.1 % 64) = false) → h.ops = g.ops.map fun p =>
        if p.seq = o.seq then { o with writes := o.writes.filter fun w => !s.ev.lanes.getLsbD (w.1 % 64) } else p) ∧
      ((∀ w ∈ o.writes, s.ev.lanes.getLsbD (w.1 % 64) = true) → o.due = [] → (∀ p ∈ g.ops, p.cls = o.cls → p.seq = o.seq) →
        h.counter o.cls = 0)) ∧
  (∀ (s : State) (g : Group) (t : Team) (c : Context), s.group s.ev.g = some g → s.home g = some (t, c) →
    let over' := { g with status := if g.window then .windowed else .resident, since := s.cycle, ageFrom := s.cycle }
    (∀ m : BitVec 6, g.status = .parked (.wz m) →
      let zero := ∀ k < 6, m.getLsbD k = true → ∀ cl, [Counter.ld, .sfu, .mma, .cpy, .fab, .spn][k]? = some cl → g.counter cl = 0
      (zero → exec .waitZeroEnd s = .next (s.setGroup over')) ∧ (¬zero → exec .waitZeroEnd s = .next s)) ∧
    (g.status = .parked .marker →
      let zero := g.counter .ld = 0 ∧ g.counter .sfu = 0 ∧ g.counter .mma = 0
      (zero → exec .waitZeroEnd s = .next (s.setGroup over')) ∧ (¬zero → exec .waitZeroEnd s = .next s)) ∧
    (∀ w, g.status = .parked (.sleep w) →
      (w ≤ s.cycle → exec .sleepExpire s = .next (s.setGroup { over' with prog := 1 })) ∧
      (s.cycle < w → exec .sleepExpire s = .next s)) ∧
    let refetched := fun (u : State) (us : List Nat) => u.group g.gid = some over' ∧
      u = { s with groups := u.groups, waits := u.waits, mem := { s.mem with sectors := u.mem.sectors } } ∧
      ∀ x, x ∈ u.mem.sectors ↔ x ∈ s.mem.sectors ∧ ¬(x.core = coreIdx t.place ∧ ∃ y ∈ us, x.idx / 4 = y / 2)
    (∀ w us, g.status = .parked (.tableFull w us) →
      (w ≤ s.cycle → ∃ u, exec .waitTableRetry s = .next u ∧ refetched u us ∧ u.waits = s.waits) ∧
      (s.cycle < w → exec .waitTableRetry s = .next s)) ∧
    (∀ us, g.status = .parked (.cell us) → (∀ p ∈ s.remotes, p.rid ≠ s.ev.op) →
      ((∀ u ∈ us, s.awaits u = true) → exec .parkedRecheck s = .next s) ∧
      ((∃ u ∈ us, s.awaits u = false) → ∃ u, exec .parkedRecheck s = .next u ∧ refetched u us ∧
        ∀ w, w ∈ u.waits ↔ w ∈ s.waits ∧ w.who ≠ .group g.gid))) ∧
  (∀ (s : State) (p : Parked), s.remotes.find? (fun x => x.rid == s.ev.op) = some p → s.group s.ev.g = none →
    ((∃ u ∈ p.units, s.awaits u = true) → exec .parkedRecheck s = .next s) ∧
    ((∀ u ∈ p.units, s.awaits u = false) →
      let t := { s with
        waits := s.waits.filter fun w => w.who != Waiter.remote p.rid, remotes := s.remotes.filter fun x => x.rid != p.rid }
      exec .parkedRecheck s = .next (if t.blocked p.req then { t with held := t.held ++ [⟨p.req, true⟩] } else t.serve true p.req))) ∧
  (∀ (s : State) (g : Group), s.nextResident s.ev.q = some g →
    let mine := s.quadGroups s.ev.q
    let holders := s.groups.filter fun h => h.window && (s.team h.team).any fun t => t.place == s.ev.q
    let held := holders.filter fun h => h.status.isParked
    let granted := { g with window := true, interval := true, status := .windowed, ageFrom := s.cycle }
    g ∈ mine ∧ g.status = .resident ∧ g.window = false ∧
    (∀ h ∈ mine, h.status = .resident → h.window = false → h.sched ≤ g.sched ∧ (h.sched = g.sched → g.since ≤ h.since)) ∧
    (holders.length < 8 → exec .windowGrant s = .next (s.setGroup granted)) ∧
    (8 ≤ holders.length → (∀ p ∈ held, g.sched < p.sched) → exec .windowGrant s = .next s) ∧
    (8 ≤ holders.length → (∃ p ∈ held, p.sched ≤ g.sched) → ∃ p ∈ held, (∀ x ∈ held, p.since ≤ x.since) ∧
      exec .windowGrant s = .next ((s.setGroup { p with window := false, interval := true }).setGroup granted))) ∧
  (∀ s : State, exec .windowGrant s = .next s ∨ ∃ g, s.nextResident s.ev.q = some g) ∧
  ∀ s : State, exec .energyRefill s = .next { s with contexts := s.contexts.map fun (c : Context) =>
    { c with budgets := c.budgets.map fun b => (b.1, min (c.cap : Int) (b.2 + (c.refill * s.dev.scale / 65536 : Nat))) } }

/-! ### Paging -/

/-- The walk of the page table (R127 to R129): a page of 1 GiB, 2 MiB or 64 KiB at a leaf on which every condition of
R129 holds, through tables aligned to their own sizes; and no translation where an entry on the way fails one: an unsound
entry of any level, a first entry that is a leaf, a table or a page misaligned, or a page of memory that is not there. A table
word that the memory's errors hide gives the walk nothing (R138, R377; log 59's choice). -/
def Obligations.PageTableWalk : Prop :=
  ∀ (s : State) (root va : Nat), va < 2 ^ 56 →
    let m := s.mem
    let entry := fun (table i : Nat) => ofLe (lookups 0 m.bytes (table + 8 * i) 8)
    let addr := fun (e : Nat) => e / 2 ^ 8 % 2 ^ 44 * 2 ^ 8
    let sound := fun (e : Nat) => e % 2 = 1 ∧ e / 2 ^ 62 = 0 ∧ e / 2 ^ 6 % 4 = 0 ∧ e / 2 ^ 4 % 4 ≠ 3 ∧
      (e / 2 ^ 3 % 2 = 1 → e / 2 ^ 4 % 4 = 0)
    let points := fun (e : Nat) => e / 2 % 4 = 0
    let leaf := fun (e size : Nat) => addr e % size = 0 ∧ (e / 2 ^ 4 % 4 ≤ 1 → addr e + size ≤ 576 * 2 ^ 30)
    let e3 := entry root (va / 2 ^ 43)
    let e2 := entry (addr e3) (va / 2 ^ 30 % 8192)
    let e1 := entry (addr e2) (va / 2 ^ 21 % 512)
    let e0 := entry (addr e1) (va / 2 ^ 16 % 32)
    let a3 := root + 8 * (va / 2 ^ 43)
    let a2 := addr e3 + 8 * (va / 2 ^ 30 % 8192)
    let a1 := addr e2 + 8 * (va / 2 ^ 21 % 512)
    let a0 := addr e1 + 8 * (va / 2 ^ 16 % 32)
    let hidden := fun (a : Nat) => s.unitBad (a / 64) = true
    let finds := fun (e size : Nat) => walk m root va = some ⟨BitVec.ofNat 64 e, va / size * size, size⟩
    (hidden a3 → s.walkNow root va = .unreadable) ∧
    (sound e3 → points e3 → addr e3 % 65536 = 0 →
      (hidden a2 → s.walkNow root va = .unreadable) ∧
      (sound e2 → points e2 → addr e2 % 4096 = 0 →
        (hidden a1 → s.walkNow root va = .unreadable) ∧ (sound e1 → points e1 → hidden a0 → s.walkNow root va = .unreadable))) ∧
    ((∀ a ∈ [a3, a2, a1, a0], ¬hidden a) → s.walkNow root va = match walk m root va with | some l => .leaf l | none => .none) ∧
    (sound e3 → points e3 → addr e3 % 65536 = 0 →
      (sound e2 → ¬points e2 → leaf e2 (2 ^ 30) → finds e2 (2 ^ 30)) ∧
      (sound e2 → points e2 → addr e2 % 4096 = 0 →
        (sound e1 → ¬points e1 → leaf e1 (2 ^ 21) → finds e1 (2 ^ 21)) ∧
        (sound e1 → points e1 → sound e0 → leaf e0 (2 ^ 16) → finds e0 (2 ^ 16)) ∧
        (¬sound e1 → walk m root va = none) ∧
        (sound e1 → ¬points e1 → ¬leaf e1 (2 ^ 21) → walk m root va = none) ∧
        (sound e1 → points e1 → ¬sound e0 → walk m root va = none) ∧
        (sound e1 → points e1 → ¬leaf e0 (2 ^ 16) → walk m root va = none)) ∧
      (¬sound e2 → walk m root va = none) ∧
      (sound e2 → ¬points e2 → ¬leaf e2 (2 ^ 30) → walk m root va = none) ∧
      (sound e2 → points e2 → addr e2 % 4096 ≠ 0 → walk m root va = none)) ∧
    (¬sound e3 → walk m root va = none) ∧ (¬points e3 → walk m root va = none) ∧ (addr e3 % 65536 ≠ 0 → walk m root va = none)

/-- Events of translation and the L2, and the page commands (R128, R131, R133, R134, R137, R204, R353). A walk enters the
page in the shared TLB of its die, of 32 Ki entries, and in the requester's, of 128, and reads the table through L2, whatever
it ends in; a page under invalidation is not walked, and a table word that cannot be read gives nothing. A prefetch fills its
line or is dropped and counted. MIGRATE is refused where ML is 1, or a cell of the page is not VAL (no access is on its way
when it begins: log 6); commit and unmap start a shootdown, which ends when no pin is left: the new entry is in force (log 40),
no TLB holds the page, the groups and the device's own reads that waited for it go on, and the command completes. -/
def Obligations.PageEvents : Prop :=
  (∀ (s : State) (c : Context), s.context s.ev.ctx = some c →
    let va := s.ev.va.toNat
    let locked := ∃ e, s.pageLife s.ev.ctx va = some (.invalidating e)
    let held := fun (m : Memory) (k : Option Nat) => m.tlbs.countP fun t => t.die == s.ev.die && t.core == k
    (∀ l, ¬locked → va < 2 ^ 56 → s.walkNow c.root va = .leaf l → ∃ m, exec .pageWalk s = .next (s.setMem m) ∧
      m = { s.mem with tlbs := m.tlbs, lines := m.lines } ∧ held m none ≤ 32768 ∧
      (∀ k, s.walker s.ev.die = some k → held m (some k) ≤ 128) ∧
      (held s.mem none < 32768 → (∀ k, s.walker s.ev.die = some k → held s.mem (some k) < 128) →
      ∀ t, t ∈ m.tlbs ↔ (∃ k, (k = none ∨ k = s.walker s.ev.die) ∧ t = ⟨s.ev.die, k, s.ev.ctx, l.base, l.size, l.entry⟩) ∨
        (t ∈ s.mem.tlbs ∧ ¬(t.die = s.ev.die ∧ (t.core = none ∨ t.core = s.walker s.ev.die) ∧ t.ctx = s.ev.ctx ∧
          t.base < l.base + l.size ∧ l.base < t.base + t.size)))) ∧
    ((locked ∨ 2 ^ 56 ≤ va) → exec .pageWalk s = .next s) ∧
    (¬locked → va < 2 ^ 56 → (∀ l, s.walkNow c.root va ≠ .leaf l) → ∃ m, m = { s.mem with lines := m.lines } ∧
      exec .pageWalk s = .next (s.setMem m)) ∧
    ∀ (p : PageLife) (e : Addr), s.lifeAt s.ev.ctx va = some p → p.st = .invalidating e →
      (s.pinned p = true → exec .shootdownComplete s = .next s) ∧
      (s.pinned p = false → (∀ a, leafSlot s.mem c.root p.base p.size = some a → a % 8 = 0 ∧ s.unitBad (a / 64) = false) →
        ∃ m, exec .shootdownComplete s =
          .next ((((s.setMem m).wakeHeaders p.ctx).pageBack p.ctx).raise (completionEvent 0 p.ctx p.op 0 p.tag)) ∧
        m.pages = (s.mem.pages.filter fun x => !(x.ctx == p.ctx && x.base == p.base)) ∧
        (∀ t, t ∈ m.tlbs ↔ t ∈ s.mem.tlbs ∧ ¬(t.ctx = p.ctx ∧ t.base < p.base + p.size ∧ p.base < t.base + t.size)) ∧
        (∀ a, leafSlot s.mem c.root p.base p.size = some a → ∀ x, m.byteAt x =
          if a ≤ x ∧ x < a + 8 then BitVec.ofNat 8 (e.toNat / 2 ^ (8 * (x - a))) else s.mem.byteAt x))) ∧
  (∀ s : State,
    let pa := s.ev.pa
    let fits := pa < 576 * 2 ^ 30 ∧ s.stackReady pa = true ∧ ∀ l ∈ s.mem.lines, l.idx ≠ pa / 128
    (¬fits → exec .l2Prefetch s = .next s) ∧
    (fits → s.ev.dropped = true → ∃ d, exec .l2Prefetch s = .next (s.setMem { s.mem with dropped := d }) ∧
      ∀ k, lookup 0 d k = lookup 0 s.mem.dropped k + if k = pa / (3 * 48 * 2 ^ 30) then 1 else 0) ∧
    (fits → s.ev.dropped = false → ∃ ls, exec .l2Prefetch s = .next (s.setMem { s.mem with lines := ls }) ∧
      ∃ l ∈ ls, l.idx = pa / 128 ∧ l.dirty = false)) ∧
  ∀ (s : State) (c : Context), s.context (cmdCtx s.ev.entry) = some c →
    let f := fun (a n : Nat) => cmdField s.ev.entry a n
    let pages := fun (ps : List PageLife) => s.setMem { s.mem with pages := ps }
    let others := fun (base : Nat) => s.mem.pages.filter fun x => !(x.ctx == c.num && x.base == base)
    let refused := fun (i : Instr) (reason : Nat) => exec i s = .next (s.completes s true 2 reason)
    let mapped := fun (l : Leaf) => f 16 8 < 2 ^ 56 ∧ s.pageLife c.num (f 16 8) = none ∧
      s.walkNow c.root (f 16 8) = .leaf l ∧ l.base = f 16 8
    let settled := ∀ core, s.quiet core = true
    (s.commanded 0x11 0 true [(16, 8)] → ∀ l, mapped l →
      let held := l.entry.getLsbD 61 = true ∨ (l.entry.getLsbD 3 = true ∧
        ∃ t ∈ s.mem.tags, t.2 ≠ .val ∧ pteAddr l.entry / 64 ≤ t.1 ∧ t.1 < (pteAddr l.entry + l.size) / 64)
      (held → refused .migrate 3) ∧
      (¬held → settled → exec .migrate s = .next (s.completes (pages (others l.base ++
        [({ ctx := c.num, base := l.base, size := l.size, st := .migrating, tag := cmdTag s.ev.entry } : PageLife)])) true 0 0))) ∧
    (∀ p, s.lifeAt c.num (f 16 8) = some p → p.st = .migrating →
      (s.commanded 0x11 1 true [(16, 8), (24, 8)] → exec .migrateCommit s = .next (pages (others p.base ++
        [{ p with st := .invalidating (BitVec.ofNat 64 (f 24 8)), op := 0x11, tag := cmdTag s.ev.entry }]))) ∧
      (s.commanded 0x11 2 true [(16, 8)] → exec .migrateAbort s = .next (s.completes (pages (others p.base)) true 0 0))) ∧
    ((∀ p, s.lifeAt c.num (f 16 8) = some p → p.st ≠ .migrating) →
      (s.commanded 0x11 1 true [(16, 8), (24, 8)] → refused .migrateCommit 3) ∧
      (s.commanded 0x11 2 true [(16, 8)] → refused .migrateAbort 3)) ∧
    (s.commanded 0x12 0 true [(16, 8), (24, 1), (32, 8)] →
      let size := [2 ^ 16, 2 ^ 21, 2 ^ 30].getD (f 24 1) 0
      ((2 < f 24 1 ∨ f 16 8 % size ≠ 0) → refused .unmapRemap 1) ∧
      (∀ l, f 24 1 ≤ 2 → f 16 8 % size = 0 → mapped l →
        (l.size ≠ size → refused .unmapRemap 3) ∧
        (l.size = size → settled → exec .unmapRemap s = .next (pages (others l.base ++ [({
          ctx := c.num, base := l.base, size := size, st := .invalidating (BitVec.ofNat 64 (f 32 8)), op := 0x12
          tag := cmdTag s.ev.entry } : PageLife)])))))

/-! ### The matrix array -/

/-- Events of the array (R176, R177, R182 to R186, R188, R191, R198). A free array goes to the request of highest class,
the oldest among equals; a request of higher class than the owner takes it, at once or after the running step, where a FIFO
queue owns at the class of the group of its oldest posted pass (R184; log 65: it is compared by the class and time of that
pass). A class that waiting has raised stays raised while the group owns the array and in the reservation it gets back (log
92's choice). The owner's next pass starts with its pages pinned, whose walks use L2 lines. A step leaves in every accumulator
of the pass its value after one block more; the last one completes the operation, and one that must stop leaves the pass
suspended at the next step. -/
def Obligations.ArrayEvents : Prop :=
  (∀ s : State,
    let q := s.ev.q
    let a := s.array q
    let best := fun (r : Resv) => r ∈ s.requests a ∧ ∀ x ∈ s.requests a, x.cls < r.cls ∨ (x.cls = r.cls ∧ r.since ≤ x.since)
    (∀ r, r ∈ s.requests a ↔ s.holderWaits a r.who = false ∧ (r ∈ a.resvs ∨ r ∈ s.fifoRequests a)) ∧
    exec .arrayGrant s = .next (s.arbitrate q) ∧
    (s.requests a = [] → s.arbitrate q = s) ∧
    (a.owner = none → s.requests a ≠ [] → ∃ r, best r ∧
      s.arbitrate q = s.setArray { a with owner := some r, resvs := a.resvs.filter fun x : Resv => x.who != r.who }) ∧
    (∀ o, a.owner = some o →
      let held := s.ownerClass a o
      (∀ g, o.who = .group g → held = o.cls) ∧
      (∀ n p h, o.who = .fifo n → (s.passesOf a o.who).head? = some p → s.group p.gid = some h → held = h.sched.toNat) ∧
      ((∀ r ∈ s.requests a, r.cls ≤ held) → s.arbitrate q = s) ∧
      ((∃ r ∈ s.requests a, held < r.cls) →
        ((∃ p ∈ a.posted, p.running = true) → s.arbitrate q = s.setArray { a with stopping := true }) ∧
        ((∀ p ∈ a.posted, p.running = false) → ∃ r, best r ∧
          (∀ g, o.who = .group g → s.arbitrate q = s.setArray { a with
            owner := some r
            resvs := ((a.resvs.filter fun x : Resv => x.who != o.who) ++ [{ o with leaving := false }]).filter fun x : Resv => x.who != r.who }) ∧
          (∀ n, o.who = .fifo n → s.arbitrate q = s.setArray { a with
            owner := some r, resvs := a.resvs.filter fun x : Resv => x.who != r.who })))) ∧
    (∀ r, a.resvs.find? (fun x => x.who == .group s.ev.g) = some r →
      (r.raised + 65536 ≤ s.cycle → r.cls < 3 → exec .reservationPromote s = .next (State.arbitrate (s.setArray { a with
        resvs := a.resvs.map fun x => if x.who = r.who then { r with cls := r.cls + 1, raised := s.cycle } else x }) q)) ∧
      ((s.cycle < r.raised + 65536 ∨ 3 ≤ r.cls) → exec .reservationPromote s = .next s)) ∧
    (∀ p, a.posted.find? Pass.running = some p →
      (p.started + 64 * 1600 ≤ s.cycle → exec .passTimeLimit s = .next (s.setArray { a with limit := true })) ∧
      (s.cycle < p.started + 64 * 1600 → exec .passTimeLimit s = .next s)) ∧
    (∀ c, a.gap = some c →
      (c ≤ s.cycle → exec .matrixGapEnd s = .next (s.setArray { a with gap := none })) ∧
      (s.cycle < c → exec .matrixGapEnd s = .next s)) ∧
    (((∃ p ∈ a.posted, p.running = true) ∨ a.gap ≠ none ∨ a.owner = none) → exec .passStart s = .next s)) ∧
  ∀ (s : State) (p : Pass) (g : Group) (t : Team) (c : Context), s.passHome p = some (g, t, c) → c.st = .active →
    g.status.isSpilled = false → g.ports = [] →
    let q := s.ev.q
    let a := s.array q
    let same := fun (x : Pass) => x.gid == p.gid && x.seq == p.seq && x.seg == p.seg
    let runs := ∃ x ∈ a.posted, x.running = true
    let put := fun (y : Pass) => { a with
      posted := a.posted.map fun x => if same x then y else x, segs := a.segs.map fun x => if same x then y else x }
    let n := operandBytes p.slotB p.k p.n
    let quit := s.dropWaits (.pass p.gid p.seq p.seg)
    let begun := fun (pins : List Addr) =>
      { p with running := true, suspended := false, started := s.cycle, pins := pins, cells := [], retryAt := none }
    let old := fun (v i : Nat) => if p.step = 0 ∧ p.acc = false then 0 else g.read v i
    let accumulated := fun (h : Group) => ∀ v i, i < 64 → h.read v i =
      if p.rows.getLsbD i = true ∧ g.tileBase ≤ v ∧ v < g.tileBase + p.n ∧ v ≠ 0 then
        stepValue p.slotA p.slotB p.n (readA t a p.latch p.oa (stepRuns p.slotA p.k 64 p.step))
          ((stepRuns p.slotB p.k p.n p.step).map fun r => lookups 0 t.wbuf (p.ob.toNat + r.1) r.2) i (v - g.tileBase) (old v i)
      else g.read v i
    let only := fun (mine others : List Pass) => (∀ x ∈ mine, x.gid = p.gid → x.seq = p.seq → x.seg = p.seg) ∧
      (∀ x ∈ others, ¬(x.gid = p.gid ∧ x.seq = p.seq)) ∧ ∀ o ∈ g.ops, o.arrival = none ∧ (o.cls = .mma → o.seq = p.seq)
    (¬runs → a.gap = none → (∃ o, a.owner = some o ∧ (s.passesOf a o.who).head? = some p) →
      ((s.passWaits p = true ∨ g.accReady p.seq = false) → exec .passStart s = .next s) ∧
      (s.passWaits p = false → g.accReady p.seq = true → p.l2 = false → exec .passStart s = .next (quit.setArray
        (put (begun [])))) ∧
      (s.passWaits p = false → g.accReady p.seq = true → p.l2 = true →
        (∀ v ∈ pageStarts p.ob n, ∃ x, s.translate c t.place.die (coreIdx t.place) .tile v = .ok x) →
        ∃ m, m = { s.mem with lines := m.lines } ∧
          exec .passStart s = .next ((quit.setMem m).setArray (put (begun (pageStarts p.ob n)))))) ∧
    (s.ev.vec = false → a.posted.find? Pass.running = some p → p.l2 = false → p.vec = false →
      (32 * (p.step + 1) < p.k → a.stopping = false → a.limit = false → ∃ u h, exec .stepEnd s = .next u ∧
        u.group p.gid = some h ∧ accumulated h ∧ u.array q = put { p with step := p.step + 1 } ∧
        u = { s with groups := u.groups, arrays := u.arrays }) ∧
      (32 * (p.step + 1) < p.k → (a.stopping = true ∨ a.limit = true) → ∃ u h, exec .stepEnd s = .next u ∧
        u.group p.gid = some h ∧ accumulated h ∧ h.ops = g.ops ∧ (u.array q).stopping = false ∧ (u.array q).limit = false ∧
        (u.array q).posted = (put { p with
          step := p.step + 1, running := false, suspended := true, pins := [], cells := [], retryAt := none }).posted) ∧
      (p.k ≤ 32 * (p.step + 1) → only a.posted a.segs → ∃ u h, exec .stepEnd s = .next u ∧ u.group p.gid = some h ∧ accumulated h ∧
        h.counter .mma = 0 ∧ (u.array q).posted = a.posted.filter fun x => !same x)) ∧
    (s.ev.vec = true → ¬runs → p.l2 = false →
      a.segs.find? (fun x => x.vec && !s.offDuty x.gid && (x.running || (!s.passWaits x && !s.passHeld a x &&
        match s.group x.gid with | some h => h.accReady x.seq | none => true))) = some p →
      (∀ x ∈ a.segs, same x = true → x = p) →
      (32 * (p.step + 1) < p.k → ∃ u h, exec .stepEnd s = .next u ∧ u.group p.gid = some h ∧ accumulated h ∧
        u.array q = put { (if p.running = true then p else begun []) with step := p.step + 1 }) ∧
      (p.k ≤ 32 * (p.step + 1) → only a.segs a.posted → ∃ u h, exec .stepEnd s = .next u ∧ u.group p.gid = some h ∧ accumulated h ∧
        h.counter .mma = 0 ∧ (u.array q).segs = a.segs.filter fun x => !same x)) ∧
    (s.ev.vec = true → runs → exec .stepEnd s = .next s)

/-! ### Launches -/

/-- A launch becoming READY, and its completion (R249, R253 to R256, R260 to R263, R378): the checks in their order, each
with its refusal code, the lowest variant that the signature matches, the count, and whether the grid could ever be placed
(no team on a core taken out of use: log 32); a read of a page under invalidation waits (R133); a count word that cannot be read
stalls the launch and is reported (R261; log 28). A launch that ends writes its colophon, adds 1 to its event word and raises
its queue's interrupt; a colophon whose page is being moved, and the interrupt behind it, wait (R133; log 27); a line last
written under another key loses its other bytes (log 16). -/
def Obligations.LaunchReadiness : Prop :=
  (∀ (s : State) (c : Context) (r : LaunchRec) (sig : Addr),
    let shape := (1 ≤ r.rows ∧ r.rows ≤ 3 ∧ 1 ≤ r.cols ∧ r.cols ≤ 4) ∨ (r.rows = 2 ∧ r.cols = 6) ∨ (r.rows = 1 ∧ r.cols = 12)
    let slots := ∀ f ∈ r.slots, slotOk f = true
    let limits := r.aligned = true ∧ r.image.toNat % 128 = 0 ∧ (1 ≤ r.groups ∧ r.groups ≤ 16) ∧ (1 ≤ r.regs16 ∧ r.regs16 ≤ 8) ∧ r.quires ≤ 32 ∧
      r.bars ≤ 16 ∧ r.flags.toNat < 16 ∧ (r.abytes ≤ 524288 ∧ r.abytes % 128 = 0) ∧ (r.wbytes ≤ 1048576 ∧ r.wbytes % 128 = 0) ∧
      r.reserved = false ∧ r.colophon.toNat % 64 = 0 ∧ r.countAddr.toNat % 4 = 0 ∧ r.event.toNat % 8 = 0 ∧
      (r.countAddr = 0 → r.count ≠ 0)
    let fits := fun (v : Variant) => sig &&& v.mask = v.value
    (¬shape → s.prepare c r .host sig = .error 0x33) ∧
    (shape → ¬slots → s.prepare c r .host sig = .error 0x34) ∧
    (shape → slots → ¬limits → s.prepare c r .host sig = .error 0x32) ∧
    (shape → slots → limits →
      (s.variants c r.image = none → s.prepare c r .host sig = .error 0x31) ∧
      ∀ vs, s.variants c r.image = some vs →
        ((∀ v ∈ vs, ¬fits v) → s.prepare c r .host sig = .error 0x31) ∧
        ∀ (k : Nat) (v : Variant), vs[k]? = some v → fits v → (∀ (j : Nat) (w : Variant), j < k → vs[j]? = some w → ¬fits w) →
          s.prepare c r .host sig = .ok ⟨k, r.image + BitVec.ofNat 64 (v.code + v.entry), readyDies sig⟩)) ∧
  (∀ (s : State) (l : Launch) (c : Context), s.launch s.ev.launch = some l → s.context l.ctx = some c →
    let may := l.origin = .host ∧ l.st = .queued ∧ c.st ≠ .ending ∧ s.imageWaits c l.rcd.image = false ∧
      ∀ x ∈ s.launches, x.origin = .host → x.sq = l.sq → x.order < l.order → x.st = .running
    let l1 := { l with st := .ready, ready := s.cycle }
    let s0 := s.imageSaw c l.rcd.image
    (¬may → (l.st ≠ .ready ∨ l.checked = true ∨ l.stalled = true) → exec .launchReady s = .next s) ∧
    (∀ code, may → s0.prepare c l.rcd .host s0.dev.signature = .error code →
      exec .launchReady s = .next ((s0.setLaunch l1).completeLaunch l1 code)) ∧
    ∀ p, may → s0.prepare c l.rcd .host s0.dev.signature = .ok p →
      let l2 := { l1 with variant := some p.variant, entry := p.entry, dies := p.dies, cls := min l.rcd.cls c.ceiling }
      let put := s0.setLaunch l2
      let read := if l.rcd.countAddr = 0 then put else put.devSaw c l.rcd.countAddr 4
      let ends := fun (code : Byte) => exec .launchReady s = .next (read.completeLaunch l2 code)
      let could := fun (n : Nat) => l.rcd.couldPlace s.dev.badCores p.dies n
      (∀ n, (if l.rcd.countAddr = 0 then n = l.rcd.count else
          put.devWaits c l.rcd.countAddr 4 = false ∧ ∃ bs, put.devRead? c l.rcd.countAddr 4 = some bs ∧ n = ofLe bs) →
        (65535 < n → ends 0x33) ∧ (n = 0 → ends 0) ∧
        (0 < n → n ≤ 65535 → could n = false → ends 0x32) ∧
        (0 < n → n ≤ 65535 → could n = true →
          exec .launchReady s = .next (read.setLaunch { l2 with clusters := n, checked := true, stalled := false }))) ∧
      (l.rcd.countAddr ≠ 0 → put.devWaits c l.rcd.countAddr 4 = true →
        exec .launchReady s = .next (put.setLaunch { l2 with stalled := false })) ∧
      (l.rcd.countAddr ≠ 0 → put.devWaits c l.rcd.countAddr 4 = false → put.devRead? c l.rcd.countAddr 4 = none → ∃ e,
        exec .launchReady s = .next ((read.setLaunch { l2 with stalled := true }).raise e) ∧ e.take 1 = [0x12])) ∧
  ∀ (s : State) (c : Context) (l : Launch) (status : Byte), l.origin = .host → s.context l.ctx = some c → s.dev.acts = [] →
    let a := l.rcd.colophon
    let e := l.rcd.event
    let gone := { s with launches := s.launches.filter fun x => x.lid != l.lid }
    let other := fun (P : Place) (x : Nat) =>
      if x / 128 = P.pa / 128 ∧ s.mem.keyOf (x / 128) ≠ P.key then Config.underKey s.free x else s.mem.byteAt x
    let rang := fun (m : Memory) => { gone with mem := m, dev := { s.dev with msix := s.dev.msix ++ [l.sq] } }
    (a = 0 → e = 0 → s.completeLaunch l status = rang s.mem) ∧
    (a ≠ 0 → a.toNat % 64 = 0 → e = 0 → s.portXlat c .write a = .wait → s.completeLaunch l status =
      { gone with dev := { s.dev with acts := [.write l.ctx a (s.colophonOf l status), .irq l.ctx l.sq] } }) ∧
    (∀ P, a ≠ 0 → a.toNat % 64 = 0 → e = 0 → s.portXlat c .write a = .ok P → P.host = false → P.cell = false →
      P.pa % 64 = 0 → s.stackReady P.pa = true →
      (l.st = .ready ∨ l.st = .running) → ∃ m, s.completeLaunch l status = rang m ∧ ∀ x, m.byteAt x =
        if P.pa ≤ x ∧ x < P.pa + 64 then
          (([status] ++ leBytes 1 (l.variant.getD 0xFF) ++ leBytes 2 l.sq ++ leBytes 4 l.placed ++ leBytes 8 l.ready ++
            leBytes 8 s.cycle).getD (x - P.pa) 0)
        else other P x) ∧
    (∀ P, a = 0 → e ≠ 0 → e.toNat % 8 = 0 → s.portXlat c .write e = .ok P → s.portXlat c .read e = .ok P →
      P.host = false → P.cell = false → P.pa % 64 = e.toNat % 64 → s.unitBad (P.pa / 64) = false →
      ∃ m, s.completeLaunch l status = rang m ∧ ∀ x, m.byteAt x = if P.pa ≤ x ∧ x < P.pa + 8 then
          BitVec.ofNat 8 ((ofLe (s.mem.see s.free P.key P.pa 8) + 1) / 2 ^ (8 * (x - P.pa))) else other P x)

/-- Placement (R68, R213, R216, R244, R245, R249, R257 to R259): a launch puts its next cluster, on a die where no launch
that goes before it could place one (log 37), on a rectangle where all its teams fit, one on each core, and every group of them is RESIDENT at the kernel's entry with the
launch arguments in its highest registers and 0 in the others. A gathering's groups hold its records, one to a lane; an
evaluator's hold the cell's address, the argument, the length and the id. A spilled group comes back parked once a cell
that it awaited is no longer awaited and the quad has room. Which place of several is free (log 22). (A core's number is 16
times its row plus its column, log 34; the launch arguments stand in lanes that are not active too, log 57.) -/
def Obligations.Placement : Prop :=
  let fresh := fun (s : State) => ∀ t ∈ s.teams, t.tid < s.nextId
  let half := fun (a : Addr) (k : Nat) => BitVec.ofNat 32 (a.toNat / 2 ^ (32 * k))
  let begins := fun (l : Launch) (h : Group) => h.status = .resident ∧ h.window = false ∧ h.interval = true ∧
    h.splits = [{ label := 0, pc := l.entry, lanes := h.lanes }] ∧ h.joins = [] ∧ h.clause = none ∧ h.ops = [] ∧ h.mode = 0 ∧
    h.xset = 0 ∧ h.handling = false ∧ h.lineage = l.lineage ∧ h.cls.toNat = l.cls % 4 ∧ h.nregs = 16 * l.rcd.regs16
  let argument := fun (l : Launch) (v : Nat) =>
    let n := 16 * l.rcd.regs16
    if v = n - 1 then half l.rcd.arg 1 else if v = n - 2 then half l.rcd.arg 0
    else if v = n - 3 then BitVec.ofNat 32 l.depth else if v = n - 4 then BitVec.ofNat 32 l.clusters else 0
  (∀ (s : State) (l : Launch), s.launch s.ev.launch = some l →
    let open' := (s.spots l).filter fun p => (s.openDies l).contains p.die
    (∀ d, d ∈ s.openDies l ↔ d < 4 ∧ s.mayPlace l = true ∧ s.evalFits d = false ∧
      ∀ x ∈ s.launches, x.lid ≠ l.lid → s.mayPlace x = true → s.precedes d x l = true → s.fitsNow d x = false) ∧
    ((s.mayPlace l = false ∨ (l.rcd.grid = false ∧ open' = [])) → exec .clusterPlace s = .next s) ∧
    (fresh s → (l.origin = .host ∨ ∃ p q, l.origin = .child p q) → (l.parent = none ∨ (l.rcd.rows = 1 ∧ l.rcd.cols = 1)) →
      l.rcd.grid = false → l.recs = [] → 1 ≤ l.rcd.regs16 → l.rcd.regs16 ≤ 8 → s.mayPlace l = true → open' ≠ [] →
      ∃ t cl ts gs, exec .clusterPlace s = .next t ∧ t.clusters = s.clusters ++ [cl] ∧ cl.launch = l.lid ∧
        cl.rows = l.rcd.rows ∧ cl.cols = l.rcd.cols ∧ (⟨cl.die, cl.row, cl.col⟩ : Spot) ∈ open' ∧
        t.teams = s.teams ++ ts ∧ ts.length = l.rcd.rows * l.rcd.cols ∧
        (∀ (k : Nat) (x : Team), ts[k]? = some x → x.index = k ∧ x.cluster = cl.cid ∧ x.launch = l.lid ∧ x.place.die = cl.die ∧
          x.place.core = 16 * (cl.row + k / l.rcd.cols) + cl.col + k % l.rcd.cols ∧
          x.place ∈ s.fitQuads l.rcd.foot cl.die x.place.core ∧ x.abuf = [] ∧ x.wbuf = [] ∧
          x.quires = List.replicate l.rcd.quires {} ∧ x.slots = l.rcd.slots) ∧
        t.groups = s.groups ++ gs ∧ gs.length = l.rcd.rows * l.rcd.cols * l.rcd.groups ∧
        (∀ h ∈ gs, (∃ x ∈ ts, h.team = x.tid) ∧ begins l h ∧ h.lanes = ~~~0 ∧
          ∀ v i, v < 16 * l.rcd.regs16 → i < 64 → h.read v i = argument l v) ∧
        t.launch l.lid = some { l with st := .running, placed := l.placed + 1 } ∧ t.mem = { s.mem with sectors := t.mem.sectors })) ∧
  (∀ (s : State) (c : Context) (q : NodeQueue), s.context s.ev.ctx = some c → c.queue s.ev.queue = some q →
    (q.gatherings = [] → exec .gatheringPlace s = .next s) ∧
    (∀ g rest l, q.gatherings = g :: rest → s.launch g.lid = some l → s.mayPlace l = true → l.parent = none →
      l.rcd.rows = 1 → l.rcd.cols = 1 → l.rcd.grid = false → 2 ≤ l.rcd.regs16 → l.rcd.regs16 ≤ 8 →
      (∃ p ∈ s.spots l, p.die ∈ s.openDies l) → 1 ≤ g.recs.length → g.recs.length ≤ 64 → ∃ t x gs c' q', exec .gatheringPlace s = .next t ∧ t.teams = s.teams ++ [x] ∧
        t.groups = s.groups ++ gs ∧ gs.length = l.rcd.groups ∧
        (∀ h ∈ gs, h.team = x.tid ∧ begins l h ∧ ∀ i, i < 64 → h.lanes.getLsbD i = decide (i < g.recs.length) ∧
          ∀ v, v < 16 * l.rcd.regs16 → h.read v i = match g.recs[i]? with
            | some r => if 1 ≤ v ∧ v ≤ 16 then r.words.getD (v - 1) 0 else argument l v
            | none => argument l v) ∧
        t.context s.ev.ctx = some c' ∧ c'.queue s.ev.queue = some q' ∧ q'.gatherings = rest)) ∧
  (∀ s : State, (s.evalQueue s.ev.die = [] → exec .evaluatorLaunch s = .next s) ∧
    ∀ e r c, s.evalQueue s.ev.die = e :: r → s.context e.ctx = some c →
      let d := deferral (s.mem.unit e.head)
      let k := if d.ok = true then s.kernelSaw c d.kernel else s
      (∀ cause, k.evalLaunch c e s.nextId = .error cause → exec .evaluatorLaunch s = .next (k.endEval e.id cause)) ∧
      (∀ l hint cargo, k.evalLaunch c e s.nextId = .ok (l, hint, cargo) → k.evalSpots l hint ≠ [] →
        let word := fun (k : Nat) => BitVec.ofNat 32 (ofLe (lookups 0 s.mem.bytes (64 * e.head + k) 4))
        ∃ t x gs, exec .evaluatorLaunch s = .next t ∧ t.teams = s.teams ++ [x] ∧ x.place.die = e.die ∧
          x.origin = .evaluator e.id ∧ t.groups = s.groups ++ gs ∧ gs.length = (s.mem.byteAt (64 * e.head + 18)).toNat ∧
          t.evals = s.evals.map (fun (y : Eval) => if y.id = e.id then { y with queued := false } else y) ∧
          ∀ h ∈ gs, h.team = x.tid ∧ h.status = .resident ∧ h.lineage = (e.lineage <<< 16) ||| BitVec.ofNat 64 e.id ∧
            ∀ i, i < 64 → h.read 2 i = half e.headVa 0 ∧ h.read 3 i = half e.headVa 1 ∧ h.read 4 i = word 8 ∧
              h.read 5 i = word 12 ∧ h.read 6 i = BitVec.ofNat 32 e.len ∧ h.read 7 i = BitVec.ofNat 32 e.id)) ∧
  ∀ (s : State) (g : Group) (t : Team) (c : Context) (w : Wait) (us : List Nat), s.group s.ev.g = some g →
    g.status = .spilled w → (w = .cell us ∨ ∃ n, w = .tableFull n us) → s.team g.team = some t → s.context t.ctx = some c →
    let room := s.quadRoom ⟨1, g.nregs, 0, 0, 0, 0⟩ t.place
    (((∀ u ∈ us, s.awaits u = true) ∨ c.st ≠ .active) → exec .groupReload s = .next s) ∧
    ((∃ u ∈ us, s.awaits u = false) → c.st = .active → t.saved = false →
      (room = false → exec .groupReload s = .next s) ∧
      (room = true → (∀ k < 64, s.unitBad ((c.endBase + k) / 64) = false) →
        ∃ m, exec .groupReload s = .next ((s.placeGroup { g with status := .parked w }).setMem m) ∧
        m = { s.mem with bytes := m.bytes, tags := m.tags, keyed := m.keyed, lines := m.lines } ∧
        ∀ x, (x < c.endBase ∨ c.endBase + 64 ≤ x) → ((x / 128 ≠ c.endBase / 128 ∧ x / 128 ≠ (c.endBase + 63) / 128) ∨
          s.mem.keyOf (x / 128) = s.slotKey c.key) → m.byteAt x = s.mem.byteAt x))

/-! ### The links -/

/-- Flits and their flow (R281, R284 to R286, R288 to R290, R293, R296). A flit's bytes read back as the flit. Its eight beats
have the global numbers that follow one another, for a DATA flit from 8 times its distance from S (those of other flits take
the next numbers, log 99's choice), and travel on the active lane of rank g mod A; beats in any order of arrival give the flit
back. A DATA flit is delivered where it is the one expected, ignored where it has been seen, and otherwise answered by NACK, at
most once in 2 µs; a NACK, a restripe and 100 µs without an acknowledgement send the held flits again, but not on a link that
has lost lanes and waits for its RESTRIPE, and an acknowledgement releases them. A RESTRIPE makes the waiting lanes that it
names ACTIVE; an ACTIVE lane that it leaves out passes through OFF and waits again where it is lit, a dark lane that it names
stays out, and DATA then waits for the next one (log 42). AV is 1 while the reverse link is not DARK (log 115). No event
concerns an index without a device (log 117), nor a module without verified firmware (R357). -/
def Obligations.LinkFlits : Prop :=
  (∀ f : Parsed, f.type ≤ 4 → f.seq < 2 ^ 20 → f.ack < 2 ^ 20 → f.epoch < 16 → f.payload.length = 112 →
    f.bytes.length = 128 ∧ parseFlit f.bytes = some f) ∧
  (∀ (f : Sent), f.raw.length = 128 → f.mask ≠ 0 →
    let lanes := fun (p : Nat → Bool) => (List.range 64).countP fun k => f.mask.getLsbD k && p k
    (∀ b < 8, ∃ k < 64, (⟨f.g + b, some k, (f.raw.drop (16 * b)).take 16⟩ : Beat) ∈ f.beats ∧ f.mask.getLsbD k = true ∧
      lanes (fun j => decide (j < k)) = (f.g + b) % lanes fun _ => true) ∧
    ∀ bs : List Beat, (∀ x, x ∈ bs ↔ x ∈ f.beats) → reassemble f.g bs = f.raw) ∧
  (∀ (l : Link) (type seq cycle : Nat) (raw : List Byte), seq < 2 ^ 20 →
    let from' := ((seq : Int) - l.point) % 2 ^ 20
    ∃ g, l.send type seq cycle raw = { l with out := l.out ++ [⟨raw, g, l.mask⟩], beat := g + 8, sentAt := cycle } ∧
      (type = 1 → l.point < 2 ^ 20 → (g : Int) = 8 * from') ∧ (type ≠ 1 → g = l.beat)) ∧
  (∀ s : State, (s.dev.full = false ∨ (s.ev.peer ≠ s.dev.index ∧ (128 ≤ s.ev.peer ∨ s.ev.peer ∈ s.dev.absent))) → ∀ i ∈ [Instr.flitData, .flitIdle, .flitNack, .flitRestripe, .flitRetrain, .flitLost, .idleTimer,
    .replayTimeout, .restripeRepeat, .lightDetected, .lossOfLight, .lockWindow, .lockTimeout, .thresholdCrossed,
    .uncorrectableCodeword, .retrainTimeout, .linkHoldExpire], exec i s = .next s) ∧
  ∀ (s : State) (peer : Nat) (raw : Option Parsed), peer = s.ev.peer → s.dev.full = true → s.dev.present peer = true →
    raw = parseFlit s.ev.raw →
    let l := s.linkOr peer false
    let r := s.linkOr peer true
    let flit := fun (type seq epoch : Nat) (payload : List Byte) =>
      (⟨type, seq, r.expect, epoch, decide (r.st ≠ .dark), payload⟩ : Parsed).bytes
    let pad := fun (bs : List Byte) => bs ++ List.replicate (112 - bs.length) 0
    let ago := fun (a n : Nat) => (a + 2 ^ 20 - n) % 2 ^ 20
    let covered := fun (a n : Nat) => 1 ≤ ago a n ∧ ago a n ≤ 4096
    let sends := fun (u : State) (v : Link) (type seq : Nat) (bs : List Byte) => u.putLink (v.send type seq s.cycle bs)
    let again := fun (v : Link) (epoch : Nat) (held : List Flit) =>
      held.foldl (fun v x => v.send 1 x.seq s.cycle (flit 1 x.seq epoch x.payload)) v
    let nacks := fun (i : Instr) =>
      (∀ e c, r.nackAt = some (e, c) → e = r.expect → s.cycle < c + 3200 → exec i s = .next s) ∧
      ((∀ e c, r.nackAt = some (e, c) → e ≠ r.expect ∨ c + 3200 ≤ s.cycle) →
        let u := s.putLink { r with nackAt := some (r.expect, s.cycle) }
        exec i s = .next (if l.st = .dark then u else sends u l 2 l.next (flit 2 l.next l.epoch (pad (leBytes 4 r.expect)))))
    let times := l.replay ≠ [] ∧ l.ackAt + 160000 ≤ s.cycle ∧ (l.st = .up ∨ l.st = .degraded) ∧ l.holdData = false
    (raw = none → nacks .flitLost) ∧ (raw ≠ none → exec .flitLost s = .next s) ∧
    (∀ f, raw = some f → f.av = false →
      (f.type = 1 → r.pendingEpoch = none →
        (f.seq = r.expect → f.epoch = r.epoch % 16 → exec .flitData s = .next (s.putLink { r with
          expect := (r.expect + 1) % 2 ^ 20, delivered := r.delivered ++ [f.payload] })) ∧
        (¬(f.seq = r.expect ∧ f.epoch = r.epoch % 16) →
          (covered r.expect f.seq → exec .flitData s = .next s) ∧ (¬covered r.expect f.seq → nacks .flitData))) ∧
      (f.type = 2 →
        let n := ofLe (f.payload.take 4) % 2 ^ 20
        let held := l.replay.filter fun x => decide (ago x.seq n < 4096)
        ∃ t, exec .flitNack s = .next t ∧ t = { s with links := t.links } ∧ t.linkOr peer true = r ∧
          t.linkOr peer false = if l.holdData = true then l else again l l.epoch held) ∧
      (f.type = 3 → (∀ k < s.dev.planes, ∃ x ∈ l.lanes, x.lane = k) →
        let e := ofLe (f.payload.take 1)
        let n := ofLe ((f.payload.drop 4).take 4) % 2 ^ 20
        let m := BitVec.ofNat 64 (ofLe ((f.payload.drop 8).take 8))
        let ahead := (e + 256 - l.epoch) % 256
        let held := l.replay.filter fun x => decide (ago x.seq n < 4096)
        let dark := fun (k : Nat) => ∃ x ∈ l.lanes, x.lane = k ∧ x.st = .off
        let names := ∃ k < 64, dark k ∧ m.getLsbD k = true
        ((l.st = .dark ∨ ahead = 0 ∨ 128 < ahead) → exec .flitRestripe s = .next s) ∧
        (l.st ≠ .dark → 1 ≤ ahead → ahead ≤ 128 → ∃ t v, exec .flitRestripe s = .next t ∧ t.linkOr peer false = v ∧
          v.epoch = e ∧ v.point = n ∧ v.replay = l.replay ∧ v.next = l.next ∧
          (∀ k < 64, v.mask.getLsbD k = true ↔ m.getLsbD k = true ∧ ¬dark k) ∧ (v.holdData = true ↔ names) ∧
          (names → v.out = l.out) ∧ (¬names → v.out = (again { l with mask := m, point := n, beat := 0 } e held).out) ∧
          (∀ k < s.dev.planes, (v.laneAt k).st =
            if m.getLsbD k = true ∧ ((l.laneAt k).st = .locking ∨ (l.laneAt k).st = .retraining) then .active
            else if m.getLsbD k = false ∧ (l.laneAt k).st = .active then (if s.dev.lights peer k = true then .locking else .off)
            else (l.laneAt k).st) ∧
          t.mem = { s.mem with host := t.mem.host } ∧ t.groups = s.groups)) ∧
      (f.type = 4 → ∀ (k code : Nat) (st : LaneState), k = ofLe (f.payload.take 1) → code = ofLe ((f.payload.drop 1).take 1) →
        (code, st) ∈ [(1, LaneState.retraining), (2, .locking), (3, .retired)] → k < s.dev.planes → (∃ x ∈ l.lanes, x.lane = k) →
        ∃ t, exec .flitRetrain s = .next t ∧ ((t.linkOr peer false).laneAt k).st = st ∧
          ((code = 2 → l.st ≠ .dark ∧ r.st ≠ .dark ∧ r.st ≠ .training) → t.linkOr peer true = r) ∧
          (∀ j, j ≠ k → (t.linkOr peer false).laneAt j = l.laneAt j) ∧ t.groups = s.groups)) ∧
    (∀ f, raw = some f → f.type = 0 → r.pendingEpoch = none →
      let left := l.replay.filter fun x => !decide (covered f.ack x.seq)
      ((f.av = false ∨ left.length = l.replay.length) → exec .flitIdle s = .next s) ∧
      (f.av = true → left.length < l.replay.length →
        exec .flitIdle s = .next (s.putLink { l with replay := left, ackAt := s.cycle }))) ∧
    ((l.st ≠ .dark → l.sentAt + 1600 ≤ s.cycle → exec .idleTimer s = .next (sends s l 0 l.next (flit 0 l.next l.epoch (pad [])))) ∧
      ((l.st = .dark ∨ s.cycle < l.sentAt + 1600) → exec .idleTimer s = .next s)) ∧
    ((¬times → exec .replayTimeout s = .next s) ∧
      (times → ∃ t, exec .replayTimeout s = .next t ∧ t = { s with links := t.links } ∧ t.linkOr peer true = r ∧
        t.linkOr peer false = again { l with ackAt := s.cycle } l.epoch l.replay)) ∧
    (∀ e p m, r.pendingEpoch = some (e, p, m) →
      (s.cycle < r.restripeAt + 3200 → exec .restripeRepeat s = .next s) ∧
      (r.restripeAt + 3200 ≤ s.cycle → l.st ≠ .dark → exec .restripeRepeat s =
        .next (sends (s.putLink { r with restripeAt := s.cycle }) l 3 l.next
          (flit 3 l.next l.epoch (pad (leBytes 1 e ++ [0, 0, 0] ++ leBytes 4 p ++ leBytes 8 m.toNat)))))) ∧
    (r.pendingEpoch = none → exec .restripeRepeat s = .next s)

/-- Lanes, links and laser modules (R281, R291 to R298). Each event moves its lane as R291 says and changes no other lane: a
lane locks in one whole 1 ms window with no more corrected symbols than the threshold (a count equal to it has not crossed it,
log 116's choice), and has 1 ms to do so, 100 ms while it retrains. One that fails leaves the next stripe, one that holds lock enters it, and one without light leaves the present
stripe, and the one under way, at once. A laser that fails darkens its transmit lanes and holds DATA back until the RESTRIPE;
one that is replaced lights them, and they wait at once (log 76's choice). A link that has been DOWN for 100 ms is DARK, drops
its held flits and its stripe, its lit lanes wait anew (log 119's choice), and it trains again where both directions have such
lanes. A record shows the stripe that its side has started (log 118). A link's wavelength is the distance of its indices
modulo 128. -/
def Obligations.LinkLanes : Prop :=
  (∀ (s : State) (k : Nat), k = s.ev.lane → s.dev.full = true → s.dev.present s.ev.peer = true →
    let peer := s.ev.peer
    let r := s.linkOr peer true
    let l := s.linkOr peer false
    let x := r.laneAt k
    let known := k < s.dev.planes ∧ ∃ y ∈ r.lanes, y.lane = k
    let recent := x.retrains.filter fun c => decide (s.cycle < c + 16000000000)
    let stripe := r.pendingEpoch.getD (r.epoch, r.point, r.mask)
    let put := fun (y : LinkLane) => { r with lanes := r.lanes.map fun z => if z.lane = k then y else z }
    let after := fun (i : Instr) (f : State → Link → Prop) => ∃ t v, exec i s = .next t ∧ t.linkOr peer true = v ∧ f t v ∧
      (∀ j, j ≠ k → v.laneAt j = r.laneAt j) ∧ t.mem = { s.mem with host := t.mem.host } ∧ t.groups = s.groups
    let stripes := fun (v : Link) => r.st ≠ .dark → ∃ m, v.pendingEpoch =
        some (((r.pendingEpoch.map fun p => p.1).getD r.epoch + 1) % 256, r.expect, m) ∧
      ∀ j, j < 64 → (m.getLsbD j = true ↔ ∃ y ∈ v.lanes, y.lane = j ∧ (y.st = .active ∨ (y.st = .locking ∧ y.waits = true)))
    let off := fun (i : Instr) (st : LaneState) => ¬(k < s.dev.planes ∧ x.st = st) → exec i s = .next s
    off .lightDetected .off ∧ off .retrainTimeout .retraining ∧ off .uncorrectableCodeword .active ∧
    off .thresholdCrossed .active ∧ off .lockTimeout .locking ∧
    (known →
      (x.st = .off → after .lightDetected fun t v => (v.laneAt k).st = .locking ∧
        (r.st = .dark → (∃ y ∈ l.lanes, y.st = .locking ∨ y.st = .active) →
          v.st = .training ∧ v.expect = 0 ∧ v.epoch = 0 ∧ v.mask = 0 ∧
          ((∃ y ∈ r.lanes, y.lane ≠ k ∧ y.waits = true) → ∃ m, v.pendingEpoch = some (1, 0, m)) ∧
          ((∃ y ∈ l.lanes, y.st = .locking) → l.st = .dark →
            (t.linkOr peer false).st = .training ∧ (t.linkOr peer false).next = 0 ∧ (t.linkOr peer false).replay = []))) ∧
      ((x.waits = true ∨ s.cycle < x.since + 1600000) → exec .lockTimeout s = .next s) ∧
      (x.st = .locking → x.waits = false → x.since + 1600000 ≤ s.cycle → peer ≠ s.dev.index → exec .lockTimeout s = .next
        ((s.putLink (put { x with st := .off, waits := false, since := s.cycle })).raise
          ((leBytes 1 0x40 ++ leBytes 1 0 ++ leBytes 1 1 ++ leBytes 1 5 ++ leBytes 1 s.dev.index ++ leBytes 1 peer ++
            leBytes 1 1 ++ leBytes 1 (s.dev.planeOf k) ++ leBytes 1 k ++ leBytes 1 (laneCount stripe.2.2) ++
            leBytes 1 recent.length ++ leBytes 1 stripe.1 ++ leBytes 4 (stripe.2.1 % 2 ^ 20) ++ leBytes 4 x.last ++
            leBytes 8 s.cycle) ++ List.replicate 36 0))) ∧
      (x.st = .active → s.dev.linkThreshold < s.ev.n → after .thresholdCrossed fun _ v =>
        v.laneAt k = { x with st := .suspect, waits := false, count := s.ev.n, since := s.cycle } ∧ stripes v) ∧
      (s.ev.n ≤ s.dev.linkThreshold → exec .thresholdCrossed s = .next s) ∧
      (x.st = .active → after .uncorrectableCodeword fun _ v =>
        v.laneAt k = { x with st := .suspect, waits := false, since := s.cycle } ∧ stripes v) ∧
      (let now := s.cycle / 1600000
        let n := max x.count s.ev.n
        let closed := { x with last := n, count := 0, window := now }
        let held := x.since + 1600000 ≤ now * 1600000 ∧ n ≤ s.dev.linkThreshold
        (now ≤ x.window → exec .lockWindow s = .next s) ∧
        (x.window < now → (¬held ∨ (x.st ≠ .retraining ∧ (x.st ≠ .locking ∨ x.waits = true))) →
          exec .lockWindow s = .next (s.putLink (put closed))) ∧
        (x.window < now → held → x.st = .locking → x.waits = false → after .lockWindow fun _ v =>
          v.laneAt k = { closed with waits := true } ∧ stripes v) ∧
        (x.window < now → held → x.st = .retraining → after .lockWindow fun t v =>
          v.laneAt k = { closed with st := .locking, waits := true, since := s.cycle } ∧ stripes v ∧
          (l.st ≠ .dark → ∃ b bs, (t.linkOr peer false).out = l.out ++ b :: bs ∧ ∃ f, parseFlit b.raw = some f ∧ f.type = 4 ∧
            f.payload.take 2 = [BitVec.ofNat 8 k, 2]))) ∧
      (s.cycle < x.since + 160000000 → exec .retrainTimeout s = .next s) ∧
      (x.st = .retraining → x.since + 160000000 ≤ s.cycle → recent.length < 3 → exec .retrainTimeout s =
        .next (s.putLink (put { x with retrains := recent ++ [s.cycle], since := s.cycle }))) ∧
      (x.st = .retraining → x.since + 160000000 ≤ s.cycle → 3 ≤ recent.length → after .retrainTimeout fun t v =>
        v.laneAt k = { x with st := .retired, waits := false, since := s.cycle } ∧
        (l.st ≠ .dark → ∃ b, (t.linkOr peer false).out = l.out ++ [b] ∧ ∃ f, parseFlit b.raw = some f ∧ f.type = 4 ∧
          f.payload.take 2 = [BitVec.ofNat 8 k, 3])))) ∧
  (∀ s : State, s.dev.full = true → s.dev.present s.ev.peer = true →
    let r := s.linkOr s.ev.peer true
    let hit := fun (k : Nat) => k < s.dev.planes ∧ s.ev.lanes.getLsbD k = true ∧
      (r.laneAt k).st ≠ .off ∧ (r.laneAt k).st ≠ .retired
    (∀ k, k < 64 → k < s.dev.planes → ∃ y ∈ r.lanes, y.lane = k) →
    ∃ t v, exec .lossOfLight s = .next t ∧ t.linkOr s.ev.peer true = v ∧ t.groups = s.groups ∧
      ((∃ k < 64, hit k ∧ (r.mask.getLsbD k = true ∨ ∃ e p m, r.pendingEpoch = some (e, p, m) ∧ m.getLsbD k = true)) →
        r.st ≠ .dark → ∃ m, v.pendingEpoch =
          some (((r.pendingEpoch.map fun p => p.1).getD r.epoch + 1) % 256, r.expect, m) ∧ ∀ k < 64, hit k → m.getLsbD k = false) ∧
      (∀ k, k < 64 → v.mask.getLsbD k = (r.mask.getLsbD k && !decide (hit k))) ∧
      (∀ k, k < 64 → (hit k → (v.laneAt k).st = .off) ∧ (¬hit k → v.laneAt k = r.laneAt k))) ∧
  (∀ s : State,
    let m := s.ev.module
    let ks := (List.range s.dev.planes).filter fun k => s.dev.planeOf k / 4 == m
    let lit := fun (t : State) (st : LaserState) => t.dev.laser m = st ∧ ∀ n, n ≠ m → t.dev.laser n = s.dev.laser n
    let all := fun (f : Link → Link → Prop) (t : State) => ∀ l ∈ s.links, l.rx = false → l.peer < 128 →
      s.dev.present l.peer = true → s.link l.peer false = some l →
      (∀ k ∈ ks, ∃ y ∈ l.lanes, y.lane = k) → ∃ v, t.link l.peer false = some v ∧ f l v
    (s.dev.laser m ≠ .lit → exec .laserFailure s = .next s) ∧
    (s.dev.laser m = .lit → ∃ t, exec .laserFailure s = .next t ∧ lit t .failed ∧ t.groups = s.groups ∧
      all (fun l v =>
        let gone := fun (k : Nat) => k ∈ ks ∧ (l.laneAt k).st ≠ .off ∧ (l.laneAt k).st ≠ .retired
        (∀ k, k < 64 → v.mask.getLsbD k = (l.mask.getLsbD k && !decide (gone k))) ∧
        (∀ k, (gone k → (v.laneAt k).st = .off) ∧ (¬gone k → v.laneAt k = l.laneAt k)) ∧
        ((∃ k < 64, gone k ∧ l.mask.getLsbD k = true) → v.holdData = true)) t) ∧
    let replaced := s.dev.full = true ∧ s.dev.fnState (.laser m) = .failed ∧ s.dev.laser m ≠ .lit
    (¬replaced → exec .laserReplaced s = .next s) ∧
    (replaced → ∃ t, exec .laserReplaced s = .next t ∧ lit t .lit ∧ t.groups = s.groups ∧
      all (fun l v => ∀ k, ((k ∈ ks ∧ ((l.laneAt k).st = .off ∨ (l.laneAt k).st = .retired)) → (v.laneAt k).st = .locking) ∧
        ((k ∉ ks ∨ ((l.laneAt k).st ≠ .off ∧ (l.laneAt k).st ≠ .retired)) → v.laneAt k = l.laneAt k)) t)) ∧
  (∀ s : State, s.dev.full = true → s.dev.present s.ev.peer = true →
    let peer := s.ev.peer
    let rx := s.ev.rx
    let l := s.linkOr peer rx
    let other := s.linkOr peer (!rx)
    let over' := l.st = .down ∧ l.downAt + 160000000 ≤ s.cycle
    let behind := fun (x : Nat × Req) => !rx && x.1 == peer
    (¬over' → exec .linkHoldExpire s = .next s) ∧
    (over' → (∀ f ∈ l.replay, ∀ r, f.load = .request r → s.remoteOp r.tag = none) →
      (∀ x ∈ s.sent, behind x = true → s.remoteOp x.2.tag = none) → (∀ y ∈ l.lanes, y.lane < s.dev.planes) →
      ∃ t v, exec .linkHoldExpire s = .next t ∧ t.linkOr peer rx = v ∧ t.groups = s.groups ∧
        t.sent = s.sent.filter (fun x => !behind x) ∧ v.replay = [] ∧ v.mask = 0 ∧
        (∀ k, (v.laneAt k).st = if (l.laneAt k).st = .active ∨ (l.laneAt k).st = .suspect ∨
          (rx = false ∧ (l.laneAt k).st = .retraining) then .locking else (l.laneAt k).st) ∧
        v.st = if (∃ y ∈ v.lanes, y.st = .locking) ∧ (∃ y ∈ other.lanes, y.st = .locking ∨ y.st = .active) then .training
          else .dark)) ∧
  ∀ s : State,
    let f := fun (a n : Nat) => cmdField s.ev.entry a n
    let refused := fun (i : Instr) (reason : Nat) => exec i s = .next (s.completes s false 2 reason)
    let l := s.linkOr (f 16 1) (decide (f 18 1 = 1))
    (s.commanded 0x19 0 false [(16, 3)] →
      let named := f 16 1 ≤ 127 ∧ f 17 1 < s.dev.planes ∧ f 18 1 ≤ 1
      (¬named → refused .reenableLane 1) ∧
      (named → (l.laneAt (f 17 1)).st ≠ .retired → refused .reenableLane 3) ∧
      (named → (l.laneAt (f 17 1)).st = .retired → ∃ t v, exec .reenableLane s = .next (s.completes t false 0 0) ∧
        t.linkOr (f 16 1) (decide (f 18 1 = 1)) = v ∧
        v.laneAt (f 17 1) = { l.laneAt (f 17 1) with
          st := if f 18 1 = 0 ∧ s.dev.lights (f 16 1) (f 17 1) = true then .locking else .off
          waits := false, retrains := [], since := s.cycle } ∧ t.groups = s.groups)) ∧
    (s.commanded 0x18 0 false [(16, 4)] →
      (1 ≤ f 16 4 → f 16 4 ≤ 1048575 →
        exec .linkThreshold s = .next (s.completes (s.setDev { s.dev with linkThreshold := f 16 4 }) false 0 0)) ∧
      ((f 16 4 = 0 ∨ 1048575 < f 16 4) → refused .linkThreshold 1)) ∧
    ∀ peer rx, s.dev.index < 128 → peer < 128 →
      (s.dev.wavelength peer rx : Int) = (if rx then (s.dev.index : Int) - peer else (peer : Int) - s.dev.index) % 128

/-! ### Contexts and replies -/

/-- The commands and events of a context's life (R239, R240, R265, R267, R268, R272, R278 to R280, R355; that a creation's
event names the descriptor's context is the model's choice, as log 46 says). A descriptor in order makes an ACTIVE context
with its queues, whose record storage lies in memory that no page maps; any other is refused, and makes none. An end command
ends its launches, and removes its teams and engine commands in one step (log 69's choice; what it leaves of a command: log
120); pre-emption waits for every group to stop (where: log 45), then saves teams and registers, frees the arrays and writes
the endpaper under the primary key: its header, and behind it records in a form of the device's own (log 18); resume puts a
saved cluster back on its die, with a budget rounded down (log 56). An end command that finds the context being saved or put
back is held, and so is one after it. What the device reads leaves lines in L2 (log 24). -/
def Obligations.ContextLife : Prop :=
  (∀ (s : State) (d : List Byte), s.commanded 0x02 0 true [(16, 8)] → s.physRead (cmdField s.ev.entry 16 8) 256 = some d →
    let f := fun (a n : Nat) => ofLe ((d.drop a).take n)
    let num := f 52 2
    let n := f 54 2
    let key := fun (k : Nat) => k ≤ 511
    let inOrder := f 0 8 % 65536 = 0 ∧ f 8 8 % 4096 = 0 ∧ f 16 8 % 4 = 0 ∧ f 24 4 = 0 ∧
      f 28 1 < 4 ∧ f 29 1 < 16 ∧ key (f 30 2) ∧ (∀ k < 4, key (f (32 + 2 * k) 2) ∨ f (32 + 2 * k) 2 = 0xFFFF) ∧
      1 ≤ f 40 4 ∧ f 40 4 ≤ f 44 4 ∧ f 44 4 ≤ 16777215 ∧ f 48 4 % 2 = 0 ∧ f 48 4 < 2 ^ 28 ∧ num ≤ 63 ∧ n ≤ 1024 ∧
      f 56 8 % 64 = 0 ∧ (n = 0 → f 56 8 = 0) ∧ f 64 8 % 64 = 0 ∧ f 72 8 % 4096 = 0 ∧ ∀ x ∈ d.drop 80, x = 0
    let c : Context := {
      num := num, st := .active, root := f 0 8, endBase := f 8 8, endSize := f 72 8, handler := BitVec.ofNat 64 (f 16 8)
      strict := decide (f 28 1 / 2 % 2 = 1), fifo := decide (f 28 1 % 2 = 1), ceiling := f 29 1 % 4, evalClass := f 29 1 / 4 % 4
      key := f 30 2, shared := ((List.range 4).map fun k => f (32 + 2 * k) 2).filter fun k => k != 0xFFFF
      refill := f 40 4, cap := f 44 4, forward := BitVec.ofNat 32 (f 48 4), combine := BitVec.ofNat 64 (f 64 8)
      map := { axes := 1, sizes := [1, 1, 1, 1, 1], entries := [(s.dev.index, num)] } }
    let kernel := fun (a : Addr) => ∃ b, s.devRead? c a 128 = some b ∧ ofLe ((b.drop 34).take 1) = 0x11 ∧ 2 ≤ ofLe ((b.drop 36).take 1)
    let entry := fun (q : Nat) => s.devRead? c (BitVec.ofNat 64 (f 56 8) + BitVec.ofNat 64 (32 * q)) 32
    let width := fun (b : List Byte) => if ofLe ((b.drop 16).take 1) = 0 then 64 else ofLe ((b.drop 16).take 1)
    let good := fun (b : List Byte) =>
      let g := fun (a n : Nat) => ofLe ((b.drop a).take n)
      g 0 8 % 64 = 0 ∧ g 12 4 = 0 ∧ g 17 1 = 0 ∧ g 20 4 = 0 ∧ g 24 8 % 64 = 0 ∧ width b ≤ 64 ∧ width b ≤ g 8 4 ∧
        g 8 4 ≤ 65536 ∧ kernel (BitVec.ofNat 64 (g 0 8))
    let queue := fun (q : Nat) (b : List Byte) =>
      let g := fun (a n : Nat) => ofLe ((b.drop a).take n)
      ({ num := q, kernel := BitVec.ofNat 64 (g 0 8), capacity := g 8 4, coalesce := width b, timeout := g 18 2
         storage := BitVec.ofNat 64 (g 24 8) } : NodeQueue)
    let stored := fun (q : Nat) (b : List Byte) => s.storageOk c (queue q b) = true
    let refused := ∃ u : State, exec .createContext s = .next (u.raise (completionEvent 2 num 2 1 (cmdTag s.ev.entry))) ∧
      u.contexts = s.contexts ∧ u.groups = s.groups ∧ u.launches = s.launches ∧ u.mem.bytes = s.mem.bytes
    (cmdField s.ev.entry 16 8 % 256 ≠ 0 →
      exec .createContext s = .next (s.raise (completionEvent 2 0 2 1 (cmdTag s.ev.entry)))) ∧
    (cmdField s.ev.entry 16 8 % 256 = 0 → (¬inOrder → refused) ∧ (s.context num ≠ none → refused) ∧
      ((∃ q < n, ∀ b, entry q = some b → ¬(good b ∧ stored q b)) → refused) ∧
      (f 64 8 ≠ 0 → ¬kernel (BitVec.ofNat 64 (f 64 8)) → refused) ∧
      ∀ bs : Nat → List Byte, inOrder → s.context num = none → (∀ q < n, entry q = some (bs q) ∧ good (bs q) ∧ stored q (bs q)) →
        (f 64 8 = 0 ∨ kernel (BitVec.ofNat 64 (f 64 8))) → ∃ m, m = { s.mem with lines := m.lines } ∧
        exec .createContext s = .next (State.raise { s with
          mem := m, contexts := s.contexts ++ [{ c with queues := (List.range n).map fun q => queue q (bs q) }] }
            (completionEvent 0 num 2 0 (cmdTag s.ev.entry))))) ∧
  (∀ (s : State) (c : Context), s.context (cmdCtx s.ev.entry) = some c →
    let tag := cmdTag s.ev.entry
    let refused := fun (i : Instr) (reason : Nat) => exec i s = .next (s.completes s true 2 reason)
    (s.commanded 0x03 0 true [] →
      (c.st = .ending → refused .endContext 3) ∧
      ((c.st = .preempting ∨ c.st = .resuming) →
        exec .endContext s = .next (s.setContext { c with endHeld := c.endHeld ++ [tag] })) ∧
      ((c.st = .active ∨ c.st = .preempted) → (s.launches.map Launch.lid).Nodup →
        (∀ l ∈ s.launches, l.ctx = c.num → l.origin = .host ∧ l.rcd.colophon = 0 ∧ l.rcd.event = 0) →
        ∃ t c', exec .endContext s = .next t ∧ t.context c.num = some c' ∧ c'.st = .ending ∧ c'.tag = tag ∧ c'.saved = [] ∧
          (∀ l, l ∈ t.launches ↔ l ∈ s.launches ∧ l.ctx ≠ c.num) ∧ (∀ e ∈ t.engines, e.ctx ≠ c.num) ∧
          ∀ x ∈ t.teams, ∀ l ∈ s.launches, l.ctx = c.num → x.launch ≠ l.lid)) ∧
    (s.commanded 0x04 0 true [] →
      (c.st ≠ .active → refused .preempt 3) ∧
      (c.st = .active → c.endSize < (s.saveUse c.num).2 → refused .preempt 4) ∧
      (c.st = .active → (s.saveUse c.num).2 ≤ c.endSize → ∃ t, exec .preempt s = .next t ∧ t.teams = s.teams ∧ t.mem = s.mem ∧
        t.context c.num = some { c with st := .preempting, tag := tag, rwaits := [] })) ∧
    (s.commanded 0x05 0 true [] →
      (c.st ≠ .preempted → refused .resume 3) ∧
      (c.st = .preempted → exec .resume s = .next (s.setContext { c with st := .resuming, tag := tag })))) ∧
  ∀ (s : State) (c : Context), s.context s.ev.ctx = some c →
    (let idle := c.st = .ending ∧ (∀ t ∈ s.teams, t.ctx ≠ c.num) ∧ (∀ e ∈ s.engines, e.ctx ≠ c.num) ∧
        ∀ o ∈ s.fabric, o.ctx = c.num → o.unsent = [];
      (¬idle → exec .contextEnded s = .next s) ∧
      (idle → s.readRings = s → (∀ p ∈ s.remotes, p.req.dstCtx ≠ c.num) → c.log = [] → c.logAcks = [] → c.queues = [] → s.held = [] → s.dev.acts = [] →
        (∀ p ∈ s.mem.pages, p.ctx ≠ c.num) → exec .contextEnded s = .next (State.raise { s with
          contexts := s.contexts.filter fun x => x.num != c.num, fabric := s.fabric.filter fun o => o.ctx != c.num
          mem := { s.mem with tlbs := s.mem.tlbs.filter fun t => t.ctx != c.num } } (completionEvent 0 c.num 3 0 c.tag)))) ∧
    ((c.st ≠ .preempting ∨ s.stopped c.num = false) → exec .preemptSaved s = .next s) ∧
    (c.st = .preempting → s.stopped c.num = true → c.endHeld = [] → (s.teams.map Team.tid).Nodup → (s.groups.map Group.gid).Nodup →
      (∀ core, s.quiet core = true) → (∀ k < (s.saveUse c.num).2, s.unitBad ((c.endBase + k) / 64) = false) →
      let mine := s.teams.filter fun t => t.ctx == c.num
      let header := leBytes 4 2 ++ leBytes 4 mine.length ++ leBytes 8 (s.saveUse c.num).2 ++ leBytes 8 s.cycle
      ∃ (t u : State) (c' : Context), exec .preemptSaved s = .next t ∧ t = u.raise (completionEvent 0 c.num 4 0 c.tag) ∧ u.dev = s.dev ∧
        t.teams = (s.teams.filter fun t => t.ctx != c.num) ∧ (∀ g ∈ t.groups, ∀ x ∈ mine, g.team ≠ x.tid) ∧
        t.context c.num = some c' ∧ c'.st = .preempted ∧
        (∀ x ∈ mine, ∃ y ∈ c'.saved, y.team = x ∧ y.groups.map Group.regs =
          (s.groups.filter fun g => g.team == x.tid).map Group.regs) ∧
        (∀ x ∈ mine, ∀ g ∈ s.groups, g.team = x.tid → (t.array x.place).owner.map Resv.who ≠ some (.group g.gid)) ∧
        (∀ x, c.endBase ≤ x → x < c.endBase + 64 → t.mem.byteAt x = header.getD (x - c.endBase) 0) ∧
        ∀ x, (x < c.endBase ∨ c.endBase + (s.saveUse c.num).2 ≤ x) →
          (s.mem.keyOf (x / 128) = s.slotKey c.key ∨
            ∀ y, c.endBase ≤ y → y < c.endBase + (s.saveUse c.num).2 → y / 128 ≠ x / 128) → t.mem.byteAt x = s.mem.byteAt x) ∧
    (c.st ≠ .resuming → exec .resumeComplete s = .next s) ∧
    (∀ (x : SavedTeam) (cl : Cluster), c.st = .resuming → c.endHeld = [] → c.saved = [x] → c.savedClusters = [cl] →
      x.team.cluster = cl.cid → x.team.ctx = c.num → x.team.index = 0 → cl.rows = 1 → cl.cols = 1 → s.backSpots c cl ≠ [] →
      (∀ o ∈ s.fabric, o.ctx = c.num → o.withdrawn = false) → ∃ t v c', exec .resumeComplete s = .next t ∧
        t.teams = s.teams ++ [v] ∧ v = { x.team with place := v.place, abase := v.abase, wbase := v.wbase } ∧
        v.place.die = cl.die ∧
        t.groups = s.groups ++ x.groups.map (fun (g : Group) => { g with ageFrom := s.cycle, since := s.cycle }) ∧
        t.context c.num = some c' ∧ c'.st = .active ∧ c'.saved = [] ∧
        c'.budgets = [(128 * v.place.die + v.place.core, ((c.refill * s.dev.scale / 65536 : Nat) : Int))])

/-- The grid map and the driver's replies (R261, R276, R277, R299, R353). A map in order is taken while the context has no
placed team. The handle of a stalled launch is its id (log 28's choice), and a delivered group is RESIDENT or WINDOWED (log
51's choice). A forwarded trap is replayed, the group issuing again where it stood, or delivered to the handler; a stalled engine
command, remote operation or launch tries again, or is aborted with ENGINE_FAULT or status 2. -/
def Obligations.DriverReplies : Prop :=
  ∀ (s : State) (c : Context), s.context (cmdCtx s.ev.entry) = some c →
    let f := fun (a n : Nat) => cmdField s.ev.entry a n
    let done := fun (i : Instr) (t : State) => exec i s = .next (s.completes t true 0 0)
    let refused := fun (i : Instr) (reason : Nat) => exec i s = .next (s.completes s true 2 reason)
    (s.commanded 0x06 0 true [(16, 8)] →
      (f 16 8 % 64 ≠ 0 → refused .gridMap 1) ∧
      (f 16 8 % 64 = 0 → (∃ t ∈ s.teams, t.ctx = c.num ∧ t.saved = false) → refused .gridMap 3) ∧
      ∀ bs, f 16 8 % 64 = 0 → (∀ t ∈ s.teams, t.ctx = c.num → t.saved = true) → s.physRead (f 16 8) 264 = some bs →
        let b := fun (a n : Nat) => ofLe ((bs.drop a).take n)
        let axes := b 0 1
        let n := b 1 1 * b 2 1 * b 3 1 * b 4 1 * b 5 1
        let e := fun (k : Nat) => b (8 + 2 * k) 2
        let inOrder := b 6 2 = 0 ∧ 1 ≤ axes ∧ axes ≤ 5 ∧ 1 ≤ n ∧ n ≤ 128 ∧ (∀ a < 5, axes ≤ a → b (1 + a) 1 = 1) ∧
          (∀ k < 128, e k / 2 ^ 7 % 2 = 0 ∧ e k / 2 ^ 14 = 0 ∧ (n ≤ k → e k = 0)) ∧
          (∀ j < n, ∀ k < j, e j % 128 ≠ e k % 128) ∧ ∃ k < n, e k % 128 = s.dev.index
        ∃ m, m = { s.mem with lines := m.lines } ∧
        (inOrder → done .gridMap ((s.setMem m).setContext { c with map := {
          axes := axes, sizes := [b 1 1, b 2 1, b 3 1, b 4 1, b 5 1]
          entries := (List.range n).map fun k => (e k % 128, e k / 2 ^ 8 % 64) } })) ∧
        (¬inOrder → exec .gridMap s = .next (s.completes (s.setMem m) true 2 1))) ∧
    (∀ (g : Group) (t : Team) (r : Resume) (cl : Clause), s.group (f 16 8) = some g → s.team g.team = some t → t.ctx = c.num →
      g.entry = .forwarded → c.st = .active → c.saved = [] → g.resume = some r → r.clause = some cl →
      (s.commanded 0x14 0 true [(16, 8)] → ∃ u h, done .trapReplay u ∧ u.group g.gid = some h ∧ u.mem = s.mem ∧
        h = { g with
          clause := some { cl with debited := false, words := none }, status := .resident, window := false, interval := true
          enqDone := r.appended, resume := none, entry := .none, since := s.cycle, ageFrom := s.cycle }) ∧
      (s.commanded 0x14 1 true [(16, 8)] → g.drained = true → c.handler ≠ 0 → g.double = false →
        ∃ u h, done .trapDeliver u ∧ u.group g.gid = some h ∧ u.mem = s.mem ∧ h = { g with
          epc := r.epc, estFwd := r.info.fwd, estCount := r.info.count, estLane := r.info.lane, entry := .none, handling := true
          clause := none, interval := true, status := if g.window then .windowed else .resident, ageFrom := s.cycle
          since := s.cycle, prog := 0
          splits := g.splits.map fun x => if x.label == r.split then { x with pc := c.handler } else x })) ∧
    ((∀ g ∈ s.groups, g.gid = f 16 8 → g.entry ≠ .forwarded) → c.saved = [] →
      (s.commanded 0x14 0 true [(16, 8)] → refused .trapReplay 1) ∧ (s.commanded 0x14 1 true [(16, 8)] → refused .trapDeliver 1)) ∧
    (∀ (e : Engine) (k : Byte) (a : Addr), s.engine (f 16 8) = some e → e.st = .faulted k a → e.ctx = c.num →
      (s.commanded 0x13 0 true [(16, 8)] → done .engineRetry (s.setEngine { e with st := .running })) ∧
      (s.commanded 0x13 1 true [(16, 8)] → e.kind ≠ .readPort → e.kind ≠ .writePort → ∀ g p, s.group e.gid = some g →
        (g.ops.filter fun o => o.cls == .cpy) = [p] → p.seq = e.seq → p.fault = none →
        (∀ o ∈ g.ops, o.seq = e.seq → o.cls = .cpy) → ∃ u h, done .engineAbort u ∧ u.engine (f 16 8) = none ∧ u.mem = s.mem ∧
          u.group e.gid = some h ∧ h.counter .cpy = 0 ∧ h.regs = g.regs ∧
          h.deferred = g.deferred ++ [{ seq := p.seq, cls := .cpy, nth := p.nth, info := { cause := 0x1A, addr := a } }])) ∧
    (s.engine (f 16 8) = none →
      (∀ (o : RemoteOp) (k : Byte) (a : Addr), s.remoteOp (f 16 8) = some o → o.st = .faulted k a → o.ctx = c.num →
        (s.commanded 0x13 0 true [(16, 8)] → done .engineRetry (s.setRemoteOp { o with st := .running })) ∧
        (s.commanded 0x13 1 true [(16, 8)] → ∃ u, done .engineAbort u ∧ u.remoteOp (f 16 8) = none ∧ u.mem = s.mem)) ∧
      (s.remoteOp (f 16 8) = none → ∀ l, s.launch (f 16 8) = some l → l.ctx = c.num → l.stalled = true →
        (s.commanded 0x13 0 true [(16, 8)] → done .engineRetry (s.readCount c { l with stalled := false })) ∧
        (s.commanded 0x13 1 true [(16, 8)] → done .engineAbort (s.completeLaunch l 2))) ∧
      (s.remoteOp (f 16 8) = none → s.launch (f 16 8) = none →
        (s.commanded 0x13 0 true [(16, 8)] → refused .engineRetry 1) ∧
        (s.commanded 0x13 1 true [(16, 8)] → refused .engineAbort 1)))

/-! ### The host and the device -/

/-- The host interface (R350 to R352, R354 to R356). The host's writes of the rings' indices and bases, each as its rule
says, ignored where they run too far ahead or name a size that no ring has (log 47); submissions and commands read in
order, one entry or many, a submission's record read as the device reads memory, so that the entry waits, and the head with
it, where the record's page is being invalidated; an ENDING context is not live (log 83: the model's reading); an event record
to the ring while it has room, then held, 4096 at most, then counted as lost, and written when the ring has room or a new
base; the window's accesses to device memory under the key of WINBASE's slot, where a byte of a line written under another key
reads as a free value and is lost when the line is written (log 16), an error hides what it hides behind free values (log 44)
and the lines are used with reuse 0 (log 24); and the registers that the host reads, of which recovery serves READY, CMDHEAD
and EVTAIL alone (R361), a register it only writes having no value (log 48). -/
def Obligations.HostRegisters : Prop :=
  (∀ s : State,
    let v := s.ev.val
    let d := s.dev
    let on := fun (t : State) (r : Ring) => t.setDev { t.dev with ev := r }
    let ring := fun (v : Addr) (r : Ring) => 4 ≤ v.toNat % 32 ∧ v.toNat % 32 ≤ 16 ∧
      r = { base := BitVec.ofNat 64 (v.toNat / 2 ^ 10 % 2 ^ 42 * 2 ^ 10), k := v.toNat % 32 }
    let far := fun (r : Ring) (tail : Nat) => (tail % 2 ^ 32 + 2 ^ 32 - r.head) % 2 ^ 32
    let size := fun (r : Ring) => if r.k < 4 then 0 else 2 ^ r.k
    let win := BitVec.ofNat 64 (v.toNat / 2 ^ 52 % 2 ^ 9 * 2 ^ 52 + v.toNat / 2 ^ 36 % 2 ^ 16 * 2 ^ 36)
    exec .registerWriteIgnored s = .next s ∧
    (d.serves = true →
      (∀ r, ring v r → d.cmd.head = d.cmd.tail → exec .cmdbase s = .next (s.setDev { d with cmd := r })) ∧
      ((∀ r, ¬ring v r) ∨ d.cmd.head ≠ d.cmd.tail → exec .cmdbase s = .next s) ∧
      (∀ r, ring v r → d.ev.head = d.ev.tail → (d.evHeld = [] → exec .evbase s = .next (on s r)) ∧
        (∀ b, d.evHeld = [b] → exec .evbase s = .next { s with
          mem := { s.mem with host := puts 0 s.mem.host r.base.toNat b }
          dev := { d with evHeld := [], msix := d.msix ++ [64], ev := { r with tail := 1 } } }) ∧
        ∀ b l, d.evHeld = b :: l → l.length < 16 → ∃ t, exec .evbase s = .next t ∧ t.dev.evHeld = [] ∧ t.dev.ev = { r with tail := l.length + 1 }) ∧
      ((∀ r, ¬ring v r) ∨ d.ev.head ≠ d.ev.tail → exec .evbase s = .next s) ∧
      (size d.cmd < far d.cmd v.toNat → exec .cmdtail s = .next s) ∧
      (far d.cmd v.toNat ≤ size d.cmd → exec .cmdtail s = .next { s with
        commands := s.commands ++ (List.range (far d.cmd v.toNat)).map fun k =>
          (BitVec.ofNat 512 (ofLe (lookups 0 s.mem.host (d.cmd.base.toNat + 64 * ((d.cmd.head + k) % 2 ^ 32 % 2 ^ d.cmd.k)) 64))),
        dev := { d with cmd := { d.cmd with head := v.toNat % 2 ^ 32, tail := v.toNat % 2 ^ 32 } } }) ∧
      (let left := fun (h : Nat) => (d.ev.tail + 2 ^ 32 - h) % 2 ^ 32;
        (left d.ev.head < left (v.toNat % 2 ^ 32) → exec .evhead s = .next s) ∧
        (left (v.toNat % 2 ^ 32) ≤ left d.ev.head →
          (d.evHeld = [] → exec .evhead s = .next (on s { d.ev with head := v.toNat % 2 ^ 32 })) ∧
          (∀ b, d.evHeld = [b] → left (v.toNat % 2 ^ 32) < size d.ev → exec .evhead s = .next { s with
            mem := { s.mem with host := puts 0 s.mem.host (d.ev.base.toNat + 64 * (d.ev.tail % 2 ^ d.ev.k)) b },
            dev := { d with
              evHeld := [], msix := d.msix ++ [64],
              ev := { d.ev with head := v.toNat % 2 ^ 32, tail := (d.ev.tail + 1) % 2 ^ 32 } } })))) ∧
    (d.full = true →
      exec .winbase s = .next (s.setDev { d with winbase := win }) ∧
      ((64 ≤ s.ev.queue ∨ size (d.sqRing s.ev.queue) < far (d.sqRing s.ev.queue) v.toNat) → exec .sqtail s = .next s) ∧
      (s.ev.queue < 64 → far (d.sqRing s.ev.queue) v.toNat ≤ size (d.sqRing s.ev.queue) →
        let r := d.sqRing s.ev.queue
        exec .sqtail s = .next (State.readRing s.ev.queue ((List.range (far r v.toNat)).map fun k => (r.head + k) % 2 ^ 32)
          (s.setDev { d with sq := (s.ev.queue, { r with tail := v.toNat % 2 ^ 32 }) :: d.sq.filter (fun x => x.1 != s.ev.queue) }))) ∧
      (let base := d.winbase.toNat / 2 ^ 36 % 2 ^ 16 * 2 ^ 36 + s.ev.off;
        let n := s.ev.n
        let m := s.ev.data.length
        let key := lookup [] d.keys (d.winbase.toNat / 2 ^ 52 % 2 ^ 9)
        let here := fun (n : Nat) => s.ev.off + n ≤ 2 ^ 36 ∧ base % 64 + n ≤ 64 ∧ base + n ≤ 576 * 2 ^ 30
        s.windowKey = key ∧
        (here n → s.unitBad (base / 64) = false → ∃ mem, mem = { s.mem with lines := mem.lines } ∧
          exec .hostRead s = .next ((s.setMem mem).setDev { d with readData := (List.range n).map fun k =>
            if (lookup [] s.mem.keyed ((base + k) / 128)) = key then s.mem.byteAt (base + k) else Config.underKey s.free (base + k) })) ∧
        (here n → 1 ≤ n → s.mem.poisoned (base / 64) = true →
          let t := s.memoryError none (base / 64)
          exec .hostRead s = .next (t.setDev { t.dev with
            readData := (List.range n).map fun k => (Config.freeWord (s.free + k)).setWidth 8 })) ∧
        (here m → 1 ≤ m → s.unitBad (base / 64) = false →
          ∃ mem, exec .hostWrite s = .next (s.setMem mem) ∧ mem.tag (base / 64) = .val ∧
            mem = { s.mem with bytes := mem.bytes, tags := mem.tags, poison := mem.poison, keyed := mem.keyed, lines := mem.lines } ∧
            (∀ u, u ≠ base / 64 → mem.tag u = s.mem.tag u) ∧
            (∀ l, lookup [] mem.keyed l = if l = base / 128 then key else lookup [] s.mem.keyed l) ∧
            ∀ x, mem.byteAt x = if base ≤ x ∧ x < base + m then s.ev.data.getD (x - base) 0
              else if x / 128 = base / 128 ∧ lookup [] s.mem.keyed (base / 128) ≠ key then Config.underKey s.free x
              else s.mem.byteAt x) ∧
        (here m → s.stackReady base = false → s.mem.poisoned (base / 64) = false → exec .hostWrite s = .next s)))) ∧
  (∀ (s : State) (q i : Nat) (l : List Nat),
    let r := s.dev.sqRing q
    let bs := lookups 0 s.mem.host (r.base.toNat + 16 * (i % 2 ^ r.k)) 16
    let num := ofLe ((bs.drop 8).take 2)
    let at' := BitVec.ofNat 64 (ofLe (bs.take 8))
    let t := s.setDev { s.dev with sq := (q, { r with head := (i + 1) % 2 ^ 32 }) :: s.dev.sq.filter (fun x => x.1 != q) }
    let live := fun (c : Context) => s.context num = some c ∧ c.st ≠ .ending ∧ ∀ x ∈ bs.drop 10, x = 0
    State.readRing q [] s = s ∧
    ((∀ c, ¬live c) → State.readRing q (i :: l) s = State.readRing q l (t.raise ([1, 2] ++ leBytes 2 num ++ [0, 7, 0, 0] ++
      leBytes 4 i ++ leBytes 1 q ++ List.replicate 51 0))) ∧
    ∀ c, live c →
      (s.devWaits c at' 128 = true → State.readRing q (i :: l) s = s) ∧
      (s.devWaits c at' 128 = false →
        let u := ({ t with nextId := s.nextId + 1 }).devSaw c at' 128
        let rcd := { launchRec (u.devRead c at' 128) with aligned := at'.toNat % 64 == 0 }
        State.readRing q (i :: l) s = State.readRing q l { u with launches := u.launches ++ [
          ({ lid := s.nextId, ctx := num, origin := .host, sq := q, order := s.nextId, st := .submitted, rcd := rcd,
             await := rcd.deps, cls := (rcd.flags.toNat / 4 % 4) } : Launch)] })) ∧
  (∀ (s : State) (b : List Byte),
    let d := s.dev
    let used := (d.ev.tail + 2 ^ 32 - d.ev.head) % 2 ^ 32
    let room := d.evHeld = [] ∧ 4 ≤ d.ev.k ∧ used < 2 ^ d.ev.k
    (room → s.raise b = { s with
      mem := { s.mem with host := puts 0 s.mem.host (d.ev.base.toNat + 64 * (d.ev.tail % 2 ^ d.ev.k)) b },
      dev := { d with ev := { d.ev with tail := (d.ev.tail + 1) % 2 ^ 32 }, msix := d.msix ++ [64] } }) ∧
    (¬room → d.evHeld.length < 4096 → s.raise b = s.setDev { d with evHeld := d.evHeld ++ [b] }) ∧
    (¬room → 4096 ≤ d.evHeld.length → s.raise b = s.setDev { d with evLost := d.evLost + 1 })) ∧
  (∀ (status ctx op reason : Nat) (tag : Addr), completionEvent status ctx op reason tag =
    [1] ++ leBytes 1 status ++ leBytes 2 ctx ++ leBytes 1 op ++ leBytes 1 reason ++ [0, 0] ++ leBytes 8 tag.toNat ++
      List.replicate 48 0) ∧
  (∀ s : State, s.commanded 0x01 0 false [(16, 2), (24, 8)] →
    let f := fun (a n : Nat) => cmdField s.ev.entry a n
    let r := s.dev.sqRing (f 16 1)
    let fits := f 16 1 ≤ 63 ∧ 4 ≤ f 17 1 ∧ f 17 1 ≤ 16 ∧ f 24 8 % (16 * 2 ^ f 17 1) = 0
    (¬fits → exec .setQueue s = .next (s.completes s false 2 1)) ∧
    (fits → r.head ≠ r.tail → exec .setQueue s = .next (s.completes s false 2 3)) ∧
    (fits → r.head = r.tail →
      let r' : Ring := { base := BitVec.ofNat 64 (f 24 8), k := f 17 1, head := 0, tail := 0 }
      exec .setQueue s = .next (s.completes (s.setDev
        { s.dev with sq := (f 16 1, r') :: s.dev.sq.filter (fun x => x.1 != f 16 1) }) false 0 0))) ∧
  ∀ (s : State) (n : Nat),
    let d := s.dev
    let up := fun (f : FnUnit) => decide (d.fnState f = .ready)
    s.register 0x408 = some (BitVec.ofNat 64 d.cmd.head) ∧ s.register 0x418 = some (BitVec.ofNat 64 d.ev.tail) ∧
    (d.recovery = false → (n < 64 → s.register (0x200 + 8 * n) = some (BitVec.ofNat 64 (d.sqRing n).head)) ∧
      s.register 0x420 = some (BitVec.ofNat 64 d.evLost) ∧ s.register 0x438 = some d.signature ∧
      (n < 4 → s.register (0x500 + 8 * n) = some (BitVec.ofNat 64 (lookup 0 s.mem.dropped n)) ∧
        s.register (0x520 + 8 * n) = some (BitVec.ofNat 64 (lookup 0 d.corrected n)) ∧
        s.register (0x540 + 8 * n) = some (BitVec.ofNat 64 (lookup 0 d.uncorrected n)))) ∧
    (d.recovery = true → s.register 0x430 = some 0 ∧ ∀ off, off ∉ [0x408, 0x418, 0x430] → s.register off = none) ∧
    (d.recovery = false → ∃ v, s.register 0x430 = some v ∧ v.getLsbD 0 = up .mgmt ∧
      (∀ k < 4, v.getLsbD (1 + k) = up (.die k) ∧ v.getLsbD (17 + 3 * k) = up (.jpeg k) ∧
        v.getLsbD (18 + 3 * k) = up (.bilevel k) ∧ v.getLsbD (19 + 3 * k) = up (.dma k)) ∧
      (∀ k < 12, v.getLsbD (5 + k) = up (.stack k)) ∧ v.getLsbD 29 = d.lasers.any (fun x => x.2 == .lit) ∧
      ∀ k, 30 ≤ k → v.getLsbD k = false)

/-- Keys, attestation and the settings of the whole device (R252, R353, R362, R363, R364): what each command leaves, and
what it is refused for. That a wrapped key which does not unwrap is refused with reason 1 is log 86's reading, and that ATTEST
is refused, reason 1, where its report cannot be written is log 80's; the reads use L2 lines, as log 24 says. -/
def Obligations.DeviceSettings : Prop :=
  ∀ s : State,
    let f := fun (a n : Nat) => cmdField s.ev.entry a n
    let done := fun (i : Instr) (t : State) => exec i s = .next (s.completes t false 0 0)
    let refused := fun (i : Instr) (reason : Nat) => exec i s = .next (s.completes s false 2 reason)
    let d := s.dev
    let named := ∃ c ∈ s.contexts, c.key = f 16 2 ∨ f 16 2 ∈ c.shared
    let slot := 1 ≤ f 16 2 ∧ f 16 2 ≤ 511
    let others := d.keys.filter (fun x => x.1 != f 16 2)
    (s.commanded 0x08 0 false [(16, 2), (24, 8)] →
      (¬slot → refused .loadKey 1) ∧ (slot → named → refused .loadKey 5) ∧
      (slot → ¬named → f 24 8 % 64 ≠ 0 → refused .loadKey 1) ∧
      ∀ w, slot → ¬named → f 24 8 % 64 = 0 → s.physRead (f 24 8) 384 = some w →
        (Config.unwrapOk d.resets w = true → ∃ m, m = { s.mem with lines := m.lines } ∧
          done .loadKey ((s.setMem m).setDev { d with keys := (f 16 2, Config.unwrapKey d.resets w) :: others })) ∧
        (Config.unwrapOk d.resets w = false → refused .loadKey 1)) ∧
    (s.commanded 0x08 0 false [(16, 2), (24, 8)] → slot → ¬named → f 24 8 % 64 = 0 → s.physRead (f 24 8) 384 = none →
      exec .loadKey s = .next (s.completes
        (((unitsOf (f 24 8) 384).filter fun u => s.mem.poisoned u).foldl (fun t u => t.memoryError none u) s) false 2 1)) ∧
    (s.commanded 0x09 0 false [(16, 2)] →
      (¬slot → refused .clearKey 1) ∧ (slot → named → refused .clearKey 5) ∧
      (slot → ¬named → done .clearKey (s.setDev { d with keys := others }))) ∧
    (s.commanded 0x0A 0 false [(16, 40)] →
      let report := Config.attestReport
        { nonce := (List.range 32).map fun k => BitVec.ofNat 8 (f (16 + k) 1), image := d.image, signature := d.signature, boot := d.resets }
      let at' := f 48 8
      (at' % 64 ≠ 0 ∨ 576 * 2 ^ 30 < at' + report.length → refused .attest 1) ∧
      (∀ x, at' ≤ x → x < at' + report.length → s.stackReady (x / 64 * 64) = false ∨
          (s.mem.poisoned (x / 64) = true ∧ at' + report.length < x / 64 * 64 + 64) → refused .attest 1) ∧
      (at' % 64 = 0 → at' + report.length ≤ 576 * 2 ^ 30 →
        (∀ x, at' ≤ x → x < at' + report.length → s.unitBad (x / 64) = false) →
        ∃ mem, done .attest ((s.setMem mem).setDev { d with report := report }) ∧
          mem = { s.mem with bytes := mem.bytes, tags := mem.tags, poison := mem.poison, lines := mem.lines } ∧
          ∀ x, mem.byteAt x = if at' ≤ x ∧ x < at' + report.length then report.getD (x - at') 0 else s.mem.byteAt x)) ∧
    (s.commanded 0x18 1 false [(16, 4)] →
      (1 ≤ f 16 4 ∧ f 16 4 ≤ 64 → done .channelThreshold (s.setDev { d with channelThreshold := f 16 4 })) ∧
      (¬(1 ≤ f 16 4 ∧ f 16 4 ≤ 64) → refused .channelThreshold 1)) ∧
    (s.commanded 0x18 2 false [(16, 4)] →
      (1000 ≤ f 16 4 ∧ f 16 4 ≤ 2800 → done .powerLimit (s.setDev { d with powerLimit := f 16 4 })) ∧
      (¬(1000 ≤ f 16 4 ∧ f 16 4 ≤ 2800) → refused .powerLimit 1)) ∧
    (s.commanded 0x1A 0 false [(16, 1)] →
      (127 < f 16 1 → refused .setDeviceIndex 1) ∧ (f 16 1 ≤ 127 → s.contexts ≠ [] → refused .setDeviceIndex 3) ∧
      (f 16 1 ≤ 127 → s.contexts = [] → done .setDeviceIndex (s.setDev { d with index := f 16 1 })))

/-- Bring-up, corrected errors, power and temperature (R256, R355, R357, R359, R361, R363, R364). A reset keeps the bytes
of memory (the model's choice, log 43) and leaves everything else as after reset. Each of a function's states raises its
readiness event, TRAINING among them, and a die is READY only once a stack of it is (log 85). A window of corrected errors is
taken once, when its second is over, over any number of units, a row of HBM4E being a unit, and the counts of one unit added. A
retired column is named by its logical number, and a second one of the die stays out of use (log 88). The limit of temperature
is R364's 45 degrees (log 87). -/
def Obligations.DeviceEvents : Prop :=
  (∀ s : State, (∀ x ∈ s.dev.retiredColumn, x.2 < 17) → ∀ n < 4,
    let d := s.dev
    let sig := s.mapNow
    let up := fun (k : Nat) => if d.fnState (.stack (3 * n + k)) = .ready then 1 else 0
    let col := match d.retiredColumn.find? fun x => x.1 == n with
      | some (_, col) => col
      | none => 31
    sig.getLsbD (60 + n) = decide (d.fnState (.die n) = .ready) ∧ sig.getLsbD (56 + n) = false ∧
    (sig.extractLsb' (14 * n) 5).toNat = col ∧
    (sig.extractLsb' (14 * n + 5) 5).toNat = min 31 (s.mem.slicesOut.countP fun x => x.1 == n) ∧
    (sig.extractLsb' (14 * n + 10) 4).toNat = up 0 + up 1 + up 2) ∧
  (∀ (l : List ErrCount) (fn : ErrFn) (die unit row : Nat),
    let same := fun (y : ErrCount) =>
      y.fn == fn && y.die == die && y.unit == unit && (if y.fn = .hbm then Config.rowOf y.addr.toNat else 0) == row
    ((sumErrs l).filter same).length ≤ 1 ∧
      (((sumErrs l).filter same).map ErrCount.count).sum = ((l.filter same).map ErrCount.count).sum) ∧
  (∀ (s : State) (window : Nat) (x : ErrCount),
    let d := s.dev
    let row := if x.fn = .hbm then Config.rowOf x.addr.toNat else 0
    let own := fun (y : ErrUnit) => y.fn == x.fn && y.die == x.die && y.unit == x.unit && y.row == row
    let old := (d.errUnits.find? own).getD { fn := x.fn, die := x.die, unit := x.unit, row := row }
    let hot := (if 64 < x.count then [window] else []) ++ old.hot.filter (fun w => decide (window < w + 10))
    let lasts := old.lasting || decide (3 ≤ hot.length)
    let u : ErrUnit := { fn := x.fn, die := x.die, unit := x.unit, row := row, hot := hot, lasting := lasts, last := x.count }
    let d' := { d with
      corrected := put 0 d.corrected x.die (lookup 0 d.corrected x.die + x.count)
      errUnits := u :: d.errUnits.filter (fun y => !own y) }
    let kind := match x.fn with
      | .hbm => 0 | .l2 => 1 | .l1 => 2 | .regfile => 3 | .buffer => 4 | .core => (5 : Byte)
    let t := (s.setDev d').raise ([0x21, kind] ++ leBytes 1 x.die ++ [2] ++ leBytes 2 x.unit ++ [0xFF, 0xFF] ++
      leBytes 8 x.addr.toNat ++ leBytes 4 x.count ++ List.replicate 44 0)
    ((lasts = false ∨ old.lasting = true) → s.countErrors window x = s.setDev d') ∧
    (lasts = true → old.lasting = false → match x.fn with
      | .l2 => ∃ m, s.countErrors window x = (let v := { t with
          mem := m, waits := t.waits.map fun (w : WaitEntry) => { w with slice := m.sliceKey w.unit } };
          v.setDev { v.dev with signature := v.mapNow }) ∧
          m = { t.mem with lines := m.lines, slicesOut := s.mem.slicesOut ++ [(x.die, x.unit)] } ∧
          ∀ l, l ∈ m.lines ↔ l ∈ s.mem.lines ∧ l.slice ≠ 512 * x.die + x.unit
      | .core => s.countErrors window x = t.setDev { t.dev with badCores := d.badCores ++ [(x.die, x.unit)] }
      | _ => s.countErrors window x = t)) ∧
  ∀ s : State,
    let resigned := fun (t : State) => t.setDev { t.dev with signature := t.mapNow }
    let code := fun (f : FnUnit) => match f with
      | .mgmt => [0x20, 0, 0] | .die n => [0x20, 1, BitVec.ofNat 8 n] | .stack n => [0x20, 2, BitVec.ofNat 8 n]
      | .jpeg n => [0x20, 3, BitVec.ofNat 8 n] | .bilevel n => [0x20, 4, BitVec.ofNat 8 n]
      | .dma n => [0x20, 5, BitVec.ofNat 8 n] | .laser n => [(0x20 : Byte), 6, BitVec.ofNat 8 n]
    let moved := fun (t : State) (f : FnUnit) (st : FnState) (b : Byte) =>
      let d := { t.dev with functions := (f, st) :: t.dev.functions.filter (fun x => x.1 != f) }
      (t.setDev d).raise (code f ++ [b, 0, 0, 0, 0] ++ leBytes 8 d.readyMap.toNat ++ List.replicate 48 0)
    let fresh := { State.reset with
      agenda := s.agenda, ev := s.ev, free := s.free, nextId := s.nextId
      mem := { bytes := s.mem.bytes, tags := s.mem.tags, keyed := s.mem.keyed, poison := s.mem.poison, host := s.mem.host } }
    let d := s.dev
    let n := d.resets + 1
    let booted := fun (b : Bool) => moved
      (fresh.setDev { planes := d.planes, absent := d.absent, resets := n, keys := [(0, Config.bootKey n)], recovery := b }) .mgmt .training 1
    let up := fun (image : List Byte) (b : Bool) => if b
      then resigned (trainingUnits.foldl (fun t f => moved t f .training 1)
        (moved ((booted false).setDev { (booted false).dev with image := image }) .mgmt .ready 2))
      else booted true
    let image := lookups 0 s.mem.host (cmdField s.ev.entry 16 8) (cmdField s.ev.entry 24 4)
    exec .moduleReset s = .next (up s.ev.data (Config.imageVerifies s.ev.data)) ∧
    (cmdOp s.ev.entry = 0x1B → cmdSub s.ev.entry = 0 → cmdClean s.ev.entry false [(16, 12)] = true →
      let aligned := cmdField s.ev.entry 16 8 % 4096 = 0
      (¬aligned → exec .recoveryImage s = .next (s.completes s false 2 1)) ∧
      (aligned → d.recovery = false → exec .recoveryImage s = .next (s.completes s false 2 3)) ∧
      (aligned → d.recovery = true → Config.imageVerifies image = false → exec .recoveryImage s = .next (s.completes s false 2 6)) ∧
      (aligned → d.recovery = true → Config.imageVerifies image = true →
        ∃ t, exec .recoveryImage s = .next t ∧ t.dev.recovery = false ∧ t.dev.fnState .mgmt = .ready ∧
          t.dev.image = image ∧ t.cycle = 0 ∧
          (∀ f ∈ trainingUnits, t.dev.fnState f = .training) ∧ t.groups = [] ∧ t.contexts = [] ∧ t.commands = [] ∧
          t.mem.bytes = s.mem.bytes ∧ t.mem.tags = s.mem.tags ∧ t.mem.host = (s.completes s false 0 0).mem.host)) ∧
    (d.fnState s.ev.fn ≠ .training → exec .functionTrained s = .next s) ∧
    (d.fnState s.ev.fn = .training →
      (s.ev.ok = false → exec .functionTrained s = .next (moved s s.ev.fn .failed 3)) ∧
      (s.ev.ok = true → match s.ev.fn with
        | .die n =>
          let may := ∃ k < 3, d.fnState (.stack (3 * n + k)) = .ready
          (may → exec .functionTrained s = .next (resigned (moved s (.die n) .ready 2))) ∧
          (¬may → exec .functionTrained s = .next s)
        | .laser m => exec .functionTrained s = .next (moved (s.lightModule m 0) (.laser m) .ready 2)
        | f => exec .functionTrained s = .next (moved s f .ready 2))) ∧
    (d.full = true →
      (let window := s.cycle / 1600000000;
        (window ≤ d.errWindow → exec .errorWindow s = .next s) ∧
        (d.errWindow < window → exec .errorWindow s = .next ((sumErrs s.ev.errs).foldl (fun t x => t.countErrors window x)
          (s.setDev { d with errWindow := window, errUnits := d.errUnits.map fun (y : ErrUnit) => { y with last := 0 } })))) ∧
      (∀ core, d.badCores.find? (fun x => x.1 == s.ev.die) = some (s.ev.die, core) →
        ((∃ t ∈ s.teams, t.place.die = s.ev.die) ∨ (∃ x ∈ d.retiredColumn, x.1 = s.ev.die) → exec .spareColumnSwap s = .next s) ∧
        ((∀ t ∈ s.teams, t.place.die ≠ s.ev.die) → (∀ x ∈ d.retiredColumn, x.1 ≠ s.ev.die) →
          exec .spareColumnSwap s = .next (resigned (s.setDev { d with
            retiredColumn := (s.ev.die, core % 16) :: d.retiredColumn
            errUnits := d.errUnits.filter (fun u => !(u.fn == .core && u.die == s.ev.die && u.unit % 16 == core % 16))
            badCores := d.badCores.filter (fun y => !(y.1 == s.ev.die && y.2 % 16 == core % 16)) })))) ∧
      (∀ k n, (s.ev.limit = .power ∧ k = 0 ∧ n = d.powerLimit) ∨ (s.ev.limit = .temperature ∧ k = 1 ∧ n = Config.temperatureLimit) →
        let others := d.exceeded.filter (· != s.ev.limit)
        let now := fun (l : List LimitKind) => s.setDev { d with exceeded := l }
        let scaled := fun (b : Byte) (m : Nat) (l : List LimitKind) => (s.setDev { d with exceeded := l, scale := m }).raise ([0x30, k, b, 0] ++ leBytes 4 n ++
          leBytes 4 s.ev.measured ++ leBytes 4 m ++ List.replicate 48 0)
        (n < s.ev.measured → s.ev.scale < d.scale → exec .powerExceeded s = .next (scaled 0 s.ev.scale (s.ev.limit :: others))) ∧
        (n < s.ev.measured → d.scale ≤ s.ev.scale → exec .powerExceeded s = .next (now (s.ev.limit :: others))) ∧
        (s.ev.measured ≤ n → exec .powerExceeded s = .next s) ∧
        (s.ev.measured ≤ n → others = [] → d.scale < 65536 → exec .refillsRestored s = .next (scaled 1 65536 [])) ∧
        (s.ev.measured ≤ n → others ≠ [] ∨ 65536 ≤ d.scale → exec .refillsRestored s = .next (now others)) ∧
        (n < s.ev.measured → exec .refillsRestored s = .next s))) ∧
    (s.ev.measured ≤ 1100 ∨ d.heldReset = true → exec .junctionOvertemp s = .next s) ∧
    (1100 < s.ev.measured → d.heldReset = false → ∃ mem, exec .junctionOvertemp s = .next { fresh with
        mem := mem, dev := { planes := d.planes, absent := d.absent, resets := d.resets, heldReset := true } } ∧
      mem = { fresh.mem with host := mem.host } ∧ mem.host = (s.raise ([0x30, 2, 2, 0] ++ leBytes 4 1100 ++
        leBytes 4 s.ev.measured ++ leBytes 4 d.scale ++ List.replicate 48 0)).mem.host)

/-- Every command's checks (R352, R353, R355), over the table of the driver's commands: an entry with a byte set that none
of its fields takes is refused, reason 1; one that acts on a context and names none that is live, reason 2; a
sub-operation that its opcode lacks is refused as the opcode's first row is, reason 1; an opcode that the table lacks
completes with status 1. In recovery all but the recovery image are refused, reason 3 (the model's choice, log 38). A
step with nothing on its agenda runs the next command that the device has read (the order of turns: log 2). -/
def Obligations.CommandChecks : Prop :=
  (∀ x ∈ Spec.commands, ∀ s : State,
    let e := s.ev.entry
    (cmdOp e = x.op → cmdSub e = x.sub → commandRow e = x.row) ∧
    (cmdOp e = x.op → cmdSub e = x.sub → s.dev.recovery = true → x.op ≠ 0x1B → exec x.row s = .next (s.completes s x.context 2 3)) ∧
    ((s.dev.recovery = false ∨ x.op = 0x1B) → cmdOp e = x.op → cmdSub e = x.sub →
      (∃ k < 64, 1 < k ∧ ¬(x.context = true ∧ 2 ≤ k ∧ k < 4) ∧ ¬(8 ≤ k ∧ k < 16) ∧ (∀ o ∈ x.operands, ¬(o.1 ≤ k ∧ k < o.1 + o.2)) ∧
        cmdField e k 1 ≠ 0) →
      exec x.row s = .next (s.completes s x.context 2 1)) ∧
    (s.commanded x.op x.sub x.context x.operands → x.context = true → x.op ≠ 0x02 → s.context (cmdCtx e) = none →
      exec x.row s = .next (s.completes s true 2 2)) ∧
    ((s.dev.recovery = false ∨ x.op = 0x1B) → cmdOp e = x.op → x.sub = 0 → (∀ y ∈ Spec.commands, y.op = x.op → y.sub ≠ cmdSub e) →
      commandRow e = x.row ∧ exec x.row s = .next (s.completes s x.context 2 1))) ∧
  (∀ s : State, (∀ x ∈ Spec.commands, x.op ≠ cmdOp s.ev.entry) →
    commandRow s.ev.entry = .unknownCommand ∧ exec .unknownCommand s = .next (s.completes s false 1 0)) ∧
  ∀ (s : State) (e : Entry) (r : List Entry), s.agenda = [] → s.commands = e :: r → s.dev.serves = true →
    ∃ t, exec (commandRow e) { s with commands := r, ev := { entry := e } } = .next t ∧ step s = .next t.after
end

