-- ==== Sys2Proof/Laws/Encoding.lean ====
section
/-!
SUPPORT. The fields of packed words: each field of a word that the encoder packs reads as it was packed.
-/
namespace Sys2Proof
set_option Elab.async false
set_option linter.unusedSimpArgs false

/-- A field that lies in the high part of an append. -/
theorem extract_append_high {n m : Nat} (a : BitVec n) (b : BitVec m) (lo w : Nat) (h : m ≤ lo) :
    (a ++ b).extractLsb' lo w = a.extractLsb' (lo - m) w := by
  apply BitVec.eq_of_getLsbD_eq
  intro i hi
  simp only [BitVec.getLsbD_extractLsb', BitVec.getLsbD_append, hi, decide_true, Bool.true_and]
  rw [if_neg (by omega)]
  congr 1; omega

/-- A field that lies in the low part of an append. -/
theorem extract_append_low {n m : Nat} (a : BitVec n) (b : BitVec m) (lo w : Nat) (h : lo + w ≤ m) :
    (a ++ b).extractLsb' lo w = b.extractLsb' lo w := by
  apply BitVec.eq_of_getLsbD_eq
  intro i hi
  simp only [BitVec.getLsbD_extractLsb', BitVec.getLsbD_append, hi, decide_true, Bool.true_and]
  rw [if_pos (by omega)]

/-- All of a bit vector. -/
theorem extract_all {n : Nat} (a : BitVec n) : a.extractLsb' 0 n = a := by simp

/-- Four bytes of a word, read back (R4). -/
theorem takeWord_wordBytes (w : Word) (r : List Byte) : takeWord (wordBytes w ++ r) = some (w, r) := by
  simp only [wordBytes, List.cons_append, List.nil_append, takeWord, Option.some.injEq, Prod.mk.injEq, and_true]
  apply BitVec.eq_of_getLsbD_eq
  intro i hi
  simp only [BitVec.getLsbD_append, BitVec.getLsbD_extractLsb']
  by_cases h1 : i < 8
  · simp [h1]
  · by_cases h2 : i < 16
    · simp [h1, show i - 8 < 8 by omega, show 8 + (i - 8) = i by omega]
    · by_cases h3 : i < 24
      · simp [h1, show ¬ i - 8 < 8 by omega, show i - 8 - 8 < 8 by omega, show 16 + (i - 8 - 8) = i by omega]
      · simp [h1, show ¬ i - 8 < 8 by omega, show ¬ i - 8 - 8 < 8 by omega, show i - 8 - 8 - 8 < 8 by omega,
          show 24 + (i - 8 - 8 - 8) = i by omega]

@[simp] theorem opOf_packS (op : Nat) (o : SOp) : opOf (packS op o) = op % 64 := by
  unfold opOf packS
  simp (disch := omega) only [extract_append_high, Nat.reduceSub, extract_all, BitVec.toNat_ofNat]

@[simp] theorem opOf_packI (op : Nat) (o : IOp) : opOf (packI op o) = op % 64 := by
  unfold opOf packI
  simp (disch := omega) only [extract_append_high, Nat.reduceSub, extract_all, BitVec.toNat_ofNat]

theorem getLsbD_zero_ofBool {n : Nat} (a : BitVec n) (b : Bool) : (a ++ BitVec.ofBool b).getLsbD 0 = b := by
  rw [BitVec.getLsbD_append]; cases b <;> rfl

@[simp] theorem unpackS_packS (op : Nat) (o : SOp) : unpackS (packS op o) = o := by
  unfold unpackS packS
  simp (disch := omega) only [extract_append_high, extract_append_low, Nat.reduceSub, extract_all]
  rw [show (BitVec.ofNat 6 op ++ o.d ++ o.a ++ o.xa ++ o.b ++ o.xb ++ BitVec.ofBool o.m : BitVec 32).getLsbD 0 = o.m from
    getLsbD_zero_ofBool _ _]

@[simp] theorem unpackI_packI (op : Nat) (o : IOp) : unpackI (packI op o) = o := by
  unfold unpackI packI
  simp (disch := omega) only [extract_append_high, extract_append_low, Nat.reduceSub, extract_all]
  rw [show (BitVec.ofNat 6 op ++ o.d ++ o.a ++ o.xa ++ o.imm ++ BitVec.ofBool o.m : BitVec 32).getLsbD 0 = o.m from
    getLsbD_zero_ofBool _ _]

/-- A one-word instruction, by what its word decodes to. -/
theorem decodeBytes_short {w : Word} {i : Instr} (rest : List Byte) (hl : isLong w = false) (hd : decodeShort w = .ok i) :
    decodeBytes (wordBytes w ++ rest) = .ok (i, rest) := by
  unfold decodeBytes
  simp only [takeWord_wordBytes, hl, hd]
  rfl

/-- A two-word instruction, by what its words decode to. -/
theorem decodeBytes_long {w1 w2 : Word} {i : Instr} (rest : List Byte) (hl : isLong w1 = true)
    (hd : decodeLong w1 w2 = .ok i) : decodeBytes (wordBytes w1 ++ (wordBytes w2 ++ rest)) = .ok (i, rest) := by
  unfold decodeBytes
  simp only [takeWord_wordBytes, hl, if_true, hd]
  rfl

theorem isLong_packS (op : Nat) (o : SOp) : isLong (packS op o) = decide (0x38 ≤ op % 64) := by simp [isLong]

theorem isLong_packI (op : Nat) (o : IOp) : isLong (packI op o) = decide (0x38 ≤ op % 64) := by simp [isLong]

theorem mk_wf {i : Instr} (h : wf i = true) : mk i = .ok i := if_pos h

theorem reserved_true {r : Except DecodeErr Instr} : reserved true r = r := by
  unfold reserved
  split <;> rfl

/-- A single bit of a word as a field of one bit. -/
theorem getLsbD_extract {n : Nat} (a : BitVec n) (k : Nat) : a.getLsbD k = (a.extractLsb' k 1 == 1#1) := by
  have e : (a.extractLsb' k 1).getLsbD 0 = a.getLsbD k := by simp
  rw [← e]
  generalize a.extractLsb' k 1 = b
  revert b
  decide

theorem ofBool_bit (b : Bool) : (BitVec.ofBool b == 1#1) = b := by cases b <;> rfl

/-- The function code of word 2 (R26). -/
theorem mem_fn (f : Nat) (o : MemOp) : ((f8 f ++ o.space ++ o.reuse ++ o.scope ++ o.order ++ o.imm : BitVec 32)).extractLsb' 24 8 = f8 f := by
  simp (disch := omega) only [extract_append_high, extract_append_low, Nat.reduceSub, extract_all]

/-- The operands of the mem family read as they were packed. -/
theorem memOf_packed (f : Nat) (o : MemOp) : memOf (packS 0x38 o.w) (f8 f ++ o.space ++ o.reuse ++ o.scope ++ o.order ++ o.imm : BitVec 32) = o := by
  unfold memOf
  simp only [unpackS_packS, getLsbD_extract]
  simp (disch := omega) only [extract_append_high, extract_append_low, Nat.reduceSub, extract_all, ofBool_bit]

/-- The function code of word 2 (R26). -/
theorem mat_fn (f : Nat) (o : MatOp) : ((f8 f ++ o.slotA ++ o.slotB ++ o.srcA ++ o.srcB ++ o.n ++ o.k ++ BitVec.ofBool o.acc ++ (0 : BitVec 3) : BitVec 32)).extractLsb' 24 8 = f8 f := by
  simp (disch := omega) only [extract_append_high, extract_append_low, Nat.reduceSub, extract_all]

/-- The operands of the mat family read as they were packed. -/
theorem matOf_packed (f : Nat) (o : MatOp) : matOf (packS 0x39 o.w) (f8 f ++ o.slotA ++ o.slotB ++ o.srcA ++ o.srcB ++ o.n ++ o.k ++ BitVec.ofBool o.acc ++ (0 : BitVec 3) : BitVec 32) = o := by
  unfold matOf
  simp only [unpackS_packS, getLsbD_extract]
  simp (disch := omega) only [extract_append_high, extract_append_low, Nat.reduceSub, extract_all, ofBool_bit]

/-- The function code of word 2 (R26). -/
theorem ctl_fn (f : Nat) (o : CtlOp) : ((f8 f ++ o.imm : BitVec 32)).extractLsb' 24 8 = f8 f := by
  simp (disch := omega) only [extract_append_high, extract_append_low, Nat.reduceSub, extract_all]

/-- The operands of the ctl family read as they were packed. -/
theorem ctlOf_packed (f : Nat) (o : CtlOp) : ctlOf (packS 0x3A o.w) (f8 f ++ o.imm : BitVec 32) = o := by
  unfold ctlOf
  simp only [unpackS_packS, getLsbD_extract]
  simp (disch := omega) only [extract_append_high, extract_append_low, Nat.reduceSub, extract_all, ofBool_bit]

/-- The function code of word 2 (R26). -/
theorem sync_fn (f : Nat) (o : SyncOp) : ((f8 f ++ o.level ++ o.index ++ BitVec.ofBool o.side ++ (0 : BitVec 16) : BitVec 32)).extractLsb' 24 8 = f8 f := by
  simp (disch := omega) only [extract_append_high, extract_append_low, Nat.reduceSub, extract_all]

/-- The operands of the sync family read as they were packed. -/
theorem syncOf_packed (f : Nat) (o : SyncOp) : syncOf (packS 0x3B o.w) (f8 f ++ o.level ++ o.index ++ BitVec.ofBool o.side ++ (0 : BitVec 16) : BitVec 32) = o := by
  unfold syncOf
  simp only [unpackS_packS, getLsbD_extract]
  simp (disch := omega) only [extract_append_high, extract_append_low, Nat.reduceSub, extract_all, ofBool_bit]

/-- The function code of word 2 (R26). -/
theorem xfer_fn (f : Nat) (t d : Bool) (o : XferOp) : ((f8 f ++ BitVec.ofBool o.q ++ o.quire ++ o.dst ++ o.src ++ BitVec.ofBool t ++ BitVec.ofBool d ++ BitVec.ofBool o.c ++ (0 : BitVec 11) : BitVec 32)).extractLsb' 24 8 = f8 f := by
  simp (disch := omega) only [extract_append_high, extract_append_low, Nat.reduceSub, extract_all]

/-- The operands of the xfer family read as they were packed. -/
theorem xferOf_packed (f : Nat) (t d : Bool) (o : XferOp) : xferOf (packS 0x3C o.w) (f8 f ++ BitVec.ofBool o.q ++ o.quire ++ o.dst ++ o.src ++ BitVec.ofBool t ++ BitVec.ofBool d ++ BitVec.ofBool o.c ++ (0 : BitVec 11) : BitVec 32) = o := by
  unfold xferOf
  simp only [unpackS_packS, getLsbD_extract]
  simp (disch := omega) only [extract_append_high, extract_append_low, Nat.reduceSub, extract_all, ofBool_bit]

/-- The function code of word 2 (R26). -/
theorem sys_fn (f : Nat) (o : SysOp) : ((f8 f ++ o.f : BitVec 32)).extractLsb' 24 8 = f8 f := by
  simp (disch := omega) only [extract_append_high, extract_append_low, Nat.reduceSub, extract_all]

/-- The operands of the sys family read as they were packed. -/
theorem sysOf_packed (f : Nat) (o : SysOp) : sysOf (packS 0x3E o.w) (f8 f ++ o.f : BitVec 32) = o := by
  unfold sysOf
  simp only [unpackS_packS, getLsbD_extract]
  simp (disch := omega) only [extract_append_high, extract_append_low, Nat.reduceSub, extract_all, ofBool_bit]

/-- The function code of word 2 (R32). -/
theorem fab_fn (f : Nat) (sub : BitVec 3) (m : Bool) (o : FabOp) : ((f8 f ++ o.pat ++ o.ctr ++ sub ++ BitVec.ofBool m ++ (0 : BitVec 9) : BitVec 32)).extractLsb' 24 8 = f8 f := by
  simp (disch := omega) only [extract_append_high, extract_append_low, Nat.reduceSub, extract_all]

/-- The operands of the fab family read as they were packed. -/
theorem fabOf_packed (f : Nat) (sub : BitVec 3) (m : Bool) (o : FabOp) :
    fabOf (packS 0x3D o.w) (f8 f ++ o.pat ++ o.ctr ++ sub ++ BitVec.ofBool m ++ (0 : BitVec 9) : BitVec 32) = { o with sub := sub } := by
  unfold fabOf
  simp only [unpackS_packS]
  simp (disch := omega) only [extract_append_high, extract_append_low, Nat.reduceSub, extract_all]

theorem fab_m (f : Nat) (sub : BitVec 3) (m : Bool) (o : FabOp) : ((f8 f ++ o.pat ++ o.ctr ++ sub ++ BitVec.ofBool m ++ (0 : BitVec 9) : BitVec 32)).getLsbD 9 = m := by
  simp only [getLsbD_extract]
  simp (disch := omega) only [extract_append_high, extract_append_low, Nat.reduceSub, extract_all, ofBool_bit]

theorem fab_low (f : Nat) (sub : BitVec 3) (m : Bool) (o : FabOp) : ((f8 f ++ o.pat ++ o.ctr ++ sub ++ BitVec.ofBool m ++ (0 : BitVec 9) : BitVec 32)).extractLsb' 0 9 = 0 := by
  simp (disch := omega) only [extract_append_high, extract_append_low, Nat.reduceSub, extract_all]

theorem mat_low (f : Nat) (o : MatOp) : ((f8 f ++ o.slotA ++ o.slotB ++ o.srcA ++ o.srcB ++ o.n ++ o.k ++ BitVec.ofBool o.acc ++ (0 : BitVec 3) : BitVec 32)).extractLsb' 0 3 = 0 := by
  simp (disch := omega) only [extract_append_high, extract_append_low, Nat.reduceSub, extract_all]

theorem sync_low (f : Nat) (o : SyncOp) : ((f8 f ++ o.level ++ o.index ++ BitVec.ofBool o.side ++ (0 : BitVec 16) : BitVec 32)).extractLsb' 0 16 = 0 := by
  simp (disch := omega) only [extract_append_high, extract_append_low, Nat.reduceSub, extract_all]

theorem xfer_low (f : Nat) (t d : Bool) (o : XferOp) : ((f8 f ++ BitVec.ofBool o.q ++ o.quire ++ o.dst ++ o.src ++ BitVec.ofBool t ++ BitVec.ofBool d ++ BitVec.ofBool o.c ++ (0 : BitVec 11) : BitVec 32)).extractLsb' 0 11 = 0 := by
  simp (disch := omega) only [extract_append_high, extract_append_low, Nat.reduceSub, extract_all]

theorem xfer_t (f : Nat) (t d : Bool) (o : XferOp) : ((f8 f ++ BitVec.ofBool o.q ++ o.quire ++ o.dst ++ o.src ++ BitVec.ofBool t ++ BitVec.ofBool d ++ BitVec.ofBool o.c ++ (0 : BitVec 11) : BitVec 32)).getLsbD 13 = t := by
  simp only [getLsbD_extract]
  simp (disch := omega) only [extract_append_high, extract_append_low, Nat.reduceSub, extract_all, ofBool_bit]

theorem xfer_d (f : Nat) (t d : Bool) (o : XferOp) : ((f8 f ++ BitVec.ofBool o.q ++ o.quire ++ o.dst ++ o.src ++ BitVec.ofBool t ++ BitVec.ofBool d ++ BitVec.ofBool o.c ++ (0 : BitVec 11) : BitVec 32)).getLsbD 12 = d := by
  simp only [getLsbD_extract]
  simp (disch := omega) only [extract_append_high, extract_append_low, Nat.reduceSub, extract_all, ofBool_bit]

/-- A word pair of the mem family is decoded by its function code and its operands. -/
theorem mem_decode (f : Nat) (o : MemOp) :
    decodeLong (packS 0x38 o.w) (f8 f ++ o.space ++ o.reuse ++ o.scope ++ o.order ++ o.imm : BitVec 32) = pickMem (f % 256) o := by
  unfold decodeLong
  simp only [opOf_packS, mem_fn, memOf_packed, Nat.reduceMod]; simp only [f8, BitVec.toNat_ofNat, Nat.reducePow]

/-- A word pair of the mat family is decoded by its function code and its operands. -/
theorem mat_decode (f : Nat) (o : MatOp) :
    decodeLong (packS 0x39 o.w) (f8 f ++ o.slotA ++ o.slotB ++ o.srcA ++ o.srcB ++ o.n ++ o.k ++ BitVec.ofBool o.acc ++ (0 : BitVec 3) : BitVec 32) = pickMat (f % 256) o := by
  unfold decodeLong
  simp only [opOf_packS, mat_fn, matOf_packed, mat_low, Nat.reduceMod]; simp only [beq_self_eq_true, reserved_true, f8, BitVec.toNat_ofNat, Nat.reducePow]

/-- A word pair of the ctl family is decoded by its function code and its operands. -/
theorem ctl_decode (f : Nat) (o : CtlOp) :
    decodeLong (packS 0x3A o.w) (f8 f ++ o.imm : BitVec 32) = pickCtl (f % 256) o := by
  unfold decodeLong
  simp only [opOf_packS, ctl_fn, ctlOf_packed, Nat.reduceMod]; simp only [f8, BitVec.toNat_ofNat, Nat.reducePow]

/-- A word pair of the sync family is decoded by its function code and its operands. -/
theorem sync_decode (f : Nat) (o : SyncOp) :
    decodeLong (packS 0x3B o.w) (f8 f ++ o.level ++ o.index ++ BitVec.ofBool o.side ++ (0 : BitVec 16) : BitVec 32) = pickSync (f % 256) o := by
  unfold decodeLong
  simp only [opOf_packS, sync_fn, syncOf_packed, sync_low, Nat.reduceMod]; simp only [beq_self_eq_true, reserved_true, f8, BitVec.toNat_ofNat, Nat.reducePow]

/-- A word pair of the xfer family is decoded by its function code and its operands. -/
theorem xfer_decode (f : Nat) (t d : Bool) (o : XferOp) :
    decodeLong (packS 0x3C o.w) (f8 f ++ BitVec.ofBool o.q ++ o.quire ++ o.dst ++ o.src ++ BitVec.ofBool t ++ BitVec.ofBool d ++ BitVec.ofBool o.c ++ (0 : BitVec 11) : BitVec 32) = pickXfer (f % 256) t d o := by
  unfold decodeLong
  simp only [opOf_packS, xfer_fn, xferOf_packed, xfer_low, xfer_t, xfer_d, Nat.reduceMod]; simp only [beq_self_eq_true, reserved_true, f8, BitVec.toNat_ofNat, Nat.reducePow]

/-- A word pair of the fab family is decoded by its function code and its operands. -/
theorem fab_decode (f : Nat) (sub : BitVec 3) (m : Bool) (o : FabOp) :
    decodeLong (packS 0x3D o.w) (f8 f ++ o.pat ++ o.ctr ++ sub ++ BitVec.ofBool m ++ (0 : BitVec 9) : BitVec 32) = pickFab (f % 256) m { o with sub := sub } := by
  unfold decodeLong
  simp only [opOf_packS, fab_fn, fabOf_packed, fab_low, fab_m, Nat.reduceMod]; simp only [beq_self_eq_true, reserved_true, f8, BitVec.toNat_ofNat, Nat.reducePow]

/-- A word pair of the sys family is decoded by its function code and its operands. -/
theorem sys_decode (f : Nat) (o : SysOp) :
    decodeLong (packS 0x3E o.w) (f8 f ++ o.f : BitVec 32) = pickSys (f % 256) o := by
  unfold decodeLong
  simp only [opOf_packS, sys_fn, sysOf_packed, Nat.reduceMod]; simp only [f8, BitVec.toNat_ofNat, Nat.reducePow]

end Sys2Proof
end

