-- ==== Sys2Proof/Laws/Exec.lean ====
section
/-!
SUPPORT. The dispatch, one arm at a time: each constructor runs its own meaning.
-/
namespace Sys2Proof.Machine
set_option Elab.async false

@[simp] theorem exec_nop (s : State) : exec .nop s = execNop s := rfl
@[simp] theorem exec_iadd (o : SOp) (s : State) : exec (.iadd o) s = execIadd o s := rfl
@[simp] theorem exec_isub (o : SOp) (s : State) : exec (.isub o) s = execIsub o s := rfl
@[simp] theorem exec_imul (o : SOp) (s : State) : exec (.imul o) s = execImul o s := rfl
@[simp] theorem exec_imulhi (o : SOp) (s : State) : exec (.imulhi o) s = execImulhi o s := rfl
@[simp] theorem exec_imulhu (o : SOp) (s : State) : exec (.imulhu o) s = execImulhu o s := rfl
@[simp] theorem exec_imad (o : SOp) (s : State) : exec (.imad o) s = execImad o s := rfl
@[simp] theorem exec_iaddi (o : IOp) (s : State) : exec (.iaddi o) s = execIaddi o s := rfl
@[simp] theorem exec_and (o : SOp) (s : State) : exec (.and o) s = execAnd o s := rfl
@[simp] theorem exec_or (o : SOp) (s : State) : exec (.or o) s = execOr o s := rfl
@[simp] theorem exec_xor (o : SOp) (s : State) : exec (.xor o) s = execXor o s := rfl
@[simp] theorem exec_andn (o : SOp) (s : State) : exec (.andn o) s = execAndn o s := rfl
@[simp] theorem exec_shl (o : SOp) (s : State) : exec (.shl o) s = execShl o s := rfl
@[simp] theorem exec_shr (o : SOp) (s : State) : exec (.shr o) s = execShr o s := rfl
@[simp] theorem exec_sar (o : SOp) (s : State) : exec (.sar o) s = execSar o s := rfl
@[simp] theorem exec_shli (o : IOp) (s : State) : exec (.shli o) s = execShli o s := rfl
@[simp] theorem exec_shri (o : IOp) (s : State) : exec (.shri o) s = execShri o s := rfl
@[simp] theorem exec_sari (o : IOp) (s : State) : exec (.sari o) s = execSari o s := rfl
@[simp] theorem exec_imin (o : SOp) (s : State) : exec (.imin o) s = execImin o s := rfl
@[simp] theorem exec_imax (o : SOp) (s : State) : exec (.imax o) s = execImax o s := rfl
@[simp] theorem exec_umin (o : SOp) (s : State) : exec (.umin o) s = execUmin o s := rfl
@[simp] theorem exec_umax (o : SOp) (s : State) : exec (.umax o) s = execUmax o s := rfl
@[simp] theorem exec_iseq (o : SOp) (s : State) : exec (.iseq o) s = execIseq o s := rfl
@[simp] theorem exec_isne (o : SOp) (s : State) : exec (.isne o) s = execIsne o s := rfl
@[simp] theorem exec_islt (o : SOp) (s : State) : exec (.islt o) s = execIslt o s := rfl
@[simp] theorem exec_isle (o : SOp) (s : State) : exec (.isle o) s = execIsle o s := rfl
@[simp] theorem exec_isltu (o : SOp) (s : State) : exec (.isltu o) s = execIsltu o s := rfl
@[simp] theorem exec_isleu (o : SOp) (s : State) : exec (.isleu o) s = execIsleu o s := rfl
@[simp] theorem exec_fadd (o : SOp) (s : State) : exec (.fadd o) s = execFadd o s := rfl
@[simp] theorem exec_fsub (o : SOp) (s : State) : exec (.fsub o) s = execFsub o s := rfl
@[simp] theorem exec_fmul (o : SOp) (s : State) : exec (.fmul o) s = execFmul o s := rfl
@[simp] theorem exec_fmac (o : SOp) (s : State) : exec (.fmac o) s = execFmac o s := rfl
@[simp] theorem exec_fmin (o : SOp) (s : State) : exec (.fmin o) s = execFmin o s := rfl
@[simp] theorem exec_fmax (o : SOp) (s : State) : exec (.fmax o) s = execFmax o s := rfl
@[simp] theorem exec_fseq (o : SOp) (s : State) : exec (.fseq o) s = execFseq o s := rfl
@[simp] theorem exec_fslt (o : SOp) (s : State) : exec (.fslt o) s = execFslt o s := rfl
@[simp] theorem exec_fsle (o : SOp) (s : State) : exec (.fsle o) s = execFsle o s := rfl
@[simp] theorem exec_fsun (o : SOp) (s : State) : exec (.fsun o) s = execFsun o s := rfl
@[simp] theorem exec_badd2 (o : SOp) (s : State) : exec (.badd2 o) s = execBadd2 o s := rfl
@[simp] theorem exec_bmul2 (o : SOp) (s : State) : exec (.bmul2 o) s = execBmul2 o s := rfl
@[simp] theorem exec_bmac2 (o : SOp) (s : State) : exec (.bmac2 o) s = execBmac2 o s := rfl
@[simp] theorem exec_sel (o : SOp) (s : State) : exec (.sel o) s = execSel o s := rfl
@[simp] theorem exec_add64 (o : SOp) (s : State) : exec (.add64 o) s = execAdd64 o s := rfl
@[simp] theorem exec_ex2 (o : UOp) (s : State) : exec (.ex2 o) s = execEx2 o s := rfl
@[simp] theorem exec_lg2 (o : UOp) (s : State) : exec (.lg2 o) s = execLg2 o s := rfl
@[simp] theorem exec_rcp (o : UOp) (s : State) : exec (.rcp o) s = execRcp o s := rfl
@[simp] theorem exec_rsq (o : UOp) (s : State) : exec (.rsq o) s = execRsq o s := rfl
@[simp] theorem exec_sqrt (o : UOp) (s : State) : exec (.sqrt o) s = execSqrt o s := rfl
@[simp] theorem exec_sinpi (o : UOp) (s : State) : exec (.sinpi o) s = execSinpi o s := rfl
@[simp] theorem exec_cospi (o : UOp) (s : State) : exec (.cospi o) s = execCospi o s := rfl
@[simp] theorem exec_tanh (o : UOp) (s : State) : exec (.tanh o) s = execTanh o s := rfl
@[simp] theorem exec_sigm (o : UOp) (s : State) : exec (.sigm o) s = execSigm o s := rfl
@[simp] theorem exec_erf (o : UOp) (s : State) : exec (.erf o) s = execErf o s := rfl
@[simp] theorem exec_popc (o : UOp) (s : State) : exec (.popc o) s = execPopc o s := rfl
@[simp] theorem exec_clz (o : UOp) (s : State) : exec (.clz o) s = execClz o s := rfl
@[simp] theorem exec_brev (o : UOp) (s : State) : exec (.brev o) s = execBrev o s := rfl
@[simp] theorem exec_iabs (o : UOp) (s : State) : exec (.iabs o) s = execIabs o s := rfl
@[simp] theorem exec_ineg (o : UOp) (s : State) : exec (.ineg o) s = execIneg o s := rfl
@[simp] theorem exec_fabs (o : UOp) (s : State) : exec (.fabs o) s = execFabs o s := rfl
@[simp] theorem exec_fneg (o : UOp) (s : State) : exec (.fneg o) s = execFneg o s := rfl
@[simp] theorem exec_frintRne (o : UOp) (s : State) : exec (.frintRne o) s = execFrintRne o s := rfl
@[simp] theorem exec_frintRz (o : UOp) (s : State) : exec (.frintRz o) s = execFrintRz o s := rfl
@[simp] theorem exec_frintRp (o : UOp) (s : State) : exec (.frintRp o) s = execFrintRp o s := rfl
@[simp] theorem exec_frintRm (o : UOp) (s : State) : exec (.frintRm o) s = execFrintRm o s := rfl
@[simp] theorem exec_cvtfi (o : UOp) (s : State) : exec (.cvtfi o) s = execCvtfi o s := rfl
@[simp] theorem exec_cvtfu (o : UOp) (s : State) : exec (.cvtfu o) s = execCvtfu o s := rfl
@[simp] theorem exec_cvtif (o : UOp) (s : State) : exec (.cvtif o) s = execCvtif o s := rfl
@[simp] theorem exec_cvtuf (o : UOp) (s : State) : exec (.cvtuf o) s = execCvtuf o s := rfl
@[simp] theorem exec_cvtfb (o : UOp) (s : State) : exec (.cvtfb o) s = execCvtfb o s := rfl
@[simp] theorem exec_cvtbf (o : UOp) (s : State) : exec (.cvtbf o) s = execCvtbf o s := rfl
@[simp] theorem exec_shfl (o : UOp) (s : State) : exec (.shfl o) s = execShfl o s := rfl
@[simp] theorem exec_shflx (o : SOp) (s : State) : exec (.shflx o) s = execShflx o s := rfl
@[simp] theorem exec_redlIadd (o : UOp) (s : State) : exec (.redlIadd o) s = execRedlIadd o s := rfl
@[simp] theorem exec_redlFadd (o : UOp) (s : State) : exec (.redlFadd o) s = execRedlFadd o s := rfl
@[simp] theorem exec_redlImax (o : UOp) (s : State) : exec (.redlImax o) s = execRedlImax o s := rfl
@[simp] theorem exec_redlImin (o : UOp) (s : State) : exec (.redlImin o) s = execRedlImin o s := rfl
@[simp] theorem exec_redlFmax (o : UOp) (s : State) : exec (.redlFmax o) s = execRedlFmax o s := rfl
@[simp] theorem exec_redlFmin (o : UOp) (s : State) : exec (.redlFmin o) s = execRedlFmin o s := rfl
@[simp] theorem exec_redlAnd (o : UOp) (s : State) : exec (.redlAnd o) s = execRedlAnd o s := rfl
@[simp] theorem exec_redlOr (o : UOp) (s : State) : exec (.redlOr o) s = execRedlOr o s := rfl
@[simp] theorem exec_redlXor (o : UOp) (s : State) : exec (.redlXor o) s = execRedlXor o s := rfl
@[simp] theorem exec_scanIadd (o : UOp) (s : State) : exec (.scanIadd o) s = execScanIadd o s := rfl
@[simp] theorem exec_scanFadd (o : UOp) (s : State) : exec (.scanFadd o) s = execScanFadd o s := rfl
@[simp] theorem exec_scanImax (o : UOp) (s : State) : exec (.scanImax o) s = execScanImax o s := rfl
@[simp] theorem exec_scanImin (o : UOp) (s : State) : exec (.scanImin o) s = execScanImin o s := rfl
@[simp] theorem exec_scanFmax (o : UOp) (s : State) : exec (.scanFmax o) s = execScanFmax o s := rfl
@[simp] theorem exec_scanFmin (o : UOp) (s : State) : exec (.scanFmin o) s = execScanFmin o s := rfl
@[simp] theorem exec_scanAnd (o : UOp) (s : State) : exec (.scanAnd o) s = execScanAnd o s := rfl
@[simp] theorem exec_scanOr (o : UOp) (s : State) : exec (.scanOr o) s = execScanOr o s := rfl
@[simp] theorem exec_scanXor (o : UOp) (s : State) : exec (.scanXor o) s = execScanXor o s := rfl
@[simp] theorem exec_scanXIadd (o : UOp) (s : State) : exec (.scanXIadd o) s = execScanXIadd o s := rfl
@[simp] theorem exec_scanXFadd (o : UOp) (s : State) : exec (.scanXFadd o) s = execScanXFadd o s := rfl
@[simp] theorem exec_scanXImax (o : UOp) (s : State) : exec (.scanXImax o) s = execScanXImax o s := rfl
@[simp] theorem exec_scanXImin (o : UOp) (s : State) : exec (.scanXImin o) s = execScanXImin o s := rfl
@[simp] theorem exec_scanXFmax (o : UOp) (s : State) : exec (.scanXFmax o) s = execScanXFmax o s := rfl
@[simp] theorem exec_scanXFmin (o : UOp) (s : State) : exec (.scanXFmin o) s = execScanXFmin o s := rfl
@[simp] theorem exec_scanXAnd (o : UOp) (s : State) : exec (.scanXAnd o) s = execScanXAnd o s := rfl
@[simp] theorem exec_scanXOr (o : UOp) (s : State) : exec (.scanXOr o) s = execScanXOr o s := rfl
@[simp] theorem exec_scanXXor (o : UOp) (s : State) : exec (.scanXXor o) s = execScanXXor o s := rfl
@[simp] theorem exec_voteAny (o : UOp) (s : State) : exec (.voteAny o) s = execVoteAny o s := rfl
@[simp] theorem exec_voteAll (o : UOp) (s : State) : exec (.voteAll o) s = execVoteAll o s := rfl
@[simp] theorem exec_voteCount (o : UOp) (s : State) : exec (.voteCount o) s = execVoteCount o s := rfl
@[simp] theorem exec_voteFirst (o : UOp) (s : State) : exec (.voteFirst o) s = execVoteFirst o s := rfl
@[simp] theorem exec_voteBallot (o : UOp) (s : State) : exec (.voteBallot o) s = execVoteBallot o s := rfl
@[simp] theorem exec_ucmp (o : SOp) (s : State) : exec (.ucmp o) s = execUcmp o s := rfl
@[simp] theorem exec_ufcmp (o : SOp) (s : State) : exec (.ufcmp o) s = execUfcmp o s := rfl
@[simp] theorem exec_csrr (o : SOp) (s : State) : exec (.csrr o) s = execCsrr o s := rfl
@[simp] theorem exec_csrw (o : SOp) (s : State) : exec (.csrw o) s = execCsrw o s := rfl
@[simp] theorem exec_fcpys (o : SOp) (s : State) : exec (.fcpys o) s = execFcpys o s := rfl
@[simp] theorem exec_ldB (o : MemOp) (s : State) : exec (.ldB o) s = execLdB o s := rfl
@[simp] theorem exec_ldBs (o : MemOp) (s : State) : exec (.ldBs o) s = execLdBs o s := rfl
@[simp] theorem exec_ldH (o : MemOp) (s : State) : exec (.ldH o) s = execLdH o s := rfl
@[simp] theorem exec_ldHs (o : MemOp) (s : State) : exec (.ldHs o) s = execLdHs o s := rfl
@[simp] theorem exec_ldW (o : MemOp) (s : State) : exec (.ldW o) s = execLdW o s := rfl
@[simp] theorem exec_ldD (o : MemOp) (s : State) : exec (.ldD o) s = execLdD o s := rfl
@[simp] theorem exec_ldQ (o : MemOp) (s : State) : exec (.ldQ o) s = execLdQ o s := rfl
@[simp] theorem exec_stB (o : MemOp) (s : State) : exec (.stB o) s = execStB o s := rfl
@[simp] theorem exec_stH (o : MemOp) (s : State) : exec (.stH o) s = execStH o s := rfl
@[simp] theorem exec_stW (o : MemOp) (s : State) : exec (.stW o) s = execStW o s := rfl
@[simp] theorem exec_stD (o : MemOp) (s : State) : exec (.stD o) s = execStD o s := rfl
@[simp] theorem exec_stQ (o : MemOp) (s : State) : exec (.stQ o) s = execStQ o s := rfl
@[simp] theorem exec_atomAdd (o : MemOp) (s : State) : exec (.atomAdd o) s = execAtomAdd o s := rfl
@[simp] theorem exec_atomMin (o : MemOp) (s : State) : exec (.atomMin o) s = execAtomMin o s := rfl
@[simp] theorem exec_atomMax (o : MemOp) (s : State) : exec (.atomMax o) s = execAtomMax o s := rfl
@[simp] theorem exec_atomUmin (o : MemOp) (s : State) : exec (.atomUmin o) s = execAtomUmin o s := rfl
@[simp] theorem exec_atomUmax (o : MemOp) (s : State) : exec (.atomUmax o) s = execAtomUmax o s := rfl
@[simp] theorem exec_atomAnd (o : MemOp) (s : State) : exec (.atomAnd o) s = execAtomAnd o s := rfl
@[simp] theorem exec_atomOr (o : MemOp) (s : State) : exec (.atomOr o) s = execAtomOr o s := rfl
@[simp] theorem exec_atomXor (o : MemOp) (s : State) : exec (.atomXor o) s = execAtomXor o s := rfl
@[simp] theorem exec_atomXchg (o : MemOp) (s : State) : exec (.atomXchg o) s = execAtomXchg o s := rfl
@[simp] theorem exec_atomCas (o : MemOp) (s : State) : exec (.atomCas o) s = execAtomCas o s := rfl
@[simp] theorem exec_atomIncb (o : MemOp) (s : State) : exec (.atomIncb o) s = execAtomIncb o s := rfl
@[simp] theorem exec_atomFadd (o : MemOp) (s : State) : exec (.atomFadd o) s = execAtomFadd o s := rfl
@[simp] theorem exec_atomBadd2 (o : MemOp) (s : State) : exec (.atomBadd2 o) s = execAtomBadd2 o s := rfl
@[simp] theorem exec_atomFmaxa (o : MemOp) (s : State) : exec (.atomFmaxa o) s = execAtomFmaxa o s := rfl
@[simp] theorem exec_redAdd (o : MemOp) (s : State) : exec (.redAdd o) s = execRedAdd o s := rfl
@[simp] theorem exec_redFadd (o : MemOp) (s : State) : exec (.redFadd o) s = execRedFadd o s := rfl
@[simp] theorem exec_redFmaxa (o : MemOp) (s : State) : exec (.redFmaxa o) s = execRedFmaxa o s := rfl
@[simp] theorem exec_stc (o : MemOp) (s : State) : exec (.stc o) s = execStc o s := rfl
@[simp] theorem exec_lde (o : MemOp) (s : State) : exec (.lde o) s = execLde o s := rfl
@[simp] theorem exec_pref (o : MemOp) (s : State) : exec (.pref o) s = execPref o s := rfl
@[simp] theorem exec_cclean (o : MemOp) (s : State) : exec (.cclean o) s = execCclean o s := rfl
@[simp] theorem exec_cinv (o : MemOp) (s : State) : exec (.cinv o) s = execCinv o s := rfl
@[simp] theorem exec_cflush (o : MemOp) (s : State) : exec (.cflush o) s = execCflush o s := rfl
@[simp] theorem exec_fence (o : MemOp) (s : State) : exec (.fence o) s = execFence o s := rfl
@[simp] theorem exec_defer (o : MemOp) (s : State) : exec (.defer o) s = execDefer o s := rfl
@[simp] theorem exec_resolve (o : MemOp) (s : State) : exec (.resolve o) s = execResolve o s := rfl
@[simp] theorem exec_cellq (o : MemOp) (s : State) : exec (.cellq o) s = execCellq o s := rfl
@[simp] theorem exec_cellfail (o : MemOp) (s : State) : exec (.cellfail o) s = execCellfail o s := rfl
@[simp] theorem exec_modeM (o : MatOp) (s : State) : exec (.modeM o) s = execModeM o s := rfl
@[simp] theorem exec_modeV (o : MatOp) (s : State) : exec (.modeV o) s = execModeV o s := rfl
@[simp] theorem exec_mresv (o : MatOp) (s : State) : exec (.mresv o) s = execMresv o s := rfl
@[simp] theorem exec_mbaton (o : MatOp) (s : State) : exec (.mbaton o) s = execMbaton o s := rfl
@[simp] theorem exec_mma (o : MatOp) (s : State) : exec (.mma o) s = execMma o s := rfl
@[simp] theorem exec_gmma (o : MatOp) (s : State) : exec (.gmma o) s = execGmma o s := rfl
@[simp] theorem exec_mdrain (o : MatOp) (s : State) : exec (.mdrain o) s = execMdrain o s := rfl
@[simp] theorem exec_mfill (o : MatOp) (s : State) : exec (.mfill o) s = execMfill o s := rfl
@[simp] theorem exec_dotb (o : MatOp) (s : State) : exec (.dotb o) s = execDotb o s := rfl
@[simp] theorem exec_mstat (o : MatOp) (s : State) : exec (.mstat o) s = execMstat o s := rfl
@[simp] theorem exec_br (o : CtlOp) (s : State) : exec (.br o) s = execBr o s := rfl
@[simp] theorem exec_brz (o : CtlOp) (s : State) : exec (.brz o) s = execBrz o s := rfl
@[simp] theorem exec_brnz (o : CtlOp) (s : State) : exec (.brnz o) s = execBrnz o s := rfl
@[simp] theorem exec_call (o : CtlOp) (s : State) : exec (.call o) s = execCall o s := rfl
@[simp] theorem exec_ret (o : CtlOp) (s : State) : exec (.ret o) s = execRet o s := rfl
@[simp] theorem exec_jmpr (o : CtlOp) (s : State) : exec (.jmpr o) s = execJmpr o s := rfl
@[simp] theorem exec_split (o : CtlOp) (s : State) : exec (.split o) s = execSplit o s := rfl
@[simp] theorem exec_merge (o : CtlOp) (s : State) : exec (.merge o) s = execMerge o s := rfl
@[simp] theorem exec_yield (o : CtlOp) (s : State) : exec (.yield o) s = execYield o s := rfl
@[simp] theorem exec_yieldc (o : CtlOp) (s : State) : exec (.yieldc o) s = execYieldc o s := rfl
@[simp] theorem exec_exit (o : CtlOp) (s : State) : exec (.exit o) s = execExit o s := rfl
@[simp] theorem exec_spawn (o : CtlOp) (s : State) : exec (.spawn o) s = execSpawn o s := rfl
@[simp] theorem exec_trap (o : CtlOp) (s : State) : exec (.trap o) s = execTrap o s := rfl
@[simp] theorem exec_trapret (o : CtlOp) (s : State) : exec (.trapret o) s = execTrapret o s := rfl
@[simp] theorem exec_waitc (o : CtlOp) (s : State) : exec (.waitc o) s = execWaitc o s := rfl
@[simp] theorem exec_sleep (o : CtlOp) (s : State) : exec (.sleep o) s = execSleep o s := rfl
@[simp] theorem exec_bkpt (o : CtlOp) (s : State) : exec (.bkpt o) s = execBkpt o s := rfl
@[simp] theorem exec_bararv (o : SyncOp) (s : State) : exec (.bararv o) s = execBararv o s := rfl
@[simp] theorem exec_barwait (o : SyncOp) (s : State) : exec (.barwait o) s = execBarwait o s := rfl
@[simp] theorem exec_barsync (o : SyncOp) (s : State) : exec (.barsync o) s = execBarsync o s := rfl
@[simp] theorem exec_gsync (o : SyncOp) (s : State) : exec (.gsync o) s = execGsync o s := rfl
@[simp] theorem exec_sbexp (o : SyncOp) (s : State) : exec (.sbexp o) s = execSbexp o s := rfl
@[simp] theorem exec_sbarv (o : SyncOp) (s : State) : exec (.sbarv o) s = execSbarv o s := rfl
@[simp] theorem exec_sbwait (o : SyncOp) (s : State) : exec (.sbwait o) s = execSbwait o s := rfl
@[simp] theorem exec_sbtry (o : SyncOp) (s : State) : exec (.sbtry o) s = execSbtry o s := rfl
@[simp] theorem exec_cpy (o : XferOp) (s : State) : exec (.cpy o) s = execCpy o s := rfl
@[simp] theorem exec_cpy2d (o : XferOp) (s : State) : exec (.cpy2d o) s = execCpy2d o s := rfl
@[simp] theorem exec_gath2d (o : XferOp) (s : State) : exec (.gath2d o) s = execGath2d o s := rfl
@[simp] theorem exec_scat2d (o : XferOp) (s : State) : exec (.scat2d o) s = execScat2d o s := rfl
@[simp] theorem exec_chain (o : XferOp) (s : State) : exec (.chain o) s = execChain o s := rfl
@[simp] theorem exec_qbindR (o : XferOp) (s : State) : exec (.qbindR o) s = execQbindR o s := rfl
@[simp] theorem exec_qbindW (o : XferOp) (s : State) : exec (.qbindW o) s = execQbindW o s := rfl
@[simp] theorem exec_qend (o : XferOp) (s : State) : exec (.qend o) s = execQend o s := rfl
@[simp] theorem exec_enq (o : XferOp) (s : State) : exec (.enq o) s = execEnq o s := rfl
@[simp] theorem exec_enqTry (o : XferOp) (s : State) : exec (.enqTry o) s = execEnqTry o s := rfl
@[simp] theorem exec_decode (o : XferOp) (s : State) : exec (.decode o) s = execDecode o s := rfl
@[simp] theorem exec_cpyw (o : XferOp) (s : State) : exec (.cpyw o) s = execCpyw o s := rfl
@[simp] theorem exec_pset (o : FabOp) (s : State) : exec (.pset o) s = execPset o s := rfl
@[simp] theorem exec_rst (o : FabOp) (s : State) : exec (.rst o) s = execRst o s := rfl
@[simp] theorem exec_rstBlock (o : FabOp) (s : State) : exec (.rstBlock o) s = execRstBlock o s := rfl
@[simp] theorem exec_rld (o : FabOp) (s : State) : exec (.rld o) s = execRld o s := rfl
@[simp] theorem exec_ratomAdd (o : FabOp) (s : State) : exec (.ratomAdd o) s = execRatomAdd o s := rfl
@[simp] theorem exec_ratomFadd (o : FabOp) (s : State) : exec (.ratomFadd o) s = execRatomFadd o s := rfl
@[simp] theorem exec_ratomFmaxa (o : FabOp) (s : State) : exec (.ratomFmaxa o) s = execRatomFmaxa o s := rfl
@[simp] theorem exec_ratomCas (o : FabOp) (s : State) : exec (.ratomCas o) s = execRatomCas o s := rfl
@[simp] theorem exec_ratomIncb (o : FabOp) (s : State) : exec (.ratomIncb o) s = execRatomIncb o s := rfl
@[simp] theorem exec_rredAdd (o : FabOp) (s : State) : exec (.rredAdd o) s = execRredAdd o s := rfl
@[simp] theorem exec_rredFadd (o : FabOp) (s : State) : exec (.rredFadd o) s = execRredFadd o s := rfl
@[simp] theorem exec_rredFmaxa (o : FabOp) (s : State) : exec (.rredFmaxa o) s = execRredFmaxa o s := rfl
@[simp] theorem exec_rcpy (o : FabOp) (s : State) : exec (.rcpy o) s = execRcpy o s := rfl
@[simp] theorem exec_rsig (o : FabOp) (s : State) : exec (.rsig o) s = execRsig o s := rfl
@[simp] theorem exec_rwait (o : FabOp) (s : State) : exec (.rwait o) s = execRwait o s := rfl
@[simp] theorem exec_reshard (o : FabOp) (s : State) : exec (.reshard o) s = execReshard o s := rfl
@[simp] theorem exec_pcount (o : FabOp) (s : State) : exec (.pcount o) s = execPcount o s := rfl
@[simp] theorem exec_coord (o : FabOp) (s : State) : exec (.coord o) s = execCoord o s := rfl
@[simp] theorem exec_setx (o : SysOp) (s : State) : exec (.setx o) s = execSetx o s := rfl
@[simp] theorem exec_budget (o : SysOp) (s : State) : exec (.budget o) s = execBudget o s := rfl
@[simp] theorem exec_clock (o : SysOp) (s : State) : exec (.clock o) s = execClock o s := rfl
@[simp] theorem exec_csrmvRead (o : SysOp) (s : State) : exec (.csrmvRead o) s = execCsrmvRead o s := rfl
@[simp] theorem exec_csrmvWrite (o : SysOp) (s : State) : exec (.csrmvWrite o) s = execCsrmvWrite o s := rfl
@[simp] theorem exec_ldi (o : L3Op) (s : State) : exec (.ldi o) s = execLdi o s := rfl
@[simp] theorem exec_iaddl (o : L3Op) (s : State) : exec (.iaddl o) s = execIaddl o s := rfl
@[simp] theorem exec_andl (o : L3Op) (s : State) : exec (.andl o) s = execAndl o s := rfl
@[simp] theorem exec_orl (o : L3Op) (s : State) : exec (.orl o) s = execOrl o s := rfl
@[simp] theorem exec_xorl (o : L3Op) (s : State) : exec (.xorl o) s = execXorl o s := rfl
@[simp] theorem exec_cvtq (o : L3Op) (s : State) : exec (.cvtq o) s = execCvtq o s := rfl
@[simp] theorem exec_cvtx (o : L3Op) (s : State) : exec (.cvtx o) s = execCvtx o s := rfl
@[simp] theorem exec_amaxb (o : L3Op) (s : State) : exec (.amaxb o) s = execAmaxb o s := rfl
@[simp] theorem exec_fmal (o : L3Op) (s : State) : exec (.fmal o) s = execFmal o s := rfl
@[simp] theorem exec_pack (o : L3Op) (s : State) : exec (.pack o) s = execPack o s := rfl
@[simp] theorem exec_unpack (o : L3Op) (s : State) : exec (.unpack o) s = execUnpack o s := rfl
@[simp] theorem exec_lea (o : L3Op) (s : State) : exec (.lea o) s = execLea o s := rfl
@[simp] theorem exec_clauseIssue (s : State) : exec .clauseIssue s = execClauseIssue s := rfl
@[simp] theorem exec_waitZeroEnd (s : State) : exec .waitZeroEnd s = execWaitZeroEnd s := rfl
@[simp] theorem exec_resultLand (s : State) : exec .resultLand s = execResultLand s := rfl
@[simp] theorem exec_windowGrant (s : State) : exec .windowGrant s = execWindowGrant s := rfl
@[simp] theorem exec_energyRefill (s : State) : exec .energyRefill s = execEnergyRefill s := rfl
@[simp] theorem exec_sleepExpire (s : State) : exec .sleepExpire s = execSleepExpire s := rfl
@[simp] theorem exec_trapEntry (s : State) : exec .trapEntry s = execTrapEntry s := rfl
@[simp] theorem exec_pageWalk (s : State) : exec .pageWalk s = execPageWalk s := rfl
@[simp] theorem exec_l2Prefetch (s : State) : exec .l2Prefetch s = execL2Prefetch s := rfl
@[simp] theorem exec_shootdownComplete (s : State) : exec .shootdownComplete s = execShootdownComplete s := rfl
@[simp] theorem exec_launchReady (s : State) : exec .launchReady s = execLaunchReady s := rfl
@[simp] theorem exec_clusterPlace (s : State) : exec .clusterPlace s = execClusterPlace s := rfl
@[simp] theorem exec_queueTimeout (s : State) : exec .queueTimeout s = execQueueTimeout s := rfl
@[simp] theorem exec_gatheringPlace (s : State) : exec .gatheringPlace s = execGatheringPlace s := rfl
@[simp] theorem exec_enqResume (s : State) : exec .enqResume s = execEnqResume s := rfl
@[simp] theorem exec_evaluatorLaunch (s : State) : exec .evaluatorLaunch s = execEvaluatorLaunch s := rfl
@[simp] theorem exec_groupReload (s : State) : exec .groupReload s = execGroupReload s := rfl
@[simp] theorem exec_parkedRecheck (s : State) : exec .parkedRecheck s = execParkedRecheck s := rfl
@[simp] theorem exec_waitTableRetry (s : State) : exec .waitTableRetry s = execWaitTableRetry s := rfl
@[simp] theorem exec_copyProgress (s : State) : exec .copyProgress s = execCopyProgress s := rfl
@[simp] theorem exec_copyComplete (s : State) : exec .copyComplete s = execCopyComplete s := rfl
@[simp] theorem exec_qportRead (s : State) : exec .qportRead s = execQportRead s := rfl
@[simp] theorem exec_qportWrite (s : State) : exec .qportWrite s = execQportWrite s := rfl
@[simp] theorem exec_arrayGrant (s : State) : exec .arrayGrant s = execArrayGrant s := rfl
@[simp] theorem exec_passStart (s : State) : exec .passStart s = execPassStart s := rfl
@[simp] theorem exec_stepEnd (s : State) : exec .stepEnd s = execStepEnd s := rfl
@[simp] theorem exec_passTimeLimit (s : State) : exec .passTimeLimit s = execPassTimeLimit s := rfl
@[simp] theorem exec_reservationPromote (s : State) : exec .reservationPromote s = execReservationPromote s := rfl
@[simp] theorem exec_matrixGapEnd (s : State) : exec .matrixGapEnd s = execMatrixGapEnd s := rfl
@[simp] theorem exec_flitData (s : State) : exec .flitData s = execFlitData s := rfl
@[simp] theorem exec_flitIdle (s : State) : exec .flitIdle s = execFlitIdle s := rfl
@[simp] theorem exec_flitNack (s : State) : exec .flitNack s = execFlitNack s := rfl
@[simp] theorem exec_flitRestripe (s : State) : exec .flitRestripe s = execFlitRestripe s := rfl
@[simp] theorem exec_flitRetrain (s : State) : exec .flitRetrain s = execFlitRetrain s := rfl
@[simp] theorem exec_flitLost (s : State) : exec .flitLost s = execFlitLost s := rfl
@[simp] theorem exec_idleTimer (s : State) : exec .idleTimer s = execIdleTimer s := rfl
@[simp] theorem exec_replayTimeout (s : State) : exec .replayTimeout s = execReplayTimeout s := rfl
@[simp] theorem exec_restripeRepeat (s : State) : exec .restripeRepeat s = execRestripeRepeat s := rfl
@[simp] theorem exec_lightDetected (s : State) : exec .lightDetected s = execLightDetected s := rfl
@[simp] theorem exec_lossOfLight (s : State) : exec .lossOfLight s = execLossOfLight s := rfl
@[simp] theorem exec_lockWindow (s : State) : exec .lockWindow s = execLockWindow s := rfl
@[simp] theorem exec_lockTimeout (s : State) : exec .lockTimeout s = execLockTimeout s := rfl
@[simp] theorem exec_thresholdCrossed (s : State) : exec .thresholdCrossed s = execThresholdCrossed s := rfl
@[simp] theorem exec_uncorrectableCodeword (s : State) : exec .uncorrectableCodeword s = execUncorrectableCodeword s := rfl
@[simp] theorem exec_retrainTimeout (s : State) : exec .retrainTimeout s = execRetrainTimeout s := rfl
@[simp] theorem exec_laserFailure (s : State) : exec .laserFailure s = execLaserFailure s := rfl
@[simp] theorem exec_laserReplaced (s : State) : exec .laserReplaced s = execLaserReplaced s := rfl
@[simp] theorem exec_linkHoldExpire (s : State) : exec .linkHoldExpire s = execLinkHoldExpire s := rfl
@[simp] theorem exec_remoteWriteArrive (s : State) : exec .remoteWriteArrive s = execRemoteWriteArrive s := rfl
@[simp] theorem exec_remoteReadArrive (s : State) : exec .remoteReadArrive s = execRemoteReadArrive s := rfl
@[simp] theorem exec_remoteAtomicArrive (s : State) : exec .remoteAtomicArrive s = execRemoteAtomicArrive s := rfl
@[simp] theorem exec_remoteSignalArrive (s : State) : exec .remoteSignalArrive s = execRemoteSignalArrive s := rfl
@[simp] theorem exec_remoteAck (s : State) : exec .remoteAck s = execRemoteAck s := rfl
@[simp] theorem exec_remoteReply (s : State) : exec .remoteReply s = execRemoteReply s := rfl
@[simp] theorem exec_remoteRefusal (s : State) : exec .remoteRefusal s = execRemoteRefusal s := rfl
@[simp] theorem exec_remoteRetry (s : State) : exec .remoteRetry s = execRemoteRetry s := rfl
@[simp] theorem exec_contributionArrive (s : State) : exec .contributionArrive s = execContributionArrive s := rfl
@[simp] theorem exec_combineGathering (s : State) : exec .combineGathering s = execCombineGathering s := rfl
@[simp] theorem exec_preemptSaved (s : State) : exec .preemptSaved s = execPreemptSaved s := rfl
@[simp] theorem exec_resumeComplete (s : State) : exec .resumeComplete s = execResumeComplete s := rfl
@[simp] theorem exec_contextEnded (s : State) : exec .contextEnded s = execContextEnded s := rfl
@[simp] theorem exec_hostRead (s : State) : exec .hostRead s = execHostRead s := rfl
@[simp] theorem exec_hostWrite (s : State) : exec .hostWrite s = execHostWrite s := rfl
@[simp] theorem exec_sqtail (s : State) : exec .sqtail s = execSqtail s := rfl
@[simp] theorem exec_cmdtail (s : State) : exec .cmdtail s = execCmdtail s := rfl
@[simp] theorem exec_evhead (s : State) : exec .evhead s = execEvhead s := rfl
@[simp] theorem exec_winbase (s : State) : exec .winbase s = execWinbase s := rfl
@[simp] theorem exec_cmdbase (s : State) : exec .cmdbase s = execCmdbase s := rfl
@[simp] theorem exec_evbase (s : State) : exec .evbase s = execEvbase s := rfl
@[simp] theorem exec_registerWriteIgnored (s : State) : exec .registerWriteIgnored s = execRegisterWriteIgnored s := rfl
@[simp] theorem exec_setQueue (s : State) : exec .setQueue s = execSetQueue s := rfl
@[simp] theorem exec_createContext (s : State) : exec .createContext s = execCreateContext s := rfl
@[simp] theorem exec_endContext (s : State) : exec .endContext s = execEndContext s := rfl
@[simp] theorem exec_preempt (s : State) : exec .preempt s = execPreempt s := rfl
@[simp] theorem exec_resume (s : State) : exec .resume s = execResume s := rfl
@[simp] theorem exec_gridMap (s : State) : exec .gridMap s = execGridMap s := rfl
@[simp] theorem exec_accessTable (s : State) : exec .accessTable s = execAccessTable s := rfl
@[simp] theorem exec_loadKey (s : State) : exec .loadKey s = execLoadKey s := rfl
@[simp] theorem exec_clearKey (s : State) : exec .clearKey s = execClearKey s := rfl
@[simp] theorem exec_attest (s : State) : exec .attest s = execAttest s := rfl
@[simp] theorem exec_migrate (s : State) : exec .migrate s = execMigrate s := rfl
@[simp] theorem exec_migrateCommit (s : State) : exec .migrateCommit s = execMigrateCommit s := rfl
@[simp] theorem exec_migrateAbort (s : State) : exec .migrateAbort s = execMigrateAbort s := rfl
@[simp] theorem exec_unmapRemap (s : State) : exec .unmapRemap s = execUnmapRemap s := rfl
@[simp] theorem exec_engineRetry (s : State) : exec .engineRetry s = execEngineRetry s := rfl
@[simp] theorem exec_engineAbort (s : State) : exec .engineAbort s = execEngineAbort s := rfl
@[simp] theorem exec_trapReplay (s : State) : exec .trapReplay s = execTrapReplay s := rfl
@[simp] theorem exec_trapDeliver (s : State) : exec .trapDeliver s = execTrapDeliver s := rfl
@[simp] theorem exec_setLog (s : State) : exec .setLog s = execSetLog s := rfl
@[simp] theorem exec_logReplay (s : State) : exec .logReplay s = execLogReplay s := rfl
@[simp] theorem exec_logDiscard (s : State) : exec .logDiscard s = execLogDiscard s := rfl
@[simp] theorem exec_stagingRegion (s : State) : exec .stagingRegion s = execStagingRegion s := rfl
@[simp] theorem exec_closeNodeQueue (s : State) : exec .closeNodeQueue s = execCloseNodeQueue s := rfl
@[simp] theorem exec_linkThreshold (s : State) : exec .linkThreshold s = execLinkThreshold s := rfl
@[simp] theorem exec_channelThreshold (s : State) : exec .channelThreshold s = execChannelThreshold s := rfl
@[simp] theorem exec_powerLimit (s : State) : exec .powerLimit s = execPowerLimit s := rfl
@[simp] theorem exec_reenableLane (s : State) : exec .reenableLane s = execReenableLane s := rfl
@[simp] theorem exec_setDeviceIndex (s : State) : exec .setDeviceIndex s = execSetDeviceIndex s := rfl
@[simp] theorem exec_recoveryImage (s : State) : exec .recoveryImage s = execRecoveryImage s := rfl
@[simp] theorem exec_unknownCommand (s : State) : exec .unknownCommand s = execUnknownCommand s := rfl
@[simp] theorem exec_moduleReset (s : State) : exec .moduleReset s = execModuleReset s := rfl
@[simp] theorem exec_functionTrained (s : State) : exec .functionTrained s = execFunctionTrained s := rfl
@[simp] theorem exec_errorWindow (s : State) : exec .errorWindow s = execErrorWindow s := rfl
@[simp] theorem exec_spareColumnSwap (s : State) : exec .spareColumnSwap s = execSpareColumnSwap s := rfl
@[simp] theorem exec_powerExceeded (s : State) : exec .powerExceeded s = execPowerExceeded s := rfl
@[simp] theorem exec_junctionOvertemp (s : State) : exec .junctionOvertemp s = execJunctionOvertemp s := rfl
@[simp] theorem exec_refillsRestored (s : State) : exec .refillsRestored s = execRefillsRestored s := rfl

end Sys2Proof.Machine
end

