-- ==== Sys2Proof/Laws/Sparse.lean ====
section
/-!
SUPPORT. Sparse tables: reading after a write, and the canonical form kept by every operation.
-/
namespace Sys2Proof.Machine
set_option Elab.async false

variable {α : Type} [DecidableEq α] {d x : α}

omit [DecidableEq α] in
theorem lookup_erase (m : List (Nat × α)) (a b : Nat) : lookup d (erase m a) b = if b = a then d else lookup d m b := by
  induction m with
  | nil => simp [erase, lookup]
  | cons e r ih =>
    obtain ⟨k, v⟩ := e
    simp only [erase, lookup]
    by_cases h1 : k = a <;> by_cases h2 : b = a <;> by_cases h3 : k = b <;> simp_all [lookup]

omit [DecidableEq α] in
theorem lookup_insertKey (m : List (Nat × α)) (a b : Nat) (h : ∀ e ∈ m, e.1 ≠ a) :
    lookup d (insertKey m a x) b = if b = a then x else lookup d m b := by
  induction m with
  | nil => simp only [insertKey, lookup, eq_comm (a := a)]
  | cons e r ih =>
    obtain ⟨k, v⟩ := e
    have hk : k ≠ a := h (k, v) List.mem_cons_self
    have ih := ih fun e he => h e (List.mem_cons_of_mem _ he)
    simp only [insertKey]
    split
    · by_cases h2 : b = a
      · simp [lookup, h2]
      · simp [lookup, h2, Ne.symm h2]
    · by_cases h2 : b = a <;> by_cases h3 : k = b <;> simp_all [lookup]

omit [DecidableEq α] in
theorem keys_erase (m : List (Nat × α)) (a : Nat) : ∀ e ∈ erase m a, e.1 ≠ a ∧ e ∈ m := by
  induction m with
  | nil => simp [erase]
  | cons e r ih =>
    obtain ⟨k, v⟩ := e
    simp only [erase]
    split
    · intro e he; exact ⟨(ih e he).1, by simp [(ih e he).2]⟩
    · intro e he
      rcases List.mem_cons.1 he with rfl | he
      · exact ⟨by assumption, by simp⟩
      · exact ⟨(ih e he).1, by simp [(ih e he).2]⟩

/-- A read after a write gives the value written at its key and leaves every other key alone. -/
theorem lookup_put (m : List (Nat × α)) (a b : Nat) : lookup d (put d m a x) b = if b = a then x else lookup d m b := by
  unfold put
  split
  · subst_vars; exact lookup_erase m a b
  · rw [lookup_insertKey _ _ _ fun e he => (keys_erase m a e he).1, lookup_erase]
    split <;> rfl

@[simp] theorem lookup_put_same (m : List (Nat × α)) (a : Nat) : lookup d (put d m a x) a = x := by simp [lookup_put]

theorem lookup_put_other (m : List (Nat × α)) {a b : Nat} (h : b ≠ a) : lookup d (put d m a x) b = lookup d m b := by
  simp [lookup_put, h]

/-- The canonical form, as a property of the list: keys rise and no default is listed. -/
theorem canonical_iff (m : List (Nat × α)) :
    canonical d m = true ↔ m.Pairwise (fun a b => a.1 < b.1) ∧ ∀ e ∈ m, e.2 ≠ d := by
  induction m with
  | nil => simp [canonical]
  | cons e r ih =>
    obtain ⟨k, v⟩ := e
    simp only [canonical, Bool.and_eq_true, decide_eq_true_eq, List.all_eq_true, ih, List.pairwise_cons, List.forall_mem_cons]
    tauto

theorem canonical_erase {m : List (Nat × α)} (a : Nat) (h : canonical d m = true) : canonical d (erase m a) = true := by
  rw [canonical_iff] at *
  obtain ⟨h1, h2⟩ := h
  refine ⟨?_, fun e he => h2 e (keys_erase m a e he).2⟩
  clear h2
  induction m with
  | nil => simp [erase]
  | cons e r ih =>
    obtain ⟨k, v⟩ := e
    rw [List.pairwise_cons] at h1
    simp only [erase]
    split
    · exact ih h1.2
    · rw [List.pairwise_cons]
      exact ⟨fun e he => h1.1 e (keys_erase r a e he).2, ih h1.2⟩

omit [DecidableEq α] in
theorem mem_insertKey (m : List (Nat × α)) (a : Nat) (e : Nat × α) : e ∈ insertKey m a x ↔ e = (a, x) ∨ e ∈ m := by
  induction m with
  | nil => simp [insertKey]
  | cons f r ih =>
    obtain ⟨k, v⟩ := f
    simp only [insertKey]
    split
    · simp
    · simp only [List.mem_cons, ih]; tauto

theorem canonical_insertKey {m : List (Nat × α)} (a : Nat) (hx : x ≠ d) (hk : ∀ e ∈ m, e.1 ≠ a) (h : canonical d m = true) :
    canonical d (insertKey m a x) = true := by
  rw [canonical_iff] at *
  obtain ⟨h1, h2⟩ := h
  refine ⟨?_, fun e he => ?_⟩
  · clear h2
    induction m with
    | nil => simp [insertKey]
    | cons e r ih =>
      obtain ⟨k, v⟩ := e
      have hp := List.pairwise_cons.1 h1
      simp only [insertKey]
      split
      · rw [List.pairwise_cons]
        refine ⟨fun e he => ?_, h1⟩
        rcases List.mem_cons.1 he with rfl | he
        · assumption
        · exact lt_trans (by assumption) (hp.1 e he)
      · rw [List.pairwise_cons]
        refine ⟨fun e he => ?_, ih (fun e he => hk e (by simp [he])) hp.2⟩
        rcases (mem_insertKey r a e).1 he with rfl | he
        · have := hk (k, v) (by simp)
          simp only at this ⊢
          omega
        · exact hp.1 e he
  · rcases (mem_insertKey m a e).1 he with rfl | he
    · exact hx
    · exact h2 e he

/-- A write keeps the canonical form. -/
theorem canonical_put {m : List (Nat × α)} (a : Nat) (h : canonical d m = true) : canonical d (put d m a x) = true := by
  unfold put
  split
  · exact canonical_erase a h
  · exact canonical_insertKey a (by assumption) (fun e he => (keys_erase m a e he).1) (canonical_erase a h)

/-- Writes of consecutive keys keep the canonical form. -/
theorem canonical_puts (xs : List α) {m : List (Nat × α)} (a : Nat) (h : canonical d m = true) :
    canonical d (puts d m a xs) = true := by
  induction xs generalizing m a with
  | nil => exact h
  | cons x r ih => exact ih _ (canonical_put a h)

/-- What consecutive writes leave: the values written at their keys, and every other key as it was. -/
theorem lookup_puts (xs : List α) (m : List (Nat × α)) (a b : Nat) :
    lookup d (puts d m a xs) b = if a ≤ b ∧ b < a + xs.length then xs.getD (b - a) d else lookup d m b := by
  induction xs generalizing m a with
  | nil => simp [puts]
  | cons x r ih =>
    rw [puts, ih]
    by_cases hb : b = a
    · subst hb
      rw [if_neg (by omega), if_pos (by simp)]
      simp
    · by_cases h : a + 1 ≤ b ∧ b < a + 1 + r.length
      · rw [if_pos h, if_pos (by simp only [List.length_cons]; omega)]
        obtain ⟨c, rfl⟩ : ∃ c, b = a + 1 + c := ⟨b - (a + 1), by omega⟩
        simp [show a + 1 + c - (a + 1) = c by omega, show a + 1 + c - a = c + 1 by omega]
      · rw [if_neg h, if_neg (by simp only [List.length_cons]; omega), lookup_put_other m hb]

end Sys2Proof.Machine
end

