-- ==== Sys2Proof/Laws/State.lean ====
section
/-!
SUPPORT. Every field of the state after every replacement of a record: one lemma each, true by definition.
-/
namespace Sys2Proof.Machine
set_option Elab.async false

@[simp] theorem State.setGroup_agenda (s : State) (g : Group) : (s.setGroup g).agenda = s.agenda := rfl
@[simp] theorem State.setGroup_cur (s : State) (g : Group) : (s.setGroup g).cur = s.cur := rfl
@[simp] theorem State.setGroup_ev (s : State) (g : Group) : (s.setGroup g).ev = s.ev := rfl
@[simp] theorem State.setGroup_free (s : State) (g : Group) : (s.setGroup g).free = s.free := rfl
@[simp] theorem State.setGroup_nextId (s : State) (g : Group) : (s.setGroup g).nextId = s.nextId := rfl
@[simp] theorem State.setGroup_cycle (s : State) (g : Group) : (s.setGroup g).cycle = s.cycle := rfl
@[simp] theorem State.setGroup_mem (s : State) (g : Group) : (s.setGroup g).mem = s.mem := rfl
@[simp] theorem State.setGroup_flights (s : State) (g : Group) : (s.setGroup g).flights = s.flights := rfl
@[simp] theorem State.setGroup_teams (s : State) (g : Group) : (s.setGroup g).teams = s.teams := rfl
@[simp] theorem State.setGroup_clusters (s : State) (g : Group) : (s.setGroup g).clusters = s.clusters := rfl
@[simp] theorem State.setGroup_barriers (s : State) (g : Group) : (s.setGroup g).barriers = s.barriers := rfl
@[simp] theorem State.setGroup_arrays (s : State) (g : Group) : (s.setGroup g).arrays = s.arrays := rfl
@[simp] theorem State.setGroup_launches (s : State) (g : Group) : (s.setGroup g).launches = s.launches := rfl
@[simp] theorem State.setGroup_contexts (s : State) (g : Group) : (s.setGroup g).contexts = s.contexts := rfl
@[simp] theorem State.setGroup_evals (s : State) (g : Group) : (s.setGroup g).evals = s.evals := rfl
@[simp] theorem State.setGroup_waits (s : State) (g : Group) : (s.setGroup g).waits = s.waits := rfl
@[simp] theorem State.setGroup_engines (s : State) (g : Group) : (s.setGroup g).engines = s.engines := rfl
@[simp] theorem State.setGroup_fabric (s : State) (g : Group) : (s.setGroup g).fabric = s.fabric := rfl
@[simp] theorem State.setGroup_sent (s : State) (g : Group) : (s.setGroup g).sent = s.sent := rfl
@[simp] theorem State.setGroup_remotes (s : State) (g : Group) : (s.setGroup g).remotes = s.remotes := rfl
@[simp] theorem State.setGroup_held (s : State) (g : Group) : (s.setGroup g).held = s.held := rfl
@[simp] theorem State.setGroup_links (s : State) (g : Group) : (s.setGroup g).links = s.links := rfl
@[simp] theorem State.setGroup_dev (s : State) (g : Group) : (s.setGroup g).dev = s.dev := rfl
@[simp] theorem State.setGroup_commands (s : State) (g : Group) : (s.setGroup g).commands = s.commands := rfl
@[simp] theorem State.setGroup_replies (s : State) (g : Group) : (s.setGroup g).replies = s.replies := rfl

@[simp] theorem State.setTeam_agenda (s : State) (x : Team) : (s.setTeam x).agenda = s.agenda := rfl
@[simp] theorem State.setTeam_cur (s : State) (x : Team) : (s.setTeam x).cur = s.cur := rfl
@[simp] theorem State.setTeam_ev (s : State) (x : Team) : (s.setTeam x).ev = s.ev := rfl
@[simp] theorem State.setTeam_free (s : State) (x : Team) : (s.setTeam x).free = s.free := rfl
@[simp] theorem State.setTeam_nextId (s : State) (x : Team) : (s.setTeam x).nextId = s.nextId := rfl
@[simp] theorem State.setTeam_cycle (s : State) (x : Team) : (s.setTeam x).cycle = s.cycle := rfl
@[simp] theorem State.setTeam_mem (s : State) (x : Team) : (s.setTeam x).mem = s.mem := rfl
@[simp] theorem State.setTeam_flights (s : State) (x : Team) : (s.setTeam x).flights = s.flights := rfl
@[simp] theorem State.setTeam_groups (s : State) (x : Team) : (s.setTeam x).groups = s.groups := rfl
@[simp] theorem State.setTeam_clusters (s : State) (x : Team) : (s.setTeam x).clusters = s.clusters := rfl
@[simp] theorem State.setTeam_barriers (s : State) (x : Team) : (s.setTeam x).barriers = s.barriers := rfl
@[simp] theorem State.setTeam_arrays (s : State) (x : Team) : (s.setTeam x).arrays = s.arrays := rfl
@[simp] theorem State.setTeam_launches (s : State) (x : Team) : (s.setTeam x).launches = s.launches := rfl
@[simp] theorem State.setTeam_contexts (s : State) (x : Team) : (s.setTeam x).contexts = s.contexts := rfl
@[simp] theorem State.setTeam_evals (s : State) (x : Team) : (s.setTeam x).evals = s.evals := rfl
@[simp] theorem State.setTeam_waits (s : State) (x : Team) : (s.setTeam x).waits = s.waits := rfl
@[simp] theorem State.setTeam_engines (s : State) (x : Team) : (s.setTeam x).engines = s.engines := rfl
@[simp] theorem State.setTeam_fabric (s : State) (x : Team) : (s.setTeam x).fabric = s.fabric := rfl
@[simp] theorem State.setTeam_sent (s : State) (x : Team) : (s.setTeam x).sent = s.sent := rfl
@[simp] theorem State.setTeam_remotes (s : State) (x : Team) : (s.setTeam x).remotes = s.remotes := rfl
@[simp] theorem State.setTeam_held (s : State) (x : Team) : (s.setTeam x).held = s.held := rfl
@[simp] theorem State.setTeam_links (s : State) (x : Team) : (s.setTeam x).links = s.links := rfl
@[simp] theorem State.setTeam_dev (s : State) (x : Team) : (s.setTeam x).dev = s.dev := rfl
@[simp] theorem State.setTeam_commands (s : State) (x : Team) : (s.setTeam x).commands = s.commands := rfl
@[simp] theorem State.setTeam_replies (s : State) (x : Team) : (s.setTeam x).replies = s.replies := rfl

@[simp] theorem State.setContext_agenda (s : State) (c : Context) : (s.setContext c).agenda = s.agenda := rfl
@[simp] theorem State.setContext_cur (s : State) (c : Context) : (s.setContext c).cur = s.cur := rfl
@[simp] theorem State.setContext_ev (s : State) (c : Context) : (s.setContext c).ev = s.ev := rfl
@[simp] theorem State.setContext_free (s : State) (c : Context) : (s.setContext c).free = s.free := rfl
@[simp] theorem State.setContext_nextId (s : State) (c : Context) : (s.setContext c).nextId = s.nextId := rfl
@[simp] theorem State.setContext_cycle (s : State) (c : Context) : (s.setContext c).cycle = s.cycle := rfl
@[simp] theorem State.setContext_mem (s : State) (c : Context) : (s.setContext c).mem = s.mem := rfl
@[simp] theorem State.setContext_flights (s : State) (c : Context) : (s.setContext c).flights = s.flights := rfl
@[simp] theorem State.setContext_groups (s : State) (c : Context) : (s.setContext c).groups = s.groups := rfl
@[simp] theorem State.setContext_teams (s : State) (c : Context) : (s.setContext c).teams = s.teams := rfl
@[simp] theorem State.setContext_clusters (s : State) (c : Context) : (s.setContext c).clusters = s.clusters := rfl
@[simp] theorem State.setContext_barriers (s : State) (c : Context) : (s.setContext c).barriers = s.barriers := rfl
@[simp] theorem State.setContext_arrays (s : State) (c : Context) : (s.setContext c).arrays = s.arrays := rfl
@[simp] theorem State.setContext_launches (s : State) (c : Context) : (s.setContext c).launches = s.launches := rfl
@[simp] theorem State.setContext_evals (s : State) (c : Context) : (s.setContext c).evals = s.evals := rfl
@[simp] theorem State.setContext_waits (s : State) (c : Context) : (s.setContext c).waits = s.waits := rfl
@[simp] theorem State.setContext_engines (s : State) (c : Context) : (s.setContext c).engines = s.engines := rfl
@[simp] theorem State.setContext_fabric (s : State) (c : Context) : (s.setContext c).fabric = s.fabric := rfl
@[simp] theorem State.setContext_sent (s : State) (c : Context) : (s.setContext c).sent = s.sent := rfl
@[simp] theorem State.setContext_remotes (s : State) (c : Context) : (s.setContext c).remotes = s.remotes := rfl
@[simp] theorem State.setContext_held (s : State) (c : Context) : (s.setContext c).held = s.held := rfl
@[simp] theorem State.setContext_links (s : State) (c : Context) : (s.setContext c).links = s.links := rfl
@[simp] theorem State.setContext_dev (s : State) (c : Context) : (s.setContext c).dev = s.dev := rfl
@[simp] theorem State.setContext_commands (s : State) (c : Context) : (s.setContext c).commands = s.commands := rfl
@[simp] theorem State.setContext_replies (s : State) (c : Context) : (s.setContext c).replies = s.replies := rfl

@[simp] theorem State.setLaunch_agenda (s : State) (l : Launch) : (s.setLaunch l).agenda = s.agenda := rfl
@[simp] theorem State.setLaunch_cur (s : State) (l : Launch) : (s.setLaunch l).cur = s.cur := rfl
@[simp] theorem State.setLaunch_ev (s : State) (l : Launch) : (s.setLaunch l).ev = s.ev := rfl
@[simp] theorem State.setLaunch_free (s : State) (l : Launch) : (s.setLaunch l).free = s.free := rfl
@[simp] theorem State.setLaunch_nextId (s : State) (l : Launch) : (s.setLaunch l).nextId = s.nextId := rfl
@[simp] theorem State.setLaunch_cycle (s : State) (l : Launch) : (s.setLaunch l).cycle = s.cycle := rfl
@[simp] theorem State.setLaunch_mem (s : State) (l : Launch) : (s.setLaunch l).mem = s.mem := rfl
@[simp] theorem State.setLaunch_flights (s : State) (l : Launch) : (s.setLaunch l).flights = s.flights := rfl
@[simp] theorem State.setLaunch_groups (s : State) (l : Launch) : (s.setLaunch l).groups = s.groups := rfl
@[simp] theorem State.setLaunch_teams (s : State) (l : Launch) : (s.setLaunch l).teams = s.teams := rfl
@[simp] theorem State.setLaunch_clusters (s : State) (l : Launch) : (s.setLaunch l).clusters = s.clusters := rfl
@[simp] theorem State.setLaunch_barriers (s : State) (l : Launch) : (s.setLaunch l).barriers = s.barriers := rfl
@[simp] theorem State.setLaunch_arrays (s : State) (l : Launch) : (s.setLaunch l).arrays = s.arrays := rfl
@[simp] theorem State.setLaunch_contexts (s : State) (l : Launch) : (s.setLaunch l).contexts = s.contexts := rfl
@[simp] theorem State.setLaunch_evals (s : State) (l : Launch) : (s.setLaunch l).evals = s.evals := rfl
@[simp] theorem State.setLaunch_waits (s : State) (l : Launch) : (s.setLaunch l).waits = s.waits := rfl
@[simp] theorem State.setLaunch_engines (s : State) (l : Launch) : (s.setLaunch l).engines = s.engines := rfl
@[simp] theorem State.setLaunch_fabric (s : State) (l : Launch) : (s.setLaunch l).fabric = s.fabric := rfl
@[simp] theorem State.setLaunch_sent (s : State) (l : Launch) : (s.setLaunch l).sent = s.sent := rfl
@[simp] theorem State.setLaunch_remotes (s : State) (l : Launch) : (s.setLaunch l).remotes = s.remotes := rfl
@[simp] theorem State.setLaunch_held (s : State) (l : Launch) : (s.setLaunch l).held = s.held := rfl
@[simp] theorem State.setLaunch_links (s : State) (l : Launch) : (s.setLaunch l).links = s.links := rfl
@[simp] theorem State.setLaunch_dev (s : State) (l : Launch) : (s.setLaunch l).dev = s.dev := rfl
@[simp] theorem State.setLaunch_commands (s : State) (l : Launch) : (s.setLaunch l).commands = s.commands := rfl
@[simp] theorem State.setLaunch_replies (s : State) (l : Launch) : (s.setLaunch l).replies = s.replies := rfl

@[simp] theorem State.setEngine_agenda (s : State) (e : Engine) : (s.setEngine e).agenda = s.agenda := rfl
@[simp] theorem State.setEngine_cur (s : State) (e : Engine) : (s.setEngine e).cur = s.cur := rfl
@[simp] theorem State.setEngine_ev (s : State) (e : Engine) : (s.setEngine e).ev = s.ev := rfl
@[simp] theorem State.setEngine_free (s : State) (e : Engine) : (s.setEngine e).free = s.free := rfl
@[simp] theorem State.setEngine_nextId (s : State) (e : Engine) : (s.setEngine e).nextId = s.nextId := rfl
@[simp] theorem State.setEngine_cycle (s : State) (e : Engine) : (s.setEngine e).cycle = s.cycle := rfl
@[simp] theorem State.setEngine_mem (s : State) (e : Engine) : (s.setEngine e).mem = s.mem := rfl
@[simp] theorem State.setEngine_flights (s : State) (e : Engine) : (s.setEngine e).flights = s.flights := rfl
@[simp] theorem State.setEngine_groups (s : State) (e : Engine) : (s.setEngine e).groups = s.groups := rfl
@[simp] theorem State.setEngine_teams (s : State) (e : Engine) : (s.setEngine e).teams = s.teams := rfl
@[simp] theorem State.setEngine_clusters (s : State) (e : Engine) : (s.setEngine e).clusters = s.clusters := rfl
@[simp] theorem State.setEngine_barriers (s : State) (e : Engine) : (s.setEngine e).barriers = s.barriers := rfl
@[simp] theorem State.setEngine_arrays (s : State) (e : Engine) : (s.setEngine e).arrays = s.arrays := rfl
@[simp] theorem State.setEngine_launches (s : State) (e : Engine) : (s.setEngine e).launches = s.launches := rfl
@[simp] theorem State.setEngine_contexts (s : State) (e : Engine) : (s.setEngine e).contexts = s.contexts := rfl
@[simp] theorem State.setEngine_evals (s : State) (e : Engine) : (s.setEngine e).evals = s.evals := rfl
@[simp] theorem State.setEngine_waits (s : State) (e : Engine) : (s.setEngine e).waits = s.waits := rfl
@[simp] theorem State.setEngine_fabric (s : State) (e : Engine) : (s.setEngine e).fabric = s.fabric := rfl
@[simp] theorem State.setEngine_sent (s : State) (e : Engine) : (s.setEngine e).sent = s.sent := rfl
@[simp] theorem State.setEngine_remotes (s : State) (e : Engine) : (s.setEngine e).remotes = s.remotes := rfl
@[simp] theorem State.setEngine_held (s : State) (e : Engine) : (s.setEngine e).held = s.held := rfl
@[simp] theorem State.setEngine_links (s : State) (e : Engine) : (s.setEngine e).links = s.links := rfl
@[simp] theorem State.setEngine_dev (s : State) (e : Engine) : (s.setEngine e).dev = s.dev := rfl
@[simp] theorem State.setEngine_commands (s : State) (e : Engine) : (s.setEngine e).commands = s.commands := rfl
@[simp] theorem State.setEngine_replies (s : State) (e : Engine) : (s.setEngine e).replies = s.replies := rfl

@[simp] theorem State.setRemoteOp_agenda (s : State) (o : RemoteOp) : (s.setRemoteOp o).agenda = s.agenda := rfl
@[simp] theorem State.setRemoteOp_cur (s : State) (o : RemoteOp) : (s.setRemoteOp o).cur = s.cur := rfl
@[simp] theorem State.setRemoteOp_ev (s : State) (o : RemoteOp) : (s.setRemoteOp o).ev = s.ev := rfl
@[simp] theorem State.setRemoteOp_free (s : State) (o : RemoteOp) : (s.setRemoteOp o).free = s.free := rfl
@[simp] theorem State.setRemoteOp_nextId (s : State) (o : RemoteOp) : (s.setRemoteOp o).nextId = s.nextId := rfl
@[simp] theorem State.setRemoteOp_cycle (s : State) (o : RemoteOp) : (s.setRemoteOp o).cycle = s.cycle := rfl
@[simp] theorem State.setRemoteOp_mem (s : State) (o : RemoteOp) : (s.setRemoteOp o).mem = s.mem := rfl
@[simp] theorem State.setRemoteOp_flights (s : State) (o : RemoteOp) : (s.setRemoteOp o).flights = s.flights := rfl
@[simp] theorem State.setRemoteOp_groups (s : State) (o : RemoteOp) : (s.setRemoteOp o).groups = s.groups := rfl
@[simp] theorem State.setRemoteOp_teams (s : State) (o : RemoteOp) : (s.setRemoteOp o).teams = s.teams := rfl
@[simp] theorem State.setRemoteOp_clusters (s : State) (o : RemoteOp) : (s.setRemoteOp o).clusters = s.clusters := rfl
@[simp] theorem State.setRemoteOp_barriers (s : State) (o : RemoteOp) : (s.setRemoteOp o).barriers = s.barriers := rfl
@[simp] theorem State.setRemoteOp_arrays (s : State) (o : RemoteOp) : (s.setRemoteOp o).arrays = s.arrays := rfl
@[simp] theorem State.setRemoteOp_launches (s : State) (o : RemoteOp) : (s.setRemoteOp o).launches = s.launches := rfl
@[simp] theorem State.setRemoteOp_contexts (s : State) (o : RemoteOp) : (s.setRemoteOp o).contexts = s.contexts := rfl
@[simp] theorem State.setRemoteOp_evals (s : State) (o : RemoteOp) : (s.setRemoteOp o).evals = s.evals := rfl
@[simp] theorem State.setRemoteOp_waits (s : State) (o : RemoteOp) : (s.setRemoteOp o).waits = s.waits := rfl
@[simp] theorem State.setRemoteOp_engines (s : State) (o : RemoteOp) : (s.setRemoteOp o).engines = s.engines := rfl
@[simp] theorem State.setRemoteOp_sent (s : State) (o : RemoteOp) : (s.setRemoteOp o).sent = s.sent := rfl
@[simp] theorem State.setRemoteOp_remotes (s : State) (o : RemoteOp) : (s.setRemoteOp o).remotes = s.remotes := rfl
@[simp] theorem State.setRemoteOp_held (s : State) (o : RemoteOp) : (s.setRemoteOp o).held = s.held := rfl
@[simp] theorem State.setRemoteOp_links (s : State) (o : RemoteOp) : (s.setRemoteOp o).links = s.links := rfl
@[simp] theorem State.setRemoteOp_dev (s : State) (o : RemoteOp) : (s.setRemoteOp o).dev = s.dev := rfl
@[simp] theorem State.setRemoteOp_commands (s : State) (o : RemoteOp) : (s.setRemoteOp o).commands = s.commands := rfl
@[simp] theorem State.setRemoteOp_replies (s : State) (o : RemoteOp) : (s.setRemoteOp o).replies = s.replies := rfl

@[simp] theorem State.setLink_agenda (s : State) (l : Link) : (s.setLink l).agenda = s.agenda := rfl
@[simp] theorem State.setLink_cur (s : State) (l : Link) : (s.setLink l).cur = s.cur := rfl
@[simp] theorem State.setLink_ev (s : State) (l : Link) : (s.setLink l).ev = s.ev := rfl
@[simp] theorem State.setLink_free (s : State) (l : Link) : (s.setLink l).free = s.free := rfl
@[simp] theorem State.setLink_nextId (s : State) (l : Link) : (s.setLink l).nextId = s.nextId := rfl
@[simp] theorem State.setLink_cycle (s : State) (l : Link) : (s.setLink l).cycle = s.cycle := rfl
@[simp] theorem State.setLink_mem (s : State) (l : Link) : (s.setLink l).mem = s.mem := rfl
@[simp] theorem State.setLink_flights (s : State) (l : Link) : (s.setLink l).flights = s.flights := rfl
@[simp] theorem State.setLink_groups (s : State) (l : Link) : (s.setLink l).groups = s.groups := rfl
@[simp] theorem State.setLink_teams (s : State) (l : Link) : (s.setLink l).teams = s.teams := rfl
@[simp] theorem State.setLink_clusters (s : State) (l : Link) : (s.setLink l).clusters = s.clusters := rfl
@[simp] theorem State.setLink_barriers (s : State) (l : Link) : (s.setLink l).barriers = s.barriers := rfl
@[simp] theorem State.setLink_arrays (s : State) (l : Link) : (s.setLink l).arrays = s.arrays := rfl
@[simp] theorem State.setLink_launches (s : State) (l : Link) : (s.setLink l).launches = s.launches := rfl
@[simp] theorem State.setLink_contexts (s : State) (l : Link) : (s.setLink l).contexts = s.contexts := rfl
@[simp] theorem State.setLink_evals (s : State) (l : Link) : (s.setLink l).evals = s.evals := rfl
@[simp] theorem State.setLink_waits (s : State) (l : Link) : (s.setLink l).waits = s.waits := rfl
@[simp] theorem State.setLink_engines (s : State) (l : Link) : (s.setLink l).engines = s.engines := rfl
@[simp] theorem State.setLink_fabric (s : State) (l : Link) : (s.setLink l).fabric = s.fabric := rfl
@[simp] theorem State.setLink_sent (s : State) (l : Link) : (s.setLink l).sent = s.sent := rfl
@[simp] theorem State.setLink_remotes (s : State) (l : Link) : (s.setLink l).remotes = s.remotes := rfl
@[simp] theorem State.setLink_held (s : State) (l : Link) : (s.setLink l).held = s.held := rfl
@[simp] theorem State.setLink_dev (s : State) (l : Link) : (s.setLink l).dev = s.dev := rfl
@[simp] theorem State.setLink_commands (s : State) (l : Link) : (s.setLink l).commands = s.commands := rfl
@[simp] theorem State.setLink_replies (s : State) (l : Link) : (s.setLink l).replies = s.replies := rfl

@[simp] theorem State.setMem_agenda (s : State) (m : Memory) : (s.setMem m).agenda = s.agenda := rfl
@[simp] theorem State.setMem_cur (s : State) (m : Memory) : (s.setMem m).cur = s.cur := rfl
@[simp] theorem State.setMem_ev (s : State) (m : Memory) : (s.setMem m).ev = s.ev := rfl
@[simp] theorem State.setMem_free (s : State) (m : Memory) : (s.setMem m).free = s.free := rfl
@[simp] theorem State.setMem_nextId (s : State) (m : Memory) : (s.setMem m).nextId = s.nextId := rfl
@[simp] theorem State.setMem_cycle (s : State) (m : Memory) : (s.setMem m).cycle = s.cycle := rfl
@[simp] theorem State.setMem_flights (s : State) (m : Memory) : (s.setMem m).flights = s.flights := rfl
@[simp] theorem State.setMem_groups (s : State) (m : Memory) : (s.setMem m).groups = s.groups := rfl
@[simp] theorem State.setMem_teams (s : State) (m : Memory) : (s.setMem m).teams = s.teams := rfl
@[simp] theorem State.setMem_clusters (s : State) (m : Memory) : (s.setMem m).clusters = s.clusters := rfl
@[simp] theorem State.setMem_barriers (s : State) (m : Memory) : (s.setMem m).barriers = s.barriers := rfl
@[simp] theorem State.setMem_arrays (s : State) (m : Memory) : (s.setMem m).arrays = s.arrays := rfl
@[simp] theorem State.setMem_launches (s : State) (m : Memory) : (s.setMem m).launches = s.launches := rfl
@[simp] theorem State.setMem_contexts (s : State) (m : Memory) : (s.setMem m).contexts = s.contexts := rfl
@[simp] theorem State.setMem_evals (s : State) (m : Memory) : (s.setMem m).evals = s.evals := rfl
@[simp] theorem State.setMem_waits (s : State) (m : Memory) : (s.setMem m).waits = s.waits := rfl
@[simp] theorem State.setMem_engines (s : State) (m : Memory) : (s.setMem m).engines = s.engines := rfl
@[simp] theorem State.setMem_fabric (s : State) (m : Memory) : (s.setMem m).fabric = s.fabric := rfl
@[simp] theorem State.setMem_sent (s : State) (m : Memory) : (s.setMem m).sent = s.sent := rfl
@[simp] theorem State.setMem_remotes (s : State) (m : Memory) : (s.setMem m).remotes = s.remotes := rfl
@[simp] theorem State.setMem_held (s : State) (m : Memory) : (s.setMem m).held = s.held := rfl
@[simp] theorem State.setMem_links (s : State) (m : Memory) : (s.setMem m).links = s.links := rfl
@[simp] theorem State.setMem_dev (s : State) (m : Memory) : (s.setMem m).dev = s.dev := rfl
@[simp] theorem State.setMem_commands (s : State) (m : Memory) : (s.setMem m).commands = s.commands := rfl
@[simp] theorem State.setMem_replies (s : State) (m : Memory) : (s.setMem m).replies = s.replies := rfl
@[simp] theorem State.setMem_mem (s : State) (m : Memory) : (s.setMem m).mem = m := rfl

@[simp] theorem State.setDev_agenda (s : State) (d : Device) : (s.setDev d).agenda = s.agenda := rfl
@[simp] theorem State.setDev_cur (s : State) (d : Device) : (s.setDev d).cur = s.cur := rfl
@[simp] theorem State.setDev_ev (s : State) (d : Device) : (s.setDev d).ev = s.ev := rfl
@[simp] theorem State.setDev_free (s : State) (d : Device) : (s.setDev d).free = s.free := rfl
@[simp] theorem State.setDev_nextId (s : State) (d : Device) : (s.setDev d).nextId = s.nextId := rfl
@[simp] theorem State.setDev_cycle (s : State) (d : Device) : (s.setDev d).cycle = s.cycle := rfl
@[simp] theorem State.setDev_mem (s : State) (d : Device) : (s.setDev d).mem = s.mem := rfl
@[simp] theorem State.setDev_flights (s : State) (d : Device) : (s.setDev d).flights = s.flights := rfl
@[simp] theorem State.setDev_groups (s : State) (d : Device) : (s.setDev d).groups = s.groups := rfl
@[simp] theorem State.setDev_teams (s : State) (d : Device) : (s.setDev d).teams = s.teams := rfl
@[simp] theorem State.setDev_clusters (s : State) (d : Device) : (s.setDev d).clusters = s.clusters := rfl
@[simp] theorem State.setDev_barriers (s : State) (d : Device) : (s.setDev d).barriers = s.barriers := rfl
@[simp] theorem State.setDev_arrays (s : State) (d : Device) : (s.setDev d).arrays = s.arrays := rfl
@[simp] theorem State.setDev_launches (s : State) (d : Device) : (s.setDev d).launches = s.launches := rfl
@[simp] theorem State.setDev_contexts (s : State) (d : Device) : (s.setDev d).contexts = s.contexts := rfl
@[simp] theorem State.setDev_evals (s : State) (d : Device) : (s.setDev d).evals = s.evals := rfl
@[simp] theorem State.setDev_waits (s : State) (d : Device) : (s.setDev d).waits = s.waits := rfl
@[simp] theorem State.setDev_engines (s : State) (d : Device) : (s.setDev d).engines = s.engines := rfl
@[simp] theorem State.setDev_fabric (s : State) (d : Device) : (s.setDev d).fabric = s.fabric := rfl
@[simp] theorem State.setDev_sent (s : State) (d : Device) : (s.setDev d).sent = s.sent := rfl
@[simp] theorem State.setDev_remotes (s : State) (d : Device) : (s.setDev d).remotes = s.remotes := rfl
@[simp] theorem State.setDev_held (s : State) (d : Device) : (s.setDev d).held = s.held := rfl
@[simp] theorem State.setDev_links (s : State) (d : Device) : (s.setDev d).links = s.links := rfl
@[simp] theorem State.setDev_commands (s : State) (d : Device) : (s.setDev d).commands = s.commands := rfl
@[simp] theorem State.setDev_replies (s : State) (d : Device) : (s.setDev d).replies = s.replies := rfl
@[simp] theorem State.setDev_dev (s : State) (d : Device) : (s.setDev d).dev = d := rfl

@[simp] theorem State.tick_agenda (s : State) : s.tick.agenda = s.agenda := rfl
@[simp] theorem State.tick_cur (s : State) : s.tick.cur = s.cur := rfl
@[simp] theorem State.tick_ev (s : State) : s.tick.ev = s.ev := rfl
@[simp] theorem State.tick_free (s : State) : s.tick.free = s.free := rfl
@[simp] theorem State.tick_nextId (s : State) : s.tick.nextId = s.nextId := rfl
@[simp] theorem State.tick_mem (s : State) : s.tick.mem = s.mem := rfl
@[simp] theorem State.tick_flights (s : State) : s.tick.flights = s.flights := rfl
@[simp] theorem State.tick_groups (s : State) : s.tick.groups = s.groups := rfl
@[simp] theorem State.tick_teams (s : State) : s.tick.teams = s.teams := rfl
@[simp] theorem State.tick_clusters (s : State) : s.tick.clusters = s.clusters := rfl
@[simp] theorem State.tick_barriers (s : State) : s.tick.barriers = s.barriers := rfl
@[simp] theorem State.tick_arrays (s : State) : s.tick.arrays = s.arrays := rfl
@[simp] theorem State.tick_launches (s : State) : s.tick.launches = s.launches := rfl
@[simp] theorem State.tick_contexts (s : State) : s.tick.contexts = s.contexts := rfl
@[simp] theorem State.tick_evals (s : State) : s.tick.evals = s.evals := rfl
@[simp] theorem State.tick_waits (s : State) : s.tick.waits = s.waits := rfl
@[simp] theorem State.tick_engines (s : State) : s.tick.engines = s.engines := rfl
@[simp] theorem State.tick_fabric (s : State) : s.tick.fabric = s.fabric := rfl
@[simp] theorem State.tick_sent (s : State) : s.tick.sent = s.sent := rfl
@[simp] theorem State.tick_remotes (s : State) : s.tick.remotes = s.remotes := rfl
@[simp] theorem State.tick_held (s : State) : s.tick.held = s.held := rfl
@[simp] theorem State.tick_links (s : State) : s.tick.links = s.links := rfl
@[simp] theorem State.tick_dev (s : State) : s.tick.dev = s.dev := rfl
@[simp] theorem State.tick_commands (s : State) : s.tick.commands = s.commands := rfl
@[simp] theorem State.tick_replies (s : State) : s.tick.replies = s.replies := rfl
@[simp] theorem State.tick_cycle (s : State) : s.tick.cycle = s.cycle + 1 := rfl

end Sys2Proof.Machine
end

