-- ==== Sys2Proof/Laws/Ops.lean ====
section
/-!
SUPPORT. The shared operations: finding a group after it was replaced, what an issue knows of its state, registers after a
write, and how an instruction that nothing stops ends.
-/
namespace Sys2Proof.Machine
set_option Elab.async false

/-! ### Finding records -/

theorem find_replace_same {α : Type} {same : α → Bool} {x y : α} {l : List α} (h : l.find? same = some y) (hx : same x = true) :
    (replace same x l).find? same = some x := by
  induction l with
  | nil => simp at h
  | cons z r ih =>
    simp only [replace, List.map_cons]
    by_cases hz : same z = true
    · simp [hz, hx]
    · rw [if_neg hz, List.find?_cons_of_neg hz]
      rw [List.find?_cons_of_neg hz] at h
      exact ih h

theorem find_replace_other {α : Type} {same other : α → Bool} {x : α} {l : List α} (hx : other x = false)
    (hd : ∀ y, same y = true → other y = false) : (replace same x l).find? other = l.find? other := by
  induction l with
  | nil => rfl
  | cons z r ih =>
    simp only [replace, List.map_cons]
    by_cases hz : same z = true
    · rw [if_pos hz, List.find?_cons_of_neg (by simp [hx]), List.find?_cons_of_neg (by simp [hd z hz])]
      exact ih
    · rw [if_neg hz]
      by_cases ho : other z = true
      · rw [List.find?_cons_of_pos ho, List.find?_cons_of_pos ho]
      · rw [List.find?_cons_of_neg ho, List.find?_cons_of_neg ho]
        exact ih

theorem replace_replace {α : Type} {same : α → Bool} {x y : α} {l : List α} (hx : same x = true) :
    replace same y (replace same x l) = replace same y l := by
  simp only [replace, List.map_map]
  apply List.map_congr_left
  intro z _
  simp only [Function.comp]
  by_cases hz : same z = true <;> simp [hz, hx]

/-- A group replaced is found; so is the one that replaces it. -/
theorem group_setGroup_same {s : State} {g x : Group} (h : s.group g.gid = some x) : (s.setGroup g).group g.gid = some g :=
  find_replace_same h (by simp)

theorem group_setGroup_eq {s : State} {g x : Group} {n : Nat} (hn : g.gid = n) (h : s.group n = some x) :
    (s.setGroup g).group n = some g := by subst hn; exact group_setGroup_same h

/-- Replacing a group leaves every other group alone. -/
theorem group_setGroup_other (s : State) {g : Group} {n : Nat} (h : n ≠ g.gid) : (s.setGroup g).group n = s.group n := by
  refine find_replace_other (by simp [Ne.symm h]) fun y hy => ?_
  simp only [beq_iff_eq] at hy
  simp [hy, Ne.symm h]

theorem setGroup_setGroup (s : State) {g h : Group} (e : g.gid = h.gid) : (s.setGroup g).setGroup h = s.setGroup h := by
  unfold State.setGroup
  simp only [e]
  rw [replace_replace (by simp [e])]

theorem onGroup_eq {s : State} {n : Nat} {g : Group} (f : Group → Group) (h : s.group n = some g) :
    s.onGroup n f = s.setGroup (f g) := by
  unfold State.onGroup
  rw [h]

theorem onGroup_setGroup {s : State} {n : Nat} {g x : Group} (f : Group → Group) (hn : g.gid = n) (h : s.group n = some x)
    (hf : (f g).gid = n) : (s.setGroup g).onGroup n f = s.setGroup (f g) := by
  rw [onGroup_eq f (group_setGroup_eq hn h), setGroup_setGroup s (hn.trans hf.symm)]

theorem group_gid {s : State} {n : Nat} {g : Group} (h : s.group n = some g) : g.gid = n := by
  have := List.find?_some h
  simpa using this

/-! ### What an issue knows -/

/-- Everything that the issue of a state says. -/
theorem issue_spec {s : State} {I : Issue} (h : s.issue = some I) :
    I.s = s ∧ s.group I.g.gid = some I.g ∧ I.g.clause = some I.cl ∧ s.team I.g.team = some I.t ∧
      I.g.splits.find? (fun x => x.label == I.cl.split) = some I.sp ∧ s.context I.t.ctx = some I.c ∧ I.g.window = true ∧
      I.g.status = .windowed := by
  unfold State.issue State.inClause at h
  cases hg : s.cur.bind s.group with
  | none => simp [hg] at h
  | some g =>
    simp only [hg] at h
    cases hc : g.clause with
    | none => simp [hc] at h
    | some cl =>
      cases ht : s.team g.team with
      | none => simp [hc, ht] at h
      | some t =>
        simp only [hc, ht] at h
        cases hs : g.splits.find? (fun x => x.label == cl.split) with
        | none => simp [hs] at h
        | some sp =>
          cases hx : s.context t.ctx with
          | none => simp [hs, hx] at h
          | some c =>
            simp only [hs, hx, Bool.and_eq_true, beq_iff_eq] at h
            split at h
            · obtain rfl := Option.some.inj h
              obtain ⟨n, -, hn⟩ := Option.bind_eq_some_iff.1 hg
              refine ⟨rfl, ?_, hc, ht, hs, hx, ?_, ?_⟩
              · show s.group g.gid = some g
                rw [group_gid hn]; exact hn
              · simp_all
              · simp_all
            · exact absurd h (by simp)

/-! ### Groups after writes -/

@[simp] theorem write_gid (g : Group) (v i : Nat) (x : Word) : (g.write v i x).gid = g.gid := by
  unfold Group.write
  split
  · rfl
  · split
    · rfl
    · split <;> rfl

@[simp] theorem writeLanes_gid (g : Group) (v : Nat) (ls : List Nat) (f : Nat → Word) : (g.writeLanes v ls f).gid = g.gid := by
  unfold Group.writeLanes
  induction ls generalizing g with
  | nil => rfl
  | cons i r ih => rw [List.foldl_cons, ih, write_gid]

@[simp] theorem addOp_gid (g : Group) (o : Op) : (g.addOp o).gid = g.gid := rfl

@[simp] theorem closeClause_gid (g : Group) (cl : Clause) (n : Nat) : (g.closeClause cl n).gid = g.gid := by
  unfold Group.closeClause
  simp only
  split <;> rfl

@[simp] theorem endClause_gid (g : Group) (cl : Clause) (pc : Addr) (n : Nat) : (g.endClause cl pc n).gid = g.gid := by
  unfold Group.endClause
  rw [closeClause_gid]

@[simp] theorem advance_gid (g : Group) (len n : Nat) : (g.advance len n).gid = g.gid := by
  unfold Group.advance
  split
  · rfl
  · simp only
    split
    · rfl
    · rw [endClause_gid]

/-- A write to an ordinary register other than v0. -/
theorem write_eq {g : Group} {v : Nat} (i : Nat) (x : Word) (hv : v ≠ 0) (hp : g.port v = none) :
    g.write v i x = { g with regs := put 0 g.regs (regKey v i) x } := by
  unfold Group.write
  rw [if_neg hv, hp]

theorem read_zero (g : Group) (i : Nat) : g.read 0 i = 0 := rfl

theorem read_eq {g : Group} {v : Nat} (i : Nat) (hv : v ≠ 0) (hp : g.port v = none) : g.read v i = lookup 0 g.regs (regKey v i) := by
  unfold Group.read
  rw [if_neg hv, hp]

theorem regKey_inj {u v i j : Nat} (hi : i < 64) (hj : j < 64) : regKey u i = regKey v j ↔ u = v ∧ i = j := by
  unfold regKey; omega

/-- Writing an ordinary register in some lanes changes no field of the group but its registers. -/
theorem writeLanes_eq {g : Group} {v : Nat} (ls : List Nat) (f : Nat → Word) (hp : g.port v = none) :
    g.writeLanes v ls f = { g with regs := (g.writeLanes v ls f).regs } := by
  unfold Group.writeLanes
  induction ls generalizing g with
  | nil => rfl
  | cons i r ih =>
    rw [List.foldl_cons]
    by_cases hv : v = 0
    · subst hv
      have : g.write 0 i (f i) = g := rfl
      rw [this]; exact ih hp
    · rw [write_eq i (f i) hv hp]
      have := ih (g := { g with regs := put 0 g.regs (regKey v i) (f i) }) hp
      exact this

/-- The registers after a write of one register in some lanes. -/
theorem writeLanes_regs {g : Group} {v : Nat} (ls : List Nat) (f : Nat → Word) (hp : g.port v = none) (hl : ∀ i ∈ ls, i < 64)
    (u j : Nat) (hj : j < 64) :
    lookup 0 (g.writeLanes v ls f).regs (regKey u j) =
      if u = v ∧ v ≠ 0 ∧ j ∈ ls then f j else lookup 0 g.regs (regKey u j) := by
  unfold Group.writeLanes
  induction ls generalizing g with
  | nil => simp
  | cons i r ih =>
    rw [List.foldl_cons]
    have hr := fun k hk => hl k (List.mem_cons_of_mem _ hk)
    by_cases hv : v = 0
    · subst hv
      have : g.write 0 i (f i) = g := rfl
      rw [this, ih hp hr]
      simp
    · rw [write_eq i (f i) hv hp]
      rw [ih (g := { g with regs := put 0 g.regs (regKey v i) (f i) }) hp hr]
      have hi := hl i List.mem_cons_self
      simp only [lookup_put, regKey_inj hj hi, List.mem_cons]
      by_cases h1 : u = v
      · by_cases h2 : j = i
        · subst h2; by_cases h3 : j ∈ r <;> simp [h1, hv]
        · simp [h1, h2, hv]
      · simp [h1]

theorem mem_lanesOf {m : LaneSet} {i : Nat} : i ∈ lanesOf m ↔ i < 64 ∧ m.getLsbD i = true := by
  simp [lanesOf]

theorem lanesOf_lt {m : LaneSet} : ∀ i ∈ lanesOf m, i < 64 := fun _ h => (mem_lanesOf.1 h).1

end Sys2Proof.Machine
end

