-- ==== Sys2Proof/Laws/PerInstr.lean ====
section
/-!
SUPPORT. Families of statements about every instruction as syntax, one lemma per constructor.
-/
namespace Sys2Proof.Laws.RoundTrip
set_option Elab.async false

/-- Decoding an encoded well-formed instruction gives it back, and leaves the bytes that follow. -/
def Statement (i : Instr) : Prop :=
  i.isEvent = false → wf i = true → ∀ rest, decodeBytes (encodeBytes i ++ rest) = .ok (i, rest)

theorem of_short {i : Instr} {w : Word} (he : encode i = [w]) (hl : isLong w = false) (hd : decodeShort w = mk i) :
    Statement i := by
  intro _ hw rest
  unfold encodeBytes
  rw [he, List.flatMap_cons, List.flatMap_nil, List.append_nil]
  exact decodeBytes_short rest hl (hd.trans (mk_wf hw))

theorem of_long {i : Instr} {w1 w2 : Word} (he : encode i = [w1, w2]) (hl : isLong w1 = true) (hd : decodeLong w1 w2 = mk i) :
    Statement i := by
  intro _ hw rest
  unfold encodeBytes
  rw [he, List.flatMap_cons, List.flatMap_cons, List.flatMap_nil, List.append_nil, List.append_assoc]
  exact decodeBytes_long rest hl (hd.trans (mk_wf hw))

theorem nop : Statement .nop := of_short (w := 0) rfl (by decide) (by decide)

theorem iadd (o : SOp) : Statement (.iadd o) :=
  of_short (w := packS 1 o) rfl (by simp [isLong_packS]) (by simp [decodeShort, pickShort])

theorem isub (o : SOp) : Statement (.isub o) :=
  of_short (w := packS 2 o) rfl (by simp [isLong_packS]) (by simp [decodeShort, pickShort])

theorem imul (o : SOp) : Statement (.imul o) :=
  of_short (w := packS 3 o) rfl (by simp [isLong_packS]) (by simp [decodeShort, pickShort])

theorem imulhi (o : SOp) : Statement (.imulhi o) :=
  of_short (w := packS 4 o) rfl (by simp [isLong_packS]) (by simp [decodeShort, pickShort])

theorem imulhu (o : SOp) : Statement (.imulhu o) :=
  of_short (w := packS 5 o) rfl (by simp [isLong_packS]) (by simp [decodeShort, pickShort])

theorem imad (o : SOp) : Statement (.imad o) :=
  of_short (w := packS 6 o) rfl (by simp [isLong_packS]) (by simp [decodeShort, pickShort])

theorem iaddi (o : IOp) : Statement (.iaddi o) :=
  of_short (w := packI 7 o) rfl (by simp [isLong_packI]) (by simp [decodeShort, pickImm])

theorem and (o : SOp) : Statement (.and o) :=
  of_short (w := packS 8 o) rfl (by simp [isLong_packS]) (by simp [decodeShort, pickShort])

theorem or (o : SOp) : Statement (.or o) :=
  of_short (w := packS 9 o) rfl (by simp [isLong_packS]) (by simp [decodeShort, pickShort])

theorem xor (o : SOp) : Statement (.xor o) :=
  of_short (w := packS 10 o) rfl (by simp [isLong_packS]) (by simp [decodeShort, pickShort])

theorem andn (o : SOp) : Statement (.andn o) :=
  of_short (w := packS 11 o) rfl (by simp [isLong_packS]) (by simp [decodeShort, pickShort])

theorem shl (o : SOp) : Statement (.shl o) :=
  of_short (w := packS 12 o) rfl (by simp [isLong_packS]) (by simp [decodeShort, pickShort])

theorem shr (o : SOp) : Statement (.shr o) :=
  of_short (w := packS 13 o) rfl (by simp [isLong_packS]) (by simp [decodeShort, pickShort])

theorem sar (o : SOp) : Statement (.sar o) :=
  of_short (w := packS 14 o) rfl (by simp [isLong_packS]) (by simp [decodeShort, pickShort])

theorem shli (o : IOp) : Statement (.shli o) :=
  of_short (w := packI 15 o) rfl (by simp [isLong_packI]) (by simp [decodeShort, pickImm])

theorem shri (o : IOp) : Statement (.shri o) :=
  of_short (w := packI 16 o) rfl (by simp [isLong_packI]) (by simp [decodeShort, pickImm])

theorem sari (o : IOp) : Statement (.sari o) :=
  of_short (w := packI 17 o) rfl (by simp [isLong_packI]) (by simp [decodeShort, pickImm])

theorem imin (o : SOp) : Statement (.imin o) :=
  of_short (w := packS 18 o) rfl (by simp [isLong_packS]) (by simp [decodeShort, pickShort])

theorem imax (o : SOp) : Statement (.imax o) :=
  of_short (w := packS 19 o) rfl (by simp [isLong_packS]) (by simp [decodeShort, pickShort])

theorem umin (o : SOp) : Statement (.umin o) :=
  of_short (w := packS 20 o) rfl (by simp [isLong_packS]) (by simp [decodeShort, pickShort])

theorem umax (o : SOp) : Statement (.umax o) :=
  of_short (w := packS 21 o) rfl (by simp [isLong_packS]) (by simp [decodeShort, pickShort])

theorem iseq (o : SOp) : Statement (.iseq o) :=
  of_short (w := packS 22 o) rfl (by simp [isLong_packS]) (by simp [decodeShort, pickShort])

theorem isne (o : SOp) : Statement (.isne o) :=
  of_short (w := packS 23 o) rfl (by simp [isLong_packS]) (by simp [decodeShort, pickShort])

theorem islt (o : SOp) : Statement (.islt o) :=
  of_short (w := packS 24 o) rfl (by simp [isLong_packS]) (by simp [decodeShort, pickShort])

theorem isle (o : SOp) : Statement (.isle o) :=
  of_short (w := packS 25 o) rfl (by simp [isLong_packS]) (by simp [decodeShort, pickShort])

theorem isltu (o : SOp) : Statement (.isltu o) :=
  of_short (w := packS 26 o) rfl (by simp [isLong_packS]) (by simp [decodeShort, pickShort])

theorem isleu (o : SOp) : Statement (.isleu o) :=
  of_short (w := packS 27 o) rfl (by simp [isLong_packS]) (by simp [decodeShort, pickShort])

theorem fadd (o : SOp) : Statement (.fadd o) :=
  of_short (w := packS 28 o) rfl (by simp [isLong_packS]) (by simp [decodeShort, pickShort])

theorem fsub (o : SOp) : Statement (.fsub o) :=
  of_short (w := packS 29 o) rfl (by simp [isLong_packS]) (by simp [decodeShort, pickShort])

theorem fmul (o : SOp) : Statement (.fmul o) :=
  of_short (w := packS 30 o) rfl (by simp [isLong_packS]) (by simp [decodeShort, pickShort])

theorem fmac (o : SOp) : Statement (.fmac o) :=
  of_short (w := packS 31 o) rfl (by simp [isLong_packS]) (by simp [decodeShort, pickShort])

theorem fmin (o : SOp) : Statement (.fmin o) :=
  of_short (w := packS 32 o) rfl (by simp [isLong_packS]) (by simp [decodeShort, pickShort])

theorem fmax (o : SOp) : Statement (.fmax o) :=
  of_short (w := packS 33 o) rfl (by simp [isLong_packS]) (by simp [decodeShort, pickShort])

theorem fseq (o : SOp) : Statement (.fseq o) :=
  of_short (w := packS 34 o) rfl (by simp [isLong_packS]) (by simp [decodeShort, pickShort])

theorem fslt (o : SOp) : Statement (.fslt o) :=
  of_short (w := packS 35 o) rfl (by simp [isLong_packS]) (by simp [decodeShort, pickShort])

theorem fsle (o : SOp) : Statement (.fsle o) :=
  of_short (w := packS 36 o) rfl (by simp [isLong_packS]) (by simp [decodeShort, pickShort])

theorem fsun (o : SOp) : Statement (.fsun o) :=
  of_short (w := packS 37 o) rfl (by simp [isLong_packS]) (by simp [decodeShort, pickShort])

theorem badd2 (o : SOp) : Statement (.badd2 o) :=
  of_short (w := packS 38 o) rfl (by simp [isLong_packS]) (by simp [decodeShort, pickShort])

theorem bmul2 (o : SOp) : Statement (.bmul2 o) :=
  of_short (w := packS 39 o) rfl (by simp [isLong_packS]) (by simp [decodeShort, pickShort])

theorem bmac2 (o : SOp) : Statement (.bmac2 o) :=
  of_short (w := packS 40 o) rfl (by simp [isLong_packS]) (by simp [decodeShort, pickShort])

theorem sel (o : SOp) : Statement (.sel o) :=
  of_short (w := packS 41 o) rfl (by simp [isLong_packS]) (by simp [decodeShort, pickShort])

theorem add64 (o : SOp) : Statement (.add64 o) :=
  of_short (w := packS 42 o) rfl (by simp [isLong_packS]) (by simp [decodeShort, pickShort])

theorem ex2 (o : UOp) : Statement (.ex2 o) :=
  of_short (w := packS 43 (fnOp 0 o)) rfl (by simp [isLong_packS])
    (by simp [decodeShort, withFn, fnOp, reserved_true, pickSfu])

theorem lg2 (o : UOp) : Statement (.lg2 o) :=
  of_short (w := packS 43 (fnOp 1 o)) rfl (by simp [isLong_packS])
    (by simp [decodeShort, withFn, fnOp, reserved_true, pickSfu])

theorem rcp (o : UOp) : Statement (.rcp o) :=
  of_short (w := packS 43 (fnOp 2 o)) rfl (by simp [isLong_packS])
    (by simp [decodeShort, withFn, fnOp, reserved_true, pickSfu])

theorem rsq (o : UOp) : Statement (.rsq o) :=
  of_short (w := packS 43 (fnOp 3 o)) rfl (by simp [isLong_packS])
    (by simp [decodeShort, withFn, fnOp, reserved_true, pickSfu])

theorem sqrt (o : UOp) : Statement (.sqrt o) :=
  of_short (w := packS 43 (fnOp 4 o)) rfl (by simp [isLong_packS])
    (by simp [decodeShort, withFn, fnOp, reserved_true, pickSfu])

theorem sinpi (o : UOp) : Statement (.sinpi o) :=
  of_short (w := packS 43 (fnOp 5 o)) rfl (by simp [isLong_packS])
    (by simp [decodeShort, withFn, fnOp, reserved_true, pickSfu])

theorem cospi (o : UOp) : Statement (.cospi o) :=
  of_short (w := packS 43 (fnOp 6 o)) rfl (by simp [isLong_packS])
    (by simp [decodeShort, withFn, fnOp, reserved_true, pickSfu])

theorem tanh (o : UOp) : Statement (.tanh o) :=
  of_short (w := packS 43 (fnOp 7 o)) rfl (by simp [isLong_packS])
    (by simp [decodeShort, withFn, fnOp, reserved_true, pickSfu])

theorem sigm (o : UOp) : Statement (.sigm o) :=
  of_short (w := packS 43 (fnOp 8 o)) rfl (by simp [isLong_packS])
    (by simp [decodeShort, withFn, fnOp, reserved_true, pickSfu])

theorem erf (o : UOp) : Statement (.erf o) :=
  of_short (w := packS 43 (fnOp 9 o)) rfl (by simp [isLong_packS])
    (by simp [decodeShort, withFn, fnOp, reserved_true, pickSfu])

theorem popc (o : UOp) : Statement (.popc o) :=
  of_short (w := packS 44 (fnOp 0 o)) rfl (by simp [isLong_packS])
    (by simp [decodeShort, withFn, fnOp, reserved_true, pickUni])

theorem clz (o : UOp) : Statement (.clz o) :=
  of_short (w := packS 44 (fnOp 1 o)) rfl (by simp [isLong_packS])
    (by simp [decodeShort, withFn, fnOp, reserved_true, pickUni])

theorem brev (o : UOp) : Statement (.brev o) :=
  of_short (w := packS 44 (fnOp 2 o)) rfl (by simp [isLong_packS])
    (by simp [decodeShort, withFn, fnOp, reserved_true, pickUni])

theorem iabs (o : UOp) : Statement (.iabs o) :=
  of_short (w := packS 44 (fnOp 3 o)) rfl (by simp [isLong_packS])
    (by simp [decodeShort, withFn, fnOp, reserved_true, pickUni])

theorem ineg (o : UOp) : Statement (.ineg o) :=
  of_short (w := packS 44 (fnOp 4 o)) rfl (by simp [isLong_packS])
    (by simp [decodeShort, withFn, fnOp, reserved_true, pickUni])

theorem fabs (o : UOp) : Statement (.fabs o) :=
  of_short (w := packS 44 (fnOp 5 o)) rfl (by simp [isLong_packS])
    (by simp [decodeShort, withFn, fnOp, reserved_true, pickUni])

theorem fneg (o : UOp) : Statement (.fneg o) :=
  of_short (w := packS 44 (fnOp 6 o)) rfl (by simp [isLong_packS])
    (by simp [decodeShort, withFn, fnOp, reserved_true, pickUni])

theorem frintRne (o : UOp) : Statement (.frintRne o) :=
  of_short (w := packS 44 (fnOp 7 o)) rfl (by simp [isLong_packS])
    (by simp [decodeShort, withFn, fnOp, reserved_true, pickUni])

theorem frintRz (o : UOp) : Statement (.frintRz o) :=
  of_short (w := packS 44 (fnOp 8 o)) rfl (by simp [isLong_packS])
    (by simp [decodeShort, withFn, fnOp, reserved_true, pickUni])

theorem frintRp (o : UOp) : Statement (.frintRp o) :=
  of_short (w := packS 44 (fnOp 9 o)) rfl (by simp [isLong_packS])
    (by simp [decodeShort, withFn, fnOp, reserved_true, pickUni])

theorem frintRm (o : UOp) : Statement (.frintRm o) :=
  of_short (w := packS 44 (fnOp 10 o)) rfl (by simp [isLong_packS])
    (by simp [decodeShort, withFn, fnOp, reserved_true, pickUni])

theorem cvtfi (o : UOp) : Statement (.cvtfi o) :=
  of_short (w := packS 44 (fnOp 11 o)) rfl (by simp [isLong_packS])
    (by simp [decodeShort, withFn, fnOp, reserved_true, pickUni])

theorem cvtfu (o : UOp) : Statement (.cvtfu o) :=
  of_short (w := packS 44 (fnOp 12 o)) rfl (by simp [isLong_packS])
    (by simp [decodeShort, withFn, fnOp, reserved_true, pickUni])

theorem cvtif (o : UOp) : Statement (.cvtif o) :=
  of_short (w := packS 44 (fnOp 13 o)) rfl (by simp [isLong_packS])
    (by simp [decodeShort, withFn, fnOp, reserved_true, pickUni])

theorem cvtuf (o : UOp) : Statement (.cvtuf o) :=
  of_short (w := packS 44 (fnOp 14 o)) rfl (by simp [isLong_packS])
    (by simp [decodeShort, withFn, fnOp, reserved_true, pickUni])

theorem cvtfb (o : UOp) : Statement (.cvtfb o) :=
  of_short (w := packS 44 (fnOp 15 o)) rfl (by simp [isLong_packS])
    (by simp [decodeShort, withFn, fnOp, reserved_true, pickUni])

theorem cvtbf (o : UOp) : Statement (.cvtbf o) :=
  of_short (w := packS 44 (fnOp 16 o)) rfl (by simp [isLong_packS])
    (by simp [decodeShort, withFn, fnOp, reserved_true, pickUni])

theorem shfl (o : UOp) : Statement (.shfl o) :=
  of_short (w := packS 45 (fnOp 0 o)) rfl (by simp [isLong_packS])
    (by simp [decodeShort, withFn, fnOp, reserved_true, pickShfl])

theorem shflx (o : SOp) : Statement (.shflx o) :=
  of_short (w := packS 46 o) rfl (by simp [isLong_packS]) (by simp [decodeShort, pickShort])

theorem redlIadd (o : UOp) : Statement (.redlIadd o) :=
  of_short (w := packS 47 (fnOp 0 o)) rfl (by simp [isLong_packS])
    (by simp [decodeShort, withFn, fnOp, reserved_true, pickRedl])

theorem redlFadd (o : UOp) : Statement (.redlFadd o) :=
  of_short (w := packS 47 (fnOp 1 o)) rfl (by simp [isLong_packS])
    (by simp [decodeShort, withFn, fnOp, reserved_true, pickRedl])

theorem redlImax (o : UOp) : Statement (.redlImax o) :=
  of_short (w := packS 47 (fnOp 2 o)) rfl (by simp [isLong_packS])
    (by simp [decodeShort, withFn, fnOp, reserved_true, pickRedl])

theorem redlImin (o : UOp) : Statement (.redlImin o) :=
  of_short (w := packS 47 (fnOp 3 o)) rfl (by simp [isLong_packS])
    (by simp [decodeShort, withFn, fnOp, reserved_true, pickRedl])

theorem redlFmax (o : UOp) : Statement (.redlFmax o) :=
  of_short (w := packS 47 (fnOp 4 o)) rfl (by simp [isLong_packS])
    (by simp [decodeShort, withFn, fnOp, reserved_true, pickRedl])

theorem redlFmin (o : UOp) : Statement (.redlFmin o) :=
  of_short (w := packS 47 (fnOp 5 o)) rfl (by simp [isLong_packS])
    (by simp [decodeShort, withFn, fnOp, reserved_true, pickRedl])

theorem redlAnd (o : UOp) : Statement (.redlAnd o) :=
  of_short (w := packS 47 (fnOp 6 o)) rfl (by simp [isLong_packS])
    (by simp [decodeShort, withFn, fnOp, reserved_true, pickRedl])

theorem redlOr (o : UOp) : Statement (.redlOr o) :=
  of_short (w := packS 47 (fnOp 7 o)) rfl (by simp [isLong_packS])
    (by simp [decodeShort, withFn, fnOp, reserved_true, pickRedl])

theorem redlXor (o : UOp) : Statement (.redlXor o) :=
  of_short (w := packS 47 (fnOp 8 o)) rfl (by simp [isLong_packS])
    (by simp [decodeShort, withFn, fnOp, reserved_true, pickRedl])

theorem scanIadd (o : UOp) : Statement (.scanIadd o) :=
  of_short (w := packS 48 (fnOp 0 o)) rfl (by simp [isLong_packS])
    (by simp [decodeShort, withFn, fnOp, reserved_true, pickScan])

theorem scanFadd (o : UOp) : Statement (.scanFadd o) :=
  of_short (w := packS 48 (fnOp 1 o)) rfl (by simp [isLong_packS])
    (by simp [decodeShort, withFn, fnOp, reserved_true, pickScan])

theorem scanImax (o : UOp) : Statement (.scanImax o) :=
  of_short (w := packS 48 (fnOp 2 o)) rfl (by simp [isLong_packS])
    (by simp [decodeShort, withFn, fnOp, reserved_true, pickScan])

theorem scanImin (o : UOp) : Statement (.scanImin o) :=
  of_short (w := packS 48 (fnOp 3 o)) rfl (by simp [isLong_packS])
    (by simp [decodeShort, withFn, fnOp, reserved_true, pickScan])

theorem scanFmax (o : UOp) : Statement (.scanFmax o) :=
  of_short (w := packS 48 (fnOp 4 o)) rfl (by simp [isLong_packS])
    (by simp [decodeShort, withFn, fnOp, reserved_true, pickScan])

theorem scanFmin (o : UOp) : Statement (.scanFmin o) :=
  of_short (w := packS 48 (fnOp 5 o)) rfl (by simp [isLong_packS])
    (by simp [decodeShort, withFn, fnOp, reserved_true, pickScan])

theorem scanAnd (o : UOp) : Statement (.scanAnd o) :=
  of_short (w := packS 48 (fnOp 6 o)) rfl (by simp [isLong_packS])
    (by simp [decodeShort, withFn, fnOp, reserved_true, pickScan])

theorem scanOr (o : UOp) : Statement (.scanOr o) :=
  of_short (w := packS 48 (fnOp 7 o)) rfl (by simp [isLong_packS])
    (by simp [decodeShort, withFn, fnOp, reserved_true, pickScan])

theorem scanXor (o : UOp) : Statement (.scanXor o) :=
  of_short (w := packS 48 (fnOp 8 o)) rfl (by simp [isLong_packS])
    (by simp [decodeShort, withFn, fnOp, reserved_true, pickScan])

theorem scanXIadd (o : UOp) : Statement (.scanXIadd o) :=
  of_short (w := packS 48 (fnOp 64 o)) rfl (by simp [isLong_packS])
    (by simp [decodeShort, withFn, fnOp, reserved_true, pickScan])

theorem scanXFadd (o : UOp) : Statement (.scanXFadd o) :=
  of_short (w := packS 48 (fnOp 65 o)) rfl (by simp [isLong_packS])
    (by simp [decodeShort, withFn, fnOp, reserved_true, pickScan])

theorem scanXImax (o : UOp) : Statement (.scanXImax o) :=
  of_short (w := packS 48 (fnOp 66 o)) rfl (by simp [isLong_packS])
    (by simp [decodeShort, withFn, fnOp, reserved_true, pickScan])

theorem scanXImin (o : UOp) : Statement (.scanXImin o) :=
  of_short (w := packS 48 (fnOp 67 o)) rfl (by simp [isLong_packS])
    (by simp [decodeShort, withFn, fnOp, reserved_true, pickScan])

theorem scanXFmax (o : UOp) : Statement (.scanXFmax o) :=
  of_short (w := packS 48 (fnOp 68 o)) rfl (by simp [isLong_packS])
    (by simp [decodeShort, withFn, fnOp, reserved_true, pickScan])

theorem scanXFmin (o : UOp) : Statement (.scanXFmin o) :=
  of_short (w := packS 48 (fnOp 69 o)) rfl (by simp [isLong_packS])
    (by simp [decodeShort, withFn, fnOp, reserved_true, pickScan])

theorem scanXAnd (o : UOp) : Statement (.scanXAnd o) :=
  of_short (w := packS 48 (fnOp 70 o)) rfl (by simp [isLong_packS])
    (by simp [decodeShort, withFn, fnOp, reserved_true, pickScan])

theorem scanXOr (o : UOp) : Statement (.scanXOr o) :=
  of_short (w := packS 48 (fnOp 71 o)) rfl (by simp [isLong_packS])
    (by simp [decodeShort, withFn, fnOp, reserved_true, pickScan])

theorem scanXXor (o : UOp) : Statement (.scanXXor o) :=
  of_short (w := packS 48 (fnOp 72 o)) rfl (by simp [isLong_packS])
    (by simp [decodeShort, withFn, fnOp, reserved_true, pickScan])

theorem voteAny (o : UOp) : Statement (.voteAny o) :=
  of_short (w := packS 49 (fnOp 0 o)) rfl (by simp [isLong_packS])
    (by simp [decodeShort, withFn, fnOp, reserved_true, pickVote])

theorem voteAll (o : UOp) : Statement (.voteAll o) :=
  of_short (w := packS 49 (fnOp 1 o)) rfl (by simp [isLong_packS])
    (by simp [decodeShort, withFn, fnOp, reserved_true, pickVote])

theorem voteCount (o : UOp) : Statement (.voteCount o) :=
  of_short (w := packS 49 (fnOp 2 o)) rfl (by simp [isLong_packS])
    (by simp [decodeShort, withFn, fnOp, reserved_true, pickVote])

theorem voteFirst (o : UOp) : Statement (.voteFirst o) :=
  of_short (w := packS 49 (fnOp 3 o)) rfl (by simp [isLong_packS])
    (by simp [decodeShort, withFn, fnOp, reserved_true, pickVote])

theorem voteBallot (o : UOp) : Statement (.voteBallot o) :=
  of_short (w := packS 49 (fnOp 4 o)) rfl (by simp [isLong_packS])
    (by simp [decodeShort, withFn, fnOp, reserved_true, pickVote])

theorem ucmp (o : SOp) : Statement (.ucmp o) :=
  of_short (w := packS 50 o) rfl (by simp [isLong_packS]) (by simp [decodeShort, pickShort])

theorem ufcmp (o : SOp) : Statement (.ufcmp o) :=
  of_short (w := packS 51 o) rfl (by simp [isLong_packS]) (by simp [decodeShort, pickShort])

theorem csrr (o : SOp) : Statement (.csrr o) :=
  of_short (w := packS 52 o) rfl (by simp [isLong_packS]) (by simp [decodeShort, pickShort])

theorem csrw (o : SOp) : Statement (.csrw o) :=
  of_short (w := packS 53 o) rfl (by simp [isLong_packS]) (by simp [decodeShort, pickShort])

theorem fcpys (o : SOp) : Statement (.fcpys o) :=
  of_short (w := packS 54 o) rfl (by simp [isLong_packS]) (by simp [decodeShort, pickShort])

theorem ldB (o : MemOp) : Statement (.ldB o) :=
  of_long rfl (isLong_packS _ _) ((mem_decode 0 o).trans rfl)

theorem ldBs (o : MemOp) : Statement (.ldBs o) :=
  of_long rfl (isLong_packS _ _) ((mem_decode 1 o).trans rfl)

theorem ldH (o : MemOp) : Statement (.ldH o) :=
  of_long rfl (isLong_packS _ _) ((mem_decode 2 o).trans rfl)

theorem ldHs (o : MemOp) : Statement (.ldHs o) :=
  of_long rfl (isLong_packS _ _) ((mem_decode 3 o).trans rfl)

theorem ldW (o : MemOp) : Statement (.ldW o) :=
  of_long rfl (isLong_packS _ _) ((mem_decode 4 o).trans rfl)

theorem ldD (o : MemOp) : Statement (.ldD o) :=
  of_long rfl (isLong_packS _ _) ((mem_decode 5 o).trans rfl)

theorem ldQ (o : MemOp) : Statement (.ldQ o) :=
  of_long rfl (isLong_packS _ _) ((mem_decode 6 o).trans rfl)

theorem stB (o : MemOp) : Statement (.stB o) :=
  of_long rfl (isLong_packS _ _) ((mem_decode 8 o).trans rfl)

theorem stH (o : MemOp) : Statement (.stH o) :=
  of_long rfl (isLong_packS _ _) ((mem_decode 9 o).trans rfl)

theorem stW (o : MemOp) : Statement (.stW o) :=
  of_long rfl (isLong_packS _ _) ((mem_decode 10 o).trans rfl)

theorem stD (o : MemOp) : Statement (.stD o) :=
  of_long rfl (isLong_packS _ _) ((mem_decode 11 o).trans rfl)

theorem stQ (o : MemOp) : Statement (.stQ o) :=
  of_long rfl (isLong_packS _ _) ((mem_decode 12 o).trans rfl)

theorem atomAdd (o : MemOp) : Statement (.atomAdd o) :=
  of_long rfl (isLong_packS _ _) ((mem_decode 16 o).trans rfl)

theorem atomMin (o : MemOp) : Statement (.atomMin o) :=
  of_long rfl (isLong_packS _ _) ((mem_decode 17 o).trans rfl)

theorem atomMax (o : MemOp) : Statement (.atomMax o) :=
  of_long rfl (isLong_packS _ _) ((mem_decode 18 o).trans rfl)

theorem atomUmin (o : MemOp) : Statement (.atomUmin o) :=
  of_long rfl (isLong_packS _ _) ((mem_decode 19 o).trans rfl)

theorem atomUmax (o : MemOp) : Statement (.atomUmax o) :=
  of_long rfl (isLong_packS _ _) ((mem_decode 20 o).trans rfl)

theorem atomAnd (o : MemOp) : Statement (.atomAnd o) :=
  of_long rfl (isLong_packS _ _) ((mem_decode 21 o).trans rfl)

theorem atomOr (o : MemOp) : Statement (.atomOr o) :=
  of_long rfl (isLong_packS _ _) ((mem_decode 22 o).trans rfl)

theorem atomXor (o : MemOp) : Statement (.atomXor o) :=
  of_long rfl (isLong_packS _ _) ((mem_decode 23 o).trans rfl)

theorem atomXchg (o : MemOp) : Statement (.atomXchg o) :=
  of_long rfl (isLong_packS _ _) ((mem_decode 24 o).trans rfl)

theorem atomCas (o : MemOp) : Statement (.atomCas o) :=
  of_long rfl (isLong_packS _ _) ((mem_decode 25 o).trans rfl)

theorem atomIncb (o : MemOp) : Statement (.atomIncb o) :=
  of_long rfl (isLong_packS _ _) ((mem_decode 26 o).trans rfl)

theorem atomFadd (o : MemOp) : Statement (.atomFadd o) :=
  of_long rfl (isLong_packS _ _) ((mem_decode 27 o).trans rfl)

theorem atomBadd2 (o : MemOp) : Statement (.atomBadd2 o) :=
  of_long rfl (isLong_packS _ _) ((mem_decode 28 o).trans rfl)

theorem atomFmaxa (o : MemOp) : Statement (.atomFmaxa o) :=
  of_long rfl (isLong_packS _ _) ((mem_decode 29 o).trans rfl)

theorem redAdd (o : MemOp) : Statement (.redAdd o) :=
  of_long rfl (isLong_packS _ _) ((mem_decode 32 o).trans rfl)

theorem redFadd (o : MemOp) : Statement (.redFadd o) :=
  of_long rfl (isLong_packS _ _) ((mem_decode 33 o).trans rfl)

theorem redFmaxa (o : MemOp) : Statement (.redFmaxa o) :=
  of_long rfl (isLong_packS _ _) ((mem_decode 34 o).trans rfl)

theorem stc (o : MemOp) : Statement (.stc o) :=
  of_long rfl (isLong_packS _ _) ((mem_decode 40 o).trans rfl)

theorem lde (o : MemOp) : Statement (.lde o) :=
  of_long rfl (isLong_packS _ _) ((mem_decode 41 o).trans rfl)

theorem pref (o : MemOp) : Statement (.pref o) :=
  of_long rfl (isLong_packS _ _) ((mem_decode 48 o).trans rfl)

theorem cclean (o : MemOp) : Statement (.cclean o) :=
  of_long rfl (isLong_packS _ _) ((mem_decode 49 o).trans rfl)

theorem cinv (o : MemOp) : Statement (.cinv o) :=
  of_long rfl (isLong_packS _ _) ((mem_decode 50 o).trans rfl)

theorem cflush (o : MemOp) : Statement (.cflush o) :=
  of_long rfl (isLong_packS _ _) ((mem_decode 51 o).trans rfl)

theorem fence (o : MemOp) : Statement (.fence o) :=
  of_long rfl (isLong_packS _ _) ((mem_decode 52 o).trans rfl)

theorem defer (o : MemOp) : Statement (.defer o) :=
  of_long rfl (isLong_packS _ _) ((mem_decode 56 o).trans rfl)

theorem resolve (o : MemOp) : Statement (.resolve o) :=
  of_long rfl (isLong_packS _ _) ((mem_decode 57 o).trans rfl)

theorem cellq (o : MemOp) : Statement (.cellq o) :=
  of_long rfl (isLong_packS _ _) ((mem_decode 58 o).trans rfl)

theorem cellfail (o : MemOp) : Statement (.cellfail o) :=
  of_long rfl (isLong_packS _ _) ((mem_decode 59 o).trans rfl)

theorem modeM (o : MatOp) : Statement (.modeM o) :=
  of_long rfl (isLong_packS _ _) ((mat_decode 0 o).trans rfl)

theorem modeV (o : MatOp) : Statement (.modeV o) :=
  of_long rfl (isLong_packS _ _) ((mat_decode 1 o).trans rfl)

theorem mresv (o : MatOp) : Statement (.mresv o) :=
  of_long rfl (isLong_packS _ _) ((mat_decode 2 o).trans rfl)

theorem mbaton (o : MatOp) : Statement (.mbaton o) :=
  of_long rfl (isLong_packS _ _) ((mat_decode 3 o).trans rfl)

theorem mma (o : MatOp) : Statement (.mma o) :=
  of_long rfl (isLong_packS _ _) ((mat_decode 4 o).trans rfl)

theorem gmma (o : MatOp) : Statement (.gmma o) :=
  of_long rfl (isLong_packS _ _) ((mat_decode 5 o).trans rfl)

theorem mdrain (o : MatOp) : Statement (.mdrain o) :=
  of_long rfl (isLong_packS _ _) ((mat_decode 6 o).trans rfl)

theorem mfill (o : MatOp) : Statement (.mfill o) :=
  of_long rfl (isLong_packS _ _) ((mat_decode 7 o).trans rfl)

theorem dotb (o : MatOp) : Statement (.dotb o) :=
  of_long rfl (isLong_packS _ _) ((mat_decode 8 o).trans rfl)

theorem mstat (o : MatOp) : Statement (.mstat o) :=
  of_long rfl (isLong_packS _ _) ((mat_decode 9 o).trans rfl)

theorem br (o : CtlOp) : Statement (.br o) :=
  of_long rfl (isLong_packS _ _) ((ctl_decode 0 o).trans rfl)

theorem brz (o : CtlOp) : Statement (.brz o) :=
  of_long rfl (isLong_packS _ _) ((ctl_decode 1 o).trans rfl)

theorem brnz (o : CtlOp) : Statement (.brnz o) :=
  of_long rfl (isLong_packS _ _) ((ctl_decode 2 o).trans rfl)

theorem call (o : CtlOp) : Statement (.call o) :=
  of_long rfl (isLong_packS _ _) ((ctl_decode 3 o).trans rfl)

theorem ret (o : CtlOp) : Statement (.ret o) :=
  of_long rfl (isLong_packS _ _) ((ctl_decode 4 o).trans rfl)

theorem jmpr (o : CtlOp) : Statement (.jmpr o) :=
  of_long rfl (isLong_packS _ _) ((ctl_decode 5 o).trans rfl)

theorem split (o : CtlOp) : Statement (.split o) :=
  of_long rfl (isLong_packS _ _) ((ctl_decode 6 o).trans rfl)

theorem merge (o : CtlOp) : Statement (.merge o) :=
  of_long rfl (isLong_packS _ _) ((ctl_decode 7 o).trans rfl)

theorem yield (o : CtlOp) : Statement (.yield o) :=
  of_long rfl (isLong_packS _ _) ((ctl_decode 8 o).trans rfl)

theorem yieldc (o : CtlOp) : Statement (.yieldc o) :=
  of_long rfl (isLong_packS _ _) ((ctl_decode 9 o).trans rfl)

theorem exit (o : CtlOp) : Statement (.exit o) :=
  of_long rfl (isLong_packS _ _) ((ctl_decode 10 o).trans rfl)

theorem spawn (o : CtlOp) : Statement (.spawn o) :=
  of_long rfl (isLong_packS _ _) ((ctl_decode 11 o).trans rfl)

theorem trap (o : CtlOp) : Statement (.trap o) :=
  of_long rfl (isLong_packS _ _) ((ctl_decode 12 o).trans rfl)

theorem trapret (o : CtlOp) : Statement (.trapret o) :=
  of_long rfl (isLong_packS _ _) ((ctl_decode 13 o).trans rfl)

theorem waitc (o : CtlOp) : Statement (.waitc o) :=
  of_long rfl (isLong_packS _ _) ((ctl_decode 14 o).trans rfl)

theorem sleep (o : CtlOp) : Statement (.sleep o) :=
  of_long rfl (isLong_packS _ _) ((ctl_decode 15 o).trans rfl)

theorem bkpt (o : CtlOp) : Statement (.bkpt o) :=
  of_long rfl (isLong_packS _ _) ((ctl_decode 16 o).trans rfl)

theorem bararv (o : SyncOp) : Statement (.bararv o) :=
  of_long rfl (isLong_packS _ _) ((sync_decode 0 o).trans rfl)

theorem barwait (o : SyncOp) : Statement (.barwait o) :=
  of_long rfl (isLong_packS _ _) ((sync_decode 1 o).trans rfl)

theorem barsync (o : SyncOp) : Statement (.barsync o) :=
  of_long rfl (isLong_packS _ _) ((sync_decode 2 o).trans rfl)

theorem gsync (o : SyncOp) : Statement (.gsync o) :=
  of_long rfl (isLong_packS _ _) ((sync_decode 7 o).trans rfl)

theorem sbexp (o : SyncOp) : Statement (.sbexp o) :=
  of_long rfl (isLong_packS _ _) ((sync_decode 3 o).trans rfl)

theorem sbarv (o : SyncOp) : Statement (.sbarv o) :=
  of_long rfl (isLong_packS _ _) ((sync_decode 4 o).trans rfl)

theorem sbwait (o : SyncOp) : Statement (.sbwait o) :=
  of_long rfl (isLong_packS _ _) ((sync_decode 5 o).trans rfl)

theorem sbtry (o : SyncOp) : Statement (.sbtry o) :=
  of_long rfl (isLong_packS _ _) ((sync_decode 6 o).trans rfl)

theorem cpy (o : XferOp) : Statement (.cpy o) :=
  of_long rfl (isLong_packS _ _) ((xfer_decode 0 false false o).trans rfl)

theorem cpy2d (o : XferOp) : Statement (.cpy2d o) :=
  of_long rfl (isLong_packS _ _) ((xfer_decode 1 false false o).trans rfl)

theorem gath2d (o : XferOp) : Statement (.gath2d o) :=
  of_long rfl (isLong_packS _ _) ((xfer_decode 2 false false o).trans rfl)

theorem scat2d (o : XferOp) : Statement (.scat2d o) :=
  of_long rfl (isLong_packS _ _) ((xfer_decode 3 false false o).trans rfl)

theorem chain (o : XferOp) : Statement (.chain o) :=
  of_long rfl (isLong_packS _ _) ((xfer_decode 4 false false o).trans rfl)

theorem qbindR (o : XferOp) : Statement (.qbindR o) :=
  of_long rfl (isLong_packS _ _) ((xfer_decode 5 false false o).trans rfl)

theorem qbindW (o : XferOp) : Statement (.qbindW o) :=
  of_long rfl (isLong_packS _ _) ((xfer_decode 5 false true o).trans rfl)

theorem qend (o : XferOp) : Statement (.qend o) :=
  of_long rfl (isLong_packS _ _) ((xfer_decode 6 false false o).trans rfl)

theorem enq (o : XferOp) : Statement (.enq o) :=
  of_long rfl (isLong_packS _ _) ((xfer_decode 7 false false o).trans rfl)

theorem enqTry (o : XferOp) : Statement (.enqTry o) :=
  of_long rfl (isLong_packS _ _) ((xfer_decode 7 true false o).trans rfl)

theorem decode (o : XferOp) : Statement (.decode o) :=
  of_long rfl (isLong_packS _ _) ((xfer_decode 8 false false o).trans rfl)

theorem cpyw (o : XferOp) : Statement (.cpyw o) :=
  of_long rfl (isLong_packS _ _) ((xfer_decode 9 false false o).trans rfl)

theorem pset (o : FabOp) : Statement (.pset o) :=
  of_long rfl (isLong_packS _ _) ((fab_decode 0 o.sub false o).trans rfl)

theorem rst (o : FabOp) : Statement (.rst o) :=
  of_long rfl (isLong_packS _ _) ((fab_decode 1 o.sub false o).trans rfl)

theorem rstBlock (o : FabOp) : Statement (.rstBlock o) :=
  of_long rfl (isLong_packS _ _) ((fab_decode 1 o.sub true o).trans rfl)

theorem rld (o : FabOp) : Statement (.rld o) :=
  of_long rfl (isLong_packS _ _) ((fab_decode 2 o.sub false o).trans rfl)

theorem ratomAdd (o : FabOp) : Statement (.ratomAdd o) := by
  intro he hw
  have hb : o.sub = 0 := by
    have h : (shapeOk (shape (.ratomAdd o)) o.w && fabOk o true true) = true := hw
    simp only [fabOk, Bool.and_eq_true, beq_iff_eq] at h
    exact h.2.2
  obtain ⟨w, p, t, u⟩ := o
  subst hb
  exact of_long rfl (isLong_packS _ _) ((fab_decode 3 0 false _).trans rfl) he hw

theorem ratomFadd (o : FabOp) : Statement (.ratomFadd o) := by
  intro he hw
  have hb : o.sub = 0 := by
    have h : (shapeOk (shape (.ratomFadd o)) o.w && fabOk o true true) = true := hw
    simp only [fabOk, Bool.and_eq_true, beq_iff_eq] at h
    exact h.2.2
  obtain ⟨w, p, t, u⟩ := o
  subst hb
  exact of_long rfl (isLong_packS _ _) ((fab_decode 3 1 false _).trans rfl) he hw

theorem ratomFmaxa (o : FabOp) : Statement (.ratomFmaxa o) := by
  intro he hw
  have hb : o.sub = 0 := by
    have h : (shapeOk (shape (.ratomFmaxa o)) o.w && fabOk o true true) = true := hw
    simp only [fabOk, Bool.and_eq_true, beq_iff_eq] at h
    exact h.2.2
  obtain ⟨w, p, t, u⟩ := o
  subst hb
  exact of_long rfl (isLong_packS _ _) ((fab_decode 3 2 false _).trans rfl) he hw

theorem ratomCas (o : FabOp) : Statement (.ratomCas o) := by
  intro he hw
  have hb : o.sub = 0 := by
    have h : (shapeOk (shape (.ratomCas o)) o.w && fabOk o true true) = true := hw
    simp only [fabOk, Bool.and_eq_true, beq_iff_eq] at h
    exact h.2.2
  obtain ⟨w, p, t, u⟩ := o
  subst hb
  exact of_long rfl (isLong_packS _ _) ((fab_decode 3 3 false _).trans rfl) he hw

theorem ratomIncb (o : FabOp) : Statement (.ratomIncb o) := by
  intro he hw
  have hb : o.sub = 0 := by
    have h : (shapeOk (shape (.ratomIncb o)) o.w && fabOk o true true) = true := hw
    simp only [fabOk, Bool.and_eq_true, beq_iff_eq] at h
    exact h.2.2
  obtain ⟨w, p, t, u⟩ := o
  subst hb
  exact of_long rfl (isLong_packS _ _) ((fab_decode 3 4 false _).trans rfl) he hw

theorem rredAdd (o : FabOp) : Statement (.rredAdd o) := by
  intro he hw
  have hb : o.sub = 0 := by
    have h : (shapeOk (shape (.rredAdd o)) o.w && fabOk o true true) = true := hw
    simp only [fabOk, Bool.and_eq_true, beq_iff_eq] at h
    exact h.2.2
  obtain ⟨w, p, t, u⟩ := o
  subst hb
  exact of_long rfl (isLong_packS _ _) ((fab_decode 4 0 false _).trans rfl) he hw

theorem rredFadd (o : FabOp) : Statement (.rredFadd o) := by
  intro he hw
  have hb : o.sub = 0 := by
    have h : (shapeOk (shape (.rredFadd o)) o.w && fabOk o true true) = true := hw
    simp only [fabOk, Bool.and_eq_true, beq_iff_eq] at h
    exact h.2.2
  obtain ⟨w, p, t, u⟩ := o
  subst hb
  exact of_long rfl (isLong_packS _ _) ((fab_decode 4 1 false _).trans rfl) he hw

theorem rredFmaxa (o : FabOp) : Statement (.rredFmaxa o) := by
  intro he hw
  have hb : o.sub = 0 := by
    have h : (shapeOk (shape (.rredFmaxa o)) o.w && fabOk o true true) = true := hw
    simp only [fabOk, Bool.and_eq_true, beq_iff_eq] at h
    exact h.2.2
  obtain ⟨w, p, t, u⟩ := o
  subst hb
  exact of_long rfl (isLong_packS _ _) ((fab_decode 4 2 false _).trans rfl) he hw

theorem rcpy (o : FabOp) : Statement (.rcpy o) :=
  of_long rfl (isLong_packS _ _) ((fab_decode 5 o.sub false o).trans rfl)

theorem rsig (o : FabOp) : Statement (.rsig o) :=
  of_long rfl (isLong_packS _ _) ((fab_decode 6 o.sub false o).trans rfl)

theorem rwait (o : FabOp) : Statement (.rwait o) :=
  of_long rfl (isLong_packS _ _) ((fab_decode 7 o.sub false o).trans rfl)

theorem reshard (o : FabOp) : Statement (.reshard o) :=
  of_long rfl (isLong_packS _ _) ((fab_decode 8 o.sub false o).trans rfl)

theorem pcount (o : FabOp) : Statement (.pcount o) :=
  of_long rfl (isLong_packS _ _) ((fab_decode 9 o.sub false o).trans rfl)

theorem coord (o : FabOp) : Statement (.coord o) :=
  of_long rfl (isLong_packS _ _) ((fab_decode 10 o.sub false o).trans rfl)

theorem setx (o : SysOp) : Statement (.setx o) :=
  of_long rfl (isLong_packS _ _) ((sys_decode 16 o).trans rfl)

theorem budget (o : SysOp) : Statement (.budget o) :=
  of_long rfl (isLong_packS _ _) ((sys_decode 17 o).trans rfl)

theorem clock (o : SysOp) : Statement (.clock o) :=
  of_long rfl (isLong_packS _ _) ((sys_decode 18 o).trans rfl)

theorem csrmvRead (o : SysOp) : Statement (.csrmvRead o) := by
  intro he hw
  have hb : o.f.getLsbD 23 = false := by
    have h : (shapeOk (shape (.csrmvRead o)) o.w && csrmvOk o false) = true := hw
    simp only [csrmvOk, Bool.and_eq_true, beq_iff_eq] at h
    exact h.2.1.1
  exact of_long rfl (isLong_packS _ _) ((sys_decode 19 o).trans
    (show (if o.f.getLsbD 23 then mk (.csrmvWrite o) else mk (.csrmvRead o)) = _ by rw [hb]; rfl)) he hw

theorem csrmvWrite (o : SysOp) : Statement (.csrmvWrite o) := by
  intro he hw
  have hb : o.f.getLsbD 23 = true := by
    have h : (shapeOk (shape (.csrmvWrite o)) o.w && csrmvOk o true) = true := hw
    simp only [csrmvOk, Bool.and_eq_true, beq_iff_eq] at h
    exact h.2.1.1
  exact of_long rfl (isLong_packS _ _) ((sys_decode 19 o).trans
    (show (if o.f.getLsbD 23 then mk (.csrmvWrite o) else mk (.csrmvRead o)) = _ by rw [hb]; rfl)) he hw

theorem ldi (o : L3Op) : Statement (.ldi o) :=
  of_long (w1 := packS 0x3F (fnOp 0 ⟨o.d, o.a, o.xa, o.m⟩)) (w2 := o.imm) rfl (by simp [isLong_packS])
    (by simp [decodeLong, fnOp, reserved_true, pickL3])

theorem iaddl (o : L3Op) : Statement (.iaddl o) :=
  of_long (w1 := packS 0x3F (fnOp 1 ⟨o.d, o.a, o.xa, o.m⟩)) (w2 := o.imm) rfl (by simp [isLong_packS])
    (by simp [decodeLong, fnOp, reserved_true, pickL3])

theorem andl (o : L3Op) : Statement (.andl o) :=
  of_long (w1 := packS 0x3F (fnOp 2 ⟨o.d, o.a, o.xa, o.m⟩)) (w2 := o.imm) rfl (by simp [isLong_packS])
    (by simp [decodeLong, fnOp, reserved_true, pickL3])

theorem orl (o : L3Op) : Statement (.orl o) :=
  of_long (w1 := packS 0x3F (fnOp 3 ⟨o.d, o.a, o.xa, o.m⟩)) (w2 := o.imm) rfl (by simp [isLong_packS])
    (by simp [decodeLong, fnOp, reserved_true, pickL3])

theorem xorl (o : L3Op) : Statement (.xorl o) :=
  of_long (w1 := packS 0x3F (fnOp 4 ⟨o.d, o.a, o.xa, o.m⟩)) (w2 := o.imm) rfl (by simp [isLong_packS])
    (by simp [decodeLong, fnOp, reserved_true, pickL3])

theorem cvtq (o : L3Op) : Statement (.cvtq o) :=
  of_long (w1 := packS 0x3F (fnOp 5 ⟨o.d, o.a, o.xa, o.m⟩)) (w2 := o.imm) rfl (by simp [isLong_packS])
    (by simp [decodeLong, fnOp, reserved_true, pickL3])

theorem cvtx (o : L3Op) : Statement (.cvtx o) :=
  of_long (w1 := packS 0x3F (fnOp 6 ⟨o.d, o.a, o.xa, o.m⟩)) (w2 := o.imm) rfl (by simp [isLong_packS])
    (by simp [decodeLong, fnOp, reserved_true, pickL3])

theorem amaxb (o : L3Op) : Statement (.amaxb o) :=
  of_long (w1 := packS 0x3F (fnOp 7 ⟨o.d, o.a, o.xa, o.m⟩)) (w2 := o.imm) rfl (by simp [isLong_packS])
    (by simp [decodeLong, fnOp, reserved_true, pickL3])

theorem fmal (o : L3Op) : Statement (.fmal o) :=
  of_long (w1 := packS 0x3F (fnOp 8 ⟨o.d, o.a, o.xa, o.m⟩)) (w2 := o.imm) rfl (by simp [isLong_packS])
    (by simp [decodeLong, fnOp, reserved_true, pickL3])

theorem pack (o : L3Op) : Statement (.pack o) :=
  of_long (w1 := packS 0x3F (fnOp 9 ⟨o.d, o.a, o.xa, o.m⟩)) (w2 := o.imm) rfl (by simp [isLong_packS])
    (by simp [decodeLong, fnOp, reserved_true, pickL3])

theorem unpack (o : L3Op) : Statement (.unpack o) :=
  of_long (w1 := packS 0x3F (fnOp 10 ⟨o.d, o.a, o.xa, o.m⟩)) (w2 := o.imm) rfl (by simp [isLong_packS])
    (by simp [decodeLong, fnOp, reserved_true, pickL3])

theorem lea (o : L3Op) : Statement (.lea o) :=
  of_long (w1 := packS 0x3F (fnOp 11 ⟨o.d, o.a, o.xa, o.m⟩)) (w2 := o.imm) rfl (by simp [isLong_packS])
    (by simp [decodeLong, fnOp, reserved_true, pickL3])

theorem clauseIssue : Statement .clauseIssue := fun h => absurd h (by decide)

theorem waitZeroEnd : Statement .waitZeroEnd := fun h => absurd h (by decide)

theorem resultLand : Statement .resultLand := fun h => absurd h (by decide)

theorem windowGrant : Statement .windowGrant := fun h => absurd h (by decide)

theorem energyRefill : Statement .energyRefill := fun h => absurd h (by decide)

theorem sleepExpire : Statement .sleepExpire := fun h => absurd h (by decide)

theorem trapEntry : Statement .trapEntry := fun h => absurd h (by decide)

theorem pageWalk : Statement .pageWalk := fun h => absurd h (by decide)

theorem l2Prefetch : Statement .l2Prefetch := fun h => absurd h (by decide)

theorem shootdownComplete : Statement .shootdownComplete := fun h => absurd h (by decide)

theorem launchReady : Statement .launchReady := fun h => absurd h (by decide)

theorem clusterPlace : Statement .clusterPlace := fun h => absurd h (by decide)

theorem queueTimeout : Statement .queueTimeout := fun h => absurd h (by decide)

theorem gatheringPlace : Statement .gatheringPlace := fun h => absurd h (by decide)

theorem enqResume : Statement .enqResume := fun h => absurd h (by decide)

theorem evaluatorLaunch : Statement .evaluatorLaunch := fun h => absurd h (by decide)

theorem groupReload : Statement .groupReload := fun h => absurd h (by decide)

theorem parkedRecheck : Statement .parkedRecheck := fun h => absurd h (by decide)

theorem waitTableRetry : Statement .waitTableRetry := fun h => absurd h (by decide)

theorem copyProgress : Statement .copyProgress := fun h => absurd h (by decide)

theorem copyComplete : Statement .copyComplete := fun h => absurd h (by decide)

theorem qportRead : Statement .qportRead := fun h => absurd h (by decide)

theorem qportWrite : Statement .qportWrite := fun h => absurd h (by decide)

theorem arrayGrant : Statement .arrayGrant := fun h => absurd h (by decide)

theorem passStart : Statement .passStart := fun h => absurd h (by decide)

theorem stepEnd : Statement .stepEnd := fun h => absurd h (by decide)

theorem passTimeLimit : Statement .passTimeLimit := fun h => absurd h (by decide)

theorem reservationPromote : Statement .reservationPromote := fun h => absurd h (by decide)

theorem matrixGapEnd : Statement .matrixGapEnd := fun h => absurd h (by decide)

theorem flitData : Statement .flitData := fun h => absurd h (by decide)

theorem flitIdle : Statement .flitIdle := fun h => absurd h (by decide)

theorem flitNack : Statement .flitNack := fun h => absurd h (by decide)

theorem flitRestripe : Statement .flitRestripe := fun h => absurd h (by decide)

theorem flitRetrain : Statement .flitRetrain := fun h => absurd h (by decide)

theorem flitLost : Statement .flitLost := fun h => absurd h (by decide)

theorem idleTimer : Statement .idleTimer := fun h => absurd h (by decide)

theorem replayTimeout : Statement .replayTimeout := fun h => absurd h (by decide)

theorem restripeRepeat : Statement .restripeRepeat := fun h => absurd h (by decide)

theorem lightDetected : Statement .lightDetected := fun h => absurd h (by decide)

theorem lossOfLight : Statement .lossOfLight := fun h => absurd h (by decide)

theorem lockWindow : Statement .lockWindow := fun h => absurd h (by decide)

theorem lockTimeout : Statement .lockTimeout := fun h => absurd h (by decide)

theorem thresholdCrossed : Statement .thresholdCrossed := fun h => absurd h (by decide)

theorem uncorrectableCodeword : Statement .uncorrectableCodeword := fun h => absurd h (by decide)

theorem retrainTimeout : Statement .retrainTimeout := fun h => absurd h (by decide)

theorem laserFailure : Statement .laserFailure := fun h => absurd h (by decide)

theorem laserReplaced : Statement .laserReplaced := fun h => absurd h (by decide)

theorem linkHoldExpire : Statement .linkHoldExpire := fun h => absurd h (by decide)

theorem remoteWriteArrive : Statement .remoteWriteArrive := fun h => absurd h (by decide)

theorem remoteReadArrive : Statement .remoteReadArrive := fun h => absurd h (by decide)

theorem remoteAtomicArrive : Statement .remoteAtomicArrive := fun h => absurd h (by decide)

theorem remoteSignalArrive : Statement .remoteSignalArrive := fun h => absurd h (by decide)

theorem remoteAck : Statement .remoteAck := fun h => absurd h (by decide)

theorem remoteReply : Statement .remoteReply := fun h => absurd h (by decide)

theorem remoteRefusal : Statement .remoteRefusal := fun h => absurd h (by decide)

theorem remoteRetry : Statement .remoteRetry := fun h => absurd h (by decide)

theorem contributionArrive : Statement .contributionArrive := fun h => absurd h (by decide)

theorem combineGathering : Statement .combineGathering := fun h => absurd h (by decide)

theorem preemptSaved : Statement .preemptSaved := fun h => absurd h (by decide)

theorem resumeComplete : Statement .resumeComplete := fun h => absurd h (by decide)

theorem contextEnded : Statement .contextEnded := fun h => absurd h (by decide)

theorem hostRead : Statement .hostRead := fun h => absurd h (by decide)

theorem hostWrite : Statement .hostWrite := fun h => absurd h (by decide)

theorem sqtail : Statement .sqtail := fun h => absurd h (by decide)

theorem cmdtail : Statement .cmdtail := fun h => absurd h (by decide)

theorem evhead : Statement .evhead := fun h => absurd h (by decide)

theorem winbase : Statement .winbase := fun h => absurd h (by decide)

theorem cmdbase : Statement .cmdbase := fun h => absurd h (by decide)

theorem evbase : Statement .evbase := fun h => absurd h (by decide)

theorem registerWriteIgnored : Statement .registerWriteIgnored := fun h => absurd h (by decide)

theorem setQueue : Statement .setQueue := fun h => absurd h (by decide)

theorem createContext : Statement .createContext := fun h => absurd h (by decide)

theorem endContext : Statement .endContext := fun h => absurd h (by decide)

theorem preempt : Statement .preempt := fun h => absurd h (by decide)

theorem resume : Statement .resume := fun h => absurd h (by decide)

theorem gridMap : Statement .gridMap := fun h => absurd h (by decide)

theorem accessTable : Statement .accessTable := fun h => absurd h (by decide)

theorem loadKey : Statement .loadKey := fun h => absurd h (by decide)

theorem clearKey : Statement .clearKey := fun h => absurd h (by decide)

theorem attest : Statement .attest := fun h => absurd h (by decide)

theorem migrate : Statement .migrate := fun h => absurd h (by decide)

theorem migrateCommit : Statement .migrateCommit := fun h => absurd h (by decide)

theorem migrateAbort : Statement .migrateAbort := fun h => absurd h (by decide)

theorem unmapRemap : Statement .unmapRemap := fun h => absurd h (by decide)

theorem engineRetry : Statement .engineRetry := fun h => absurd h (by decide)

theorem engineAbort : Statement .engineAbort := fun h => absurd h (by decide)

theorem trapReplay : Statement .trapReplay := fun h => absurd h (by decide)

theorem trapDeliver : Statement .trapDeliver := fun h => absurd h (by decide)

theorem setLog : Statement .setLog := fun h => absurd h (by decide)

theorem logReplay : Statement .logReplay := fun h => absurd h (by decide)

theorem logDiscard : Statement .logDiscard := fun h => absurd h (by decide)

theorem stagingRegion : Statement .stagingRegion := fun h => absurd h (by decide)

theorem closeNodeQueue : Statement .closeNodeQueue := fun h => absurd h (by decide)

theorem linkThreshold : Statement .linkThreshold := fun h => absurd h (by decide)

theorem channelThreshold : Statement .channelThreshold := fun h => absurd h (by decide)

theorem powerLimit : Statement .powerLimit := fun h => absurd h (by decide)

theorem reenableLane : Statement .reenableLane := fun h => absurd h (by decide)

theorem setDeviceIndex : Statement .setDeviceIndex := fun h => absurd h (by decide)

theorem recoveryImage : Statement .recoveryImage := fun h => absurd h (by decide)

theorem unknownCommand : Statement .unknownCommand := fun h => absurd h (by decide)

theorem moduleReset : Statement .moduleReset := fun h => absurd h (by decide)

theorem functionTrained : Statement .functionTrained := fun h => absurd h (by decide)

theorem errorWindow : Statement .errorWindow := fun h => absurd h (by decide)

theorem spareColumnSwap : Statement .spareColumnSwap := fun h => absurd h (by decide)

theorem powerExceeded : Statement .powerExceeded := fun h => absurd h (by decide)

theorem junctionOvertemp : Statement .junctionOvertemp := fun h => absurd h (by decide)

theorem refillsRestored : Statement .refillsRestored := fun h => absurd h (by decide)

end Sys2Proof.Laws.RoundTrip
end

