-- ==== Sys2Proof/Laws/Run.lean ====
section
/-!
SUPPORT. How an instruction that nothing stops ends, and what the machine looks like afterwards.
-/
namespace Sys2Proof.Machine
set_option Elab.async false

/-- The waits of R176 and R344 let an instruction pass that names no queue port. -/
theorem withWaits_clear {i : Instr} {body : Issue → Eff} {I : Issue} (ha : aliasWait i I = false)
    (hp : ∀ v ∈ I.readsOf i ++ i.writes, I.g.port v = none) : withWaits i body I = body I := by
  unfold withWaits withPorts
  rw [if_neg (by simp [ha]), if_pos]
  simpa only [List.all_eq_true, Option.isNone_iff_eq_none] using hp

/-- A mask register that is no read port is there to be read. -/
theorem readWait_none {I : Issue} {vs : List Nat} (hp : ∀ v ∈ vs, I.g.port v = none) : I.readWait vs = none := by
  have h1 : I.portDead vs = none := by
    unfold Issue.portDead
    rw [List.findSome?_eq_none_iff]
    intro v hv; rw [hp v hv]
  have h2 : I.unread vs = [] := by
    unfold Issue.unread
    exact List.filter_eq_nil_iff.2 fun v hv => by simp [hp v hv]
  unfold Issue.readWait
  rw [h1, h2]
  rfl

/-- An instruction that nothing stops reaches its own effect. -/
theorem run_clear {i : Instr} {s : State} {I : Issue} {enc priv : Issue → Bool} {body : Issue → Eff} (h : s.issue = some I)
    (hc : I.clear i = true) (he : enc I = false) (hp : priv I = false) :
    runInstr i (prologue i enc priv (withWaits i body)) s = .next ((body I).finish I.g.gid (instrBytes i)) := by
  unfold Issue.clear at hc
  simp only [Bool.and_eq_true, Bool.not_eq_true', Bool.or_eq_true, bne_iff_ne, List.all_eq_true, Option.isNone_iff_eq_none] at hc
  obtain ⟨⟨⟨⟨h1, h2⟩, h3⟩, h4⟩, h5⟩ := hc
  have h2' : (masked i && I.maskOn true == 0) = false := by
    rcases h2 with h2 | h2
    · simp [h2]
    · rw [Bool.and_eq_false_iff]; right; exact beq_eq_false_iff_ne.2 h2
  have h7 : (masked i && !isMat i && I.accBusy I.cl.mr) = false := by
    cases hm : masked i
    · rfl
    · have : I.accBusy I.cl.mr = false := by
        unfold aliasWait at h4
        rw [List.any_eq_false] at h4
        simpa using h4 I.cl.mr (by unfold Issue.readsOf; simp [hm])
      simp [this]
  have h6 : (if masked i then I.readWait [I.cl.mr] else none) = none := by
    split
    · rename_i hm
      exact readWait_none fun v hv => h5 v (by
        unfold Issue.readsOf
        rw [if_pos hm, List.append_assoc]
        exact List.mem_append_right _ (List.mem_append_left _ hv))
    · rfl
  unfold runInstr prologue
  simp only [h, h1, h2', he, hp, h3, h6, h7, withWaits_clear h4 h5]
  rfl

/-- The same for an instruction without operand checks and privilege. -/
theorem alu_clear {i : Instr} {s : State} {I : Issue} {body : Issue → Eff} (h : s.issue = some I) (hc : I.clear i = true) :
    aluInstr i body s = .next ((body I).finish I.g.gid (instrBytes i)) := run_clear h hc rfl rfl

/-- The same for a multiplying instruction while no pass runs. -/
theorem mul_clear {i : Instr} {s : State} {I : Issue} {body : Issue → Eff} (h : s.issue = some I) (hc : I.clear i = true)
    (ha : I.arrayRuns = false) : mulInstr i body s = .next ((body I).finish I.g.gid (instrBytes i)) := by
  unfold mulInstr
  rw [run_clear h hc rfl rfl]
  unfold withGap
  rw [ha]
  rfl

theorem writeD_finish (I : Issue) (d : Reg) (m : Bool) (f : Nat → Word) (i : Instr) :
    (I.writeD d m f).finish I.g.gid (instrBytes i) = I.wrote i d.toNat (I.maskOn m) f := rfl

theorem writePair_finish (I : Issue) (d : Reg) (m : Bool) (f : Nat → Addr) (i : Instr) :
    (I.writePair d m f).finish I.g.gid (instrBytes i) = I.wrotePair i d.toNat (I.maskOn m) f := rfl

/-- Only the values in the 64 lanes matter to a write. -/
theorem writeLanes_congr (g : Group) (v : Nat) {ls : List Nat} {f f' : Nat → Word} (h : ∀ i ∈ ls, f i = f' i) :
    g.writeLanes v ls f = g.writeLanes v ls f' := by
  unfold Group.writeLanes
  induction ls generalizing g with
  | nil => rfl
  | cons i r ih =>
    rw [List.foldl_cons, List.foldl_cons, h i List.mem_cons_self, ih _ fun j hj => h j (List.mem_cons_of_mem _ hj)]

theorem wrote_congr (I : Issue) (i : Instr) (v : Nat) (m : LaneSet) {f f' : Nat → Word} (h : ∀ j < 64, f j = f' j) :
    I.wrote i v m f = I.wrote i v m f' := by
  unfold Issue.wrote
  rw [writeLanes_congr _ _ fun j hj => h j (lanesOf_lt j hj)]

theorem wrotePair_congr (I : Issue) (i : Instr) (v : Nat) (m : LaneSet) {f f' : Nat → Addr} (h : ∀ j < 64, f j = f' j) :
    I.wrotePair i v m f = I.wrotePair i v m f' := by
  unfold Issue.wrotePair
  rw [writeLanes_congr (I.g.writeLanes _ _ _) _ fun j hj => by rw [h j (lanesOf_lt j hj)],
    writeLanes_congr I.g _ fun j hj => by rw [h j (lanesOf_lt j hj)]]

end Sys2Proof.Machine
end

