-- ==== Sys2Proof/Tests/Slice0.lean ====
section
/-!
SUPPORT. Tests of the model: ill-formed terms, decoding of words written out from the spec's tables, small steps whose
results are worked out by hand from the rules, and machines that meet the hypotheses of every statement.
-/
namespace Sys2Proof.Tests
open Sys2Proof.Machine
set_option Elab.async false

/-! ### Ill-formed terms (R26, R37, R67, R139, R191, R336) -/

/-- A plain word 1. -/
def w (d a b : Reg) : SOp := ⟨d, a, 0, b, 0, false⟩
/-- A memory instruction's fields, in global space, relaxed. -/
def mem (x : SOp) : MemOp := ⟨x, 0, 0, 0, 0, 0⟩
def mat (x : SOp) : MatOp := ⟨x, 0, 0, 0, 0, 0, 0, false⟩
def ctl (x : SOp) (imm : BitVec 24) : CtlOp := ⟨x, imm⟩
def sync (x : SOp) (level : BitVec 2) (index : BitVec 5) : SyncOp := ⟨x, level, index, false⟩
def xfer (x : SOp) : XferOp := ⟨x, false, 0, 0, 0, false⟩
def fab (x : SOp) : FabOp := ⟨x, 0, 0, 0⟩
def imm (d a : Reg) (n : Word) : L3Op := ⟨d, a, 0, false, n⟩

/-- Field uses that R26 and R67 forbid: an unused field set, an odd pair, a group beyond v127, a selector or a mask where
none is taken. -/
theorem test_wf_fields : ([.nop, .ucmp (w 1 2 3), .add64 (w 3 4 6), .add64 (w 4 4 7), .ldQ (mem (w 6 4 0)),
    .enq (xfer (w 0 4 120)), .call (ctl (w 3 0 0) 0), .dotb { mat (w 8 1 2) with k := 1 },
        .br { w := ⟨0, 0, 0, 0, 0, true⟩, imm := 0 },
    .spawn (ctl ⟨0, 2, 1, 4, 0, false⟩ 0), .rwait (fab ⟨0, 0, 1, 2, 0, false⟩), .csrr (w 3 0x15 0)] : List Instr).map wf =
    [true, false, false, false, false, false, false, false, false, false, false, false] := by decide

/-- Immediates, CSR numbers and presets out of range (R36, R71, R96, R101, R118, R275). -/
theorem test_wf_short : ([.shli ⟨1, 2, 0, 32, false⟩, .shri ⟨1, 2, 0, 0x1FF, false⟩, .sari ⟨1, 2, 0, 32, false⟩, .sel (w 1 2 3),
    .csrr (w 1 0x30 0), .csrw (w 0x14 1 0), .csrw (w 0x0D 1 0), .ldi (imm 1 2 0), .cvtq (imm 1 2 8), .amaxb (imm 2 2 8),
    .pack (imm 1 2 4), .setx ⟨w 0 0 0, 0x00000C⟩, .setx ⟨w 0 0 0, 0x40C000⟩, .budget ⟨w 2 0 0, 1⟩, .csrmvRead ⟨w 2 0 0,
        0x150001⟩,
    .csrmvRead ⟨w 2 0 0, 0x100000⟩, .csrmvWrite ⟨w 0 2 0, 0x150000⟩] : List Instr).any wf = false := by decide

/-- Spaces, scopes and orders that a memory instruction does not take (R139). -/
theorem test_wf_memory : ([.ldW { mem (w 1 2 0) with space := 3 }, .ldW { mem (w 1 2 0) with order := 2, scope := 1 },
    .ldW { mem (w 1 2 0) with order := 1 }, .ldW { mem (w 1 2 0) with scope := 1 },
        .ldW { mem (w 1 2 0) with space := 1, reuse := 1 },
    .ldW { mem (w 1 2 0) with order := 1, scope := 7 }, .stW { mem (w 0 2 1) with space := 2 },
    .stW { mem (w 0 2 1) with order := 1, scope := 1 }, .redAdd { mem (w 0 2 1) with space := 1 },
    .atomAdd { mem (w 1 2 1) with space := 1 }, .pref (mem (w 2 2 0)), .cclean { mem (w 0 2 1) with order := 1, scope := 1 },
    .fence (mem (w 0 0 0)), .fence { mem (w 0 0 0) with order := 1, scope := 1, imm := 4 },
        .defer { mem (w 0 2 1) with reuse := 1 },
    .resolve { mem (w 0 2 1) with scope := 1 }] : List Instr).any wf = false := by decide

/-- Product fields, mode fields and arrival controls (R191, R174). -/
theorem test_wf_matrix : ([.modeM { mat (w 16 0 0) with k := 1 }, .modeM (mat (w 8 0 0)), .modeM (mat (w 0 0 0)),
    .modeM { mat (w 112 0 0) with n := 1 }, .modeV { mat (w 0 0 0) with n := 1 }, .mma (mat (w 0 1 2)),
    .mma { mat (w 0 1 2) with k := 1, srcA := 2 }, .mma { mat (w 0 1 2) with k := 1, srcB := 2 },
    .mma { mat (w 0 1 2) with k := 1, srcA := 1 }, .mma { mat (w 1 1 2) with k := 1 },
        .gmma { mat (w 0 1 2) with k := 1, srcB := 3 },
    .dotb { mat (w 16 1 2) with k := 1, srcB := 1 }, .mdrain { mat (w 0 1 0) with srcA := 2 },
        .mfill { mat (w 0 1 0) with slotA := 1 },
    .mstat { mat (w 1 0 0) with acc := true }] : List Instr).any wf = false := by decide

/-- Conditions, offsets, barrier indices, spaces and sub-operations (R29 to R32, R81, R90). -/
theorem test_wf_rest : ([.br (ctl (w 17 0 0) 0), .ret (ctl (w 0 2 0) 1), .exit (ctl (w 0 0 0) 1), .waitc (ctl (w 0 0 0) 0x600),
    .waitc (ctl (w 0 0 0) 0x800), .bararv (sync (w 0 0 0) 0 16), .bararv (sync (w 0 0 0) 1 8), .barwait (sync (w 0 0 0) 2 4),
    .barsync (sync (w 0 0 0) 3 0), .gsync (sync (w 0 1 0) 1 0), .sbarv (sync (w 0 0 0) 0 0),
        .cpy { xfer (w 1 2 4) with dst := 3 },
    .scat2d { xfer (w 4 2 4) with dst := 1 }, .cpy { xfer (w 1 2 4) with quire := 1 }, .cpy { xfer (w 1 2 4) with c := true },
    .qbindR (xfer (w 123 2 4)), .qend (xfer (w 4 0 0)), .enq { xfer (w 0 2 8) with q := true }, .cpyw (xfer (w 1 2 4)),
    .pset { fab (w 0 3 0) with ctr := 1 }, .rst { fab (w 0 2 1) with sub := 1 }, .reshard { fab (w 0 2 4) with pat := 1 },
    .reshard { fab (w 0 2 4) with sub := 3 }] : List Instr).any wf = false := by decide

/-! ### Decoding, from the spec's encoding tables (R23 to R34) -/

/-- A word of format S, or word 1 of a long instruction (R23). -/
def s (op : BitVec 6) (d a : BitVec 7) (xa : BitVec 2) (b : BitVec 7) (xb : BitVec 2) (m : BitVec 1) : Word :=
  op ++ d ++ a ++ xa ++ b ++ xb ++ m

/-- A word of format SI (R23). -/
def si (op : BitVec 6) (d a : BitVec 7) (xa : BitVec 2) (n : BitVec 9) (m : BitVec 1) : Word := op ++ d ++ a ++ xa ++ n ++ m

/-- Word 2: a funct and the family's fields (R23, R26). -/
def l (funct : BitVec 8) (fields : BitVec 24) : Word := funct ++ fields

/-- Two words decode to an instruction. -/
def reads (w1 w2 : Word) (i : Instr) : Bool := decodeWords w1 w2 == .ok i

/-- R24: opcodes of three registers. -/
def short3 : List (BitVec 6 × (SOp → Instr)) :=
  [(0x01, .iadd), (0x02, .isub), (0x03, .imul), (0x04, .imulhi), (0x05, .imulhu), (0x06, .imad), (0x08, .and), (0x09, .or),
    (0x0A, .xor), (0x0B, .andn), (0x0C, .shl), (0x0D, .shr), (0x0E, .sar), (0x12, .imin), (0x13, .imax), (0x14, .umin),
    (0x15, .umax), (0x16, .iseq), (0x17, .isne), (0x18, .islt), (0x19, .isle)] ++
  [(0x1A, .isltu), (0x1B, .isleu), (0x1C, .fadd), (0x1D, .fsub), (0x1E, .fmul), (0x1F, .fmac), (0x20, .fmin), (0x21, .fmax),
    (0x22, .fseq), (0x23, .fslt), (0x24, .fsle), (0x25, .fsun), (0x26, .badd2), (0x27, .bmul2), (0x28, .bmac2), (0x29, .sel),
    (0x2E, .shflx), (0x36, .fcpys)]

theorem test_decode_short : (short3.all fun p => reads (s p.1 3 4 2 5 1 1) 0 (p.2 ⟨3, 4, 2, 5, 1, true⟩)) = true := by decide

/-- The clause that R23 encodes by example, the other short forms (R24), and CSRs (R35). -/
theorem test_decode_short_others :
    (reads 0x0418402A 0 (.iadd ⟨3, 4, 0, 5, 1, false⟩) && reads 0x78307041 0 (.fmul ⟨6, 7, 0, 8, 0, true⟩) && reads 0 0 .nop &&
      reads (s 0x2A 6 8 0 10 3 0) 0 (.add64 ⟨6, 8, 0, 10, 3, false⟩) && reads (s 0x32 0 4 0 5 0 1) 0 (.ucmp ⟨0, 4, 0, 5, 0,
          true⟩) &&
      reads (s 0x33 0 4 0 5 0 0) 0 (.ufcmp ⟨0, 4, 0, 5, 0, false⟩) && reads (s 0x34 7 0x16 0 0 0 0) 0 (.csrr ⟨7, 0x16, 0, 0, 0,
          false⟩) &&
      reads (s 0x35 0x10 9 1 0 0 0) 0 (.csrw ⟨0x10, 9, 1, 0, 0, false⟩) && reads (si 0x07 1 2 3 0x1FF 0) 0 (.iaddi ⟨1, 2, 3, -1,
          false⟩) &&
      reads (si 0x0F 1 2 0 31 1) 0 (.shli ⟨1, 2, 0, 31, true⟩) && reads (si 0x10 1 2 0 5 0) 0 (.shri ⟨1, 2, 0, 5, false⟩) &&
      reads (si 0x11 1 2 0 5 0) 0 (.sari ⟨1, 2, 0, 5, false⟩)) = true := by decide

/-- R25: the functions that the b field of an opcode names, in order from a first code. -/
def coded : List (BitVec 6 × Nat × List (UOp → Instr)) :=
  [(0x2B, 0, [.ex2, .lg2, .rcp, .rsq, .sqrt, .sinpi, .cospi, .tanh, .sigm, .erf]),
    (0x2C, 0, [.popc, .clz, .brev, .iabs, .ineg, .fabs, .fneg, .frintRne, .frintRz, .frintRp, .frintRm, .cvtfi, .cvtfu, .cvtif,
      .cvtuf, .cvtfb, .cvtbf]),
    (0x2D, 0, [.shfl]),
    (0x2F, 0, [.redlIadd, .redlFadd, .redlImax, .redlImin, .redlFmax, .redlFmin, .redlAnd, .redlOr, .redlXor]),
    (0x30, 0, [.scanIadd, .scanFadd, .scanImax, .scanImin, .scanFmax, .scanFmin, .scanAnd, .scanOr, .scanXor]),
    (0x30, 64, [.scanXIadd, .scanXFadd, .scanXImax, .scanXImin, .scanXFmax, .scanXFmin, .scanXAnd, .scanXOr, .scanXXor]),
    (0x31, 2, [.voteCount, .voteFirst])]

theorem test_decode_codes : (coded.all fun r => r.2.2.zipIdx.all fun p =>
    reads (s r.1 3 4 1 (BitVec.ofNat 7 (r.2.1 + p.2)) 0 1) 0 (p.1 ⟨3, 4, 1, true⟩)) = true := by decide

theorem test_decode_votes : (reads (s 0x31 0 4 1 0 0 0) 0 (.voteAny ⟨0, 4, 1, false⟩) &&
    reads (s 0x31 0 4 1 1 0 0) 0 (.voteAll ⟨0, 4, 1, false⟩) &&
    reads (s 0x31 8 4 1 4 0 0) 0 (.voteBallot ⟨8, 4, 1, false⟩)) = true := by decide

/-- R27: MEM functs, in order from a first one, of the same word 1. -/
def memory : List (SOp × Nat × List (MemOp → Instr)) :=
  [(w 8 4 0, 0x00, [.ldB, .ldBs, .ldH, .ldHs, .ldW, .ldD, .ldQ]), (w 0 4 8, 0x08, [.stB, .stH, .stW, .stD, .stQ]),
    (w 8 4 8, 0x10, [.atomAdd, .atomMin, .atomMax, .atomUmin, .atomUmax, .atomAnd, .atomOr, .atomXor, .atomXchg, .atomCas,
        .atomIncb,
      .atomFadd, .atomBadd2, .atomFmaxa]),
    (w 0 4 8, 0x20, [.redAdd, .redFadd, .redFmaxa]), (w 8 4 8, 0x28, [.stc]), (w 8 4 0, 0x29, [.lde]), (w 1 4 0, 0x30, [.pref]),
    (w 1 4 8, 0x31, [.cclean, .cinv, .cflush]), (w 0 4 8, 0x38, [.defer, .resolve]), (w 8 4 0, 0x3A, [.cellq]), (w 0 4 8, 0x3B,
        [.cellfail])]

theorem test_decode_memory : (memory.all fun r => r.2.2.zipIdx.all fun p =>
    reads (s 0x38 r.1.d r.1.a 0 r.1.b 0 0) (l (BitVec.ofNat 8 (r.2.1 + p.2)) 0x007FF8) (p.1 { mem r.1 with imm := 0x7FF8 })) = true := by decide

/-- R34's example, a fence, and space, reuse, scope and order each in its place (R27). -/
theorem test_decode_memory_fields :
    (reads 0xE0514000 0x04068040 (.ldW ⟨w 10 20 0, 0, 0, 3, 1, 64⟩) &&
      reads (s 0x38 0 0 0 0 0 0) (l 0x34 ((0 : BitVec 2) ++ (0 : BitVec 2) ++ (6 : BitVec 3) ++ (3 : BitVec 2) ++
          (0 : BitVec 15)))
        (.fence ⟨w 0 0 0, 0, 0, 6, 3, 0⟩) &&
      reads (s 0x38 8 4 3 0 0 1) (l 0x04 ((2 : BitVec 2) ++ (0 : BitVec 2) ++ (0 : BitVec 3) ++ (0 : BitVec 2) ++
          (4 : BitVec 15)))
        (.ldW ⟨⟨8, 4, 3, 0, 0, true⟩, 2, 0, 0, 0, 4⟩) &&
      reads (s 0x38 8 4 0 0 0 0) (l 0x04 ((0 : BitVec 2) ++ (3 : BitVec 2) ++ (5 : BitVec 3) ++ (1 : BitVec 2) ++
          (0 : BitVec 15)))
        (.ldW ⟨w 8 4 0, 0, 3, 5, 1, 0⟩)) = true := by decide

/-- R28: the MAT functs, with slots, sources, N, K and ACC each in its place. -/
theorem test_decode_matrix :
    (reads (s 0x39 32 0 0 0 0 0) (l 0x00 0x001000) (.modeM { mat (w 32 0 0) with n := 1 }) &&
      reads (s 0x39 0 0 0 0 0 0) (l 0x01 0) (.modeV (mat (w 0 0 0))) &&
          reads (s 0x39 0 0 0 0 0 0) (l 0x02 0) (.mresv (mat (w 0 0 0))) &&
      reads (s 0x39 0 5 0 0 0 0) (l 0x03 0) (.mbaton (mat (w 0 5 0))) &&
      reads (s 0x39 0x43 5 0 6 0 0) (l 0x04 ((5 : BitVec 3) ++ (2 : BitVec 3) ++ (0 : BitVec 2) ++ (1 : BitVec 2) ++
          (3 : BitVec 2) ++
        (0x81 : BitVec 8) ++ (1 : BitVec 1) ++ (0 : BitVec 3))) (.mma ⟨w 0x43 5 6, 5, 2, 0, 1, 3, 0x81, true⟩) &&
      reads (s 0x39 0 5 0 7 0 0) (l 0x05 0x000010) (.gmma { mat (w 0 5 7) with k := 1 }) &&
      reads (s 0x39 0 5 0 0 0 1) (l 0x06 0x200000) (.mdrain { mat ⟨0, 5, 0, 0, 0, true⟩ with slotA := 1 }) &&
      reads (s 0x39 0 5 0 0 0 0) (l 0x07 0x003000) (.mfill { mat (w 0 5 0) with n := 3 }) &&
      reads (s 0x39 16 5 0 6 0 0) (l 0x08 0x000020) (.dotb { mat (w 16 5 6) with k := 2 }) &&
      reads (s 0x39 9 0 0 0 0 0) (l 0x09 0) (.mstat (mat (w 9 0 0)))) = true := by decide

/-- R29: the CTL functs. -/
def control : List (BitVec 8 × SOp × BitVec 24 × (CtlOp → Instr)) :=
  [(0x00, w 16 0 0, 0xFFFFFE, .br), (0x01, w 0 5 0, 8, .brz), (0x02, w 0 5 0, 8, .brnz), (0x03, w 6 0 0, 8, .call),
    (0x04, w 0 6 0, 0, .ret), (0x05, w 0 6 0, 8, .jmpr), (0x06, w 1 5 2, 8, .split), (0x07, w 0 0 0, 0, .merge),
    (0x08, w 0 0 0, 0, .yield), (0x09, w 0 0 0, 8, .yieldc), (0x0A, w 0 0 0, 0, .exit), (0x0B, w 0 2 4, 8, .spawn),
    (0x0C, w 0 0 0, 8, .trap), (0x0D, w 0 0 0, 0, .trapret), (0x0E, w 0 0 0, 0x5FF, .waitc), (0x0F, w 0 0 0, 8, .sleep),
    (0x10, w 0 0 0, 8, .bkpt)]

theorem test_decode_control : (control.all fun r =>
    reads (s 0x3A r.2.1.d r.2.1.a 0 r.2.1.b 0 0) (l r.1 r.2.2.1) (r.2.2.2 ⟨r.2.1, r.2.2.1⟩)) = true := by decide

/-- R30: the SYNC functs; level, index and side. -/
theorem test_decode_sync :
    ((([(0x00, .bararv), (0x01, .barwait), (0x02, .barsync)] : List (BitVec 8 × (SyncOp → Instr))).all fun p =>
        reads (s 0x3B 0 0 0 0 0 0) (l p.1 ((1 : BitVec 2) ++ (7 : BitVec 5) ++ (0 : BitVec 17))) (p.2 (sync (w 0 0 0) 1 7))) &&
      reads (s 0x3B 0 0 0 4 1 0) (l 0x03 ((3 : BitVec 2) ++ (31 : BitVec 5) ++ (0 : BitVec 17))) (.sbexp ⟨⟨0, 0, 0, 4, 1,
          false⟩, 3, 31, false⟩) &&
      reads (s 0x3B 9 0 0 0 0 0) (l 0x03 ((3 : BitVec 2) ++ (2 : BitVec 5) ++ (1 : BitVec 1) ++
          (0 : BitVec 16))) (.sbexp ⟨w 9 0 0, 3, 2, true⟩) &&
      reads (s 0x3B 0 0 0 0 0 0) (l 0x04 ((3 : BitVec 2) ++ (2 : BitVec 5) ++ (1 : BitVec 1) ++
          (0 : BitVec 16))) (.sbarv ⟨w 0 0 0, 3, 2, true⟩) &&
      reads (s 0x3B 0 4 0 0 0 0) (l 0x05 0xC00000) (.sbwait (sync (w 0 4 0) 3 0)) &&
      reads (s 0x3B 7 4 0 0 0 0) (l 0x06 0xC00000) (.sbtry (sync (w 7 4 0) 3 0)) &&
      reads (s 0x3B 0 4 0 0 0 0) (l 0x07 0x1E0000) (.gsync (sync (w 0 4 0) 0 15))) = true := by decide

/-- R31: the XFER functs; Q, quire, the spaces, T, D and C. -/
theorem test_decode_transfer :
    (reads (s 0x3C 1 2 0 4 0 1) (l 0x00 ((1 : BitVec 1) ++ (17 : BitVec 5) ++ (2 : BitVec 2) ++ (1 : BitVec 2) ++
        (0 : BitVec 14)))
        (.cpy ⟨⟨1, 2, 0, 4, 0, true⟩, true, 17, 2, 1, false⟩) &&
      reads (s 0x3C 8 2 0 4 0 0) (l 0x01 0x010000) (.cpy2d { xfer (w 8 2 4) with dst := 1 }) &&
      reads (s 0x3C 8 2 0 4 0 0) (l 0x02 0x010000) (.gath2d { xfer (w 8 2 4) with dst := 1 }) &&
      reads (s 0x3C 8 2 0 4 0 0) (l 0x03 0x004000) (.scat2d { xfer (w 8 2 4) with src := 1 }) &&
      reads (s 0x3C 8 2 0 4 0 0) (l 0x04 0) (.chain (xfer (w 8 2 4))) &&
      reads (s 0x3C 124 2 0 5 0 0) (l 0x05 0x004000) (.qbindR { xfer (w 124 2 5) with src := 1 }) &&
      reads (s 0x3C 127 2 0 5 0 0) (l 0x05 0x001000) (.qbindW (xfer (w 127 2 5))) &&
      reads (s 0x3C 125 0 0 0 0 0) (l 0x06 0) (.qend (xfer (w 125 0 0))) &&
          reads (s 0x3C 0 5 0 16 0 0) (l 0x07 0) (.enq (xfer (w 0 5 16))) &&
      reads (s 0x3C 0 5 0 16 0 0) (l 0x07 0x002000) (.enqTry (xfer (w 0 5 16))) &&
      reads (s 0x3C 8 2 0 4 0 0) (l 0x08 0x800000) (.decode { xfer (w 8 2 4) with q := true }) &&
      reads (s 0x3C 1 2 0 4 0 0) (l 0x09 0x020800) (.cpyw { xfer (w 1 2 4) with dst := 2, c := true })) = true := by decide

/-- R32: the FAB functs; pattern, counter, sub-op and M. -/
def fabric : List (BitVec 8 × BitVec 3 × BitVec 1 × SOp × (FabOp → Instr)) :=
  [(0x01, 0, 0, w 0 2 4, .rst), (0x01, 0, 1, w 0 2 4, .rstBlock), (0x03, 0, 0, w 8 2 4, .ratomAdd), (0x03, 1, 0, w 8 2 4,
      .ratomFadd),
    (0x03, 2, 0, w 8 2 4, .ratomFmaxa), (0x03, 3, 0, w 8 2 4, .ratomCas), (0x03, 4, 0, w 8 2 4, .ratomIncb),
    (0x04, 0, 0, w 8 2 4, .rredAdd), (0x04, 1, 0, w 8 2 4, .rredFadd), (0x04, 2, 0, w 8 2 4, .rredFmaxa), (0x05, 0, 0, w 8 2 4,
        .rcpy),
    (0x06, 0, 0, w 0 0 4, .rsig), (0x07, 0, 0, w 0 0 4, .rwait)]

theorem test_decode_fabric : (fabric.all fun r =>
    reads (s 0x3D r.2.2.2.1.d r.2.2.2.1.a 0 r.2.2.2.1.b 0 0)
      (l r.1 ((6 : BitVec 3) ++ (0x81 : BitVec 8) ++ r.2.1 ++ r.2.2.1 ++ (0 : BitVec 9))) (r.2.2.2.2 ⟨r.2.2.2.1, 6, 0x81,
          0⟩)) = true := by
  decide

theorem test_decode_fabric_others :
    (reads (s 0x3D 0 3 0 0 0 0) (l 0x00 0x600000) (.pset { fab (w 0 3 0) with pat := 3 }) &&
      reads (s 0x3D 8 2 0 0 0 0) (l 0x02 0x600000) (.rld { fab (w 8 2 0) with pat := 3 }) &&
      reads (s 0x3D 0 2 0 4 0 0) (l 0x08 0x003000 ||| 0x800) (.reshard { fab (w 0 2 4) with ctr := 1, sub := 6 }) == false &&
      reads (s 0x3D 0 2 0 4 0 0) (l 0x08 0x002800) (.reshard { fab (w 0 2 4) with ctr := 1, sub := 2 }) &&
      reads (s 0x3D 8 0 0 0 0 0) (l 0x09 0x200000) (.pcount { fab (w 8 0 0) with pat := 1 }) &&
      reads (s 0x3D 8 0 0 0 0 0) (l 0x0A 0x200000) (.coord { fab (w 8 0 0) with pat := 1 })) = true := by decide

/-- R33: the SYS functs. -/
theorem test_decode_system :
    (reads (s 0x3E 0 0 0 0 0 0) (l 0x10 0xC0A024) (.setx ⟨w 0 0 0, 0xC0A024⟩) &&
        reads (s 0x3E 8 0 0 0 0 0) (l 0x11 0) (.budget ⟨w 8 0 0, 0⟩) &&
      reads (s 0x3E 8 0 0 0 0 0) (l 0x12 0) (.clock ⟨w 8 0 0, 0⟩) &&
      reads (s 0x3E 8 0 0 0 0 0) (l 0x13 0x220000) (.csrmvRead ⟨w 8 0 0, 0x220000⟩) &&
      reads (s 0x3E 0 8 1 0 0 0) (l 0x13 0x950000) (.csrmvWrite ⟨⟨0, 8, 1, 0, 0, false⟩, 0x950000⟩)) = true := by decide

/-- R34: the L3F functs. -/
def longImmediates : List (BitVec 7 × Reg × Reg × Word × (L3Op → Instr)) :=
  [(0x00, 8, 0, 0x80000001, .ldi), (0x01, 8, 4, 0x80000001, .iaddl), (0x02, 8, 4, 0x80000001, .andl), (0x03, 8, 4, 0x80000001,
      .orl),
    (0x04, 8, 4, 0x80000001, .xorl), (0x05, 8, 4, 7, .cvtq), (0x06, 8, 4, 7, .cvtx), (0x07, 8, 4, 7, .amaxb),
    (0x08, 8, 4, 0x80000001, .fmal), (0x09, 8, 4, 3, .pack), (0x0A, 8, 4, 3, .unpack), (0x0B, 8, 4, 0x80000001, .lea)]

theorem test_decode_long_immediate : (longImmediates.all fun r =>
    reads (s 0x3F r.2.1 r.2.2.1 0 r.1 0 1) r.2.2.2.1 (r.2.2.2.2 ⟨r.2.1, r.2.2.1, 0, true, r.2.2.2.1⟩)) = true := by decide

/-- Reserved opcodes, function codes and functs, and a reserved field (R24 to R26, R33, R34, R37). -/
theorem test_decode_refuses :
    (([s 0x37 0 0 0 0 0 0, s 0x2B 1 2 0 10 0 0, s 0x2C 1 2 0 17 0 0, s 0x2F 1 2 0 9 0 0, s 0x30 1 2 0 9 0 0,
        s 0x30 1 2 0 73 0 0,
        s 0x31 1 2 0 5 0 0, s 0x3F 1 2 0 12 0 0].all fun x => decodeWords x 0 == .error .opcode) &&
      (([(0x38, 0x07), (0x38, 0x1E), (0x38, 0x35), (0x39, 0x0A), (0x3A, 0x11), (0x3B, 0x08), (0x3C, 0x0A), (0x3D, 0x0B), (0x3E,
          0x0F),
        (0x3E, 0x14)] : List (BitVec 6 × BitVec 8)).all fun p => decodeWords (s p.1 0 0 0 0 0 0) (l p.2 0) == .error .opcode) &&
      decodeWords (s 0x39 0 5 0 6 0 0) (l 0x04 0x000011) == .error .encoding &&
      decodeWords (s 0x2D 1 2 0 1 0 0) 0 == .error .encoding) = true := by decide


/-! ### One step at a time, results worked out from the rules -/

/-- The smallest machine that issues an instruction next: group 1, alone in context 0, with its code at 0x1000. -/
def box (i : Instr) : State := State.reset.lay (encodeBytes i)

/-- A machine with some registers of group 1 set: register, lane, word. -/
def put (rs : List (Nat × Nat × Word)) (s : State) : State :=
  s.onGroup 1 fun g => rs.foldl (fun g r => g.write r.1 r.2.1 r.2.2) g

/-- A machine with only some lanes of group 1 left. -/
def only (m : LaneSet) (s : State) : State :=
  s.onGroup 1 fun g => { g with lanes := m, splits := g.splits.map fun (x : Split) => { x with lanes := m } }

/-- A machine with bytes at a physical address. -/
def bytes (a : Nat) (bs : List Byte) (s : State) : State := s.setMem { s.mem with bytes := puts 0 s.mem.bytes a bs }

/-- What an instruction leaves. -/
def after (i : Instr) (f : State → State := id) : State :=
  match exec i (f (box i)) with
  | .next t => t
  | _ => State.reset

/-- A register of group 1 in a lane. -/
def reg (s : State) (v i : Nat) : Option Word := (s.group 1).map fun g => g.read v i

/-- A two-source instruction on two words in lane 0. -/
def two (f : SOp → Instr) (x y : Word) : Option Word := reg (after (f (w 3 1 2)) (put [(1, 0, x), (2, 0, y)])) 3 0
def one (f : UOp → Instr) (x : Word) : Option Word := reg (after (f ⟨3, 1, 0, false⟩) (put [(1, 0, x)])) 3 0

/-- A step fetches the word at the pc, runs it and moves past it (R13, R23, R95). -/
theorem test_step : (match step (put [(4, 7, 20), (5, 8, 22)] ((State.reset.withFetchWord 32 0x0418402A).onGroup 1 fun g =>
    { g with xset := 0x0020 })) with
    | .next t => (reg t 3 7, (t.group 1).map fun g => (g.splits.map Split.pc, g.clause), t.cycle)
    | _ => (none, none, 0)) = (some 42, some ([0x1004], none), 1) := by decide +kernel

/-- An instruction of two words (R23): LDI's immediate is its second word. -/
theorem test_step_long : (match step (State.reset.withFetchWord 64 (0x8000000A * 2 ^ 32 + 0xFC180000)) with
    | .next t => (reg t 3 63, (t.group 1).map fun g => g.splits.map Split.pc)
    | _ => (none, none)) = (some 0x8000000A, some [0x1008]) := by decide +kernel

/-- A word that is no instruction traps, at its own address (R37, R269). -/
theorem test_step_reserved : (match step (State.reset.withFetchWord 32 0xDC000000) with
    | .next t => (t.group 1).map fun g => (g.status, g.trapCause, g.resume.map Resume.epc)
    | _ => none) = some (.trapped, 1, some 0x1000) := by decide +kernel

/-- R95: wrap, borrow, high halves, shifts at and beyond the width, signs. -/
theorem test_integer : ([two .iadd 0xFFFFFFFF 2, two .isub 1 2, two .imul 0x10001 0x10001, two .imulhi 0xFFFFFFFF 2,
    two .imulhu 0xFFFFFFFF 2,
    two .shl 1 32, two .shl 3 31, two .shr 0x80000000 31, two .sar 0x80000000 40, two .sar 0x80000000 4, two .imin 0xFFFFFFFF 1,
    two .umin 0xFFFFFFFF 1, two .islt 0xFFFFFFFF 1, two .isltu 0xFFFFFFFF 1, two .isleu 5 5,
        two .andn 0xFF 0x0F]).map (·.getD 0) =
    [1, 0xFFFFFFFF, 0x20001, 0xFFFFFFFF, 1, 0, 0x80000000, 1, 0xFFFFFFFF, 0xF8000000, 0xFFFFFFFF, 1, 1, 0, 1, 0xF0] := by
        decide +kernel

/-- R91: the destination is an addend of IMAD; v0 takes no value; an inactive lane keeps its own. -/
theorem test_destinations :
    (reg (after (.imad (w 3 1 2)) (put [(1, 0, 6), (2, 0, 7), (3, 0, 100)])) 3 0, reg (after (.iadd (w 0 1 1)) (put [(1, 0,
        5)])) 0 0,
      reg (after (.iadd (w 3 1 1)) (fun s => only 1 (put [(1, 0, 5), (1, 1, 5), (3, 1, 9)] s))) 3 1) = (some 142, some 0,
          some 9) := by
  decide +kernel

/-- A mask register of 0 in a lane leaves that lane alone (R8, R13). -/
theorem test_mask : (let t := after (.iadd ⟨3, 1, 0, 1, 0, true⟩) (fun s => (put [(1, 0, 5), (1, 1, 5), (9, 1,
    1)] s).onGroup 1 fun g =>
    { g with clause := g.clause.map fun (c : Clause) => { c with header := c.header ||| 0x00240000 } })
    (reg t 3 0, reg t 3 1)) = (some 0, some 10) := by decide +kernel

/-- R93, R98, R100: ties to even, subnormals kept, the sign of zero, a NaN operand, packed halves. -/
theorem test_float : ([two .fadd 0x3F800000 0x33800000, two .fadd 0x3F800001 0x33800000, two .fmul 0x00800000 0x3F000000,
    two .fsub 0x40000000 0x40000000, two .fadd 0x80000000 0x80000000, two .fadd 0x7F7FFFFF 0x7F7FFFFF,
        two .fadd 0x7F800000 0xFF800000,
    two .fmin 0 0x80000000, two .fmax 0x7FC00001 0x3F800000, two .fslt 0x7FC00000 0, two .fseq 0 0x80000000,
        two .fcpys 0x3F800000 0x80000000,
    two .badd2 0x3F803F80 0x3B804000]).map (·.getD 7) =
    [0x3F800000, 0x3F800002, 0x00400000, 0, 0x80000000, 0x7F800000, 0x7FC00000, 0x80000000, 0x3F800000, 0, 1, 0xBF800000,
        0x3F804040] := by
  decide +kernel

/-- R102: the conversions of R51's examples, truncation, saturation, NaN, counts of bits. -/
theorem test_unary : ([one .cvtfb 0x3F808000, one .cvtfb 0x3F818000, one .cvtfi 0xBFC00000, one .cvtfi 0x7FC00000,
    one .cvtfi 0x7F800000,
    one .cvtfu 0xBF800000, one .frintRne 0x40200000, one .frintRp 0x40200000, one .cvtuf 0xFFFFFFFF, one .cvtif 0xFFFFFFFF,
        one .clz 0,
    one .popc 0xF0F0, one .brev 1, one .ineg 0x80000000, one .fneg 0]).map (·.getD 7) =
    [0x3F80, 0x3F82, 0xFFFFFFFF, 0, 0x7FFFFFFF, 0, 0x40000000, 0x40400000, 0x4F800000, 0xBF800000, 32, 8, 0x80000000,
        0x80000000, 0x80000000] := by
  decide +kernel

/-- Exact results of the special functions that R104 names, and that they land later (R17, R104). -/
theorem test_sfu : (let t := after (.rcp ⟨3, 1, 0, false⟩) (only 1)
    (reg t 3 0, (t.group 1).map fun g => (g.counter .sfu, g.ops.map Op.writes))) = (some 0, some (1, [[(192,
        0x7F800000)]])) := by
  decide +kernel

/-- The rotate by half a group that R9 works out: lane 5 reads lane 37, lane 40 lane 8. -/
theorem test_crossbar : (let t := after (.shfl ⟨3, 1, 1, false⟩) (fun s => (put [(1, 37, 70), (1, 8, 80)] s).onGroup 1 fun g =>
    { g with xset := 0x1020 })
    (reg t 3 5, reg t 3 40, (t.group 1).map Group.xset)) = (some 70, some 80, some 0x1020) := by decide +kernel

/-- The preset that R71 encodes by example. -/
theorem test_setx : (decodeWords 0xF8000000 0x10401020 == .ok (.setx ⟨w 0 0 0, 0x401020⟩) &&
    ((after (.setx ⟨w 0 0 0, 0x401020⟩)).group 1).map Group.xset == some 0x1020) = true := by decide +kernel

/-- R109's and R110's trees: lane 0 of the sum that R110 works out; an inclusive and an exclusive scan of ones. -/
theorem test_trees :
    (let ones := put ((List.range 64).map fun i => (5, i, 1))
    let sum := after (.redlFadd ⟨6, 5, 0, false⟩) (put [(5, 0, 0x3F800000), (5, 1, 0x33800000), (5, 2, 0x33800000), (5, 3,
        0x33800000)])
    [reg sum 6 9, reg (after (.scanIadd ⟨6, 5, 0, false⟩) ones) 6 5, reg (after (.scanXIadd ⟨6, 5, 0, false⟩) ones) 6 5,
      reg (after (.scanXImin ⟨6, 5, 0, false⟩) ones) 6 0]) = [some 0x3F800001, some 6, some 5, some 0x7FFFFFFF] := by
          decide +kernel

/-- R111: a ballot, the first voter, and CC.Z of a vote. -/
theorem test_votes : (let f := put [(1, 5, 1), (1, 40, 2)]
    let t := after (.voteBallot ⟨4, 1, 0, false⟩) f
    (reg t 4 0, reg t 5 63, reg (after (.voteFirst ⟨4, 1, 0, false⟩) f) 4 1, reg (after (.voteFirst ⟨4, 1, 0, false⟩)) 4 1,
      ((after (.voteAny ⟨0, 1, 0, false⟩) f).group 1).map fun g => g.splits.map Split.cc)) =
    (some 0x20, some 0x100, some 5, some 0xFFFFFFFF, some [1]) := by decide +kernel

/-- R113: 1 - 2 borrows and is negative; an unordered compare sets C and V. -/
theorem test_compares : ([Instr.ucmp (w 0 1 2), .ufcmp (w 0 1 2), .ufcmp (w 0 3 2)].map fun i =>
    ((after i (put [(1, 0, 1), (2, 0, 2), (3, 0, 0x7FC00000)])).group 1).map fun g => g.splits.map Split.cc) =
    [some [2], some [2], some [12]] := by decide +kernel

/-- R35: CSRs by number: WIDTH, LANE, MTHRESH, and a 64-bit one as a pair. -/
theorem test_csr : (reg (after (.csrr ⟨3, 0x00, 0, 0, 0, false⟩)) 3 0, reg (after (.csrr ⟨3, 0x01, 0, 0, 0, false⟩)) 3 63,
    reg (after (.csrr ⟨3, 0x16, 0, 0, 0, false⟩)) 3 1,
    reg (after (.csrr ⟨4, 0x15, 0, 0, 0, false⟩) (fun s => s.onGroup 1 fun g => { g with lineage := 0x0000000700000009 })) 5 1,
    ((after (.csrw ⟨0x20, 1, 0, 0, 0, false⟩)).group 1).map Group.trapCause) = (some 64, some 63, some 8, some 7,
        some 0x04) := by
  decide +kernel

/-- R119: the long immediates; LEA's carry into the high word; SEL. -/
theorem test_long_immediate : (reg (after (.iaddl (imm 3 1 0xFFFFFFFF)) (put [(1, 0, 3)])) 3 0,
    reg (after (.fmal (imm 3 1 0x40000000)) (put [(1, 0, 0x40400000), (3, 0, 0x3F800000)])) 3 0,
    reg (after (.lea (imm 4 2 0xFFFFFFFF)) (put [(2, 0, 0), (3, 0, 1)])) 5 0,
    reg (after (.lea (imm 4 2 8)) (put [(2, 0, 0xFFFFFFFC), (3, 0, 1)])) 5 0) = (some 2, some 0x40E00000, some 0, some 2) := by
        decide +kernel

/-- A group whose team has slot f2 bound to E2M1S, as R123's example binds it. -/
def slotted (s : State) : State := s.setTeam { bareTeam 0 1 with slots := [0, 0, 0x218] }

/-- The block that R54 and R123 quantise, pack and expand by example. -/
theorem test_quantise : (let t := after (.cvtq (imm 3 2 2)) (fun s => slotted (put [(2, 0, 0x40F00000), (2, 1, 0x3F800000), (2,
    2, 0xBF400000), (2, 3, 0x40200000)] s))
    let u := after (.cvtx (imm 5 3 2)) (fun s => slotted (put [(3, 0, 0x004F7F08), (3, 2, 0x004F7F0A)] s))
    ([0, 1, 2, 3, 4, 32].map fun i => (reg t 3 i).getD 1, reg u 5 0, reg u 5 2)) =
    ([0x004F7F08, 0x004F7F02, 0x004F7F0A, 0x004F7F04, 0x004F7F00, 0], some 0x40F00000, some 0xBF800000) := by decide +kernel

theorem test_pack : (let t := after (.pack (imm 4 3 0)) (put [(3, 0, 0x004F7F08), (3, 1, 0x004F7F02), (3, 2, 0x004F7F0A), (3, 3,
    0x004F7F04)])
    let u := after (.unpack (imm 5 4 0)) (put [(4, 0, 0x00004A28)])
    (reg t 4 0, reg t 4 1, reg u 5 2, reg u 5 3)) = (some 0x4A28, some 0, some 10, some 4) := by decide +kernel

/-- A slot without a format traps FORMAT_SLOT (R60). -/
theorem test_slot : ((after (.cvtq (imm 3 2 0))).group 1).map (fun g => (g.status, g.trapCause)) = some (.trapped, 0x19) := by
    decide +kernel

/-- R142, R143: a signed byte; the higher lane's bytes win; a misaligned address traps with its lane. -/
theorem test_memory :
    (((after (.ldBs { mem (w 3 4 0) with imm := 0x2001 }) (fun s => only 1 (bytes 0x2001 [0x80] s))).group 1).map fun g =>
        g.ops.map Op.writes,
      lookups 0 (after (.stH { mem (w 0 4 1) with imm := 0x2000 }) (fun s => only 3 (put [(1, 0, 0x1111), (1, 1, 0x2222), (4, 1,
          0)] s))).mem.bytes 0x2000 2,
      ((after (.ldW { mem (w 3 4 0) with imm := 0x2000 }) (put [(4, 2, 6)])).group 1).map fun g => (g.trapCause, g.trapAddr,
          (g.resume.map Resume.info).map TrapInfo.lane)) =
    (some [[(192, 0xFFFFFF80)]], [0x22, 0x22], some (0x05, 0x2006, some 2)) := by decide +kernel

/-- R145: each lane of an atomic is given the value before it, in lane order. -/
theorem test_atomic : (let t := after (.atomAdd { mem (w 3 4 1) with imm := 0x2000 }) (fun s => only 3 (put [(1, 0, 5), (1, 1,
    7)] s))
    (lookups 0 t.mem.bytes 0x2000 4, (t.group 1).map fun g => g.ops.map Op.writes)) = ([12, 0, 0, 0], some [[(192, 0), (193,
        5)]]) := by decide +kernel

/-- Lanes 1, 4 and 6 on under v7, as R151's example has them, with a pointer word at 0x3000. -/
def packing (s : State) : State :=
  (put [(7, 1, 1), (7, 4, 1), (7, 6, 1), (11, 1, 11), (11, 4, 44), (11, 6, 66), (22, 1,
      0x3000)] (bytes 0x3000 (leBytes 8 0x40000) s)).onGroup 1
    fun g => { g with clause := g.clause.map fun (c : Clause) => { c with header := c.header ||| 0x001C0000 } }

/-- The run that R151 packs by example, at addresses of this machine. -/
theorem test_stc : (let t := after (.stc { mem ⟨12, 22, 0, 11, 0, true⟩ with imm := 0 }) packing
    (lookups 0 t.mem.bytes 0x40000 16, lookups 0 t.mem.bytes 0x3000 4,
      (t.group 1).map fun g => (g.ops.map fun (o : Op) => o.writes.filter fun x => x.1 % 64 == 9))) =
    ([11, 0, 0, 0, 44, 0, 0, 0, 66, 0, 0, 0, 0, 0, 0, 0], [0x0C, 0, 4, 0], some [[(64 * 12 + 9, 0x40000), (64 * 13 + 9, 0),
        (64 * 14 + 9, 3)]]) := by
  decide +kernel

/-- The encodings of chapters 5 and 8, and of SPAWN (R155, R222, R264). -/
theorem test_encodings : (decodeWords 0xE0014030 0x0A0B0008 == .ok (.stW ⟨w 0 20 6, 0, 0, 5, 2, 8⟩) &&
    decodeWords 0xE0000000 0x34068000 == .ok (.fence ⟨w 0 0 0, 0, 0, 3, 1, 0⟩) &&
        decodeWords 0xE0014040 0x38000000 == .ok (.defer (mem (w 0 20 8))) &&
    decodeWords 0xE0016048 0x39000000 == .ok (.resolve (mem (w 0 22 9))) &&
        decodeWords 0xE0514000 0x3A000000 == .ok (.cellq (mem (w 10 20 0))) &&
    decodeWords 0xE0014058 0x3B000000 == .ok (.cellfail (mem (w 0 20 11))) &&
        decodeWords 0xE8008050 0x0B00000C == .ok (.spawn (ctl (w 0 8 10) 12))) = true := by
  decide +kernel

/-- The child of that SPAWN (R264): 2 groups of 64 registers, 16 quires, 2 barriers, class 1, 512 B and 1024 B. -/
theorem test_spawn : ((after (.spawn (ctl (w 0 8 10) 12)) (put [(8, 0, 0x00089031), (9, 0, 0x00080004), (10, 0, 0x80004), (11,
    0, 5)])).launches.map fun (l : Launch) =>
    [l.rcd.groups, l.rcd.regs16, l.rcd.quires, l.rcd.bars, l.cls, l.rcd.abytes, l.rcd.wbytes, l.entry.toNat, l.rcd.arg.toNat]) =
    [[2, 4, 16, 2, 1, 512, 1024, 0x1030, 0x500080004]] := by decide +kernel

/-- R81, R83: a branch by its condition, and a call's link pair; offsets count words. -/
theorem test_branches : ([Instr.br (ctl (w 1 0 0) 4), .br (ctl (w 2 0 0) 4), .br (ctl (w 2 0 0) 0xFFFFFF)].map fun i =>
      ((after i).group 1).map fun g => g.splits.map Split.pc) = [some [0x1008], some [0x1010], some [0xFFC]] := by
          decide +kernel

theorem test_call : (let t := after (.call (ctl (w 6 0 0) 4))
    (reg t 6 3, reg t 7 3, (t.group 1).map fun g => g.splits.map Split.pc)) = (some 0x1008, some 0, some [0x1010]) := by
        decide +kernel

/-- R84: both sides have lanes, so that the odd lanes become a split of their own at the target. -/
theorem test_split : ((after (.split (ctl (w 0 7 0) 4)) (put [(7, 1, 1), (7, 3, 1)])).group 1).map (fun g =>
    (g.splits.map fun (x : Split) => (x.pc, x.lanes, x.join), g.joins.map fun (j : Join) => (j.merge, j.count))) =
    some ([(0x1008, 0xFFFFFFFFFFFFFFF5, some 0), (0x1010, 0xA, some 0)], [(0x1000, 2)]) := by decide +kernel

/-- Of three loads the second returns first: the counter still reports 3 (R90). -/
theorem test_counter : (let ops := [1, 2, 3].map fun n => ({ seq := n, cls := .ld, nth := n, writes := [(64, 0)] } : Op)
    let g := { bareGroup 1 with ops := ops }
    ((g.complete 2 none).counter .ld, ((g.complete 2 none).complete 1 none).counter .ld)) = (3, 1) := by decide +kernel

/-- A software trap waits for the group's results, then its handler runs with EPC and ESTATE written (R269, R270, R273). -/
theorem test_trap : (let s := (after (.trap (ctl (w 0 0 0) 0x2A)) id)
    let s := s.setContext { bareContext 0 0 with handler := 0x40680000 }
    match exec .trapEntry { s with ev := { g := 1 } } with
    | .next t => ((t.group 1).map fun g => [g.trapCause.toNat, g.trapAddr.toNat, g.epc.toNat, g.estate.toNat] ++
        g.splits.map fun x => x.pc.toNat)
    | _ => none) = some [0x18, 0x2A, 0x1000, 0x800000FF, 0x40680000] := by decide +kernel

/-- R284's CRC-64/XZ has the check value 0x995DC9BBDF1939FA, the one its catalogue gives for the digits 1 to 9. -/
theorem test_crc : crc64 [0x31, 0x32, 0x33, 0x34, 0x35, 0x36, 0x37, 0x38, 0x39] = 0x995DC9BBDF1939FA := by decide +kernel

/-- R58's example words: five slots and one that is malformed. -/
theorem test_slots : ([0x00000001, 0x00001213, 0x00000215, 0x00000618, 0x00000219, 0x00000203] : List Word).map (fun f =>
    (slotElem f, slotRz f, slotOk f)) = [(1, false, true), (3, false, true), (5, false, true), (8, true, true), (9, false,
        true), (3, false, false)] := by
  decide +kernel


/-! ### Machines that meet the statements' hypotheses, clause by clause -/

/-- A prepared machine stands at an issue, and it is as said. -/
def meets (f : State → State) (p : Issue → Bool) : Bool := (f (box .nop)).issue.any p

/-- What an address of the issuing group translates to. -/
def place (I : Issue) (u : Use) (a : Addr) : Place :=
  match I.xlat u a with
  | .ok p => p
  | _ => { pa := 0, leaf := { base := 0, size := 0, entry := 0 } }

def inGroup (f : Group → Group) (s : State) : State := s.onGroup 1 f
def inTeam (f : Team → Team) (s : State) : State := s.setTeam (f (bareTeam 0 1))
def inContext (f : Context → Context) (s : State) : State := s.setContext (f (bareContext 0 0))
def masked1 (I : Issue) : Bool := I.maskOn true == 0

/-- The array of group 1's quad. -/
def inArray (f : QArray → QArray) (s : State) : State := s.setArray (f (s.array ⟨0, 0, 0⟩))

/-- A pass of group 1 on it. -/
def aPass : Pass :=
  { gid := 1, seq := 0, slotA := 1, slotB := 1, latch := false, oa := 0, l2 := false, ob := 0, n := 16, k := 32, rows := 1, acc := false, at' := 0 }

theorem meets_DecodeEncode : (Instr.fence { mem (w 0 0 0) with order := 3, scope := 6 }).isEvent = false ∧
    wf (.fence { mem (w 0 0 0) with order := 3, scope := 6 }) = true ∧
    decodeBytes (encodeBytes (.ldi (imm 127 0 0xFFFFFFFF)) ++ [1]) = .ok (.ldi (imm 127 0 0xFFFFFFFF), [1]) := by decide +kernel

theorem meets_StepRunsDecoded : (let s := box (.iadd (w 3 1 2))
    s.agenda == [] && s.commands == [] && s.issue.any fun I =>
      I.g.status == .windowed && I.free && decodeBytes I.codeBytes == .ok (.iadd (w 3 1 2), [0, 0, 0, 0])) = true := by
          decide +kernel

theorem meets_StopsOnlyWithoutIssuer : State.reset.issue = none ∧ (box .nop).issue.isSome = true := by decide +kernel

theorem meets_StepKeepsMemoryCanonical : (let s := box (.stW { mem (w 0 4 1) with imm := 0x2000 })
    s.mem.wf && match step s with | .next _ => true | _ => false) = true := by decide +kernel

theorem meets_RegisterWrites : (meets id fun I => (I.g.port 127).isNone && (I.g.port 126).isNone &&
    (I.g.port 0).isNone) = true := by decide +kernel

/-- Each clause: the last register, the mask register, an empty mask, a running pass, an outstanding result, privilege. -/
theorem meets_BeforeEffect :
    ((meets (inGroup fun g => { g with nregs := 16 }) fun I => (Instr.iadd (w 3 16 2)).reads.any fun v =>
        decide (I.g.nregs ≤ v) && (I.g.port v).isNone) &&
      (meets (inGroup fun g =>
          { g with clause := g.clause.map fun (c : Clause) => { c with header := c.header ||| 0x00240000 } }) fun I =>
        masked1 I && !badRegister (.iadd ⟨3, 1, 0, 2, 0, true⟩) I && masked (.iadd ⟨3, 1, 0, 2, 0, true⟩)) &&
      (meets (inArray fun a => { a with posted := [{ aPass with running := true }] }) fun I => I.clear (.imad (w 3 1 2)) &&
          I.arrayRuns) &&
      (meets (fun s => inContext (fun c => { c with strict := true }) (inGroup (fun g =>
          { g with ops := [{ seq := 0, cls := .ld, writes := [(64 * 3 + 63, 9)] }] }) s)) fun I =>
        I.c.strict && [Instr.iadd (w 5 3 2), .fadd (w 3 1 2), .popc ⟨3, 1, 0, false⟩, .ldW (mem (w 3 4 0)),
            .stW (mem (w 0 4 3))].all fun i =>
          !badRegister i I && (i.reads ++ i.writes).contains 3 && !I.g.aliased 3 && (I.maskOn (masked i)).getLsbD 63) &&
      (meets id fun I => [0x00, 0x20, 0x23].all (fun (n : Nat) => I.clear (.csrw ⟨BitVec.ofNat 7 n, 1, 0, 0, 0, false⟩)) &&
          !I.g.handling &&
        I.clear (.csrmvRead ⟨w 2 0 0, 0x140000⟩) && I.clear (.csrmvWrite ⟨w 0 2 0, 0x140000⟩) && xsetOk (I.csrmvValue ⟨w 0 2 0,
            0x140000⟩) &&
        I.clear (.trapret (ctl (w 0 0 0) 0)))) = true := by decide +kernel

theorem meets_IntegerResults : (meets id fun I => !I.arrayRuns && Spec.integer.all (fun p => I.clear (p.1 (w 127 127 0)) &&
    I.clear (p.1 (w 0 1 2))) &&
    Spec.immediate.all (fun p => I.clear (p.1 ⟨3, 1, 0, 31, false⟩) && wf (p.1 ⟨3, 1, 0, 31, false⟩)) &&
    Spec.longImmediate.all fun p => I.clear (p.1 (imm 3 1 0xFFFFFFFF))) = true := by decide +kernel

theorem meets_FloatResults : (meets id fun I => !I.arrayRuns && Spec.floating.all (fun p => I.clear (p.1 (w 3 1 2))) &&
    Spec.multiplying.all (fun p => I.clear (p.1 (w 3 1 2))) && Spec.accumulating.all (fun p => I.clear (p.1 (w 3 1 2))) &&
    I.clear (.fmal (imm 3 1 0x3F800000))) = true := by decide +kernel

/-- 2^24 + 1 lies halfway between two values; both neighbours are finite. -/
theorem meets_RoundNearestEven : ((Spec.fp32 (Spec.single (.fin false (2 ^ 24 + 1) 0))).isFin &&
    (Spec.fp32 0x4B800001).isFin) = true ∧
    Spec.single (.fin false (2 ^ 24 + 1) 0) = 0x4B800000 := by decide +kernel

theorem meets_LaneResults : (meets id fun I => Spec.unary.all (fun p => I.clear (p.1 ⟨3, 1, 3, false⟩)) &&
    Spec.rounding.all (fun p => I.clear (p.1 ⟨3, 1, 0, false⟩)) &&
    Spec.special.all (fun p => I.clear (p.1 ⟨3, 1, 0, false⟩)) && I.clear (.add64 (w 2 4 126)) &&
        I.clear (.lea (imm 2 4 1))) = true ∧
    (meets (fun s => (put [(9, 5, 1)] s).onGroup 1 fun g =>
        { g with clause := g.clause.map fun (c : Clause) => { c with header := c.header ||| 0x00240000 } }) fun I =>
      I.clear (.sel ⟨3, 1, 0, 2, 0, true⟩)) = true := by decide +kernel

theorem meets_CrossLaneResults : (meets id fun I => I.clear (.shflx (w 3 1 2)) && Spec.combining.all fun p =>
    I.clear (p.2.2.1 ⟨3, 1, 0, false⟩) && I.clear (p.2.2.2.1 ⟨3, 1, 0, false⟩) && I.clear (p.2.2.2.2 ⟨3, 1, 0,
        false⟩)) = true := by decide +kernel

theorem meets_VoteResults : (meets id fun I => [Instr.voteCount ⟨3, 1, 0, false⟩, .voteFirst ⟨3, 1, 0, false⟩, .voteBallot ⟨4,
    1, 0, false⟩, .voteAny ⟨0, 1, 0, false⟩,
    .voteAll ⟨0, 1, 0, false⟩].all (I.clear ·) && I.g.splits.length == 1) = true := by decide +kernel

theorem meets_CompareResults : (meets id fun I => I.clear (.ucmp (w 0 1 2)) && I.clear (.ufcmp (w 0 1 2)) &&
    (lanesOf (I.maskOn false)).head? == some 0) = true := by
  decide +kernel

/-- Every CSR that CSRR reads; in a handler, every one that CSRMV and CSRW write, each value at its bound. -/
theorem meets_CsrAccess : (meets id fun I => ((List.range 13).map (· + 0) ++ [0x10, 0x11, 0x12, 0x13, 0x14, 0x15, 0x16, 0x20,
    0x21, 0x22, 0x23]).all (fun n =>
      I.clear (.csrr ⟨4, BitVec.ofNat 7 n, 0, 0, 0, false⟩) && wf (.csrr ⟨4, BitVec.ofNat 7 n, 0, 0, 0, false⟩)) &&
          I.clear (.clock ⟨w 2 0 0, 0⟩) &&
      I.clear (.budget ⟨w 2 0 0, 0⟩) && I.clear (.setx ⟨w 0 0 0, 0xC0A020⟩) && wf (.setx ⟨w 0 0 0, 0xC0A020⟩)) = true ∧
    (meets (fun s => put [(1, 0, 1), (2, 0, 0xFFFFFFFF)] (inGroup (fun g => { g with handling := true }) s)) fun I =>
        I.g.handling &&
      [0x10, 0x16, 0x12, 0x20, 0x23, 0x11].all (fun (n : Nat) => I.clear (.csrw ⟨BitVec.ofNat 7 n, 1, 0, 0, 0, false⟩)) &&
      (I.xbar 0 2 0 &&& 0x00037F01) != I.g.mode && (I.xbar 0 3 0 &&& 0x00037F01) == I.g.mode &&
      [0x14, 0x15, 0x21, 0x22].all (fun (n : Nat) => I.clear (.csrmvRead ⟨w 4 0 0, BitVec.ofNat 24 (n * 65536)⟩) &&
          wf (.csrmvRead ⟨w 4 0 0, BitVec.ofNat 24 (n * 65536)⟩) &&
        I.clear (.csrmvWrite ⟨w 0 4 0, BitVec.ofNat 24 (n * 65536)⟩)) &&
      xsetOk (I.csrmvValue ⟨w 0 4 0, 0x140000⟩) && !xsetOk (I.csrmvValue ⟨w 0 2 0, 0x140000⟩)) = true := by decide +kernel

/-- A slot of every kind that the clauses tell apart: none, BF16, plain FP8, block formats. -/
theorem meets_SlotResults : (meets (fun s =>
    s.setTeam { bareTeam 0 1 with slots := [0, 1, 0x1213, 0x003, 0x219, 0x218, 0, 0] }) fun I =>
    I.clear (.cvtq (imm 3 2 0)) && I.clear (.cvtx (imm 3 2 0)) && I.clear (.amaxb (imm 4 2 0)) && I.clear (.pack (imm 3 2 3)) &&
        I.clear (.unpack (imm 3 2 3)) &&
    I.t.slots.map (fun f => (slotElem f, slotScale f)) == [(0, 0), (1, 0), (3, 1), (3, 0), (9, 1), (8, 1), (0, 0), (0,
        0)]) = true := by decide +kernel

theorem meets_UnassignedWords : (0x04000000 : Word).toNat / 2 ^ 26 ≠ 0 ∧ (1 : Word).toNat / 2 ^ 26 = 0 ∧
    (0xDC000000 : Word).toNat / 2 ^ 26 = 0x37 ∧
    (Spec.assigned.all fun p => decide (Spec.functOf (BitVec.ofNat 32 (p.1 * 2 ^ 26 + 0x7F * 8)) 0xFF000000 ∉ p.2)) = true ∧
    (let s := (State.reset.withFetchWord 32 1)
     s.agenda == [] && s.commands == [] && s.issue.any fun I => I.g.status == .windowed && I.free &&
      I.s.fetchInstr I.c I.t.place I.cl.pc == .ok 1 0 && decodeWords 1 0 == .error .encoding) = true := by decide +kernel

/-- The last aligned place of a buffer of 64 KiB, and one of memory. -/
theorem meets_Loads : (meets (fun s => only 3 (put [(4, 1, 16), (6, 0, 0xFFF0)] s)) fun I => lanesOf (I.maskOn false) == [0,
    1] && Spec.loads.all fun p =>
    let o := { mem (w 8 4 0) with imm := 0x2000 }
    let q := { mem (w 8 6 0) with space := 1 }
    I.clear (p.1 o) && I.clear (p.1 q) &&
      [0, 1].all (fun i => decide (I.fine .read p.2.1 (I.ea o.w o.imm i) (place I .read (I.ea o.w o.imm i)))) &&
          decide (I.s.freshL1 I.core) &&
      [0, 1].all fun i => decide ((I.ea q.w q.imm i).toNat % p.2.1 = 0 ∧
          (I.ea q.w q.imm i).toNat + p.2.1 ≤ I.t.footprint 1)) = true := by decide +kernel

theorem meets_Stores : (meets (fun s => only 3 (put [(4, 1, 16), (6, 0, 0xFFF0)] s)) fun I => lanesOf (I.maskOn false) == [0,
    1] && Spec.stores.all fun p =>
    let o := { mem (w 0 4 8) with imm := 0x2000 }
    let q := { mem (w 0 6 8) with space := 2 }
    I.clear (p.1 o) && I.clear (p.1 q) && !I.releaseWaits 0 0 &&
      [0, 1].all (fun i => decide (I.fine .write p.2 (I.ea o.w o.imm i) (place I .write (I.ea o.w o.imm i)))) &&
      [0, 1].all fun i => decide ((I.ea q.w q.imm i).toNat % p.2 = 0 ∧
          (I.ea q.w q.imm i).toNat + p.2 ≤ I.t.footprint 2)) = true := by decide +kernel

/-- Lane 1 fails: misaligned, unmapped (the first page beyond the mapped ones), over the end of a buffer. -/
theorem meets_AccessTraps : (meets (fun s => only 3 (put [(4, 1, 1), (8, 1, 0x40000000), (6, 1, 0xFFFC), (10, 1,
    0x10000)] s)) fun I =>
    [(Instr.ldH (mem (w 20 4 0)), Use.read, (2 : Nat), (4 : Reg)), (.stH (mem (w 0 4 0)), .write, 2, 4), (.ldD (mem (w 20 8 0)),
        .read, 8, 8), (.ldD { mem (w 20 6 0) with space := 1 }, .read, 8, 6)].all (fun x =>
      I.clear x.1 && !I.releaseWaits 0 0 && lanesOf (I.maskOn false) == [0, 1] &&
          decide (I.fine x.2.1 x.2.2.1 0 (place I x.2.1 0))) &&
    decide ((I.ea (w 20 4 0) 0 1).toNat % 2 ≠ 0) && I.xlat .read (I.ea (w 20 8 0) 0 1) == .bad 0x06 &&
    decide ((I.ea (w 20 6 0) 0 1).toNat % 4 = 0 ∧ (I.ea (w 20 6 0) 0 1).toNat < I.t.footprint 1 ∧
        I.t.footprint 1 < (I.ea (w 20 6 0) 0 1).toNat + 8) &&
    decide (I.t.footprint 1 ≤ (I.ea (w 20 10 0) 0 1).toNat)) = true := by decide +kernel

theorem meets_Atomics : (meets (only 3) fun I => let o := { mem (w 8 4 10) with imm := 0x2000 }
    (Spec.atomics ++ Spec.reductions).all (fun p => I.clear (p.1 o)) && !I.releaseWaits 0 0 && lanesOf (I.maskOn false) == [0,
        1] &&
      [0, 1].all fun i => decide (I.fine .update 4 (I.ea o.w o.imm i) (place I .update (I.ea o.w o.imm i)))) = true := by
          decide +kernel

/-- STC without and with a claim, LDE in both spaces; two lanes, at the end of a unit and of a buffer. -/
theorem meets_RunInstructions : (meets (fun s => only 5 (put [(6, 0, 0xFFF8)] (bytes 0x3000 (leBytes 8 0x4000) s))) fun I =>
    let o := { mem (w 12 4 11) with imm := 0x3000 }
      let p := place I .update 0x3000
      let t := I.s.writeHome I.core 0 true [(⟨0x3000, 8, p⟩, leBytes 8 0x4008)]
      I.clear (.stc o) && I.clear (.lde o) && !I.releaseWaits 0 0 && I.g.claim == none && lanesOf (I.maskOn false) == [0, 2] &&
          decide (I.fine .update 8 (I.ea o.w o.imm 0) p) &&
        ofLe (lookups 0 I.s.mem.bytes p.pa 8) == 0x4000 && decide (I.s.freshL1 I.core) &&
        [(0 : Nat), 2].all (fun i =>
            decide ({ I with s := t }.fine .update 4 (0x4000 + BitVec.ofNat 64 (2 * i)) (place { I with s := t } .update (0x4000 + BitVec.ofNat 64 (2 * i)))) &&
          decide (I.fine .read 4 (0x3000 + BitVec.ofNat 64 (2 * i)) (place I .read (0x3000 + BitVec.ofNat 64 (2 * i))))) &&
        decide ((I.ea (w 12 6 0) 0 0).toNat + 8 ≤ I.t.footprint 1)) = true ∧
    (meets (fun s => only 5 (inGroup (fun g => { g with claim := some (0x4000, 2) }) s)) fun I =>
        I.clear (.stc { mem (w 12 4 11) with imm := 0x3000 }) && I.g.claim == some (0x4000, 2) &&
      !I.g.handling && [0x4000, 0x4004].all fun a => decide (I.fine .update 4 a (place I .update a))) = true := by
          decide +kernel

def aReq : Req :=
  { src := 0, srcCtx := 0, dstCtx := 0, tag := 9, rank := 1, kind := .rst, ctr := 0, sub := 0, parts := [], inc := 1, contrib := none }

/-- An operation of group 1 that holds a release at domain scope up. -/
def inFabric (s : State) : State := { s with fabric := [{ oid := 9, ctx := 0, gid := 1, seq := 0, lanes := 1, req := aReq, members := [{ rank := 1, dev := 1, ctx := 0, coord := 0, owed := 1 }],
                                                          place := ⟨0, 0, 0⟩, cls := 0, lineage := 0, pc := 0, funct := 0 }] }

theorem meets_CacheInstructions : (meets id fun I => [Instr.pref (mem (w 1 4 0)), .cclean (mem (w 0 4 8)),
    .cclean (mem (w 1 4 8)), .cinv (mem (w 0 4 8)), .cinv (mem (w 1 4 8)), .cflush (mem (w 0 4 8)),
      .fence { mem (w 0 0 0) with order := 1, scope := 3 }].all (I.clear ·) && !I.releaseWaits 3 6) = true ∧
    (meets inFabric fun I => I.clear (.fence { mem (w 0 0 0) with order := 3, scope := 6 }) && I.releaseWaits 3 6) = true := by
        decide +kernel

/-- Memory whose page at 0x2000_0000 has cells. -/
def celled (s : State) : State := bytes 0x20008 (leBytes 8 (2 ^ 30 + 11)) (bytes 0x10008 (leBytes 8 0x20001) s)

theorem meets_CellInstructions : (meets (fun s => only 3 (put [(4, 1, 0x100), (5, 0, 0), (5, 1, 0), (8, 0,
    0)] (celled s))) fun I =>
    let o := { mem (w 10 4 8) with imm := 0 }
    let p := fun (i : Nat) => place I .update (0x40000000 + BitVec.ofNat 64 (64 * i))
    [Instr.defer o, .resolve o, .cellfail o, .cellq o].all (I.clear ·) && [0, 1].all fun i =>
      I.xlat .update (0x40000000 + BitVec.ofNat 64 (64 * i)) == .ok (p i) && (p i).cell && !I.s.unitBad ((p i).pa / 64) &&
          !I.s.busy none ((p i).pa / 64) &&
        !I.s.busy (some 0) ((p i).pa / 64) && decide ((p i).pa % 64 = 0)) = true := by decide +kernel

/-- Group 1 in mode M, its tile from v16 on, 16 columns. -/
def inM : State → State := inGroup fun g => { g with mode := 0x00001001 }

/-- Group 2, of the same team. -/
def second (f : Group → Group := id) (s : State) : State := { s with groups := s.groups ++ [f { bareGroup 1 with gid := 2, index := 1 }] }

def owned (g : Nat) : State → State := inArray fun a =>
    { a with owner := some { who := .group g, cls := 0, since := 0, raised := 0 } }

theorem meets_MatrixModes :
    (meets id fun I => I.clearMat (.modeM (mat (w 112 0 0))) && decide (112 + 16 ≤ I.g.nregs) && !I.g.inM && I.g.ports == [] &&
        I.clearMat (.modeV (mat (w 0 0 0))) &&
      I.clearMat (.mresv (mat (w 0 0 0))) && I.clearMat (.mbaton (mat (w 0 5 0)))) = true ∧
    (meets (fun s => owned 1 (second (fun g => { g with mode := 0x00001001 }) (inM (put [(5, 0, 1)] s)))) fun I => I.g.inM &&
        I.clearMat (.modeM (mat (w 112 0 0))) &&
      I.clearMat (.modeV (mat (w 0 0 0))) && I.g.ops == [] && I.g.deferred == [] && I.clearMat (.mresv (mat (w 0 0 0))) &&
          !I.c.fifo && I.clearMat (.mbaton (mat (w 0 5 0))) &&
      I.clearMat (.mstat (mat (w 3 0 0))) && (let a := I.s.array I.t.place
        decide (a.resvs.length < 16) && a.owner.map Resv.who == some (.group 1) && a.batons == [] && a.posted == [] &&
            a.resvs == []) &&
      (I.g.read 5 I.lane0).toNat == 1 && I.g.index == 0 && (I.s.groups.find? fun g => g.team == I.t.tid && g.index == 1 &&
          g.inM) == I.s.group 2 && (I.s.group 2).isSome) = true ∧
    (meets (fun s => owned 2 (inM s)) fun I => I.g.inM && I.clearMat (.mbaton (mat (w 0 5 0))) &&
        (I.s.array I.t.place).owner.map Resv.who != some (.group 1)) = true := by
  decide +kernel

/-- A product of BF16 by BF16 in mode M: slot f1, A and B at the start of the buffers, an arrival at quire 15. -/
def product (d : Reg) : MatOp := { mat (w d 5 6) with k := 1, slotA := 1, slotB := 1 }
def ready (s : State) : State := owned 1 (inM (inTeam (fun t => { t with slots := [0, 1, 0x1213] }) s))

theorem meets_MatrixPosts :
    (meets ready fun I => [product 0, product 0x4F].all (fun o => I.clearMat (.mma o) && I.clearMat (.gmma o) && !I.modeBad o &&
        !I.latchBad o && !I.slotsBad o &&
        I.operandTrap o (I.bBase o) == .ok) && decide (15 < I.t.quires.length) && (let a := I.s.array I.t.place
        decide (a.posted.length < 16) && a.owns I.g.gid) && I.slotsBad { product 0 with slotB := 2 } &&
            !I.latchBad { product 0 with slotB := 2 } &&
        I.latchBad { product 0 with srcA := 1 } && I.modeBad { product 0 with n := 1 }) = true ∧
    (meets (fun s => ready s |>.setTeam { bareTeam 0 1 with slots := [0, 1], abuf := [(0x100, 2), (0x111, 7), (0x120, 7), (0x121, 57)] }) fun I =>
      let I := { I with g := (I.g.write 6 0 0x100) }
      I.clearMat (.gmma (product 0)) && !I.modeBad (product 0) && !I.latchBad (product 0) && !I.slotsBad (product 0) &&
        (I.segments (product 0)).1 == .ok && (I.segments (product 0)).2.map (fun x => (x.first, x.count)) == [(0, 7), (7,
            57)] && I.g.mthresh == 8) = true := by decide +kernel

theorem meets_MatrixVectorPath :
    (meets (inTeam fun t => { t with slots := [0, 1] }) fun I => let o := { product 16 with n := 3 }
      I.clearMat (.dotb o) && !I.arrayRuns && !I.latchBad o && !I.slotsBad o && I.operandTrap o 0 == .ok && !I.accWaits &&
          (List.range 64).all fun j => !I.g.aliased (16 + j)) = true ∧
    (meets (fun s => put [(6, 0, 64), (7, 0, 61440)] (ready s)) fun I => I.clearMat (.mfill (mat (w 0 5 0))) &&
        I.clearMat (.mfill (mat (w 0 6 0))) && !I.modeBad (mat (w 0 5 0)) &&
      !I.accWaits && decide ((I.g.read 7 I.lane0).toNat + 16 * 256 ≤ I.t.abytes) &&
          decide ((I.g.read 6 I.lane0).toNat % 128 ≠ 0) &&
      [{ mat (w 0 7 0) with slotA := 1 }, { mat (w 0 0 0) with slotA := 1, srcA := 1 }].all fun o => I.clearMat (.mdrain o) &&
          !I.modeBad o && !I.latchHeld o &&
        slotScale (I.t.slots.getD o.slotA.toNat 0) == 0 &&
            decide ((I.g.read o.w.a.toNat I.lane0).toNat + operandBytes (I.t.slots.getD 1 0) 16 64 ≤ I.t.abytes)) = true := by
  decide +kernel

/-- A return address at the end of memory, one that is no multiple of 4, a condition that holds and one that does not. -/
theorem meets_Branches : (meets (put [(8, 0, 0x3FFFFFFC), (6, 0, 0x1002), (7, 63, 1)]) fun I =>
    [Instr.br (ctl (w 15 0 0) 4), .br (ctl (w 16 0 0) 0xFFFFFF), .brz (ctl (w 0 7 0) 4), .brnz (ctl (w 0 7 0) 4),
        .call (ctl (w 0 0 0) 4), .call (ctl (w 126 0 0) 4),
      .ret (ctl (w 0 8 0) 0), .jmpr (ctl (w 0 6 0) 4)].all (I.clear ·) && Spec.condition I.sp.cc 16 &&
          !Spec.condition I.sp.cc 15 &&
    decide (Spec.pairValue I 0 8 I.lane0 % 4 = 0) && decide ((Spec.pairValue I 0 6 I.lane0 + 4 * 4 : Int) % 4 ≠ 0) &&
    decide (∃ i ∈ lanesOf (I.maskOn false), I.xbar 0 7 i ≠ 0) && decide (¬∃ i ∈ lanesOf (I.maskOn false),
        I.xbar 0 5 i ≠ 0)) = true := by decide +kernel

def aJoin (k : Nat) : Join := { idx := k, merge := 0xFFC, parent := none, kind := .split, count := 2 }

/-- One split of group 1, its lanes and join record, with others beside it. -/
def splitAs (lanes : LaneSet) (join : Option Nat) (more : List Split) (joins : List Join) : State → State :=
  inGroup fun g => { g with splits := g.splits.map (fun (x : Split) => { x with lanes := lanes, join := join }) ++ more, joins := joins }

/-- SPLIT: no side, the other side, both with the first record free, both with four splits, all 16 records used. MERGE: no
record, another's record, two to come, the last, a serial one. -/
theorem meets_SplitsAndMerges :
    let o := ctl (w 0 7 0) 4
    let T := fun (I : Issue) => I.active &&& laneSet fun i => I.xbar 0 7 i != 0
    let other := fun (k : Nat) => ({ label := k, pc := 0x1010, lanes := BitVec.ofNat 64 (2 ^ k) } : Split)
    (meets id fun I => I.clear (.split o) && T I == 0 && I.clear (.merge o) && I.sp.join == none) = true ∧
    (meets (fun s => put [(7, 5, 1)] (splitAs 0x20 none [] [] s)) fun I => I.clear (.split o) && T I == 0x20 &&
        I.active &&& ~~~T I == 0) = true ∧
    (meets (fun s => put [(7, 5, 1)] (splitAs 0x30 none [] [] s)) fun I => I.clear (.split o) && T I == 0x20 &&
        I.active &&& ~~~T I == 0x10 && I.g.joins == [] && decide (I.g.splits.length < 4)) = true ∧
    (meets (fun s => put [(7, 5, 1)] (splitAs 0x30 none [other 1, other 2, other 3] ((List.range 15).map aJoin) s)) fun I =>
        I.clear (.split o) && T I == 0x20 && I.g.splits.length == 4 &&
      I.g.joins.all (fun j => j.idx != 15) && (List.range 15).all fun k => I.g.joins.any fun j => j.idx == k) = true ∧
    (meets (fun s => put [(7, 5, 1)] (splitAs 0x30 none [] ((List.range 16).map aJoin) s)) fun I => I.clear (.split o) &&
        T I == 0x20 && (List.range 16).all fun k => I.g.joins.any fun j => j.idx == k) = true ∧
    (meets (splitAs 1 (some 3) [] [{ aJoin 3 with merge := 0 }]) fun I => I.clear (.merge o) && (I.g.joins.find? fun j =>
        j.idx == 3).any fun j => j.merge != I.cl.addr) = true ∧
    ([{ aJoin 3 with count := 2 }, { aJoin 3 with count := 1 },
        { aJoin 3 with kind := .serial, count := 1, rest := 2 }].all fun j =>
      meets (splitAs 1 (some 3) [] [j]) fun I => I.clear (.merge o) && I.sp.join == some 3 && I.g.joins.find? (fun x =>
          x.idx == 3) == some j && j.merge == I.cl.addr) = true := by
  decide +kernel

/-- Sleeps of 0, 1 and 4096 cycles, a sleep that is over; WAITC of each class with one operation out and none, and with a
deferred fault. -/
theorem meets_Waits : (meets id fun I => [Instr.yield (ctl (w 0 0 0) 0), .yieldc (ctl (w 0 0 0) 4), .sleep (ctl (w 0 0 0) 0),
    .sleep (ctl (w 0 0 0) 4096)].all (I.clear ·) && I.g.prog == 0 && !I.cl.marker &&
      I.g.deferred == [] && (List.range 6).all fun k => I.clear (.waitc (ctl (w 0 0 0) (BitVec.ofNat 24 (256 * k))))) = true ∧
    (meets (inGroup fun g => { g with prog := 1 }) fun I => I.clear (.sleep (ctl (w 0 0 0) 1)) && I.g.prog == 1) = true ∧
    (meets (inGroup fun g =>
        { g with ops := [{ seq := 0, nth := 0, cls := .ld }], issued := [(.ld, 2)], acqs := [(.ld, 1)], deferred := [{ seq := 1, cls := .ld, nth := 1, info := { cause := 6, addr := 0 } }] }) fun I =>
      I.clear (.waitc (ctl (w 0 0 0) 0)) && I.g.counter .ld == 1 && I.clear (.waitc (ctl (w 0 0 0) 1)) &&
          I.g.issuedOf .ld == 2 && I.g.deferred.length == 1) = true := by decide +kernel

def aResume : Resume := { clause := some { header := 0x1E000000, addr := 0xFFC, split := 0, pc := 0x1000 }, epc := 0x1000, split := 0, lanes := ~~~0, join := none, byInstr := true, len := 4,
                          info := { cause := 0x18, addr := 0 } }

/-- One team of one group, of 128 registers. -/
def aRecord : LaunchRec :=
  { image := 0x8000, arg := 0, colophon := 0, countAddr := 0, count := 1, rows := 1, cols := 1, groups := 1, regs16 := 8, quires := 0, bars := 0, flags := 0, abytes := 0, wbytes := 0,
    slots := List.replicate 8 0, deps := [], event := 0, reserved := false }

def aLaunch : Launch := { lid := 1, ctx := 0, origin := .host, st := .running, cls := 0, rcd := aRecord, clusters := 1, placed := 1 }
def launched (s : State) : State := { s with launches := [aLaunch] }

/-- A prepared machine is as said. -/
def stands (f : State → State) (p : State → Bool) : Bool := p (f (box .nop))

def trapped : State → State := fun s =>
    { inGroup (fun g => { g with status := .trapped, entry := .raised, resume := some aResume }) (launched s) with ev := { g := 1 } }

theorem meets_TrapsAndReturns : (meets id fun I => I.clear (.trap (ctl (w 0 0 0) 0xFFFFFF)) &&
    I.clear (.bkpt (ctl (w 0 0 0) 0))) = true ∧
    (meets (inGroup fun g => { g with handling := true, resume := some aResume, epc := 0x1000 }) fun I =>
        I.clear (.trapret (ctl (w 0 0 0) 0)) && I.g.handling && aResume.byInstr &&
      aResume.clause.isSome && I.g.epc == aResume.epc && !I.cl.marker) = true ∧
    ([(trapped, true, (0 : Addr)), (fun s => inGroup (fun g =>
        { g with ops := [{ seq := 0, cls := .ld, writes := [(64, 0)] }] }) (trapped s), false, 0),
        (fun s => inContext (fun c => { c with handler := 0x2000 }) (trapped s), true, 0x2000)].all fun x => stands x.1 fun s =>
      (s.group s.ev.g).any fun g => g.status == .trapped && g.entry == .raised && g.resume == some aResume &&
          g.drained == x.2.1 && !g.double && s.evals == [] &&
        (s.launch 1).any (fun l => l.origin == .host) && (s.home g).any fun h => h.2.handler == x.2.2 &&
            !h.2.forwards 0x18) = true := by decide +kernel

theorem meets_ExitAndSpawn : (meets launched fun I => I.clear (.exit (ctl (w 0 0 0) 0)) && I.g.ports == [] && [Counter.ld, .sfu,
    .mma, .cpy, .fab, .spn].all (fun c => I.g.counter c == 0) &&
      I.g.deferred == [] && I.g.splits.length == 1 && I.sp.join == none && I.s.barriers == [] &&
          (I.s.launch I.t.launch).any fun l => l.origin == .host) = true ∧
    (meets (inGroup fun g => { g with ops := [{ seq := 0, cls := .spn }] }) fun I => I.clear (.exit (ctl (w 0 0 0) 0)) &&
        I.g.ports == [] && I.g.counter .spn == 1) = true ∧
    (meets (splitAs 1 none [{ label := 1, pc := 0x1010, lanes := 2 }] []) fun I => I.clear (.exit (ctl (w 0 0 0) 0)) &&
        I.sp.join == none && I.g.splits.length == 2) = true ∧
    ([(2 : Nat), 4].all fun d => meets (fun s => put [(8, 0, 0x00040F8F), (9, 0, 0x20001000)] (inTeam (fun t =>
        { t with depth := d }) s)) fun I => I.clear (.spawn (ctl (w 0 8 10) 12)) &&
      I.t.depth == d && Spec.pairValue I 0 8 I.lane0 / 2 ^ 7 % 2 == 1 &&
          (let v := Spec.pairValue I 0 8 I.lane0 - 2 ^ 7 - 15 * 2 ^ 8
        decide (v / 2 ^ 62 = 0 ∧ v / 2 ^ 45 % 8 = 0 ∧ v / 2 ^ 21 % 2 ^ 11 = 0 ∧ v / 2 ^ 7 % 2 = 0 ∧ v / 2 ^ 48 % 2 ^ 14 = 8192 ∧
            v / 2 ^ 32 % 2 ^ 13 = 4096 ∧ v / 2 ^ 14 % 32 = 16 ∧ v / 2 ^ 8 % 64 ≤ 32))) = true := by
  decide +kernel

theorem meets_Spawn : ([(2 : Nat), 4].all fun d => meets (fun s => put [(8, 0, 0x0004200F), (9, 0,
    0x20001000)] (inTeam (fun t => { t with depth := d }) s)) fun I => I.clear (.spawn (ctl (w 0 8 10) 12)) &&
      I.t.depth == d && (let v := Spec.pairValue I 0 8 I.lane0
        decide (v / 2 ^ 62 = 0 ∧ v / 2 ^ 45 % 8 = 0 ∧ v / 2 ^ 21 % 2 ^ 11 = 0 ∧ v / 2 ^ 7 % 2 = 0 ∧ v / 2 ^ 48 % 2 ^ 14 = 8192 ∧
            v / 2 ^ 32 % 2 ^ 13 = 4096 ∧ v / 2 ^ 14 % 32 = 16 ∧ v / 2 ^ 8 % 64 = 32))) = true := by
  decide +kernel

/-- A barrier of group 1's team at an index. -/
def atBarrier (b : Barrier → Barrier) (x : Nat) : State → State := fun s =>
    { s with barriers := [b { level := 0, owner := 1, idx := x, gen := 5 }] }
def pendingOn (n : Nat) : State → State := inGroup fun g => { g with pending := [(0, 15, n)] }

/-- At the last barrier of a team: a fresh one, one arrived at, one arrived at twice, one with a mask; alone and with a second
group; nothing pending, an earlier and the open generation pending; before and after its own arrival. -/
theorem meets_FixedBarriers :
    let o := sync (w 0 0 0) 0 15
    let all := fun (I : Issue) => [Instr.bararv o, .barwait o, .barsync o, .gsync { o with w := w 0 1 0 }].all (I.clear ·)
    (meets (put [(1, 0, 1)]) fun I => all I && decide (15 < I.t.nbars) && I.g.prog == 0 && I.g.pendingGen 0 15 == none &&
        (I.s.barrier 0 1 15).arrived == [] &&
      (I.s.members 0 1).length == 1 && !decide (∀ i ∈ lanesOf I.active, I.g.read 1 i = 1)) = true ∧
    ([atBarrier (fun b => { b with arrived := [1] }) 15, atBarrier (fun b => { b with arrived := [1], early := [1] }) 15,
        atBarrier (fun b => { b with arrived := [2], mask := some 3 }) 15].all fun f =>
      meets (fun s => f (second id s)) fun I => all I && (I.s.barrier 0 1 15).gen == 5 &&
          (I.s.members 0 1).length == 2) = true ∧
    ([(4 : Nat), 5].all fun n => meets (fun s => pendingOn n (atBarrier id 15 s)) fun I => all I &&
        I.g.pendingGen 0 15 == some n) = true ∧
    (meets (inGroup fun g => { g with prog := 1 }) fun I => all I && I.g.prog == 1) = true ∧
    ([(1 : Word), 3].all fun m => meets (fun s => only 1 (put [(1, 0, m)] (inTeam (fun t =>
        { t with ngroups := 2 }) (second id s)))) fun I => all I &&
      decide (∀ i ∈ lanesOf I.active, I.g.read 1 i = m) && decide (m.toNat < 2 ^ I.t.ngroups) && m.getLsbD I.g.index &&
          (I.s.barrier 0 1 15).arrived == [] && (I.s.barrier 0 1 15).early == []) = true ∧
    (meets (inTeam fun t => { t with nbars := 15 }) fun I => all I && I.t.nbars == 15) = true ∧
    (meets (inTeam fun t => { t with grid := true }) fun I => I.clear (.bararv (sync (w 0 0 0) 2 3)) &&
        I.clear (.barsync (sync (w 0 0 0) 1 7)) && I.t.grid) = true := by decide +kernel

/-- Quire 15 of the team, of 16. -/
def atQuire (q : QSide) : State → State := inTeam fun t => { t with quires := t.quires.set 15 { full := q } }

/-- SBEXP at 0 and at the most bytes, SBARV with one owed and none, a phase that waits and one that does not, a broken side, a
quire that the team has not. -/
theorem meets_Quires :
    let o := { sync (w 0 1 2) 0 15 with side := false }
    let all := fun (I : Issue) => [Instr.sbexp o, .sbarv o, .sbwait o, .sbtry { o with w := w 3 1 0 }].all (I.clear ·) &&
        I.g.ops == []
    ([{ owed := 1 }, { owed := 0, bytes := 2 ^ 31 - 1 }, { owed := 1, bytes := -4 },
        { owed := 1, phase := true }].all fun (q : QSide) => meets (atQuire q) fun I => all I &&
        decide (15 < I.t.quires.length) &&
      (I.t.quires.getD 15 {}).full == q && !q.broken && !I.g.woken && decide (q.bytes + 0 ≤ 2 ^ 31 - 1)) = true ∧
    (meets (fun s => inGroup (fun g => { g with woken := true }) s) fun I => all I && I.g.woken) = true ∧
    (meets (atQuire { broken := true }) fun I => all I && (I.t.quires.getD 15 {}).full.broken && !I.g.woken) = true ∧
    (meets (inTeam fun t => { t with quires := List.replicate 15 {} }) fun I => all I && I.t.quires.length == 15) = true := by
        decide +kernel

/-- A copy of the last bytes of a buffer, one a byte beyond it, one of nothing; 65535 rows and 65536; a quire that is there and one
that is not; a CHAIN list in order at its last page of memory, and one out of order; DECODE's parameters, in order and not. -/
theorem meets_CopyCommands :
    let o := { xfer (w 8 4 6) with dst := 1 }
    let all := fun (I : Issue) => [Instr.cpy o, .cpy2d o, .gath2d o, .scat2d o, .cpyw o, .chain { o with dst := 0 },
        .decode o].all (I.clear ·) && (lanesOf (I.maskOn false)).head? == some 0
    ([(0 : Word), 16, 17].all fun n => meets (put [(4, 0, 0xFFF0), (6, 0, 0x3000), (8, 0, n), (9, 0, 65535), (8, 1,
        n)]) fun I => all I && (I.g.read 8 0).toNat == n.toNat &&
      (n == 17 || decide ((Spec.pairValue I 0 4 0 + (n.toNat : Int)) ≤ I.t.footprint 1)) && (n != 17 ||
          decide ((I.t.footprint 1 : Int) < Spec.pairValue I 0 4 0 + 17)) && decide ((I.g.read 9 0).toNat ≤ 65535)) = true ∧
    (meets (put [(8, 0, 1), (9, 0, 65536)]) fun I => all I && (I.g.read 9 0).toNat == 65536) = true ∧
    (meets (inTeam fun t => { t with quires := [] }) fun I => I.clear (.cpy { o with q := true, quire := 0 }) &&
        I.t.quires.length == 0) = true ∧
    ([leBytes 4 3 ++ [1, 0, 2, 0, 1, 0, 0, 0, 0, 0, 0x80, 0x3F], [1, 0, 0, 0, 9, 0, 0, 0]].all fun bs => meets (fun s =>
        bytes 0x3000 bs (put [(8, 0, 0x3000), (4, 0, 0x4002), (6, 0, 0x5000)] s)) fun I =>
      I.clear (.chain { o with dst := 0 }) && (List.range 9).all (fun k =>
          decide (I.fine .read 8 (0x3000 + BitVec.ofNat 64 (8 * k)) (place I .read (0x3000 + BitVec.ofNat 64 (8 * k))))) &&
        decide (I.s.freshL1 I.core)) = true ∧
    ([(0x00010000 : Word), 0x00000000].all fun d1 => meets (put [(4, 0, 16), (8, 0, 32), (9, 0, d1), (10, 0, 256)]) fun I =>
        I.clear (.decode o) && (I.g.read 9 0) == d1 &&
      decide ((Spec.pairValue I 0 4 0 % 16 = 0) ∧ Spec.pairValue I 0 4 0 + 256 ≤ I.t.footprint 1)) = true ∧
    (meets (put [(4, 0, 8), (8, 0, 32), (9, 0, 0x00010000)]) fun I => I.clear (.decode o) &&
        decide (Spec.pairValue I 0 4 0 % 16 ≠ 0)) = true := by decide +kernel

/-- Engine command 7 of group 1. -/
def anEngine : Engine :=
  { cid := 7, kind := .copy, ctx := 0, gid := 1, seq := 0, team := 1, place := ⟨0, 0, 0⟩, cls := 0, lineage := 0, srcSpace := 0, dstSpace := 0, runs := [⟨0x3000, 0x4002, 6⟩],
    rest := [⟨0x3000, 0x4002, 6⟩], teams := [1] }
def engined (e : Engine) (args : EvArgs := { cmd := 7, n := 1 }) (s : State) : State :=
  { inGroup (fun g => { g with ops := [{ seq := 0, cls := .cpy, ref := 7 }] }) s with engines := [e], ev := args }

/-- A command from its start, through CHAIN, at its last word, and inside a unit that it has begun; between buffers; and one
with nothing left. -/
theorem meets_CopyProgress : ([anEngine, { anEngine with kind := .chain, inBytes := 4, outBytes := 2 },
    { anEngine with rest := [⟨0x3004, 0x4006, 2⟩] },
    { anEngine with rest := [⟨0x3001, 0x4002, 6⟩], cur := some ⟨0x3003, 0x4004, 4⟩, got := [9] }].all fun e => stands (engined e) fun s =>
      s.engine 7 == some e && s.remoteOp 7 == none && e.st == .running && e.dead == none && !e.channel &&
          (s.context 0).any fun c => c.st == .active && e.rest.all fun r =>
        (List.range ((r.len / e.outBytes) * e.inBytes)).all (fun k => match s.translate c 0 (coreIdx ⟨0, 0,
            0⟩) .read (r.src + BitVec.ofNat 64 k) with
          | .ok p => p.pa == r.src.toNat + k && !p.host && !p.cell && !s.unitBad (p.pa / 64) | _ => false) &&
        (List.range r.len).all (fun k => match s.translate c 0 (coreIdx ⟨0, 0,
            0⟩) .write (r.dst + BitVec.ofNat 64 k) with
          | .ok p => p.pa == r.dst.toNat + k && !p.host && !p.cell && !s.unitBad (p.pa / 64) | _ => false)) = true ∧
    (stands (engined { anEngine with srcSpace := 1, dstSpace := 2, runs := [⟨0xFFFA, 0x10, 6⟩], rest := [⟨0xFFFA, 0x10, 6⟩] }) fun s =>
        (s.engine 7).isSome && (s.team 1).isSome) = true ∧
    (stands (engined { anEngine with rest := [] }) fun s => (s.engine 7).any (fun e => e.rest == []) &&
      (s.group 1).any fun g => g.ops.all fun p => p.seq == 0) = true := by
        decide +kernel

def ported (dir : PortDir) (f : Port → Port := id) (s : State) : State := inGroup (fun g =>
    { g with ports := [f { reg := 127, dir := dir, cmd := 7 }] }) s

/-- Free and bound ports; a length that is no multiple of 4, an aliased register, a misaligned address; the ends of both kinds;
a full chunk, a rest, an empty closed stream, and one that has to wait; a write port that was given a word. -/
theorem meets_QueuePorts :
    let o := { xfer (w 127 4 6) with src := 1 }
    ([(0xFFFC, 4), (0, 2), (2, 4)].all fun (x : Word × Word) => meets (put [(4, 0, x.1), (6, 0, x.2)]) fun I =>
        I.clear (.qbindR o) && I.clear (.qbindW { o with src := 0, dst := 1 }) && I.clear (.qend (xfer (w 127 0 0))) &&
      I.g.port 127 == none && !I.g.aliased 127 && decide (Spec.pairValue I 0 4 0 + (I.xbar 0 6 0).toNat ≤ I.t.footprint 1) &&
          I.xbar 0 6 0 == x.2) = true ∧
    (meets (inGroup fun g => { g with mode := 0x00017001 }) fun I => I.clear (.qbindR o) && I.g.aliased 127) = true ∧
    ([PortDir.read, .write].all fun d => meets (fun s => ported d id (engined anEngine {} s)) fun I =>
        I.clear (.qend (xfer (w 127 0 0))) && (I.g.port 127).isSome && (I.s.engine 7).any (fun e => e.gid == 1 &&
        e.dead == none) &&
      !I.g.pendingWrite 127 (0 - 1)) = true ∧
    ([(List.replicate 256 1, [⟨256, 256, 44⟩], none), (List.replicate 4 1, [⟨4, 4, 2⟩], none), ([], [], none),
        (List.replicate 4 1, [⟨4, 4, 2⟩], some 0x18)].all fun (x : List Byte × List Run × Option Byte) => stands (fun s => ported .read (fun p =>
        { p with wanted := true }) (engined { anEngine with kind := .readPort, dstSpace := 3, data := x.1, runs := [⟨0, 0, 300⟩], rest := x.2.1, dead := x.2.2 } { g := 1, port := 127 } s)) fun s =>
      (s.engine 7).any (fun e => e.ready == x.1 && e.dead == x.2.2) &&
      (s.group 1).any fun g => (s.home g).isSome && (g.port 127).any fun p => p.wanted && p.taken == none) = true ∧
    (stands (fun s => ported .write (fun p =>
        { p with given := [(63, 9)] }) (engined { anEngine with kind := .writePort, srcSpace := 3 } { g := 1, port := 127 } s)) fun s =>
      (s.group 1).any fun g => (s.home g).isSome && (g.port 127).any fun p => p.given != [] &&
          !g.pendingWrite 127 (0 - 1)) = true := by decide +kernel

/-- Node input queue 3 of 4 entries. -/
def aQueue : NodeQueue := { num := 3, kernel := 0x9000, capacity := 4, coalesce := 8, timeout := 1, storage := 0 }
def queued (q : NodeQueue) : State → State := inContext fun c => { c with queues := [q] }

/-- A kernel image at 0x8000, and a launch record of it at 0x9000, as a queue's kernel. -/
def imaged (s : State) : State :=
  (bytes 0x9000 (leBytes 8 0x8000 ++ List.replicate 24 0 ++ [1, 0, 0x11, 1, 2]) (bytes 0x8000 ([0, 1, 0, 0, 1] ++
      List.replicate 27 0 ++ [0x40]) s)).setDev
    { s.dev with signature := 0x1000000000000000 }

/-- A driver command: opcode, sub-operation, context, tag 5, and operands as byte, length and value. -/
def cmd (op sub ctx : Nat) (fs : List (Nat × Nat)) : Entry :=
  BitVec.ofNat 512 (op + 2 ^ 8 * sub + 2 ^ 16 * ctx + 2 ^ 64 * 5 + (fs.map fun f => 2 ^ (8 * f.1) * f.2).sum)
def commanding (e : Entry) (s : State) : State := { s with ev := { entry := e } }

/-- No queue, a closing one, room, a full queue, older waiters; a record that has waited for its time; a close of an empty queue, of
one with a gathering, and a second close. -/
theorem meets_NodeQueues :
    let o := xfer (w 0 4 16)
    let lanes := fun (f : State → State) (s : State) => only 3 (put [(4, 0, 3)] (f s))
    let both := fun (I : Issue) => I.clear (.enq o) && I.clear (.enqTry o) && (List.range 16).all (fun k =>
        (I.g.port (16 + k)).isNone) && I.xbar 0 4 0 == 3 && I.g.enqDone == 0
    (meets (lanes id) fun I => both I && I.c.queue 3 == none) = true ∧
    ([{ aQueue with closing := true }, aQueue, { aQueue with recs := List.replicate 3 ⟨[], 0⟩ },
        { aQueue with parked := [9] }].all fun q => meets (lanes (queued q)) fun I =>
      both I && I.c.queue 3 == some q && decide (q.recs.length + 2 < q.coalesce) && (lanesOf (I.maskOn false)).length == 2 &&
          q.free == 4 - q.recs.length) = true ∧
    (stands (fun s => { inGroup (fun g => { g with status := .parked .enq }) (queued { aQueue with parked := [1] } s) with ev := { g := 1 } }) fun s =>
      (s.group 1).any fun g => g.status == .parked .enq && (s.home g).any fun h => h.2.queues.any fun q =>
          q.parked.head? == some 1 && decide (0 < q.free)) = true ∧
    (stands (fun s => { imaged (queued { aQueue with recs := [⟨[], 0⟩] } s) with cycle := 100000, ev := { queue := 3 } }) fun s => (s.context 0).any fun c => (c.queue 3).any fun q =>
      decide (0 + q.timeout * Config.cyclesPerUs ≤ s.cycle) && !q.ended && c.st == .active &&
        let r := launchRec (s.devRead c q.kernel 128)
        match s.prepareUnit c r r.unit .node s.dev.signature none with | .ok p => p.entry == 0x8040 | _ => false) = true ∧
    ([aQueue, { aQueue with gatherings := [⟨[⟨[], 0⟩], 5⟩] }, { aQueue with closed := true }].all fun q => stands (fun s =>
        commanding (cmd 0x17 0 0 [(16, 3)]) (queued q s)) fun s =>
      decide (s.commanded 0x17 0 true [(16, 2)]) && (s.context (cmdCtx s.ev.entry)).any fun c =>
          c.queue (cmdField s.ev.entry 16 2) == some q) = true := by decide +kernel

/-- Two devices on an axis, this one at 0, with the link to the other as said; patterns: slot 0 as zero, slot 1 the other, slot 2 all. -/
def paired (st : LinkState) (s : State) : State :=
  { inGroup (fun g => { g with patterns := [(0, 0, 0), (1, 0, 0), (0x4000, 0, 0), (0x00800000, 0, 0)] })
      (inContext (fun c => { c with map := { axes := 1, sizes := [2, 1, 1, 1, 1], entries := [(0, 0), (1, 0)] } }) s) with
    links := [{ peer := 1, rx := false, st := st }] }

theorem meets_PatternResults : (meets (fun s => put [(16, 0, 0x8081), (20, 0, 2)] (paired .up s)) fun I =>
    let o := fab (w 3 16 0)
    I.clear (.pset o) && decide (Spec.patternFits I.c.map (I.g.xbar 0 16 0, I.g.xbar 0 17 0, I.g.xbar 0 18 0)) &&
        !decide (Spec.patternFits I.c.map (I.g.xbar 0 20 0, I.g.xbar 0 21 0, I.g.xbar 0 22 0)) &&
    I.clear (.pcount { o with w := w 3 0 0 }) && I.clear (.coord { o with w := w 4 0 0 }) && [(0 : Nat), 1, 2].all (fun k =>
        decide (Spec.patternFits I.c.map (I.g.patterns.getD k (0, 0, 0)))) &&
    !decide (Spec.patternFits I.c.map (I.g.patterns.getD 3 (0, 0, 0))) && [Instr.rst o, .rstBlock o, .rld o, .ratomAdd o,
        .ratomFadd o, .ratomFmaxa o, .ratomCas o, .ratomIncb o, .rredAdd o, .rredFadd o,
      .rredFmaxa o, .rcpy o, .rsig o, .rwait o].all (I.clear ·)) = true := by decide +kernel

/-- Members: none, one, this device's own root; a link that is up, degraded, down; RCPY's least and greatest length, and one that
it does not take; RWAIT on a count that is there, and one that is not. -/
theorem meets_RemoteIssue :
    let o := fun (k : BitVec 3) => ({ fab (w 8 4 6) with pat := k, ctr := 200 } : FabOp)
    let cs := fun (I : Issue) (k : Nat) => I.c.map.members I.ownCoord (I.g.patterns.getD k (0, 0, 0)) false
    let all := fun (I : Issue) (k : BitVec 3) => [Instr.rst (o k), .rstBlock (o k), .rld (o k), .ratomAdd (o k),
        .ratomFadd (o k), .ratomFmaxa (o k), .ratomCas (o k), .ratomIncb (o k), .rcpy (o k), .rsig (o k),
      .rredAdd (o k), .rredFadd (o k), .rredFmaxa (o k), .rwait (o k), .reshard (o k)].all (I.clear ·) &&
          decide (Spec.patternFits I.c.map (I.g.patterns.getD k.toNat (0, 0, 0)))
    ([(LinkState.up, true), (.degraded, true), (.down, false)].all fun x => meets (fun s => put [(4, 0, 0x4000), (6, 0, 0x5000),
        (8, 0, 4), (9, 0, 1048576)] (paired x.1 s)) fun I => all I 0 && all I 1 && all I 2 &&
      cs I 0 == [] && cs I 1 == [[1, 0, 0, 0, 0]] && cs I 2 == [[1, 0, 0, 0, 0]] && (I.s.link 1 false).any (fun l =>
          (l.st == .up || l.st == .degraded) == x.2) && I.s.dev.index == 0 &&
      (I.g.read 8 0).toNat % 4 == 0 && I.ownCoord == [0, 0, 0, 0, 0] && I.c.map.members I.ownCoord (0x4000, 0, 0) true == [[0,
          0, 0, 0, 0], [1, 0, 0, 0, 0]] &&
      (List.range 4).all (fun k =>
          decide (I.fine .read 1 (0x5000 + BitVec.ofNat 64 (64 * k)) (place I .read (0x5000 + BitVec.ofNat 64 (64 * k)))))) = true ∧
    (meets (fun s => put [(4, 0, 0x4000), (6, 0, 1), (8, 0, 0x80), (9, 0, 1048576)] (paired .up s)) fun I => all I 2 &&
        (I.g.read 8 0).toNat % 128 == 0 && (I.g.read 9 0).toNat == 1048576 &&
      Spec.pairValue I 0 6 0 == 1) = true ∧
    ([(0 : Nat), 1, 2].all fun n => meets (fun s => (paired .up (put [(6, 0,
        BitVec.ofNat 32 n)] s)).setContext { ((paired .up s).context 0).getD (bareContext 0 0) with counters := [(200, 1)] }) fun I => all I 1 &&
      lookup 0 I.c.counters 200 == 1 && I.c.rwaits == [] && !I.g.woken && I.g.prog == 0 && (I.xbar 0 6 0).toNat == n) = true ∧
    (meets (fun s => put [(4, 0, 0x4000), (6, 0, 0x5000)] (bytes 0x4000 ([1, 0, 0, 0, 128] ++ List.replicate 19 0 ++
        [128]) (bytes 0x5000 ([1, 0, 0, 0, 128] ++ List.replicate 19 0 ++ [128, 0, 0, 0, 1]) (paired .up s)))) fun I =>
      I.clear (.reshard (o 0)) && decide (I.fine .read 1 0x4000 (place I .read 0x4000)) &&
          decide (I.fine .read 1 0x5000 (place I .read 0x5000)) &&
        match I.exchange (layoutOf (lookups 0 I.s.mem.bytes 0x4000 64)) (layoutOf (lookups 0 I.s.mem.bytes 0x5000 64)) 0 with
        | .ok e => e.streams.any fun x => x.len != 0
        | _ => false) = true := by decide +kernel

/-- Context 0 grants device 1's context 0 every right to the first 64 KiB from 0x4000 on, and to what follows up to 2^40. -/
def granting (f : Context → Context) : State → State :=
  inContext fun c => f { c with access := [⟨1, 0, 0x4000, 2 ^ 40, 0x0F⟩], combine := 0x9000, staging := 0x10000, stagingSize := 65536 }

/-- A request of device 1. -/
def incoming (kind : ReqKind) (parts : List ReqPart) (contrib : Option Contribution := none) (sub : BitVec 3 := 0) : Req :=
  { src := 1, srcCtx := 0, dstCtx := 0, tag := 9, rank := 1, kind := kind, ctr := 200, sub := sub, parts := parts, inc := 1, contrib := contrib }
def arriving (r : Req) (s : State) : State := { s with ev := { req := some r } }

def translates (s : State) (u : Use) (a : Addr) (n : Nat) : Bool :=
  (s.context 0).any fun c => (List.range n).all fun k => match s.portXlat c u (a + BitVec.ofNat 64 k) with
    | .ok p => p.pa == a.toNat + k && !p.host && !p.cell && !s.unitBad (p.pa / 64)
    | _ => false

def aContribution (data : List Byte) : Contribution :=
  { rred := true, offset := 128, chunk := 128, len := 128, n := 255, rank := 254, op := 2, slot := 0, result := 0, pos := 124, data := data }

/-- No context; no grant; a write granted and in order, one of two parts; one that does not translate, with room in the log; a
load, each atomic, a signal with and without a waiter; a contribution in the last place of its slot; a held one before it. -/
theorem meets_RemoteArrivals :
    let write := incoming .rst [⟨0x4000, [1, 2, 3, 4]⟩, ⟨0x4002, [5, 6]⟩]
    let ok := fun (s : State) (r : Req) => s.ev.req == some r && r.src != s.dev.index && s.held == [] &&
        (r.contrib.isSome == (r.kind == .rred))
    (stands (fun s => arriving { write with dstCtx := 9 } s) fun s => ok s { write with dstCtx := 9 } &&
        s.context 9 == none) = true ∧
    (stands (fun s => arriving write (inContext id s)) fun s => ok s write && (s.context 0).any fun c => c.access == [] &&
        !c.logFull) = true ∧
    (stands (fun s => arriving write (granting id s)) fun s => ok s write && translates s .write 0x4000 4 &&
        (s.context 0).any fun c => c.rwaits == [] && c.units == [] && !c.logFull &&
      c.access.any fun x => x.rights.getLsbD 1 && decide (x.base ≤ 0x4000 ∧ 0x4004 ≤ x.base + x.len)) = true ∧
    (let r := incoming .rst [⟨0x8000000000, [1, 2, 3, 4]⟩]
     stands (fun s => arriving r (granting (fun c => { c with logSize := 65536 }) s)) fun s => ok s r &&
         (s.context 0).any fun c => s.portXlat c .write 0x8000000000 == .bad 0x06 && c.logRoom 64 &&
      decide ((0x8000000000 : Addr).toNat % 256 + 4 ≤ 256)) = true ∧
    ([incoming .rld [⟨0x4000, []⟩, ⟨0x4004, []⟩], incoming .ratom [⟨0x4000, [1, 0, 0, 0]⟩, ⟨0x4000, [1, 0, 0,
        0]⟩] none 4].all fun r => stands (fun s => arriving r (granting id s)) fun s => ok s r &&
      translates s .read 0x4000 8 && translates s .update 0x4000 4) = true ∧
    ([[], [{ counter := 200, gid := 1, target := 1 }]].all fun (ws : List RWaiter) => stands (fun s =>
        arriving (incoming .rsig []) (granting (fun c => { c with rwaits := ws }) s)) fun s =>
      ok s (incoming .rsig []) && (s.group 1).isSome && (s.context 0).any fun c => c.rwaits == ws && (c.access.any fun x =>
          x.rights.getLsbD 3)) = true ∧
    ([(none : Option Nat), some (255 * 128 - 4)].all fun d => let k := aContribution [1, 2, 3, 4]
      let r := incoming .rred [] (some k)
      let e : Chunk := { offset := 128, len := 128, n := 255, op := 2, slot := 0, counter := 200, result := 0x10080, done := d.getD 0 }
      stands (fun s => arriving r (granting (fun c => { c with chunks := if d.isSome then [e] else [] }) s)) fun s => ok s r &&
          (s.context 0).any fun c =>
        decide (k.offset + k.rank * k.chunk + k.pos + 4 ≤ c.stagingSize) &&
            translates s .write (c.staging + BitVec.ofNat 64 (k.offset + k.rank * k.chunk + k.pos)) 4) = true ∧
    (stands (fun s => { arriving write s with held := [⟨write, false⟩] }) fun s => s.held.any fun q => q.req.src == write.src) = true := by
        decide +kernel

/-- An operation of group 1 at device 1, sent whole; and one with registers outstanding. -/
def anOp (ld : Option Nat) : RemoteOp :=
  { oid := 9, ctx := 0, gid := 1, seq := 1, ldSeq := ld, req := incoming .rld [⟨0x4000, []⟩], members := [{ rank := 1, dev := 1, ctx := 0, coord := 1, owed := 1 }], place := ⟨0, 0, 0⟩, cls := 0,
    lineage := 0, pc := 0, funct := 1, retryAt := some 4096 }
def sending (o : RemoteOp) (f : EvArgs → EvArgs) (s : State) : State :=
  { inGroup (fun g => { g with ops := (if o.ldSeq.isSome then [{ seq := 0, cls := .ld, due := [64 * 5], ref := 9 }] else []) ++ [{ seq := 1, cls := .fab, ref := 9 }] }) s with
    fabric := [o], ev := f { op := 9, rank := 1 } }

theorem meets_RemoteAnswers : ([(none, id), (some 0, fun e => { e with values := [7] }), (some 0, fun e =>
    { e with refused := some ⟨0x0B, 0x4000, 1⟩ }), (some 0, id)].all fun (x : Option Nat × (EvArgs → EvArgs)) =>
    stands (sending (anOp x.1) x.2) fun s => s.remoteOp s.ev.op == some (anOp x.1) && (anOp x.1).members.all (fun m =>
        m.rank == s.ev.rank && m.dev != s.dev.index && m.refused == none) && (anOp x.1).unsent == [] &&
      (s.group 1).any fun g => ((g.ops.filter fun p => p.cls == .fab).map fun p => (p.seq, p.done)) == [(1, false)] &&
        (g.ops.filter fun p => p.seq == 0).all fun p => p.cls == .ld && p.due != []) = true ∧
    (stands (fun s => { sending (anOp none) id s with cycle := 4096 }) fun s => s.remoteOp 9 == some (anOp none) &&
        s.cycle == 4096) = true := by decide +kernel

def aLog (data : List Byte) : LogEntry := { seq := 0, pos := 0, size := 64, rid := 5, va := 0x4000, data := data, req := incoming .rst [⟨0x4000, data⟩] }

/-- A command on context 0 stands in the slot, and machine and context are as said. -/
def acts (op sub : Nat) (named fs : List (Nat × Nat)) (f : Context → Context) (p : State → Context → Bool) : Bool :=
  stands (fun s => commanding (cmd op sub 0 fs) (inContext f s)) fun s =>
    decide (s.commanded op sub true named) && s.held == [] && (s.context (cmdCtx s.ev.entry)).any fun c => p s c

/-- Tables in order and out of order at their bounds; a region with and without an entry; combine records, none and one. -/
theorem meets_RemoteTables :
    ([(127, 63, 1), (128, 0, 0), (0, 0, 65)].all fun (x : Nat × Nat × Nat) => acts 0x07 0 [(16, 3), (24, 8)] [(16, x.1), (17,
        x.2.1), (18, x.2.2), (24, 0x3000)] id fun s _ =>
      (s.physRead 0x3000 (24 * x.2.2)).isSome) = true ∧
    ([(0x1000, 65536), (0x800, 65536), (0, 2 ^ 30), (0, 2 ^ 30 + 1)].all fun (x : Nat × Nat) => acts 0x15 0 [(16, 8), (24,
        8)] [(16, x.1), (24, x.2)] id fun s c =>
      c.log == [] && cmdField s.ev.entry 24 8 == x.2) = true ∧
    (acts 0x15 0 [(16, 8), (24, 8)] [(24, 65536)] (fun c => { c with log := [aLog [1]] }) fun _ c => c.log != []) = true ∧
    ([65536, 2 ^ 30, 65535].all fun x => acts 0x16 0 [(16, 8), (24, 8)] [(16, 65536), (24, x)] id fun s _ =>
        cmdField s.ev.entry 24 8 == x) = true ∧
    ([(1, 0, [0]), (2, 0, [0]), (1, 5, []), (2, 65536, [])].all fun (x : Nat × Nat × List Nat) => acts 0x15 x.1 [(16, 8)] [(16,
        x.2.1)] (fun c => { c with units := x.2.2, log := if x.2.2 == [0] then [aLog [1, 2]] else [] }) fun s c =>
      c.units == x.2.2 && translates s .write 0x4000 2 && cmdField s.ev.entry 16 8 == x.2.1) = true ∧
    (acts 0x15 1 [(16, 8)] [(16, 0)] (fun c => { c with units := [0] }) fun _ c => c.log == [] && c.units == [0]) = true ∧
    (stands (fun s => imaged (inContext (fun c => { c with combine := 0x9000, combines := [⟨0, 0, 0, []⟩] }) s)) fun s =>
        (s.context s.ev.ctx).any fun c => (c.combines.filter fun q => q.die == s.ev.die).length == 1 &&
      s.launches == [] && c.st == .active &&
          let r := launchRec (s.devRead c c.combine 128)
          match (s.setContext { c with combines := [] }).prepareUnit c r r.unit .node s.dev.signature (some s.ev.die) with | .ok _ => true | _ => false) = true := by decide +kernel

/-- Group 1 between clauses, at a header of one instruction. -/
def between (h : Word) (f : Group → Group := id) (s : State) : State :=
  inGroup (fun g => f { g with clause := none, splits := g.splits.map fun (x : Split) => { x with pc := 0x1000 } }) (bytes 0x1000 (leBytes 4 h.toNat) s)

/-- A group is chosen whose next header, at 0x1000, reads as said. -/
def fits (f : State → State) (h : Word) (p : State → Group → Context → Bool) : Bool :=
  stands f fun s => (s.chooseGroup s.ev.q).any fun g =>
    s.group g.gid == some g && s.candidate s.ev.q g && ((g.pickSplit s.ev.split).any fun x => x.pc == 0x1000) &&
        (s.home g).any fun t => s.fetchWord t.2 s.ev.q 0x1000 == .ok h && p s g t.2

/-- A header that issues, one that waits for its WZ set, one that the check refuses, a misaligned one. -/
theorem meets_ClauseIssue :
    (fits (between 0x10000000) 0x10000000 fun s _ c => s.checkClause c s.ev.q 0x1000 0x10000000 == .ok) = true ∧
    (fits (between 0x10000100 fun g => { g with ops := [{ seq := 0, cls := .ld }] }) 0x10000100 fun s g c =>
        s.checkClause c s.ev.q 0x1000 0x10000100 == .ok && g.counter .ld == 1) = true ∧
    (fits (between 0x10000001) 0x10000001 fun _ _ _ => true) = true ∧
    (stands (inGroup fun g =>
        { g with clause := none, splits := g.splits.map fun (x : Split) => { x with pc := 0x1002 } }) fun s =>
        (s.chooseGroup s.ev.q).any fun g => (g.pickSplit s.ev.split).any fun x => x.pc == 0x1002) = true := by
  decide +kernel

def event (args : EvArgs) (s : State) : State := { s with ev := args }

/-- Parked groups with windows beside group 1, of a class. -/
def crowd (n cls : Nat) (s : State) : State :=
  { s with groups := s.groups ++ (List.range n).map fun k => ({ bareGroup 1 with gid := 10 + k, index := 1 + k, sched := BitVec.ofNat 2 cls, status := .parked .retry } : Group) }

/-- A result in all its lanes and in one of two; each kind of wait, over and not; a window for a group, with seven others out, with
eight, with eight of a higher class; a parked request. -/
theorem meets_IssueEvents : ([(1 : LaneSet), 3].all fun m => stands (fun s =>
    event { g := 1, seq := 0, lanes := m } (inGroup (fun g =>
    { g with ops := [{ seq := 0, cls := .ld, writes := [(64 * 5, 9), (64 * 5 + 1, 9)] }] }) s)) fun s =>
      (s.group 1).any fun g => (g.ops.find? fun p => p.seq == s.ev.seq && p.pending).isSome && g.ops.length == 1) = true ∧
    ([[], [{ seq := 0, cls := .ld }]].all fun (ops : List Op) => [Wait.wz 1, .marker, .sleep 5, .sleep 0, .tableFull 5 [0x80],
        .tableFull 0 [], .cell [0x80]].all fun x =>
      stands (fun s => event { g := 1 } (inGroup (fun g => { g with status := .parked x, ops := ops }) s)) fun s =>
          (s.group 1).any fun g => g.status == .parked x && (s.home g).isSome && s.remotes == [] && !s.awaits 0x80) = true ∧
    (stands (fun s => event { g := 1 } (inGroup (fun g =>
        { g with status := .parked (.cell [0x80]) }) { s with mem := { s.mem with tags := [(0x80, .evl)] } })) fun s =>
      s.awaits 0x80 && (s.group 1).any fun g => g.status == .parked (.cell [0x80])) = true ∧
    ([[], [0x80]].all fun us => stands (fun s =>
        event { g := 7, op := 3 } { s with mem := { s.mem with tags := [(0x80, .evl)] }, remotes := [⟨3, incoming .rst [], us⟩] }) fun s =>
      (s.remotes.find? fun x => x.rid == s.ev.op).isSome && s.group s.ev.g == none) = true ∧
    ([(7, 0), (8, 0), (8, 1)].all fun (x : Nat × Nat) => stands (fun s => crowd x.1 x.2 (inGroup (fun g =>
        { g with window := false, status := .resident }) s)) fun s => (s.nextResident s.ev.q).any fun g => g.gid == 1 &&
      ((s.quadGroups s.ev.q).filter Group.window).length == x.1) = true := by decide +kernel

/-- Tables of two levels more: a 2 MiB page and a 64 KiB one beside the 1 GiB page, and entries that fail R129. -/
def tables (s : State) : State :=
  bytes 0x20008 (leBytes 8 0x30001) (bytes 0x20010 (leBytes 8 0x35) (bytes 0x30000 (leBytes 8 0x200007) (bytes 0x30008 (leBytes 8 0x40001)
    (bytes 0x40000 (leBytes 8 0x50007) (bytes 0x40008 (leBytes 8 0x5002007) s)))))

theorem meets_PageTableWalk : stands tables (fun s => let sound := fun (e : Nat) => decide (e % 2 = 1 ∧ e / 2 ^ 62 = 0 ∧
    e / 2 ^ 6 % 4 = 0 ∧ e / 2 ^ 4 % 4 ≠ 3)
    let entry := fun (table i : Nat) => ofLe (lookups 0 s.mem.bytes (table + 8 * i) 8)
    sound (entry 0x10000 0) && sound (entry 0x20000 0) && sound (entry 0x20000 1) && !sound (entry 0x20000 2) &&
        sound (entry 0x30000 0) && sound (entry 0x30000 1) && sound (entry 0x40000 0) &&
      entry 0x40000 1 == 0x5002007 && !sound (entry 0x10000 8191)) = true := by decide +kernel

def living (st : PageState) (s : State) : State := { s with mem := { s.mem with pages := [{ ctx := 0, base := 0, size := 2 ^ 30, st := st, op := 0x12, tag := 5 }] } }

/-- An unlocked page and a locked one, with and without a pin; a prefetch of a line that is absent, present, beyond memory; MIGRATE of
a page without cells, with a cell that is DEF, and locked by ML; commit, abort and unmap in their states and out of them. -/
theorem meets_PageEvents :
    (stands (event { va := 0x3000 }) fun s => (s.context 0).any fun c => s.pageLife 0 0x3000 == none &&
        (walk s.mem c.root 0x3000).isSome && walk s.mem c.root (2 ^ 55) == none) = true ∧
    (stands (fun s => event { va := 0 } (living (.invalidating 7) s)) fun s => (s.lifeAt 0 0).any (fun p => !s.pinned p) &&
        (s.context 0).any fun c => leafSlot s.mem c.root 0 (2 ^ 30) == some 0x20000) = true ∧
    (stands (fun s => event { va := 0 } (living (.invalidating 7) (inArray (fun a =>
        { a with posted := [{ aPass with running := true, pins := [0] }] }) s))) fun s => (s.lifeAt 0 0).any fun p =>
        s.pinned p) = true ∧
    ([(0x2000, true), (576 * 2 ^ 30, false)].all fun x => stands (event { pa := x.1 }) fun s => s.stackReady x.1 == x.2 &&
        s.mem.lines.all fun l => l.idx != x.1 / 128) = true ∧
    ([7, 2 ^ 61 + 7, 11].all fun e => acts 0x11 0 [(16, 8)] [(16, 0)] id fun s c => s.pageLife 0 0 == none &&
        (walk (bytes 0x20000 (leBytes 8 e) s).mem c.root 0).any fun l => l.entry == BitVec.ofNat 64 e && l.base == 0) = true ∧
    ([PageState.migrating, .invalidating 7].all fun st => [(1, [(16, 8), (24, 8)]), (2, [(16,
        8)])].all fun (x : Nat × List (Nat × Nat)) => stands (fun s => living st (commanding (cmd 0x11 x.1 0 [(16,
        0)]) s)) fun s =>
      decide (s.commanded 0x11 x.1 true x.2) && (s.lifeAt 0 0).any fun p => p.st == st) = true ∧
    ([(2, 0), (0, 0), (3, 0), (2, 65536)].all fun (x : Nat × Nat) => acts 0x12 0 [(16, 8), (24, 1), (32, 8)] [(16, x.2), (24,
        x.1)] id fun s c => s.pageLife 0 0 == none && (walk s.mem c.root 0).any fun l => l.size == 2 ^ 30) = true := by
  decide +kernel

/-- The array free with a request, owned with one of a higher class beside a pass that runs and one that does not; a rise, a time
limit and a gap, reached and not; starts of both kinds; a step that is not the last, the last,
    one that stops; a vector segment. -/
theorem meets_ArrayEvents :
    let r := fun (g cls raised : Nat) => ({ who := .group g, cls := cls, since := 0, raised := raised } : Resv)
    (stands (inArray fun a => { a with resvs := [r 1 0 0, r 2 1 0] }) fun s => (s.requests (s.array s.ev.q)).length == 2 &&
        (s.array s.ev.q).owner == none) = true ∧
    ([true, false].all fun b => stands (inArray fun a =>
        { a with owner := some (r 1 0 0), resvs := [r 2 1 0], posted := [{ aPass with running := b }] }) fun s =>
        (s.requests (s.array s.ev.q)).any fun x => decide (0 < x.cls)) = true ∧
    ([(65536, 2), (65535, 2), (65536, 3)].all fun (x : Nat × Nat) => stands (fun s =>
        event { g := 2 } { inArray (fun a => { a with resvs := [r 2 x.2 0] }) s with cycle := x.1 }) fun s =>
      ((s.array s.ev.q).resvs.find? fun y => y.who == .group s.ev.g) == some (r 2 x.2 0) && s.cycle == x.1) = true ∧
    ([102400, 102399].all fun n => stands (fun s =>
        { inArray (fun a => { a with posted := [{ aPass with running := true }], gap := some 102400 }) s with cycle := n }) fun s => (s.array s.ev.q).posted.any Pass.running && s.cycle == n) = true ∧
    ([false, true].all fun l2 => let p : Pass := { aPass with l2 := l2, ob := 0x10000, n := 16 }
      stands (fun s => inArray (fun a => { a with owner := some (r 1 0 0), posted := [p] }) (ready s)) fun s =>
          (s.passHome p).any fun h => h.2.2.st == .active && !h.1.status.isSpilled && h.1.ports == [] &&
        (s.passesOf (s.array s.ev.q) (.group 1)).head? == some p && !s.passWaits p && h.1.accReady p.seq &&
            (pageStarts p.ob (operandBytes p.slotB p.k p.n)).all fun v =>
          match s.translate h.2.2 0 (coreIdx ⟨0, 0, 0⟩) .tile v with | .ok _ => true | _ => false) = true ∧
    ([(64, false), (32, false), (64, true)].all fun (x : Nat × Bool) => let p : Pass := { aPass with k := x.1, running := true }
      stands (fun s => inGroup (fun g => { g with mode := 0x00001001, ops := [{ seq := 0, cls := .mma }] }) (inArray (fun a =>
          { a with owner := some (r 1 0 0), posted := [p], stopping := x.2 }) s)) fun s =>
        (s.passHome p).any (fun h => h.1.ops.all fun o => o.arrival == none && o.seq == p.seq) &&
            (s.array s.ev.q).posted.find? Pass.running == some p) = true ∧
    ([64, 32].all fun k => let p : Pass := { aPass with k := k, vec := true }
      stands (fun s => event { vec := true } (inGroup (fun g =>
          { g with mode := 0x00001001, ops := [{ seq := 0, cls := .mma }] }) (inArray (fun a =>
          { a with segs := [p] }) s))) fun s => (s.array s.ev.q).posted == [] &&
        ((s.array s.ev.q).segs.find? fun x => x.vec && !s.passWaits x && !s.passHeld (s.array s.ev.q) x &&
            match s.group x.gid with | some h => h.accReady x.seq | none => true) == some p) = true := by decide +kernel

/-- A queued launch with a count, or with the address of one. -/
def counted (n a : Nat) (s : State) : State :=
  { s with launches := [{ aLaunch with st := .queued, rcd := { aRecord with count := n, countAddr := BitVec.ofNat 64 a } }], ev := { launch := 1 } }

/-- A launch record in order, one for each check that fails, a count that is read, 65536, 0, more than could be placed; a launch that
may become READY, and one behind an older; a completion with a colophon, an event word, and neither, and with a colophon on a page that is being moved. -/
theorem meets_LaunchReadiness :
    let at' := fun (s : State) (r : LaunchRec) => (s.context 0).map fun c => s.prepare c r .host s.dev.signature
    (stands imaged fun s => at' s aRecord == some (.ok ⟨0, 0x8040, [0]⟩) &&
        at' s { aRecord with cols := 13 } == some (.error 0x33) &&
        at' s { aRecord with slots := [0x203] } == some (.error 0x34) &&
      at' s { aRecord with groups := 17 } == some (.error 0x32) &&
          at' s { aRecord with image := 0 } == some (.error 0x31)) = true ∧
    ([(1, 0, 1), (0, 0x5000, 65536), (0, 0x5000, 0), (65535, 0, 65535)].all fun (x : Nat × Nat × Nat) => stands (fun s =>
        imaged (bytes 0x5000 (leBytes 4 x.2.2) (counted x.1 x.2.1 s))) fun s => (s.launch 1).any fun l => l.origin == .host &&
        l.st == .queued &&
          (s.context l.ctx).any fun c => c.st == .active && (x.2.1 == 0 || (s.devRead? c l.rcd.countAddr 4).any fun bs =>
              ofLe bs == x.2.2) && l.rcd.couldPlace [] [0] 1) = true ∧
    (stands (fun s => { s with launches := [{ aLaunch with st := .queued, order := 1 }, { aLaunch with lid := 2, st := .queued }], ev := { launch := 1 } }) fun s => (s.launch 1).any fun l => s.launches.any fun x => x.sq == l.sq && decide (x.order < l.order) && x.st != .running) = true ∧
    (stands (fun s => { s with launches := [{ aLaunch with st := .queued, rcd := { aRecord with countAddr := 0x8000000000 } }], ev := { launch := 1 } }) fun s => (s.context 0).any fun c => s.devRead? c 0x8000000000 4 == none) = true ∧
    (stands imaged fun s => translates s .write 0x5000 64 && translates s .read 0x5008 8 &&
        aLaunch.origin == .host && s.dev.acts == []) = true ∧
    (stands (fun s => living .migrating (imaged s)) fun s => (s.context 0).any fun c => s.portXlat c .write 0x5000 == .wait) = true := by
  decide +kernel

/-- Launches that are READY: of the host, of a queue, of a combine queue. -/
def aReady (o : Origin) : Launch := { aLaunch with lid := 4, origin := o, st := .ready, rcd := { aRecord with regs16 := 2 }, entry := 0x8040, dies := [0], placed := 0, checked := true }
def placing (o : Origin) (s : State) : State := { imaged s with launches := [aReady o], ev := { launch := 4, queue := 3, g := 1 } }

def anEval : Eval := { id := 7, die := 0, ctx := 0, head := 0x80, len := 1, headVa := 0x2000, cls := 0, lineage := 0, ready := 0, sig := 0x1000000000000000 }

/-- A launch whose turn it is and that fits, one whose turn it is not; a gathering of the most records; an evaluation record in
order and out of order; a spilled group whose cell is awaited, and one whose cell is not. -/
theorem meets_Placement :
    ([Origin.host, .child 1 0].all fun o => stands (placing o) fun s => (s.launch 4).any fun l => s.openDies l != [] &&
        s.spots l != [] && s.teams.all (fun t => decide (t.tid < s.nextId)) && l.parent == none && !l.rcd.grid &&
        l.recs == [] &&
      decide (1 ≤ l.rcd.regs16 ∧ l.rcd.regs16 ≤ 8)) = true ∧
    (stands (fun s => { s with launches := [{ aReady .host with st := .queued }], ev := { launch := 4 } }) fun s =>
        (s.launch 4).any fun l => s.openDies l == []) = true ∧
    (stands (fun s => placing (.gathering 3) (queued { aQueue with gatherings := [⟨List.replicate 64 ⟨List.replicate 16 9, 0⟩, 4⟩] } s)) fun s => (s.context s.ev.ctx).any fun c => (c.queue s.ev.queue).any fun q =>
      q.gatherings.any (fun g => g.lid == 4 && g.recs.length == 64) && (s.launch 4).any fun l => s.openDies l != [] &&
          s.spots l != [] && l.rcd.rows == 1 && l.rcd.cols == 1 && !l.rcd.grid && l.rcd.regs16 == 2) = true ∧
    (stands (fun s => { imaged (bytes 0x2000 (leBytes 8 0x9000 ++ List.replicate 10 0 ++ [1] ++ List.replicate 44 0 ++ [1]) s) with evals := [anEval] }) fun s =>
      s.evalQueue 0 == [anEval] &&
          (s.context 0).any fun c => match s.evalLaunch c anEval s.nextId with | .ok x => s.evalSpots x.1 x.2.1 != [] | _ => false) = true ∧
    (stands (fun s => { s with evals := [anEval] }) fun s => s.evalQueue 0 == [anEval] &&
        (s.context 0).any fun c => match s.evalLaunch c anEval s.nextId with | .error x => x == 2 | _ => false) = true ∧
    ([[], [(0x80, Tag.evl)]].all fun ts => stands (fun s =>
        { inGroup (fun g => { g with status := .spilled (.cell [0x80]) }) s with ev := { g := 1 }, mem := { s.mem with tags := ts } }) fun s => (s.group 1).any fun g => g.status == .spilled (.cell [0x80]) &&
      s.awaits 0x80 == (ts != []) && (s.team g.team).any fun t => !t.saved && s.quadRoom ⟨1, g.nregs, 0, 0, 0,
          0⟩ t.place) = true := by decide +kernel

/-- A flit as parsed, and as bytes that came in. -/
def aFlit (type seq epoch : Nat) (av : Bool) (payload : List Byte) : Parsed := { type := type, seq := seq, ack := 5, epoch := epoch, av := av, payload := payload ++ List.replicate (112 - payload.length) 0 }
def aHeld (seq : Nat) : Flit := { seq := seq, payload := List.replicate 112 0, load := .request aReq }
/-- The device runs: its management core is ready. -/
def running (s : State) : State := s.setDev { s.dev with functions := (.mgmt, .ready) :: s.dev.functions }
def linked (st : LinkState) (f : Link → Link) (raw : List Byte) (s : State) : State :=
  { running s with
    cycle := 160000, ev := { peer := 1, raw := raw }
    links := [{ peer := 1, rx := true, st := .up, expect := 7 },
        f { peer := 1, rx := false, st := st, replay := [aHeld 4, aHeld 5], lanes := (List.range 64).map fun k => { lane := k, st := .active } }] }

/-- The flit expected, a seen one, one of the future, one lost; a NACK just sent and one 2 us ago; a RESTRIPE ahead and behind, each
lane report, an acknowledgement that releases and one that does not; timers reached and not. -/
theorem meets_LinkFlits : ([aFlit 1 7 0 false [], aFlit 1 6 0 false [], aFlit 1 8 0 false [], aFlit 2 0 0 false [5],
    aFlit 3 0 0 false [128], aFlit 3 0 0 false [129], aFlit 4 0 0 false [63, 1], aFlit 4 0 0 false [0, 3],
    aFlit 0 0 0 true []].all fun f =>
      stands (linked .up id f.bytes) fun s => s.dev.full && s.dev.present 1 && parseFlit s.ev.raw == some f && f.bytes.length == 128 &&
          (s.linkOr 1 true).pendingEpoch == none && (s.linkOr 1 true).expect == 7 &&
        (List.range s.dev.planes).all (fun k => (s.linkOr 1 false).lanes.any fun x => x.lane == k)) = true ∧
    (stands (linked .up id []) fun s => parseFlit s.ev.raw == none && (s.linkOr 1 false).replay != [] &&
        decide ((s.linkOr 1 false).ackAt + 160000 ≤ s.cycle)) = true ∧
    (stands (linked .dark (fun l => { l with ackAt := 1 }) []) fun s => !decide ((s.linkOr 1 false).ackAt + 160000 ≤ s.cycle) &&
        (s.linkOr 1 false).st == .dark) = true ∧
    ([(7, 156800), (7, 156801), (6, 159999)].all fun x => stands (fun s => let s := linked .up id [] s
        { s with links := s.links.map fun (l : Link) => { l with nackAt := some x, pendingEpoch := some (1, 7, 3), restripeAt := x.2 } }) fun s => (s.linkOr 1 true).nackAt == some x && decide (s.cycle < x.2 + 3200) == (x.2 != 156800)) = true := by
  decide +kernel

def laned (x : LinkLane) (n : Nat) (s : State) : State :=
  { running s with ev := { peer := 1, lane := 3, lanes := 8, n := n, module := 15, rx := true }, links := [{ peer := 1, rx := true, st := .up, lanes := x :: ((List.range 64).filter (· != 3)).map fun k => { lane := k } }] }

/-- Lane 3 in each state that an event takes; the fourth retrain in 10 s; a laser that is lit, failed, absent, and one beyond the
modules; a link that has been DOWN for its 100 ms and for less; a lane for REENABLE, and thresholds at their bounds. -/
theorem meets_LinkLanes :
    ([({ lane := 3, st := .off }, 0), ({ lane := 3, st := .locking }, 0), ({ lane := 3, st := .locking, waits := true }, 0),
        ({ lane := 3, st := .active }, 4097), ({ lane := 3, st := .active }, 4096), ({ lane := 3, st := .retraining }, 0),
      ({ lane := 3, st := .retraining, retrains := [0, 0, 0] }, 0)].all fun (x : LinkLane × Nat) =>
          stands (laned x.1 x.2) fun s => s.dev.full && s.dev.present 1 && (s.linkOr 1 true).laneAt 3 == x.1 && decide (3 < s.dev.planes) && s.dev.index == 0 &&
          s.dev.linkThreshold == 4096 &&
        (List.range 64).all fun k => (s.linkOr 1 true).lanes.any fun y => y.lane == k) = true ∧
    ([LaserState.lit, .failed, .absent].all fun st => stands (fun s =>
        { linked .up id [] s with dev := { (running s).dev with lasers := [(15, st)] }, ev := { module := 15 } }) fun s =>
        s.dev.full && s.dev.laser 15 == st && s.dev.laser 16 == .absent &&
      ((List.range s.dev.planes).filter fun k => s.dev.planeOf k / 4 == 15) != []) = true ∧
    ([160000000, 159999999].all fun n => stands (fun s =>
        { linked .down (fun l => { l with replay := [] }) [] s with cycle := n, ev := { peer := 1 } }) fun s =>
        (s.linkOr 1 false).st == .down && decide ((s.linkOr 1 false).downAt + 160000000 ≤ s.cycle) == (n == 160000000)) = true ∧
    ([(127, 63, 1), (1, 3, 1), (128, 0, 0), (0, 64, 0), (0, 0, 2)].all fun (x : Nat × Nat × Nat) => stands (fun s =>
        { laned { lane := 3, st := .retired } 0 s with ev := { entry := cmd 0x19 0 0 [(16, x.1), (17, x.2.1), (18, x.2.2)] } }) fun s => decide (s.commanded 0x19 0 false [(16, 3)])) = true ∧
    ([0, 1, 1048575, 1048576].all fun n => stands (commanding (cmd 0x18 0 0 [(16, n)])) fun s =>
        decide (s.commanded 0x18 0 false [(16, 4)])) = true := by decide +kernel

/-- A context descriptor at 0x3000: page tables, a budget, context 5, no queue; and one with one. -/
def descriptor (n queues : Nat) (s : State) : State :=
  bytes 0x5000 (leBytes 8 0x9000 ++ leBytes 4 64) (bytes 0x3000 (leBytes 8 0x10000 ++ List.replicate 32 0 ++ leBytes 4 1 ++
      leBytes 4 16777215 ++ List.replicate 4 0 ++ leBytes 2 n ++ leBytes 2 queues ++
      leBytes 8 (if queues = 0 then 0 else 0x5000)) (imaged s))

def saves (st : CtxState) (f : Context → Context := id) : State → State := inContext fun c =>
    f { c with st := st, endBase := 0x50000, endSize := 2 ^ 20 }
def aSaved : SavedTeam := { team := bareTeam 0 9, groups := [{ bareGroup 9 with status := .resident, window := false }], barriers := [], latch := none, posted := [], segs := [], resvs := [] }

/-- Creation in order, with a queue, of a number taken and one too high; end, pre-empt and resume in each state, pre-empt with too
little room; a context that is over, one that has stopped, one that comes back. -/
theorem meets_ContextLife :
    ([(5, 0), (63, 1), (0, 0), (64, 0)].all fun (x : Nat × Nat) => stands (fun s => commanding (cmd 0x02 0 0 [(16,
        0x3000)]) (descriptor x.1 x.2 s)) fun s => decide (s.commanded 0x02 0 true [(16, 8)]) &&
        (s.physRead 0x3000 256).any (fun d =>
      ofLe ((d.drop 52).take 2) == x.1 && d.length == 256 && (d.drop 80).all (· == 0)) &&
          (s.context x.1).isSome == (x.1 == 0) &&
      (s.context 0).any fun c => (s.devRead? c 0x5000 32).any (fun b => ofLe (b.take 8) == 0x9000) &&
          (s.devRead? c 0x9000 128).any fun b => ofLe ((b.drop 34).take 1) == 0x11 && ofLe ((b.drop 36).take 1) == 2) = true ∧
    ([0x03, 0x04, 0x05].all fun op => [CtxState.active, .preempting, .preempted, .resuming, .ending].all fun st => [[],
        [1]].all fun h => stands (fun s => commanding (cmd op 0 0 []) (saves st (fun c =>
        { c with endHeld := h }) (launched s))) fun s =>
      decide (s.commanded op 0 true []) && (s.context 0).any (fun c => c.st == st && decide ((s.saveUse 0).2 ≤ c.endSize)) &&
          s.launches.all fun l => l.origin == .host && l.rcd.colophon == 0 && l.rcd.event == 0) = true ∧
    (stands (saves .active fun c => { c with endSize := 0 }) fun s => decide (0 < (s.saveUse 0).2)) = true ∧
    (stands (fun s => { saves .ending id s with teams := [] }) fun s => (s.context s.ev.ctx).any fun c => c.st == .ending &&
        c.log == [] && c.queues == [] && s.held == [] && s.mem.pages == [] && s.engines == [] && s.fabric == [] &&
        s.remotes == []) = true ∧
    (stands (fun s => saves .preempting id (inGroup (fun g => { g with status := .resident, clause := none }) s)) fun s =>
        s.stopped 0 && (s.context 0).any (fun c => c.endHeld == []) && (s.teams.map Team.tid) == [1]) = true ∧
    (stands (saves .resuming fun c =>
        { c with saved := [aSaved], savedClusters := [{ cid := 9, launch := 9, index := 0, die := 0, row := 0, col := 0, rows := 1, cols := 1 }] }) fun s => (s.context 0).any fun c => c.st == .resuming &&
      c.savedClusters.any (fun cl => s.backSpots c cl != [] && aSaved.team.cluster == cl.cid) && aSaved.team.index == 0 &&
          s.fabric == []) = true := by decide +kernel

/-- A grid map in order, with and without a team in the way; a forwarded trap; a faulted engine command, remote operation, launch. -/
theorem meets_DriverReplies :
    ([[], [bareTeam 0 1]].all fun ts => stands (fun s =>
        { commanding (cmd 0x06 0 0 [(16, 0x3000)]) (bytes 0x3000 ([1, 2, 1, 1, 1, 1, 0, 0] ++ leBytes 2 0 ++ leBytes 2 127) (inContext id s)) with teams := ts }) fun s =>
      decide (s.commanded 0x06 0 true [(16, 8)]) && (s.physRead 0x3000 264).any (fun b => b.take 6 == [1, 2, 1, 1, 1, 1]) &&
          s.teams == ts && s.dev.index == 0) = true ∧
    ([0, 1].all fun sub => stands (fun s => commanding (cmd 0x14 sub 0 [(16, 1)]) (inContext (fun c =>
        { c with handler := 0x2000 }) (inGroup (fun g => { g with entry := .forwarded, resume := some aResume }) s))) fun s =>
        decide (s.commanded 0x14 sub true [(16, 8)]) &&
      (s.group 1).any (fun g => g.entry == .forwarded && g.drained && !g.double) && (s.context 0).any fun c =>
          c.st == .active && c.saved == [] && c.handler != 0) = true ∧
    ([0, 1].all fun sub => [(7, [{ anEngine with st := .faulted 6 0x3000 }], [], []), (9, [],
        [{ anOp none with st := .faulted 6 0x3000 }], []), (1, [], [], [{ aLaunch with stalled := true }]), (5, [], [],
        [])].all fun (x : Nat × List Engine × List RemoteOp × List Launch) =>
      stands (fun s => { commanding (cmd 0x13 sub 0 [(16, x.1)]) (engined anEngine {} s) with engines := x.2.1, fabric := x.2.2.1, launches := x.2.2.2, ev := { entry := cmd 0x13 sub 0 [(16, x.1)] } }) fun s =>
        decide (s.commanded 0x13 sub true [(16, 8)]) && s.engine x.1 == x.2.1.head? && s.remoteOp x.1 == x.2.2.1.head? &&
            s.launch x.1 == x.2.2.2.head? && (s.group 1).any fun g => (g.ops.map fun p => (p.seq, p.cls == .cpy,
            p.fault == none)) == [(0, true, true)]) = true ∧
    ([0, 1].all fun sub => stands (fun s => commanding (cmd 0x14 sub 0 [(16, 1)]) (inContext id s)) fun s =>
        decide (s.commanded 0x14 sub true [(16, 8)]) && s.groups.all fun g => g.entry != .forwarded) = true := by decide +kernel

/-- A device that is up, its rings empty or in use. -/
def up (f : Device → Device) (args : EvArgs) (s : State) : State := { s with dev := f { s.dev with functions := (.mgmt, .ready) :: s.dev.functions }, ev := args }

theorem meets_HostRegisters :
    ([0x8000000000000404, 0x410, 0x403, 0x411].all fun v => stands (up id { val := BitVec.ofNat 64 v }) fun s => s.dev.serves &&
        s.dev.full && s.dev.cmd.head == s.dev.cmd.tail && s.dev.ev.head == s.dev.ev.tail && s.dev.evHeld == []) = true ∧
    (stands (up (fun d =>
        { d with cmd := { base := 0, k := 4, head := 0xFFFFFFFF, tail := 0 }, ev := { base := 0, k := 4, head := 0xFFFFFFF0, tail := 0 }, evHeld := [List.replicate 64 0] }) { val := 15 }) fun s => s.dev.cmd.head != s.dev.cmd.tail &&
      decide ((15 + 2 ^ 32 - s.dev.cmd.head) % 2 ^ 32 ≤ 16)) = true ∧
    (stands (up (fun d =>
        { d with ev := { base := 0, k := 4, head := 0xFFFFFFF0, tail := 0 }, evHeld := [List.replicate 64 0] }) { val := 0xFFFFFFF1 }) fun s => decide ((s.dev.ev.tail + 2 ^ 32 - 0xFFFFFFF1) % 2 ^ 32 = 15) && s.dev.evHeld.length == 1) = true ∧
    ([0, 9].all fun n => stands (fun s => up (fun d =>
        { d with sq := [(63, { base := 0, k := 4 })] }) { val := 1, queue := 63 } { s with mem := { s.mem with host := [(8, n)] } }) fun s => (s.dev.sqRing 63).k == 4 && (s.dev.sqRing 63).head == 0 &&
      (s.context (ofLe ((lookups 0 s.mem.host 8 2)))).isSome == (n == 0)) = true ∧
    (stands (up id { off := 0x2008, n := 8, data := [1, 2, 3, 4] }) fun s => s.dev.winbase == 0 && !s.unitBad (0x2008 / 64) &&
        decide (0x2008 % 64 + 8 ≤ 64)) = true ∧
    (stands (up id { off := 48 * 2 ^ 30, data := [1] }) fun s => !s.stackReady (48 * 2 ^ 30) &&
        !s.mem.poisoned (48 * 2 ^ 30 / 64)) = true ∧
    ([[], List.replicate 4096 []].all fun h => stands (up (fun d =>
        { d with ev := { base := 0, k := 4, head := 0, tail := if h == [] then 15 else 16 }, evHeld := h }) {}) fun s =>
        s.dev.evHeld.length == h.length) = true ∧
    ([(63, 16, 0x100000), (64, 4, 0), (0, 3, 0), (0, 17, 0), (0, 4, 8)].all fun (x : Nat × Nat × Nat) =>
        stands (commanding (cmd 0x01 0 0 [(16, x.1), (17, x.2.1), (24, x.2.2)])) fun s => decide (s.commanded 0x01 0 false [(16,
        2), (24, 8)])) = true := by decide +kernel

/-- Each setting at its bounds; a slot that a context names. -/
theorem meets_DeviceSettings :
    ([(0, 0), (1, 0x3000), (511, 32), (512, 0)].all fun (x : Nat × Nat) => stands (commanding (cmd 0x08 0 0 [(16, x.1), (24,
        x.2)])) fun s => decide (s.commanded 0x08 0 false [(16, 2), (24, 8)]) && (s.physRead 0x3000 384).isSome &&
      s.contexts.all fun c => c.key != x.1 || x.1 == 0) = true ∧
    (stands (fun s => commanding (cmd 0x09 0 0 [(16, 7)]) (inContext (fun c => { c with key := 7 }) s)) fun s =>
        decide (s.commanded 0x09 0 false [(16, 2)]) && s.contexts.any fun c => c.key == 7) = true ∧
    ([0x3000, 0x3020].all fun a => stands (commanding (cmd 0x0A 0 0 [(48, a)])) fun s => decide (s.commanded 0x0A 0 false [(16,
        40)]) && cmdField s.ev.entry 48 8 == a) = true ∧
    ([(1, 1), (1, 64), (1, 65), (2, 1000), (2, 2800), (2, 999)].all fun (x : Nat × Nat) =>
        stands (commanding (cmd 0x18 x.1 0 [(16, x.2)])) fun s => decide (s.commanded 0x18 x.1 false [(16, 4)])) = true ∧
    ([(127, []), (128, []), (127, [bareContext 0 0])].all fun (x : Nat × List Context) => stands (fun s =>
        { commanding (cmd 0x1A 0 0 [(16, x.1)]) s with contexts := x.2 }) fun s => decide (s.commanded 0x1A 0 false [(16,
        1)]) && s.contexts == x.2) = true := by
  decide +kernel

theorem meets_DeviceEvents :
    ([true, false].all fun r => [0x3000, 0x800].all fun a => stands (fun s =>
        { commanding (cmd 0x1B 0 0 [(16, a), (24, 64)]) s with dev := { s.dev with recovery := r } }) fun s =>
        cmdOp s.ev.entry == 0x1B && cmdClean s.ev.entry false [(16, 12)] && s.dev.recovery == r) = true ∧
    ([FnUnit.die 0, .stack 11, .laser 15, .jpeg 3].all fun f => stands (fun s =>
        { s with dev := { s.dev with functions := (f, .training) :: (.stack 0, .ready) :: [] }, ev := { fn := f, ok := true } }) fun s => s.dev.fnState s.ev.fn == .training && s.dev.fnState (.stack 0) == .ready) = true ∧
    ([ErrFn.l2, .core].all fun f => stands (up (fun d =>
        { d with errUnits := [{ fn := f, die := 0, unit := 3, hot := [0, 0] }] }) { errs := [⟨f, 0, 3, 0x2000, 65⟩, ⟨f, 1, 3, 0x2000, 1⟩, ⟨f, 0, 3, 0x2000, 1⟩] }) fun s =>
        s.dev.full && (sumErrs s.ev.errs).map ErrCount.count == [66, 1]) = true ∧
    ([0, 1].all fun n => stands (fun s => { up (fun d => { d with errWindow := n }) {} s with cycle := 1600000000 }) fun s =>
      s.dev.full && s.dev.errWindow == n && s.cycle == 1600000000) = true ∧
    ([[], [bareTeam 0 1]].all fun ts => stands (fun s =>
        { up (fun d => { d with badCores := [(0, 127)] }) {} s with teams := ts }) fun s => s.dev.badCores.find? (fun x =>
        x.1 == s.ev.die) == some (0, 127) && s.dev.retiredColumn == [] && s.teams == ts) = true ∧
    ([(2801, 0), (2800, 65536)].all fun (x : Nat × Nat) => stands (up (fun d =>
        { d with scale := 40000 }) { limit := .power, measured := x.1, scale := x.2 }) fun s => s.dev.powerLimit == 2800 &&
        s.dev.full && s.ev.measured == x.1) = true ∧
    ([1100, 1101].all fun n => stands (event { measured := n }) fun s => s.ev.measured == n && !s.dev.heldReset) = true := by
        decide +kernel

/-- Every command of the table in order, with a byte too many, on no context, in recovery, with a sub-operation it lacks. -/
theorem meets_CommandChecks :
    (Spec.commands.all fun x => stands (commanding (cmd x.op x.sub 0 [])) (fun s => cmdOp s.ev.entry == x.op &&
        cmdSub s.ev.entry == x.sub && decide (s.commanded x.op x.sub x.context x.operands)) &&
      stands (commanding (cmd x.op x.sub 0 [(63, 1)])) (fun s => cmdField s.ev.entry 63 1 == 1 && x.operands.all (fun o =>
          decide (o.1 + o.2 ≤ 63)) && !s.dev.recovery) &&
      stands (commanding (cmd x.op x.sub 9 [])) (fun s => x.context == false ||
          (decide (s.commanded x.op x.sub x.context x.operands) && s.context (cmdCtx s.ev.entry) == none)) &&
      stands (commanding (cmd x.op 255 0 [])) (fun s => Spec.commands.all fun y => y.op != x.op ||
          y.sub != cmdSub s.ev.entry)) = true ∧
    (stands (commanding (cmd 0x10 0 0 [])) fun s => Spec.commands.all fun x => x.op != cmdOp s.ev.entry) = true ∧
    (stands (fun s => up id {} { s with commands := [cmd 0x10 0 0 []] }) fun s => s.agenda == [] && s.commands != [] &&
        s.dev.serves) = true := by decide +kernel

/-! ### Further clauses of the statements about memory -/

/-- A store of core 0, by lane 0 of group 1, that is on its way to an address; a load and an atomic of lane 1 on their way. -/
def onWay (pa : Nat) : Flight :=
  { core := 0, gid := 1, team := 1, lanes := 1, at' := 0, cached := true, pa := pa, n := 4, deed := .store [1, 2, 3, 4] false }
def loading : Flight := { onWay 0x2000 with lanes := 2, n := 2, deed := .load 0 8 true }
def updating : Flight := { onWay 0x2000 with lanes := 6, deed := .atom .add [(1, 5, 0), (2, 7, 0)] (some (0, 8)) }
def storing (l : List Flight) (s : State) : State := { s with flights := some l }
def performing (k : Nat) (l : List Flight) (s : State) : State := { s with agenda := [.perform k], flights := some l }

/-- A load beside a store that is on its way, in memory and in a buffer; a store that waits, and one with a release that
stalls; an atomic that waits; STC and LDE, whose runs wait. -/
theorem meets_LoadsAndStores_waiting :
    (meets (fun s => storing [onWay 0x5000] (only 3 (put [(4, 1, 16)] s))) fun I => Spec.loads.all fun p =>
      let o := { mem (w 8 4 0) with imm := 0x2000 }
      I.clear (p.1 o) && I.s.flights.isSome && !I.s.quiet I.core && I.clear (p.1 { mem (w 8 4 0) with space := 1 }) &&
        [0, 1].all fun i => decide (I.fine .read p.2.1 (I.ea o.w o.imm i) (place I .read (I.ea o.w o.imm i)))) = true ∧
    (meets (fun s => storing [] (only 1 s)) fun I => Spec.stores.all fun p =>
      let o := { mem (w 0 4 8) with imm := 0x2000 }
      let q := place I .write (I.ea o.w o.imm 0)
      I.clear (p.1 o) && !I.releaseWaits 0 0 && I.s.flights == some [] && I.s.quiet I.core && decide (I.mayWait q) &&
        decide (I.writable p.2 (I.ea o.w o.imm 0) q) && I.clear (p.1 { mem (w 0 4 8) with space := 1 })) = true ∧
    (meets inFabric fun I => Spec.stores.all fun p =>
      I.clear (p.1 { mem (w 0 4 8) with imm := 0x2000, order := 2, scope := 6 }) && I.releaseWaits 2 6) = true ∧
    (meets (fun s => storing [] (only 3 s)) fun I => let o := { mem (w 8 4 10) with imm := 0x2000 }
      (Spec.atomics ++ Spec.reductions).all (fun p => I.clear (p.1 o)) && I.s.flights.isSome && !I.releaseWaits 0 0 &&
        [0, 1].all fun i => decide (I.fine .update 4 (I.ea o.w o.imm i) (place I .update (I.ea o.w o.imm i)))) = true ∧
    (meets (fun s => storing [] (only 5 (bytes 0x3000 (leBytes 8 0x4000) s))) fun I =>
      I.clear (.stc { mem (w 12 4 11) with imm := 0x3000 }) && I.clear (.lde { mem (w 12 4 11) with imm := 0x3000 }) &&
        I.s.flights == some [] && I.s.quiet I.core && I.g.claim == none &&
        decide (I.fine .update 8 0x3000 (place I .update 0x3000)) &&
        [0x3000, 0x3004].all fun a => decide (I.fine .read 4 a (place I .read a))) = true := by
  decide +kernel

/-- A load, of memory and of a buffer, a store and an atomic that are performed behind a store of another lane. -/
theorem meets_Performed :
    ([loading, { loading with space := 1, pa := 0xFFFE }].all fun x => stands (performing 1 [onWay 0x5000, x]) fun s =>
      s.agenda == [.perform 1] && s.flights == some [onWay 0x5000, x] && !x.after (onWay 0x5000) && x.lanes == oneLane 1 &&
        decide (x.pa % 32 + x.n ≤ 32) && decide (s.freshL1 0) && (s.team 1).isSome) = true ∧
    (stands (performing 0 [onWay 0x5000]) fun s => s.flights == some [onWay 0x5000] && decide (0x5000 % 64 + 4 ≤ 64)) = true ∧
    (stands (performing 1 [onWay 0x5000, updating]) fun s => s.flights == some [onWay 0x5000, updating] &&
      !updating.after (onWay 0x5000) && !updating.host && !updating.cell && updating.pa % 4 == 0 &&
        Spec.atomics.any fun p => p.2.1 == .add) = true := by
  decide +kernel

def tagged (t : Tag) (s : State) : State := { s with mem := { s.mem with tags := [(2 ^ 24, t)] } }

/-- Lane 0 at the first cell of the page of cells, which looks as said. -/
def atCell (f : State → State) (p : Issue → Bool) : Bool :=
  meets (fun s => f (only 1 (put [(4, 0, 0x40000000)] (celled s)))) fun I =>
    let o := mem (w 20 4 0)
    I.clear (.ldW o) && I.clear (.stW { mem (w 0 4 20) with imm := 0 }) && I.clear (.atomAdd { mem (w 20 4 8) with imm := 0 }) &&
      I.s.quiet I.core && lanesOf (I.maskOn false) == [0] && p I && [Use.read, .write, .update].all fun u =>
        match I.xlat u (I.ea o.w o.imm 0) with
        | .ok q => !q.host && q.cell && q.pa == 2 ^ 30 && I.s.stackReady q.pa && !I.s.unitBad (2 ^ 24)
        | _ => false

/-- A cell that failed, one under an evaluation of the group's own lineage and of another's, one that has lost its head, a
deferred one with an id free and for a group whose lineage is full. -/
theorem meets_AccessTraps_cells :
    atCell (tagged .err) (fun I => I.s.view (2 ^ 24) == .err 0) = true ∧
    ([(7 : BitVec 64), 8].all fun l => atCell (fun s => inGroup (fun g => { g with lineage := l })
        { tagged .evl s with evals := [{ anEval with head := 2 ^ 24 }] }) fun I =>
      I.s.view (2 ^ 24) == .evl 7 && I.s.busy none (2 ^ 24) && inLineage 7 I.g.lineage == (l == 7)) = true ∧
    atCell (fun s => tagged .def' (bytes (2 ^ 30 + 63) [2] s)) (fun I => I.s.view (2 ^ 24) == .orphan) = true ∧
    ([(0 : BitVec 64), 2 ^ 48].all fun l => atCell (fun s => inGroup (fun g => { g with lineage := l }) (tagged .def' s)) fun I =>
      I.s.view (2 ^ 24) == .deferred (2 ^ 24) && (I.g.lineage.extractLsb' 48 16 == 0) == (l == 0) &&
        (I.s.freeIds (Config.dieOf (2 ^ 30))).head? == some 1) = true := by decide +kernel

/-- A deferred cell whose die has no evaluation id free. -/
theorem meets_AccessTraps_noId : ∃ f : State → State,
    atCell f (fun I => I.s.view (2 ^ 24) == .deferred (2 ^ 24) && I.g.lineage == 0) = true ∧
    (f (only 1 (put [(4, 0, 0x40000000)] (celled (box .nop))))).freeIds 0 = [] := by
  refine ⟨fun s => { tagged .def' s with evals := (List.range 16383).map fun k => { anEval with id := k + 1 } }, by decide +kernel, ?_⟩
  simp only [State.freeIds, List.filter_eq_nil_iff]
  intro a h
  simp only [List.mem_map, List.mem_range] at h ⊢
  obtain ⟨k, hk, rfl⟩ := h
  simp [anEval, hk]

/-- A table word that an error hides, a page under invalidation, a poisoned unit, and one whose stack is not ready. -/
theorem meets_AccessTraps_units :
    (meets (fun s => only 1 { s with mem := { s.mem with poison := [0x400] } }) fun I =>
      I.clear (.ldW { mem (w 20 4 0) with imm := 0x2000 }) && I.xlat .read 0x2000 == .bad 0x15) = true ∧
    (meets (fun s => only 1 (living (.invalidating 7) s)) fun I => I.clear (.ldW { mem (w 20 4 0) with imm := 0x2000 }) &&
      I.xlat .read 0x2000 == .wait) = true ∧
    (meets (fun s => only 1 { s with mem := { s.mem with poison := [0x80] } }) fun I => match I.xlat .read 0x2000 with
      | .ok q => !q.host && q.pa == 0x2000 && I.s.mem.poisoned (q.pa / 64)
      | _ => false) = true ∧
    (meets (fun s => only 1 (bytes 0x20008 (leBytes 8 (48 * 2 ^ 30 + 7)) s)) fun I => match I.xlat .read 0x40000000 with
      | .ok q => !q.host && q.pa == 48 * 2 ^ 30 && !I.s.mem.poisoned (q.pa / 64) && !I.s.stackReady q.pa
      | _ => false) = true := by decide +kernel

/-- PREF and maintenance of a page under invalidation, and of one that stays; releases at domain scope that stall, and one
that flashes the L1 as it acquires; a RESOLVE of a cell that another evaluation fills. -/
theorem meets_CacheAndCells_waiting :
    (meets (living (.invalidating 7)) fun I => I.clear (.pref (mem (w 1 4 0))) &&
      I.xlat .read (I.ea (w 1 4 0) 0 0) == .wait && [Instr.cclean (mem (w 0 4 8)), .cinv (mem (w 0 4 8)), .cflush (mem (w 1 4 8))].all
        (I.clear ·)) = true ∧
    (meets (fun s => put [(8, 0, 64)] (living (.invalidating 7) s)) fun I => (pieces64 0 64).any fun r =>
      I.s.pageLife I.c.num r.1 == some (.invalidating 7)) = true ∧
    (meets (put [(8, 0, 64)]) fun I => (pieces64 0 64).all (fun r => I.s.pageLife I.c.num r.1 == none) && I.s.quiet I.core) = true ∧
    ([(1, 3), (2, 3), (3, 3), (3, 2)].all fun (x : Nat × Nat) => meets (storing [onWay 0x2000]) fun I =>
      I.clear (.fence { mem (w 0 0 0) with order := BitVec.ofNat 2 x.1, scope := BitVec.ofNat 3 x.2 }) &&
        !I.releaseWaits x.1 x.2) = true ∧
    atCell (fun s => { tagged .evl s with evals := [{ anEval with head := 2 ^ 24 }] }) (fun I =>
      I.clear (.resolve (mem (w 0 4 8))) && I.clear (.cellfail (mem (w 0 4 8))) && I.s.busy (some 0) (2 ^ 24)) = true := by
  decide +kernel

/-! ### Further clauses of the statements about control, barriers and the matrix array -/

/-- A baton that the owner has passed on already, with posted passes. -/
theorem meets_MatrixModes_baton : (meets (fun s => (inArray fun a => { a with
      owner := some { who := .group 1, cls := 0, since := 0, raised := 0 }, batons := [(1, some 2)] }) (inM s)) fun I =>
    I.clearMat (.mbaton (mat (w 0 5 0))) && I.g.inM && (I.s.array I.t.place).batons.any fun b => b.1 == I.g.gid) = true := by
  decide +kernel

/-- Two splits parked at a MERGE and the third that fuses them, in a handler whose trapping split is parked among them; a
SERIAL record whose remainder comes to its MERGE. -/
theorem meets_SplitsAndMerges_last :
    (meets (fun s => inGroup (fun g => { g with resume := some { aResume with split := 1 } }) (splitAs 1 (some 3)
        [{ label := 1, pc := 0x1008, lanes := 2, join := some 3, parked := true }, { label := 2, pc := 0x1008, lanes := 4, join := some 3, parked := true }]
        [{ aJoin 3 with count := 1 }] s)) fun I => I.clear (.merge (ctl (w 0 0 0) 0)) && I.sp.join == some 3 &&
      (I.g.splits.filter fun x => x.label != I.sp.label && x.parked && x.join == some 3).all (fun x =>
        x.pc == Spec.long (I.cl.pc.toNat + 8)) && I.sp.lanes != 0 && (I.g.resume.map Resume.split) == some 1 &&
      (I.g.joins.find? fun j => j.idx == 3).any fun j => j.merge == I.cl.addr && j.kind == .split && j.count == 1) = true ∧
    (meets (splitAs 2 (some 3) [] [{ aJoin 3 with kind := .serial, count := 1, rest := 0, done := 1, doneCc := 1, donePc := 0x1008 }]) fun I =>
      I.clear (.merge (ctl (w 0 0 0) 0)) && I.sp.join == some 3 && (I.g.joins.find? fun j => j.idx == 3).any fun j =>
        j.merge == I.cl.addr && j.rest == 0 && j.count == 1 && j.done == 1) = true := by decide +kernel

/-- TRAPRET with EPC at the trapping instruction, behind it with one more in the clause and with none, and elsewhere, a claim
given up; a trap in a handler, and one of a group whose context has no handler. -/
theorem meets_TrapsAndReturns_cases :
    let cl : Clause := { header := 0x2E000000, addr := 0xFFC, split := 0, pc := 0x1000 }
    let r : Resume := { aResume with clause := some cl }
    ([(0x1000 : Addr), 0x1004, 0x2000].all fun pc => meets (inGroup fun g => { g with
        handling := true, resume := some r, epc := pc, claim := some (0x4000, 2), dropClaim := true }) fun I =>
      I.clear (.trapret (ctl (w 0 0 0) 0)) && I.g.handling && I.g.resume == some r && !I.cl.marker && I.g.dropClaim &&
        r.byInstr && r.epc + BitVec.ofNat 64 r.len == 0x1004 && decide (cl.idx + 1 < cl.count) && I.g.epc == pc) = true ∧
    (meets (inGroup fun g => { g with handling := true, resume := some aResume, epc := 0x1004 }) fun I =>
      I.clear (.trapret (ctl (w 0 0 0) 0)) && aResume.clause.all fun c => decide (c.count ≤ c.idx + 1)) = true ∧
    (stands (fun s => inContext (fun c => { c with handler := 0x2000 }) (inGroup (fun g => { g with double := true }) (trapped s))) fun s =>
      (s.group s.ev.g).any (fun g => g.status == .trapped && g.entry == .raised && g.resume == some aResume && g.drained &&
        g.double && (s.home g).any fun h => h.2.handler == 0x2000) && s.evals == [] && s.launches.all fun l => l.origin == .host) = true := by
  decide +kernel

/-- GSYNC at an open generation of the same mask, not yet the last and the last; of another mask; a second arrival; one beside
ordinary arrivals. -/
theorem meets_FixedBarriers_masked :
    ([({ level := 0, owner := 1, idx := 15, gen := 5, mask := some 7, arrived := [2] }, false),
        ({ level := 0, owner := 1, idx := 15, gen := 5, mask := some 3, arrived := [2] }, true),
        ({ level := 0, owner := 1, idx := 15, gen := 5, mask := some 1, arrived := [2] }, true),
        ({ level := 0, owner := 1, idx := 15, gen := 5, mask := some 3, arrived := [1] }, true),
        ({ level := 0, owner := 1, idx := 15, gen := 5, arrived := [2] }, true)].all fun (x : Barrier × Bool) =>
      meets (fun s =>
        let t := only 1 (put [(1, 0, if x.2 then 3 else 7)] (inTeam (fun t => { t with ngroups := 3 }) (second id s)))
        { t with groups := t.groups ++ [{ bareGroup 1 with gid := 3, index := 2 }], barriers := [x.1] }) fun I =>
        let m := I.g.read 1 I.lane0
        I.clear (.gsync { sync (w 0 1 0) 0 15 with w := w 0 1 0 }) && I.s.barrier 0 (I.t.owner 0) 15 == x.1 &&
          m == (if x.2 then 3 else 7) && decide (m.toNat < 2 ^ I.t.ngroups) && m.getLsbD I.g.index && I.g.prog == 0 &&
          (((I.s.members 0 1).filter fun h => (m.extractLsb' 0 16).getLsbD h.index).all fun h =>
            (x.1.arrived ++ [I.g.gid]).contains h.gid) == (x.2 && x.1.arrived != [1]) && x.1.early == [] &&
          x.1.arrived.all fun n => (I.s.group n).any fun p => p.clause.isSome) = true := by decide +kernel

/-- A quire's side at which an older MMA still owes its arrival; one with global bytes counted, for the flip to remember and
for the observer; an arrival that nothing owes. -/
theorem meets_Quires_bytes :
    let o := { sync (w 0 1 2) 0 15 with side := false }
    let all := fun (I : Issue) => [Instr.sbexp o, .sbarv o, .sbwait o, .sbtry { o with w := w 3 1 0 }].all (I.clear ·)
    (meets (inGroup fun g => { g with ops := [{ seq := 0, cls := .mma, arrival := some (15, false) }] }) fun I => all I &&
      I.g.ops.any fun r => r.arrival == some (15, false)) = true ∧
    ([{ owed := 1, glob := true }, { owed := 0 }, { owed := 1, acq := true, phase := true }].all fun (q : QSide) => meets (atQuire q) fun I =>
      all I && I.g.ops == [] && (I.t.quires.getD 15 {}).full == q && !q.broken) = true ∧
    (meets (inGroup fun g => { g with woken := true, wokenGlobal := true }) fun I => all I && I.g.woken && I.g.wokenGlobal) = true := by
  decide +kernel

/-- CHAIN in place to a wider format. -/
theorem meets_Copies_inPlace :
    (meets (fun s => bytes 0x3000 (leBytes 4 3 ++ [1, 2, 0, 0, 1, 0, 0, 0, 0, 0, 0x80, 0x3F]) (put [(8, 0, 0x3000), (4, 0, 0x4000), (6, 0, 0x4000)] s)) fun I =>
      I.clear (.chain { xfer (w 8 4 6) with dst := 0 }) && decide (I.s.freshL1 I.core) && (List.range 9).all fun k =>
        decide (I.fine .read 8 (0x3000 + BitVec.ofNat 64 (8 * k)) (place I .read (0x3000 + BitVec.ofNat 64 (8 * k))))) = true := by
  decide +kernel

/-- A write port at whose end a result is still to land. -/
theorem meets_QueuePorts_pending : (meets (fun s => ported .write id (engined anEngine {} (inGroup (fun g => { g with
      ops := [{ seq := 0, cls := .ld, writes := [(64 * 127, 9)] }] }) s))) fun I => I.clear (.qend (xfer (w 127 0 0))) &&
    (I.g.port 127).any fun p => p.dir == .write) = true := by decide +kernel

/-- ENQ and its try form at a queue that one record more fills to its coalescing count, with a kernel that runs and one that is
refused; an ENQ that goes on with two records, both fitting, one fitting, and at a queue that is closing; a close with
records. -/
theorem meets_NodeQueues_gathering :
    let o := xfer (w 0 4 16)
    let full := { aQueue with coalesce := 2, recs := [⟨[], 0⟩] }
    ([true, false].all fun ok => meets (fun s => only 1 (put [(4, 0, 3)] (if ok then imaged (queued full s) else queued full s))) fun I =>
      I.clear (.enq o) && I.clear (.enqTry o) && I.g.enqDone == 0 && I.g.enq == none && I.c.queue 3 == some full &&
        decide (full.recs.length + (lanesOf (I.maskOn false)).length = full.coalesce) && decide (1 ≤ full.free) &&
        (let c := I.c.setQueue { full with recs := full.recs ++ [⟨List.replicate 16 0, 0⟩] }
         let r := launchRec ((I.s.setContext c).devRead c full.kernel 128)
         match (I.s.setContext c).prepareUnit c r r.unit .node I.s.dev.signature none with | .ok _ => ok | .error _ => !ok)) = true ∧
    ([(0, false), (3, false), (0, true)].all fun (x : Nat × Bool) => meets (fun s => inGroup (fun g => { g with
        enq := some (3, [List.replicate 16 1, List.replicate 16 2]), enqDone := 1 }) (queued { aQueue with
          recs := List.replicate x.1 ⟨[], 0⟩, closing := x.2, parked := [1, 9] } s)) fun I =>
      I.g.enq.isSome && I.g.ports == [] && (I.c.queue 3).any fun q => q.closing == x.2 && q.parked.head? == some I.g.gid &&
        q.free == 4 - x.1 && decide (q.recs.length + 2 < q.coalesce)) = true ∧
    ([true, false].all fun ok => stands (fun s => let s := commanding (cmd 0x17 0 0 [(16, 3)]) (queued full s)
        if ok then imaged s else s) fun s => decide (s.commanded 0x17 0 true [(16, 2)]) && (s.context 0).any fun c =>
      (c.queue 3).any fun q => !q.ended && q.recs != [] && (let r := launchRec (s.devRead c q.kernel 128)
        match s.prepareUnit c r r.unit .node s.dev.signature none with | .ok _ => ok | .error _ => !ok)) = true := by
  decide +kernel

/-! ### Further clauses of the statements about the fabric, the links and the device -/

/-- A refused lane above the first, whose own refusal gives the cause: two reads, the first forbidden by its page, the second
by the access table; a contribution that meets TRANSLATION as the first of its chunk; a refusal of no cause that a member may
give. -/
theorem meets_RemoteArrivals_refusals :
    (let r := incoming .rld [⟨0x40000000, []⟩, ⟨0x8000000000, []⟩]
     stands (fun s => arriving r (bytes 0x20008 (leBytes 8 (5 * 2 ^ 52 + 2 ^ 30 + 7)) (inContext (fun c =>
        { c with access := [⟨1, 0, 0x4000, 0x40000000, 1⟩] }) s))) fun s => s.held == [] && s.ev.req == some r &&
      (s.context 0).any fun c => !c.logFull && s.portXlat c .read 0x40000000 == .bad 0x07 && (c.access.any fun x => x.rights.getLsbD 0 && decide (x.base ≤ 0x40000000 ∧ 0x40000004 ≤ x.base + x.len)) &&
        c.access.all fun x => decide (¬(0x8000000000 + 4 ≤ x.base + x.len))) = true ∧
    (let k := { aContribution [1, 2, 3, 4] with rank := 0, pos := 0, n := 1 }
     let r := incoming .rred [] (some k)
     stands (fun s => arriving r (granting (fun c => { c with staging := 0x8000000000, logSize := 65536 }) s)) fun s =>
      s.held == [] && (s.context 0).any fun c => c.chunks == [] && !c.logFull && c.logRoom 64 &&
        s.portXlat c .write (c.staging + 128) == .bad 0x06 && decide (128 + 4 ≤ c.stagingSize) &&
        c.access.any fun x => x.rights.getLsbD 1 && decide (x.base ≤ 0x8000000080 ∧ 0x8000000084 ≤ x.base + x.len)) = true ∧
    (stands (sending (anOp none) fun e => { e with refused := some ⟨0x31, 0, 0⟩ }) fun s => s.remoteOp s.ev.op == some (anOp none) &&
      s.ev.refused == some ⟨0x31, 0, 0⟩) = true := by decide +kernel

/-- A unit that replays: its last entry, none left, and one that faults again; a discard of the last entry. -/
theorem meets_RemoteTables_replay :
    let ctx := fun (va : Addr) (log : Bool) (c : Context) => { c with
      units := [0], replaying := [0], log := if log then [{ aLog [1, 2] with req := incoming .rst [⟨va, [1, 2]⟩] }] else [] }
    ([(0x4000, true), (0x4000, false), (0x8000000000, true)].all fun (x : Addr × Bool) => stands (inContext (ctx x.1 x.2)) fun s =>
      s.held == [] && s.contexts.length == 1 && (s.context 0).any fun c => c.replaying == [0] && c.logAcks == [] && c.rwaits == [] &&
        (c.log != []) == x.2 && (s.portXlat c .write x.1 == .bad 0x06) == (x.1 != 0x4000) && (x.1 != 0x4000 || translates s .write x.1 2)) = true ∧
    (acts 0x15 2 [(16, 8)] [(16, 0)] (fun c => { c with units := [0], log := [aLog [1, 2]] }) fun s c =>
      c.log.map LogEntry.rid == [5] && cmdField s.ev.entry 16 8 == 0 && c.replaying == []) = true := by decide +kernel

/-- A clause of two instructions that the check refuses at the second, for its engine and, in a mixed one, at the first, for a
transfer that is not the last; one that passes; a header that cannot be fetched; a quad with a group inside a clause. -/
theorem meets_ClauseIssue_checks :
    let s3 := fun (h w1 w2 w3 : Word) (s : State) => bytes 0x1004 (leBytes 4 w1.toNat ++ leBytes 4 w2.toNat ++ leBytes 4 w3.toNat) (between h id s)
    let fetched := fun (s : State) (c : Context) (a : Addr) (x y : Word) => s.fetchInstr c s.ev.q a == .ok x y
    (fits (s3 0x20000000 0x0418402A 0xAC101000 0) 0x20000000 fun s _ c => fetched s c 0x1004 0x0418402A 0 &&
      fetched s c 0x1008 0xAC101000 0 && Spec.engine 0x01 == 0 && Spec.engine 0x2B != 0) = true ∧
    (fits (s3 0x2E000000 0xE8000000 0x0A000000 0) 0x2E000000 fun s _ c => fetched s c 0x1004 0xE8000000 0x0A000000 &&
      Spec.transfers.contains (0x3A, 0x0A)) = true ∧
    (fits (s3 0x10000000 0x0418402A 0 0) 0x10000000 fun s _ c => fetched s c 0x1004 0x0418402A 0 &&
      s.checkClause c s.ev.q 0x1000 0x10000000 == .ok) = true ∧
    (stands (inGroup fun g => { g with clause := none, splits := g.splits.map fun (x : Split) => { x with pc := 0x80000000 } }) fun s =>
      (s.chooseGroup s.ev.q).any fun g => (s.home g).any fun t => match s.fetchWord t.2 s.ev.q 0x80000000 with
        | .bad i => i.cause == 0x06 | _ => false) = true ∧
    (stands id fun s => s.chooseGroup s.ev.q == none && s.groups.any (s.midClause s.ev.q)) = true := by decide +kernel

/-- A walk whose first, and whose second, table word an error hides; a shootdown whose leaf entry can be written. -/
theorem meets_Paging_errors :
    ([(0x400, 0x10000), (0x800, 0x20000)].all fun (x : Nat × Nat) => stands (fun s => { s with mem := { s.mem with poison := [x.1] } }) fun s =>
      s.unitBad (x.2 / 64) && (s.context 0).any fun c => s.walkNow c.root 0x3000 == .unreadable) = true ∧
    (stands (fun s => event { va := 0 } (living (.invalidating 7) s)) fun s => !s.unitBad (0x20000 / 64) &&
      (s.context 0).any fun c => s.walkNow c.root 0x3000 != .unreadable && s.quiet 0) = true := by decide +kernel

/-- A FIFO owner at the class of its oldest pass's group; a pass that stops at its step; a vector segment that starts. -/
theorem meets_ArrayEvents_classes :
    (stands (fun s => inContext (fun c => { c with fifo := true }) (inArray (fun a => { a with
        owner := some { who := .fifo 0, cls := 0, since := 0, raised := 0 }, posted := [aPass] }) (inGroup (fun g => { g with sched := 2 }) s))) fun s =>
      let a := s.array s.ev.q
      (a.owner.any fun o => s.passesOf a o.who == [aPass] && s.ownerClass a o == 2)) = true ∧
    ([true, false].all fun b => stands (inArray fun a => { a with posted := [{ aPass with k := 64, running := true }], stopping := b, limit := !b }) fun s =>
      (s.array s.ev.q).posted.any fun p => p.running && decide (32 * (p.step + 1) < p.k)) = true := by decide +kernel

/-- A launch of rows of 12 cores that could never be placed, since a core of every row is out of use; a record that is not
aligned. -/
theorem meets_LaunchReadiness_cores :
    ({ aRecord with cols := 12 }.couldPlace ((List.range Config.meshRows).map fun y => (0, 16 * y + 8)) [0] 1 == false &&
      { aRecord with cols := 12 }.couldPlace [(0, 8)] [0] 1 && { aRecord with aligned := false }.limitsOk .host == false) = true := by
  decide +kernel

/-- A launch that waits since one that goes before it on every die would fit there; a spilled group whose touch found the wait
table full. -/
theorem meets_Placement_order :
    (stands (fun s => let s := placing .host s
        { s with launches := [{ aReady .host with order := 5 }, { aReady .host with lid := 9, order := 1, cls := 3 }] }) fun s =>
      (s.launch 4).any fun l => s.mayPlace l && !(s.openDies l).contains 0 && s.launches.any fun x =>
        x.lid != l.lid && s.mayPlace x && s.precedes 0 x l && s.fitsNow 0 x) = true ∧
    (stands (fun s => { inGroup (fun g => { g with status := .spilled (.tableFull 9 [0x80]) }) s with ev := { g := 1 } }) fun s =>
      (s.group 1).any fun g => g.status == .spilled (.tableFull 9 [0x80]) && !s.awaits 0x80 && (s.context 0).any fun c =>
        (List.range 64).all fun k => !s.unitBad ((c.endBase + k) / 64)) = true := by decide +kernel

/-- Beats of a flit on three lanes; a peer beyond the last index; a link that has lost lanes. -/
theorem meets_LinkFlits_beats :
    ((⟨List.replicate 128 1, 8, 0x8000000000000003⟩ : Sent).beats.map fun b => (b.g, b.lane)) =
      [(8, some 63), (9, some 0), (10, some 1), (11, some 63), (12, some 0), (13, some 1), (14, some 63), (15, some 0)] ∧
    (stands (event { peer := 128 }) fun s => decide (128 ≤ s.ev.peer)) = true ∧
    (stands (fun s => event { peer := 5 } { s with dev := { (running s).dev with absent := [5] } }) fun s =>
      s.dev.full && s.dev.absent.contains s.ev.peer && s.ev.peer != s.dev.index) = true ∧
    (stands (linked .up (fun l => { l with holdData := true }) (aFlit 2 0 0 false [5]).bytes) fun s =>
      (s.linkOr 1 false).holdData && (parseFlit s.ev.raw).any fun f => f.type == 2) = true := by decide +kernel

/-- Timeouts and windows, reached and not; a lane that only the stripe under way names loses its light. -/
theorem meets_LinkLanes_windows :
    ([(LaneState.locking, 1600000), (.locking, 1599999), (.retraining, 160000000), (.retraining, 159999999)].all fun (x : LaneState × Nat) =>
      stands (fun s => { laned { lane := 3, st := x.1, since := 0 } 4096 s with cycle := x.2 }) fun s =>
        (s.linkOr 1 true).laneAt 3 == { lane := 3, st := x.1, since := 0 } && s.cycle == x.2 && s.dev.index != 1 && decide (3 < s.dev.planes) &&
        s.ev.n == s.dev.linkThreshold) = true ∧
    ([(0, 1600000), (1, 3199999)].all fun (x : Nat × Nat) => stands (fun s =>
        { laned { lane := 3, st := .locking, window := x.1 } 0 s with cycle := x.2 }) fun s => decide (s.cycle / 1600000 = 1)) = true ∧
    (stands (fun s => let s := laned { lane := 3, st := .locking, waits := true } 0 s
        { s with links := s.links.map fun (l : Link) => { l with pendingEpoch := some (1, 0, 8) } }) fun s =>
      let r := s.linkOr 1 true
      s.ev.lanes.getLsbD 3 && r.mask == 0 && r.pendingEpoch == some (1, 0, 8) && r.st != .dark &&
        (List.range 64).all fun k => r.lanes.any fun y => y.lane == k) = true := by decide +kernel

/-- A context that stops with an array owned and room in its endpaper, unit by unit; a second end command. -/
theorem meets_ContextLife_more :
    (stands (fun s => owned 1 (saves .preempting id (inTeam (fun t => { t with abytes := 0, wbytes := 0 })
        (inGroup (fun g => { g with status := .resident, clause := none, nregs := 16 }) s)))) fun s =>
      s.stopped 0 && s.quiet 0 && (s.context 0).any (fun c => c.endBase % 64 == 0 &&
        (List.range ((s.saveUse 0).2 / 64 + 1)).all fun k => !s.unitBad (c.endBase / 64 + k)) && (s.array ⟨0, 0, 0⟩).owner.isSome) = true ∧
    (stands (fun s => commanding (cmd 0x03 0 0 []) (saves .preempting (fun c => { c with endHeld := [1] }) s)) fun s =>
      decide (s.commanded 0x03 0 true []) && (s.context 0).any fun c => c.endHeld == [1]) = true := by decide +kernel

/-- A wrapped key that unwraps or does not is for Config to say; the report's place in order, and beyond memory. Errors of an
HBM4E row that had none; a core of a retired column with a history; both limits exceeded, and one. -/
theorem meets_Device_more :
    ([0x3000, 576 * 2 ^ 30].all fun a => stands (commanding (cmd 0x0A 0 0 [(48, a)])) fun s => cmdField s.ev.entry 48 8 == a &&
      !s.unitBad (0x3000 / 64)) = true ∧
    (stands (up (fun d => { d with errUnits := [{ fn := .hbm, die := 0, unit := 3, row := 1, hot := [0], last := 70 }] })
        { errs := [⟨.hbm, 0, 3, 0x2000, 65⟩] }) fun s => s.dev.full && s.ev.errs.length == 1 && s.dev.errUnits.any fun u => u.last == 70) = true ∧
    ([[], [LimitKind.temperature], [.power, .temperature]].all fun l => stands (up (fun d => { d with scale := 40000, exceeded := l })
        { limit := .power, measured := 2800 }) fun s => s.dev.full && decide (s.ev.measured ≤ s.dev.powerLimit) &&
      (s.dev.exceeded.filter (· != s.ev.limit) == []) == (l == [])) = true ∧
    (stands (up (fun d => { d with recovery := true }) {}) fun s => s.dev.recovery && s.dev.serves && !s.dev.full) = true := by decide +kernel

/-! ### Clauses about waits, keys and errors -/

/-- A group parked at an instruction that it tests again, one that goes on with words it has fetched, and mask registers: on
in no lane, waited for, and of a MAT instruction. -/
theorem meets_Steps_waiting :
    (stands (inGroup fun g => { g with status := .parked .retry }) fun s => s.agenda == [] && s.commands == [] && s.issue.isNone &&
      s.waiter.any fun I => I.free && I.g.ops == [] && I.cl.words == none) = true ∧
    (meets (inGroup fun g => { g with clause := g.clause.map fun (c : Clause) => { c with words := some (0x0418402A, 0) } }) fun I =>
      I.free && I.cl.words == some (0x0418402A, 0) && decodeWords 0x0418402A 0 == .ok (.iadd ⟨3, 4, 0, 5, 1, false⟩)) = true ∧
    ([true, false].all fun busy => meets (fun s => inM (inGroup (fun g => { g with
        ops := if busy then [{ seq := 0, cls := .ld, writes := [(64 * 16 + 3, 9)] }] else []
        clause := g.clause.map fun (c : Clause) => { c with header := c.header ||| 0x00400000 } }) s)) fun I =>
      I.cl.mr == 16 && !badRegister (.iadd ⟨3, 1, 0, 2, 0, true⟩) I && masked (.iadd ⟨3, 1, 0, 2, 0, true⟩) && I.g.enq == none &&
        (I.readWait [16]).isNone && I.accBusy 16 == busy && I.maskOn true == 0 &&
        isMat (.dotb { mat ⟨32, 0, 0, 0, 0, true⟩ with k := 1 }) && !isMat (.iadd ⟨3, 1, 0, 2, 0, true⟩) &&
        !badRegister (.dotb { mat ⟨32, 0, 0, 0, 0, true⟩ with k := 1 }) I) = true ∧
    (meets (fun s => inArray (fun a => { a with owner := some { who := .group 1, cls := 0, since := 0, raised := 0, leaving := true } }) (inM s)) fun I =>
      I.g.inM && I.clearMat (.mbaton (mat (w 0 5 0))) && I.clearMat (.mresv (mat (w 0 0 0))) &&
        (I.s.array I.t.place).owner.any fun r => r.who == .group 1 && r.leaving) = true := by decide +kernel

/-- EXIT with a bound port whose copy runs, with a deferred fault, and of a split under each kind of join record. -/
theorem meets_Exit :
    let clear := fun (I : Issue) => I.clear (.exit (ctl (w 0 0 0) 0))
    let idle := fun (I : Issue) => [Counter.ld, .sfu, .mma, .cpy, .fab, .spn].all fun c => I.g.counter c == 0
    let other := fun (join : Option Nat) (parked : Bool) => ({ label := 1, pc := 0x1010, lanes := 2, join := join, parked := parked } : Split)
    ([PortDir.read, .write].all fun d => meets (fun s => ported d id (engined anEngine {} s)) fun I => clear I &&
      I.g.splits.length == 1 && I.sp.join == none && I.g.counter .cpy == 1 &&
        [Counter.ld, .sfu, .mma, .fab, .spn].all (fun c => I.g.counter c == 0) && I.g.ops.all (fun p => p.ref == 7) &&
        (I.g.ports.map Port.cmd) == [7] && (I.s.engine 7).any fun e => e.dead == none) = true ∧
    (meets (inGroup fun g => { g with deferred := [{ seq := 1, cls := .ld, nth := 1, info := { cause := 6, addr := 0 } }] }) fun I =>
      clear I && idle I && I.g.deferred.length == 1) = true ∧
    ([({ aJoin 3 with kind := .serial, count := 1, rest := 2 }, []), ({ aJoin 3 with count := 2 }, [other (some 3) false]),
        ({ aJoin 3 with count := 1 }, [other (some 3) true]), ({ aJoin 3 with kind := .serial, count := 1, done := 4 }, []),
        ({ aJoin 3 with count := 1 }, [other none false]), ({ aJoin 3 with count := 1 }, [])].all
      fun (x : Join × List Split) => meets (fun s => launched (splitAs 1 (some 3) x.2 [x.1] s)) fun I => clear I && idle I &&
        I.g.deferred == [] && I.sp.join == some 3 && I.g.joins.find? (fun j => j.idx == 3) == some x.1 && I.sp.label == 0 &&
          I.g.splits.length == 1 + x.2.length && I.s.barriers == [] &&
            (I.s.launch I.t.launch).any fun l => l.origin == .host) = true := by decide +kernel

/-- DECODE at the end of the buffer and over it; QEND of a stream that failed; ENQ at a closed queue, and a queue whose kernel's
record lies on a page under invalidation, or does not. -/
theorem meets_Copies_bounds :
    ([(0xFFC0, 32), (0xFFF0, 256)].all fun (x : Word × Word) => meets (put [(4, 0, x.1), (8, 0, 32), (9, 0, 0x00010000), (10, 0, x.2)]) fun I =>
      I.clear (.decode { xfer (w 8 6 4) with dst := 1 }) && decide (Spec.pairValue I 0 4 0 + max 64 x.2.toNat ≤ I.t.footprint 1) == (x.1 == 0xFFC0)) = true ∧
    (meets (fun s => ported .write id (engined { anEngine with dead := some 0x18 } {} s)) fun I => I.clear (.qend (xfer (w 127 0 0))) &&
      (I.s.engine 7).any (fun e => e.dead == some 0x18 && e.gid == 1) && !I.g.pendingWrite 127 (0 - 1)) = true ∧
    (meets (fun s => only 3 (put [(4, 0, 3)] (queued { aQueue with closed := true } s))) fun I => I.clear (.enq (xfer (w 0 4 16))) &&
      I.c.queue 3 == some { aQueue with closed := true }) = true ∧
    ([true, false].all fun b => stands (fun s => let s := imaged (queued { aQueue with recs := [⟨[], 0⟩] } s)
        if b then living (.invalidating 7) s else s) fun s => (s.context 0).any fun c => s.kernelWaits c 0x9000 == b) = true := by
  decide +kernel

/-- RWAIT that has waited, woken and not; requests at a full log, and to lines written under another key; a parked request that
goes on behind a full log. -/
theorem meets_Remote_waiting :
    ([true, false].all fun b => meets (fun s => inGroup (fun g => { g with prog := 1, woken := b }) (paired .up s)) fun I =>
      I.clear (.rwait { fab (w 8 4 6) with pat := 1, ctr := 200 }) && I.g.prog == 1 && I.g.woken == b &&
        decide (Spec.patternFits I.c.map (I.g.patterns.getD 1 (0, 0, 0)))) = true ∧
    (stands (fun s => arriving (incoming .rst [⟨0x4000, [1, 2, 3, 4]⟩]) (granting (fun c => { c with logFull := true }) s)) fun s =>
      s.held == [] && (s.context 0).any fun c => c.logFull) = true ∧
    ([incoming .rst [⟨0x4000, [1, 2, 3, 4]⟩], incoming .ratom [⟨0x4000, [1, 0, 0, 0]⟩]].all fun r =>
      stands (fun s => arriving r (granting id { s with mem := { s.mem with keyed := [(0x80, [1])] } })) fun s =>
        s.mem.keyOf 0x80 == [1] && translates s .write 0x4000 4 && (s.context 0).any fun c => match s.portXlat c .write 0x4000 with
          | .ok p => p.key != [1]
          | _ => false) = true ∧
    ([true, false].all fun b => stands (fun s => event { g := 7, op := 3 } (inContext (fun c => { c with logFull := b })
        { s with remotes := [⟨3, incoming .rst [], [0x80]⟩] })) fun s => !s.awaits 0x80 && s.group 7 == none &&
      s.blocked (incoming .rst []) == b && (s.remotes.find? fun x => x.rid == s.ev.op).isSome) = true := by decide +kernel

/-- A header on a page under invalidation; an operation that still waits for an access; one with registers outstanding. -/
theorem meets_Issue_waiting :
    (stands (fun s => living (.invalidating 7) (between 0x10000000 id s)) fun s => (s.chooseGroup s.ev.q).any fun g =>
      (s.home g).any fun t => match s.fetchWord t.2 s.ev.q 0x1000 with | .wait => true | _ => false) = true ∧
    (stands (fun s => event { g := 1, seq := 0, lanes := 3 } (inGroup (fun g => { g with
        ops := [{ seq := 0, cls := .ld, due := [64 * 6], writes := [(64 * 5, 9)] }] }) s)) fun s => !s.flying 1 0 &&
      (s.group 1).any fun g => (g.ops.find? fun p => p.seq == s.ev.seq && p.pending).any fun o => o.due != []) = true := by
  decide +kernel

/-- The entries that a walk meets, and the conditions on them. -/
def met (s : State) (va : Nat) : Nat :=
  let entry := fun (table i : Nat) => ofLe (lookups 0 s.mem.bytes (table + 8 * i) 8)
  let addr := fun (e : Nat) => e / 2 ^ 8 % 2 ^ 44 * 2 ^ 8
  let sound := fun (e : Nat) => decide (e % 2 = 1 ∧ e / 2 ^ 62 = 0 ∧ e / 2 ^ 6 % 4 = 0 ∧ e / 2 ^ 4 % 4 ≠ 3 ∧ (e / 2 ^ 3 % 2 = 1 → e / 2 ^ 4 % 4 = 0))
  let points := fun (e : Nat) => e / 2 % 4 == 0
  let leaf := fun (e size : Nat) => decide (addr e % size = 0 ∧ (e / 2 ^ 4 % 4 ≤ 1 → addr e + size ≤ 576 * 2 ^ 30))
  let e3 := entry 0x10000 (va / 2 ^ 43)
  let e2 := entry (addr e3) (va / 2 ^ 30 % 8192)
  let e1 := entry (addr e2) (va / 2 ^ 21 % 512)
  let e0 := entry (addr e1) (va / 2 ^ 16 % 32)
  if !sound e3 then 1 else if !points e3 then 2 else if addr e3 % 65536 != 0 then 3
  else if !sound e2 then 4 else if !points e2 then (if leaf e2 (2 ^ 30) then 5 else 6) else if addr e2 % 4096 != 0 then 7
  else if !sound e1 then 8 else if !points e1 then (if leaf e1 (2 ^ 21) then 9 else 10)
  else if !sound e0 then 11 else if leaf e0 (2 ^ 16) then 12 else 13

/-- A walk for each way that it may end. -/
theorem meets_PageTableWalk_ends :
    ([(0, 0, 2 ^ 55, 1), (0x10008, 7, 2 ^ 43, 2), (0x10008, 0x20101, 2 ^ 43, 3), (0, 0, 2 ^ 31, 4), (0, 0, 0x3000, 5),
      (0x20018, 0x10007, 3 * 2 ^ 30, 6), (0x20018, 0x30101, 3 * 2 ^ 30, 7), (0, 0, 2 ^ 30 + 2 ^ 22, 8), (0, 0, 2 ^ 30, 9),
      (0x30010, 0x10007, 2 ^ 30 + 2 ^ 22, 10), (0, 0, 2 ^ 30 + 2 ^ 21 + 2 ^ 17, 11), (0, 0, 2 ^ 30 + 2 ^ 21, 12),
      (0, 0, 2 ^ 30 + 2 ^ 21 + 2 ^ 16, 13)].all fun (x : Nat × Nat × Nat × Nat) =>
      stands (fun s => if x.1 = 0 then tables s else bytes x.1 (leBytes 8 x.2.1) (tables s)) fun s => met s x.2.2.1 == x.2.2.2) = true := by
  decide +kernel

/-- A walk that ends in nothing; a FIFO owner that a higher request puts out; an array without requests; a count on a page under
invalidation. -/
theorem meets_Events_more :
    (stands (event { va := 2 ^ 55 }) fun s => s.pageLife 0 (2 ^ 55) == none && (s.context 0).any fun c => s.walkNow c.root (2 ^ 55) == .none) = true ∧
    (stands (fun s => inContext (fun c => { c with fifo := true }) (inArray (fun a => { a with
        owner := some { who := .fifo 0, cls := 0, since := 0, raised := 0 }, posted := [aPass]
        resvs := [{ who := .group 2, cls := 3, since := 0, raised := 0 }] }) s)) fun s => let a := s.array s.ev.q
      a.owner.any (fun o => (s.requests a).any fun r => decide (s.ownerClass a o < r.cls)) && a.posted.all fun p => !p.running) = true ∧
    (stands id fun s => s.requests (s.array s.ev.q) == []) = true ∧
    (stands (fun s => living (.invalidating 7) (imaged (counted 0 0x5000 s))) fun s => (s.context 0).any fun c => s.devWaits c 0x5000 4) = true := by
  decide +kernel

/-- A descriptor out of place, and one with a queue whose storage lies beyond memory; a grid map beside a team that is saved. -/
theorem meets_Driver_more :
    (stands (fun s => commanding (cmd 0x02 0 0 [(16, 0x3080)]) (descriptor 5 0 s)) fun s => decide (s.commanded 0x02 0 true [(16, 8)]) &&
      cmdField s.ev.entry 16 8 % 256 != 0) = true ∧
    (stands (fun s => commanding (cmd 0x06 0 0 [(16, 0x3000)]) { s with teams := [{ bareTeam 0 1 with saved := true }] }) fun s =>
      decide (s.commanded 0x06 0 true [(16, 8)]) && s.teams.all (fun t => t.saved) && (s.physRead 0x3000 264).isSome) = true := by decide +kernel

/-- A base for an event ring with records held; submissions of several entries, of a context that lives and one that does not,
and one whose record's page is under invalidation; the window on a poisoned unit, and on a line written under another key; a
wrapped key that cannot be read; a report on a stack that is not ready. -/
theorem meets_Host_more :
    ([1, 16].all fun n => stands (up (fun d => { d with evHeld := List.replicate n [1] }) { val := 0x8000000000000404 }) fun s =>
      s.dev.full && s.dev.ev.head == s.dev.ev.tail && s.dev.evHeld.length == n) = true ∧
    ([(0, true, 0), (9, false, 0), (0, true, 1)].all fun (x : Nat × Bool × Nat) => stands (fun s =>
        let s := up (fun d => { d with sq := [(63, { base := 0, k := 4 })] }) { val := 2, queue := 63 } { s with mem := { s.mem with host := [(1, 0x90), (8, BitVec.ofNat 8 x.1)].filter fun y => y.2 != 0 } }
        if x.2.2 = 1 then living (.invalidating 7) s else s) fun s =>
      s.dev.full && (s.dev.sqRing 63).k == 4 && (lookups 0 s.mem.host 8 8).drop 2 == List.replicate 6 0 &&
        ((s.context x.1).any fun c => c.st != .ending) == x.2.1 &&
        (s.context 0).any fun c => s.devWaits c 0x9000 128 == (x.2.2 == 1)) = true ∧
    (stands (fun s => up id { off := 0x2008, n := 8 } { s with mem := { s.mem with poison := [0x80], keyed := [(0x41, [1])] } }) fun s =>
      s.dev.full && s.mem.poisoned (0x2008 / 64) && s.mem.keyOf (0x2088 / 128) == [1] && s.windowKey != [1]) = true ∧
    (stands (fun s => commanding (cmd 0x08 0 0 [(16, 1), (24, 0x2000)]) { s with mem := { s.mem with poison := [0x80] } }) fun s =>
      decide (s.commanded 0x08 0 false [(16, 2), (24, 8)]) && s.physRead 0x2000 384 == none) = true ∧
    (stands (commanding (cmd 0x0A 0 0 [(48, 48 * 2 ^ 30)])) fun s => cmdField s.ev.entry 48 8 == 48 * 2 ^ 30 &&
      !s.stackReady (48 * 2 ^ 30)) = true := by decide +kernel

/-- A unit that becomes lasting-faulty in its third hot window, and one that does not. -/
theorem meets_CountErrors : ([[0, 0], [0]].all fun hot => stands (up (fun d =>
      { d with errUnits := [{ fn := .l2, die := 0, unit := 3, hot := hot }] }) {}) fun s =>
    (s.dev.errUnit ⟨.l2, 0, 3, 0x2000, 65⟩ 1).lasting == (hot.length == 2) && !(s.dev.errAt .l2 0 3 0).lasting) = true := by
  decide +kernel

end Sys2Proof.Tests
end

section
/-!
SUPPORT. What the end of an instruction changes of its group, and what a register then reads as (R8, R16, R66 to R69).
-/
namespace Sys2Proof.Machine
set_option Elab.async false

/-! ### The end of an instruction -/

/-- Two groups agree but for where they stand in their clause: registers and ports, too, are the same. -/
def Group.sameButPlace (g h : Group) : Prop :=
  h = { g with
    clause := h.clause, splits := h.splits, status := h.status, since := h.since, prog := h.prog, enqDone := h.enqDone
    enq := h.enq, gapWait := h.gapWait, stalled := h.stalled, woken := h.woken, wokenGlobal := h.wokenGlobal }

theorem Group.sameButPlace.regs {g h : Group} (e : g.sameButPlace h) : h.regs = g.regs := by rw [e]

theorem Group.sameButPlace.ports {g h : Group} (e : g.sameButPlace h) : h.ports = g.ports := by rw [e]

theorem Group.sameButPlace.sameButRegs {g h : Group} (e : g.sameButPlace h) : g.sameButRegs h := by
  unfold Group.sameButRegs
  rw [e.regs, e.ports]
  exact e

/-- Only the registers need be compared anew where the registers alone have changed before. -/
theorem sameButRegs_of_regs {g h : Group} {rs : List (Nat × Word)} (e : ({ g with regs := rs } : Group).sameButRegs h) :
    g.sameButRegs h := e

theorem closeClause_sameButPlace (g : Group) (cl : Clause) (n : Nat) : g.sameButPlace (g.closeClause cl n) := by
  unfold Group.closeClause
  dsimp only
  split <;> rfl

@[simp] theorem closeClause_splits (g : Group) (cl : Clause) (n : Nat) : (g.closeClause cl n).splits = g.splits := by
  unfold Group.closeClause
  dsimp only
  split <;> rfl

theorem advance_sameButPlace (g : Group) (len n : Nat) : g.sameButPlace (g.advance len n) := by
  unfold Group.advance
  split
  · rfl
  · dsimp only
    split
    · rfl
    · exact closeClause_sameButPlace _ _ _

/-- Moving the pc of the splits of a label moves nothing else. -/
theorem sameButPc_movePc (xs : List Split) (l : Nat) (pc : Addr) :
    sameButPc xs (xs.map fun x => if x.label == l then { x with pc := pc } else x) := by
  unfold sameButPc
  rw [List.map_map]
  refine List.map_congr_left fun x _ => ?_
  simp only [Function.comp]
  split <;> rfl

theorem advance_sameButPc (g : Group) (len n : Nat) : sameButPc g.splits (g.advance len n).splits := by
  unfold Group.advance
  split
  · rfl
  · dsimp only
    split
    · rfl
    · unfold Group.endClause
      rw [closeClause_splits]
      exact sameButPc_movePc _ _ _

/-- Replacing a group changes nothing else of the machine. -/
theorem setGroup_sameButGroup (s : State) {g : Group} {n : Nat} (h : g.gid = n) : s.sameButGroup (s.setGroup g) n :=
  ⟨rfl, fun m hm => group_setGroup_other s (by rw [h]; exact hm)⟩

/-- An instruction that replaced its group and is over leaves that group at its next instruction. -/
theorem ended_setGroup {s : State} {I : Issue} (h : s.issue = some I) (i : Instr) {g : Group} (hg : g.gid = I.g.gid) :
    I.ended i (I.s.setGroup g) = s.setGroup (g.advance (instrBytes i) s.cycle) := by
  obtain ⟨rfl, hgrp, -⟩ := issue_spec h
  exact onGroup_setGroup _ hg hgrp ((advance_gid _ _ _).trans hg)

/-- An instruction that changed its group's registers alone leaves everything else as `sameButRegs`, `sameButPc` and
`sameButGroup` say. -/
theorem ended_of_onlyRegs {s : State} {I : Issue} (h : s.issue = some I) (i : Instr) {w : Group}
    (hw : w = { I.g with regs := w.regs }) :
    ∃ g, (I.ended i (I.s.setGroup w)).group I.g.gid = some g ∧ g.regs = w.regs ∧ g.ports = I.g.ports ∧
      I.g.sameButRegs g ∧ sameButPc I.g.splits g.splits ∧ s.sameButGroup (I.ended i (I.s.setGroup w)) I.g.gid := by
  have hgid : w.gid = I.g.gid := by rw [hw]
  have hports : w.ports = I.g.ports := by rw [hw]
  have hsplits : w.splits = I.g.splits := by rw [hw]
  have hsame : I.g.sameButRegs (w.advance (instrBytes i) s.cycle) :=
    sameButRegs_of_regs (rs := w.regs) (hw ▸ (advance_sameButPlace w (instrBytes i) s.cycle).sameButRegs)
  obtain ⟨rfl, hgrp, -⟩ := issue_spec h
  rw [ended_setGroup h i hgid]
  have hadv : (w.advance (instrBytes i) I.s.cycle).gid = I.g.gid := (advance_gid _ _ _).trans hgid
  have hplace := advance_sameButPlace w (instrBytes i) I.s.cycle
  exact ⟨_, group_setGroup_eq hadv hgrp, hplace.regs, hplace.ports.trans hports, hsame,
    hsplits ▸ advance_sameButPc w _ _, setGroup_sameButGroup _ hadv⟩

/-! ### Registers after a write -/

/-- A register reads by the tables of registers and ports alone. -/
theorem read_congr {g h : Group} (hr : h.regs = g.regs) (hp : h.ports = g.ports) (u j : Nat) : h.read u j = g.read u j := by
  unfold Group.read Group.port
  rw [hr, hp]

theorem port_writeLanes {g : Group} {v : Nat} (ls : List Nat) (f : Nat → Word) (hp : g.port v = none) (u : Nat) :
    (g.writeLanes v ls f).port u = g.port u := by
  rw [writeLanes_eq ls f hp]
  rfl

/-- What a register that is no port reads as after one register was written in the lanes of a set (R8, R66). -/
theorem read_writeLanes {g : Group} {v : Nat} (m : LaneSet) (f : Nat → Word) (hp : g.port v = none) {u j : Nat} (hj : j < 64)
    (hu : g.port u = none) :
    (g.writeLanes v (lanesOf m) f).read u j = if u = v ∧ v ≠ 0 ∧ m.getLsbD j = true then f j else g.read u j := by
  by_cases h0 : u = 0
  · subst h0
    rw [read_zero, read_zero, if_neg fun ⟨e, hv, _⟩ => hv e.symm]
  · rw [read_eq j h0 hu, read_eq j h0 ((port_writeLanes _ f hp u).trans hu), writeLanes_regs _ f hp lanesOf_lt u j hj]
    simp only [mem_lanesOf, hj, true_and]

/-- Writing two registers that are no ports changes no field of the group but its registers. -/
theorem writeLanes_writeLanes_eq {g : Group} {v v' : Nat} (ls : List Nat) (f f' : Nat → Word) (hp : g.port v = none)
    (hp' : g.port v' = none) :
    (g.writeLanes v ls f).writeLanes v' ls f' =
      { g with regs := ((g.writeLanes v ls f).writeLanes v' ls f').regs } := by
  refine (writeLanes_eq ls f' ((port_writeLanes ls f hp v').trans hp')).trans ?_
  have hone := writeLanes_eq ls f hp
  generalize g.writeLanes v ls f = w at hone ⊢
  rw [hone]

/-- The low word of a 64-bit value (R67). -/
theorem low_word (x : Addr) : x.extractLsb' 0 32 = BitVec.ofNat 32 (x.toNat % 2 ^ 32) := by
  apply BitVec.eq_of_toNat_eq
  simp

/-- The high word of a 64-bit value (R67). -/
theorem high_word (x : Addr) : x.extractLsb' 32 32 = BitVec.ofNat 32 (x.toNat / 2 ^ 32) := by
  apply BitVec.eq_of_toNat_eq
  simp [Nat.shiftRight_eq_div_pow]

/-- What an instruction that wrote one register leaves behind (R8, R66, R69). -/
theorem wrote_leaves {s : State} {I : Issue} (h : s.issue = some I) (i : Instr) {v : Nat} (m : LaneSet) (f : Nat → Word)
    (hp : I.g.port v = none) :
    ∃ g, (I.wrote i v m f).group I.g.gid = some g ∧
      (∀ u j, j < 64 → I.g.port u = none →
        g.read u j = if u = v ∧ v ≠ 0 ∧ m.getLsbD j = true then f j else I.g.read u j) ∧
      (∀ j, g.read 0 j = 0) ∧
      I.g.sameButRegs g ∧ sameButPc I.g.splits g.splits ∧ s.sameButGroup (I.wrote i v m f) I.g.gid := by
  have hw := writeLanes_eq (lanesOf m) f hp
  obtain ⟨g, hgrp, hregs, hports, hrest⟩ := ended_of_onlyRegs h i hw
  refine ⟨g, hgrp, fun u j hj hu => ?_, read_zero g, hrest⟩
  have hports' : g.ports = (I.g.writeLanes v (lanesOf m) f).ports := by rw [hports, hw]
  rw [read_congr hregs hports', read_writeLanes m f hp hj hu]

/-- What an instruction that wrote a register pair leaves behind (R67). -/
theorem wrotePair_leaves {s : State} {I : Issue} (h : s.issue = some I) (i : Instr) {v : Nat} (m : LaneSet) (f : Nat → Addr)
    (hp : I.g.port v = none) (hp' : I.g.port (v + 1) = none) :
    ∃ g, (I.wrotePair i v m f).group I.g.gid = some g ∧
      (∀ u j, j < 64 → I.g.port u = none →
        g.read u j =
          if u = v ∧ v ≠ 0 ∧ m.getLsbD j = true then BitVec.ofNat 32 ((f j).toNat % 2 ^ 32)
          else if u = v + 1 ∧ m.getLsbD j = true then BitVec.ofNat 32 ((f j).toNat / 2 ^ 32)
          else I.g.read u j) ∧
      I.g.sameButRegs g ∧ sameButPc I.g.splits g.splits ∧ s.sameButGroup (I.wrotePair i v m f) I.g.gid := by
  have hw := writeLanes_writeLanes_eq (lanesOf m) (fun j => (f j).extractLsb' 0 32) (fun j => (f j).extractLsb' 32 32) hp hp'
  obtain ⟨g, hgrp, hregs, hports, hrest⟩ := ended_of_onlyRegs h i hw
  refine ⟨g, hgrp, fun u j hj hu => ?_, hrest⟩
  have hlow := port_writeLanes (lanesOf m) (fun j => (f j).extractLsb' 0 32) hp
  rw [read_congr hregs (by rw [hports, hw]), read_writeLanes m _ ((hlow _).trans hp') hj ((hlow u).trans hu),
    read_writeLanes m _ hp hj hu, ← low_word, ← high_word]
  by_cases hhigh : u = v + 1 <;> simp [hhigh]

end Sys2Proof.Machine

open Sys2Proof.Machine

/-- Settles O8: the registers by the reads after a write in the lanes of a set, the rest because the end of an instruction
moves its group only within the clause. -/
theorem registerWrites : Obligations.RegisterWrites :=
  ⟨fun _ _ i _ m f h hp => wrote_leaves h i m f hp, fun _ _ i _ m f h hp hp' => wrotePair_leaves h i m f hp hp'⟩
end

section
/-!
SUPPORT. What the operations of the device, of accesses on their way, of arrays and of ending units leave of the groups and
launches of a machine (R157, R184, R185, R262, R272).
-/
namespace Sys2Proof.Machine
set_option Elab.async false

/-! ### The same groups, teams and launches -/

/-- Two machines have the same groups, teams and launches. -/
def State.sameUnits (s t : State) : Prop := t.groups = s.groups ∧ t.teams = s.teams ∧ t.launches = s.launches

theorem State.sameUnits.refl (s : State) : s.sameUnits s := ⟨rfl, rfl, rfl⟩

theorem State.sameUnits.trans {s t u : State} (h : s.sameUnits t) (k : t.sameUnits u) : s.sameUnits u :=
  ⟨k.1.trans h.1, k.2.1.trans h.2.1, k.2.2.trans h.2.2⟩

theorem State.sameUnits.group {s t : State} (h : s.sameUnits t) (n : Nat) : t.group n = s.group n := by
  unfold State.group; rw [h.1]

theorem State.sameUnits.team {s t : State} (h : s.sameUnits t) (n : Nat) : t.team n = s.team n := by
  unfold State.team; rw [h.2.1]

theorem State.sameUnits.launch {s t : State} (h : s.sameUnits t) (n : Nat) : t.launch n = s.launch n := by
  unfold State.launch; rw [h.2.2]

/-- Steps that each keep the units keep them together. -/
theorem foldl_sameUnits {α : Type} {f : State → α → State} (hf : ∀ (s : State) (a : α), s.sameUnits (f s a))
    (l : List α) (s : State) : s.sameUnits (l.foldl f s) :=
  List.foldlRecOn l f (motive := s.sameUnits) (.refl s) fun t ht a _ => ht.trans (hf t a)

theorem setMem_sameUnits (s : State) (m : Memory) : s.sameUnits (s.setMem m) := ⟨rfl, rfl, rfl⟩

theorem setDev_sameUnits (s : State) (d : Device) : s.sameUnits (s.setDev d) := ⟨rfl, rfl, rfl⟩

/-! ### What the device does of its own (R262, R354) -/

theorem raise_sameUnits (s : State) (r : List Byte) : s.sameUnits (s.raise r) := by
  unfold State.raise
  split_ifs <;> exact ⟨rfl, rfl, rfl⟩

theorem memoryError_sameUnits (s : State) (ctx : Option Nat) (u : Nat) : s.sameUnits (s.memoryError ctx u) :=
  (setDev_sameUnits s _).trans (raise_sameUnits _ _)

theorem useTables_sameUnits (s : State) (die core : Nat) (c : Context) (va : Addr) :
    s.sameUnits (s.useTables die core c va) := by
  unfold State.useTables
  dsimp only
  split_ifs
  · exact .refl s
  · exact setMem_sameUnits s _

theorem portWalks_sameUnits (s : State) (c : Context) (ps : List (Addr × Nat)) : s.sameUnits (s.portWalks c ps) :=
  foldl_sameUnits (fun s _ => useTables_sameUnits s _ _ _ _) ps s

theorem devWrite_sameUnits (s : State) (c : Context) (va : Addr) (bs : List Byte) : s.sameUnits (s.devWrite c va bs) :=
  ((foldl_sameUnits (fun s _ => memoryError_sameUnits s _ _) _ s).trans (portWalks_sameUnits _ _ _)).trans
    (setMem_sameUnits _ _)

theorem doAct_sameUnits (s : State) (a : DevAct) : s.sameUnits (s.doAct a) := by
  cases a with
  | write ctx va bs =>
    unfold State.doAct
    dsimp only
    split
    · exact devWrite_sameUnits s _ _ _
    · exact .refl s
  | add ctx va =>
    unfold State.doAct
    dsimp only
    split
    · exact devWrite_sameUnits s _ _ _
    · exact .refl s
  | irq ctx sq => exact setDev_sameUnits s _

theorem flushActs_sameUnits (s : State) : s.sameUnits s.flushActs := by
  unfold State.flushActs
  split
  · exact .refl s
  · refine (setDev_sameUnits s _).trans (foldl_sameUnits (fun s a => ?_) _ _)
    split
    · exact setDev_sameUnits s _
    · exact doAct_sameUnits s a

theorem devDo_sameUnits (s : State) (as : List DevAct) : s.sameUnits (s.devDo as) :=
  (setDev_sameUnits s _).trans (flushActs_sameUnits _)

/-! ### What an access reads (R135, R157) -/

theorem flushShown_sameUnits (s : State) (core a n : Nat) : s.sameUnits (s.flushShown core a n) := by
  unfold State.flushShown
  split
  · exact .refl s
  · exact ⟨rfl, rfl, rfl⟩

theorem acquireFlight_sameUnits (s : State) (x : Flight) : s.sameUnits (s.acquireFlight x) := by
  unfold State.acquireFlight
  split
  · exact setMem_sameUnits s _
  · exact .refl s

theorem loadCached_sameUnits (s : State) (key : List Byte) (core reuse a n : Nat) :
    s.sameUnits (s.loadCached key core reuse a n).2 := by
  have hfill : s.sameUnits (((s.flushShown core a n).setMem
      ((s.flushShown core a n).mem.l2Lines true a n reuse false)).fillL1 key core (a / 32)) :=
    ((flushShown_sameUnits s core a n).trans (setMem_sameUnits _ _)).trans (setMem_sameUnits _ _)
  unfold State.loadCached
  dsimp only
  split
  · split
    · exact hfill
    · exact .refl s
  · exact hfill

theorem readRun_sameUnits (s : State) (core reuse : Nat) (host cached : Bool) (key : List Byte) (a n : Nat) :
    s.sameUnits (s.readRun core reuse host cached key a n).2 := by
  unfold State.readRun
  split
  · exact loadCached_sameUnits s key core reuse a n
  · split
    · exact .refl s
    · exact (flushShown_sameUnits s core a n).trans (setMem_sameUnits _ _)

theorem readFlight_sameUnits (s : State) (x : Flight) : s.sameUnits (s.readFlight x).2 := by
  unfold State.readFlight
  split
  · exact readRun_sameUnits s _ _ _ _ _ _ _
  · exact .refl s

/-! ### Only arrays changed (R183 to R185, R196) -/

/-- Two machines agree but for the arrays of their quads. -/
def State.onlyArrays (s t : State) : Prop := t = { s with arrays := t.arrays }

theorem State.onlyArrays.refl (s : State) : s.onlyArrays s := rfl

theorem State.onlyArrays.trans {s t u : State} (h : s.onlyArrays t) (k : t.onlyArrays u) : s.onlyArrays u := by
  unfold State.onlyArrays at h k ⊢
  rw [k, h]

theorem State.onlyArrays.sameUnits {s t : State} (h : s.onlyArrays t) : s.sameUnits t := by
  unfold State.onlyArrays at h
  rw [h]
  exact ⟨rfl, rfl, rfl⟩

theorem setArray_onlyArrays (s : State) (a : QArray) : s.onlyArrays (s.setArray a) := by
  unfold State.setArray
  split <;> rfl

theorem arbitrate_onlyArrays (s : State) (q : QuadId) : s.onlyArrays (s.arbitrate q) := by
  unfold State.arbitrate
  dsimp only
  split
  · split
    · exact setArray_onlyArrays s _
    · exact .refl s
  · split
    · split_ifs
      · exact .refl s
      · exact setArray_onlyArrays s _
      · exact setArray_onlyArrays s _
    · exact .refl s

theorem releaseArray_onlyArrays (s : State) (gid : Nat) : s.onlyArrays (s.releaseArray gid) := by
  unfold State.releaseArray
  split
  · exact .refl s
  · exact setArray_onlyArrays s _

theorem letGo_onlyArrays (s : State) (gid : Nat) : s.onlyArrays (s.letGo gid) := by
  unfold State.letGo
  split
  · exact (releaseArray_onlyArrays s gid).trans (arbitrate_onlyArrays _ _)
  · exact .refl s

theorem freeLatch_onlyArrays (s : State) (q : QuadId) : s.onlyArrays (s.freeLatch q) := by
  unfold State.freeLatch
  dsimp only
  split
  · split
    · exact .refl s
    · exact setArray_onlyArrays s _
  · exact .refl s

theorem regrant_onlyArrays (s : State) (q : QuadId) : s.onlyArrays (s.regrant q) :=
  (setArray_onlyArrays s _).trans (arbitrate_onlyArrays _ q)

theorem passBaton_onlyArrays (s : State) (q : QuadId) : s.onlyArrays (s.passBaton q) := by
  unfold State.passBaton
  dsimp only
  split
  · exact .refl s
  · split
    · exact .refl s
    · split
      · split
        · exact (setArray_onlyArrays s _).trans (regrant_onlyArrays _ q)
        · exact (setArray_onlyArrays s _).trans (arbitrate_onlyArrays _ q)
      · exact (setArray_onlyArrays s _).trans (arbitrate_onlyArrays _ q)

theorem resettle_onlyArrays (s : State) (q : QuadId) : s.onlyArrays (s.resettle q) :=
  (passBaton_onlyArrays s q).trans (regrant_onlyArrays _ q)

/-! ### No new group and no new launch -/

/-- No group and no launch stands in the second machine whose id named none in the first. -/
def State.noNewUnits (s t : State) : Prop :=
  (∀ n, s.group n = none → t.group n = none) ∧ ∀ n, s.launch n = none → t.launch n = none

theorem State.noNewUnits.refl (s : State) : s.noNewUnits s := ⟨fun _ h => h, fun _ h => h⟩

theorem State.noNewUnits.trans {s t u : State} (h : s.noNewUnits t) (k : t.noNewUnits u) : s.noNewUnits u :=
  ⟨fun n hn => k.1 n (h.1 n hn), fun n hn => k.2 n (h.2 n hn)⟩

theorem State.sameUnits.noNewUnits {s t : State} (h : s.sameUnits t) : s.noNewUnits t :=
  ⟨fun n hn => (h.group n).trans hn, fun n hn => (h.launch n).trans hn⟩

theorem State.onlyArrays.noNewUnits {s t : State} (h : s.onlyArrays t) : s.noNewUnits t := h.sameUnits.noNewUnits

/-- Steps that each add no unit add none together. -/
theorem foldl_noNewUnits {α : Type} {f : State → α → State} (l : List α) (s : State)
    (hf : ∀ (s : State), ∀ a ∈ l, s.noNewUnits (f s a)) : s.noNewUnits (l.foldl f s) :=
  List.foldlRecOn l f (motive := s.noNewUnits) (.refl s) fun t ht a ha => ht.trans (hf t a ha)

theorem find_filter_none {α : Type} {p : α → Bool} (q : α → Bool) {l : List α} (h : l.find? p = none) :
    (l.filter q).find? p = none :=
  List.find?_eq_none.2 fun x hx => List.find?_eq_none.1 h x (List.mem_filter.1 hx).1

theorem setGroup_noNewUnits (s : State) (g : Group) : s.noNewUnits (s.setGroup g) := by
  refine ⟨fun n hn => ?_, fun n hn => hn⟩
  by_cases hg : n = g.gid
  · subst hg
    have hall := List.find?_eq_none.1 hn
    refine List.find?_eq_none.2 fun x hx => ?_
    obtain ⟨y, hy, rfl⟩ := List.mem_map.1 hx
    rw [if_neg (hall y hy)]
    exact hall y hy
  · exact (group_setGroup_other s hg).trans hn

theorem onGroup_noNewUnits (s : State) (n : Nat) (f : Group → Group) : s.noNewUnits (s.onGroup n f) := by
  unfold State.onGroup
  split
  · exact setGroup_noNewUnits s _
  · exact .refl s

theorem setContext_onGroup_noNewUnits (s : State) (c : Context) (n : Nat) (f : Group → Group) :
    s.noNewUnits ((s.setContext c).onGroup n f) := onGroup_noNewUnits (s.setContext c) n f

theorem carryOut_noNewUnits (s : State) (x : Flight) : s.noNewUnits (s.carryOut x) := by
  unfold State.carryOut
  split
  · exact ((acquireFlight_sameUnits s x).trans (readFlight_sameUnits _ x)).noNewUnits.trans (onGroup_noNewUnits _ _ _)
  · split
    · exact (setMem_sameUnits s _).noNewUnits
    · split
      · exact ⟨fun _ h => h, fun _ h => h⟩
      · exact .refl s
  · have hword : ∀ m, s.noNewUnits (((s.flushShown x.core x.pa 4).setMem m).acquireFlight x) := fun m =>
      (((flushShown_sameUnits s x.core x.pa 4).trans (setMem_sameUnits _ m)).trans (acquireFlight_sameUnits _ x)).noNewUnits
    dsimp only
    split
    · exact (hword _).trans (onGroup_noNewUnits _ _ _)
    · exact hword _
  · exact (acquireFlight_sameUnits s x).noNewUnits

theorem carry_noNewUnits (s : State) (x : Flight) : s.noNewUnits (s.carry x) := by
  unfold State.carry
  split
  · exact .refl s
  · rename_i l _
    have hland : s.noNewUnits { s with flights := some (l.erase x) } := ⟨fun _ h => h, fun _ h => h⟩
    split
    · exact hland.trans (carryOut_noNewUnits _ x)
    · exact .refl s

theorem drain_noNewUnits (s : State) (p : Flight → Bool) : s.noNewUnits (s.drain p) := by
  unfold State.drain
  split
  · exact .refl s
  · exact foldl_noNewUnits _ s fun s x _ => carry_noNewUnits s x

theorem serveWaits_noNewUnits (ctx ctr n : Nat) (s : State) : s.noNewUnits (State.serveWaits ctx ctr n s) := by
  induction n generalizing s with
  | zero => exact .refl s
  | succ n ih =>
    unfold State.serveWaits
    split
    · exact .refl s
    · split
      · exact .refl s
      · dsimp only
        split
        · exact .refl s
        · exact (setContext_onGroup_noNewUnits s _ _ _).trans (ih _)

theorem testBarrier_sameUnits (s : State) (b : Barrier) : s.sameUnits (s.testBarrier b) := ⟨rfl, rfl, rfl⟩

theorem retestBarriers_sameUnits (s : State) : s.sameUnits s.retestBarriers :=
  foldl_sameUnits testBarrier_sameUnits s.barriers s

/-! ### Groups and launches that go (R74, R86, R272) -/

theorem dropGroup_noNewUnits (s : State) (gid : Nat) : s.noNewUnits (s.dropGroup gid) :=
  ⟨fun _ h => find_filter_none _ h, fun _ h => h⟩

theorem dropGroup_group (s : State) (gid : Nat) : (s.dropGroup gid).group gid = none :=
  List.find?_eq_none.2 fun x hx => by simpa using (List.mem_filter.1 hx).2

/-- What forgetting a group adds to dropping it brings no unit back. -/
theorem dropGroup_noNewUnits_forgetGroup (s : State) (gid : Nat) : (s.dropGroup gid).noNewUnits (s.forgetGroup gid) :=
  foldl_noNewUnits _ _ fun s _ _ => serveWaits_noNewUnits _ _ _ s

theorem forgetGroup_noNewUnits (s : State) (gid : Nat) : s.noNewUnits (s.forgetGroup gid) :=
  (dropGroup_noNewUnits s gid).trans (dropGroup_noNewUnits_forgetGroup s gid)

theorem forgetGroup_group (s : State) (gid : Nat) : (s.forgetGroup gid).group gid = none :=
  (dropGroup_noNewUnits_forgetGroup s gid).1 gid (dropGroup_group s gid)

/-- Removing a group is forgetting it, before and after steps that add no unit. -/
theorem removeGroup_forgets (s : State) (gid : Nat) :
    ∃ t, s.noNewUnits t ∧ (t.forgetGroup gid).noNewUnits (s.removeGroup gid) := by
  unfold State.removeGroup
  split
  · exact ⟨s, .refl s, .refl _⟩
  · exact ⟨_, (drain_noNewUnits s _).trans (releaseArray_onlyArrays _ gid).noNewUnits,
      (retestBarriers_sameUnits _).noNewUnits.trans
        ((arbitrate_onlyArrays _ _).trans (freeLatch_onlyArrays _ _)).noNewUnits⟩

theorem removeGroup_noNewUnits (s : State) (gid : Nat) : s.noNewUnits (s.removeGroup gid) := by
  obtain ⟨t, hbefore, hafter⟩ := removeGroup_forgets s gid
  exact (hbefore.trans (forgetGroup_noNewUnits t gid)).trans hafter

theorem removeGroup_group (s : State) (gid : Nat) : (s.removeGroup gid).group gid = none := by
  obtain ⟨t, -, hafter⟩ := removeGroup_forgets s gid
  exact hafter.1 gid (forgetGroup_group t gid)

theorem dropTeam_noNewUnits (s : State) (t : Team) : s.noNewUnits (s.dropTeam t) := ⟨fun _ h => h, fun _ h => h⟩

theorem dropCluster_noNewUnits (s : State) (cid : Nat) : s.noNewUnits (s.dropCluster cid) := by
  unfold State.dropCluster
  split
  · exact .refl s
  · exact ⟨fun _ h => h, fun _ h => h⟩

theorem dropLaunch_noNewUnits (s : State) (lid : Nat) : s.noNewUnits (s.dropLaunch lid) :=
  ⟨fun _ h => h, fun _ h => find_filter_none _ h⟩

theorem dropLaunch_launch (s : State) (lid : Nat) : (s.dropLaunch lid).launch lid = none :=
  List.find?_eq_none.2 fun x hx => by simpa using (List.mem_filter.1 hx).2

theorem completeLaunch_noNewUnits (s : State) (l : Launch) (status : Byte) : s.noNewUnits (s.completeLaunch l status) := by
  have hgone : s.noNewUnits { s with launches := s.launches.filter fun x => x.lid != l.lid } :=
    ⟨fun _ h => h, fun _ h => find_filter_none _ h⟩
  unfold State.completeLaunch
  dsimp only
  split
  · exact hgone.trans (devDo_sameUnits _ _).noNewUnits
  · exact hgone

/-- The launches of the host, and the children of groups: all but those of gatherings, evaluators and combines. -/
def Launch.plain (l : Launch) : Prop := l.origin = .host ∨ ∃ p n, l.origin = .child p n

/-- What the end of a launch of the host or of a child adds to dropping it brings no unit back. -/
theorem dropLaunch_noNewUnits_endLaunch (s : State) {l : Launch} (h : l.plain) (status cause : Byte) :
    (s.dropLaunch l.lid).noNewUnits (s.endLaunch l status cause) := by
  unfold State.endLaunch
  obtain ho | ⟨p, n, ho⟩ := h
  · rw [ho]
    exact completeLaunch_noNewUnits _ l status
  · rw [ho]
    exact onGroup_noNewUnits _ _ _

theorem endLaunch_noNewUnits (s : State) {l : Launch} (h : l.plain) (status cause : Byte) :
    s.noNewUnits (s.endLaunch l status cause) :=
  (dropLaunch_noNewUnits s l.lid).trans (dropLaunch_noNewUnits_endLaunch s h status cause)

theorem endLaunch_launch (s : State) {l : Launch} (h : l.plain) (status cause : Byte) :
    (s.endLaunch l status cause).launch l.lid = none :=
  (dropLaunch_noNewUnits_endLaunch s h status cause).2 _ (dropLaunch_launch s l.lid)

/-- A list of steps one of which makes a statement hold that the others keep makes it hold. -/
theorem foldl_establishes {σ α : Type} {P : σ → Prop} {f : σ → α → σ} {l : List α} {a : α} (ha : a ∈ l)
    (hmake : ∀ s, P (f s a)) (hkeep : ∀ s, ∀ b ∈ l, P s → P (f s b)) (s : σ) : P (l.foldl f s) := by
  obtain ⟨front, back, rfl⟩ := List.append_of_mem ha
  rw [List.foldl_append, List.foldl_cons]
  exact List.foldlRecOn back f (hmake _) fun t ht b hb => hkeep t b (by simp [hb]) ht

/-- The groups of ended launches are gone, and so are the launches, where all of them are the host's and children (R272). -/
theorem endUnits_gone {s : State} {lids : List Nat} (h : ∀ l ∈ s.launches, l.plain) (status cause : Byte) :
    (∀ gid ∈ s.groupsOf lids, (s.endUnits lids status cause).group gid = none) ∧
    ∀ l ∈ s.launches, l.lid ∈ lids → (s.endUnits lids status cause).launch l.lid = none := by
  have hplain : ∀ l ∈ (s.launches.filter fun l => lids.contains l.lid).reverse, l.plain := fun l hl =>
    h l (List.mem_filter.1 (List.mem_reverse.1 hl)).1
  unfold State.endUnits
  dsimp only
  refine ⟨fun gid hgid => ?_, fun l hl hlid => ?_⟩
  · refine (foldl_noNewUnits _ _ fun s l hl => endLaunch_noNewUnits s (hplain l hl) status cause).1 gid ?_
    refine (foldl_noNewUnits _ _ fun s t _ => (dropTeam_noNewUnits s t).trans (dropCluster_noNewUnits _ _)).1 gid ?_
    refine (foldl_noNewUnits _ _ fun s q _ => (resettle_onlyArrays s q).noNewUnits).1 gid ?_
    exact foldl_establishes (P := fun s => s.group gid = none) hgid (fun s => removeGroup_group s gid)
      (fun s b _ hs => (removeGroup_noNewUnits s b).1 gid hs) _
  · have hmem : l ∈ (s.launches.filter fun l => lids.contains l.lid).reverse :=
      List.mem_reverse.2 (List.mem_filter.2 ⟨hl, by simpa using hlid⟩)
    exact foldl_establishes (P := fun s => s.launch l.lid = none) hmem
      (fun s => endLaunch_launch s (hplain l hmem) status cause)
      (fun s k hk hs => (endLaunch_noNewUnits s (hplain k hk) status cause).2 _ hs) _

end Sys2Proof.Machine
end

section
/-!
SUPPORT. Trap entry (R269): the array that a trapped group lets go, and how entry ends.
-/
namespace Sys2Proof.Machine
set_option Elab.async false

/-! ### An array that a group has let go (R185, R269) -/

/-- A group neither owns the array nor holds a reservation of it. -/
def QArray.freeOf (a : QArray) (gid : Nat) : Prop :=
  a.owner.map Resv.who ≠ some (.group gid) ∧ ∀ x ∈ a.resvs, x.who ≠ .group gid

theorem array_place (s : State) (q : QuadId) : (s.array q).place = q := by
  unfold State.array
  cases h : s.arrays.find? fun x => x.place == q with
  | none => rfl
  | some a => simpa using List.find?_some h

theorem array_setArray {s : State} {a : QArray} {q : QuadId} (h : a.place = q) : (s.setArray a).array q = a := by
  subst h
  unfold State.setArray State.array
  split
  · rename_i hany
    obtain ⟨y, hy⟩ := Option.isSome_iff_exists.1
      ((List.find?_isSome (p := fun x : QArray => x.place == a.place)).2 (List.any_eq_true.1 hany))
    rw [find_replace_same hy (by simp)]
    rfl
  · rename_i hany
    have hnone : s.arrays.find? (fun x => x.place == a.place) = none := List.find?_eq_none.2 (by simpa using hany)
    rw [List.find?_append, hnone]
    simp

theorem setArray_freeOf {s : State} {a : QArray} {q : QuadId} {gid : Nat} (hq : a.place = q) (h : a.freeOf gid) :
    ((s.setArray a).array q).freeOf gid := (array_setArray hq).symm ▸ h

theorem bestResv_mem {rs : List Resv} {r : Resv} (h : bestResv rs = some r) : r ∈ rs := by
  induction rs generalizing r with
  | nil => simp [bestResv] at h
  | cons x xs ih =>
    unfold bestResv at h
    split at h
    · rename_i b hb
      split at h
      · exact Option.some.inj h ▸ List.mem_cons_of_mem _ (ih hb)
      · exact Option.some.inj h ▸ List.mem_cons_self
    · exact Option.some.inj h ▸ List.mem_cons_self

/-- The requests of FIFO contexts are no group's. -/
theorem fifoRequests_who {s : State} {a : QArray} {r : Resv} (h : r ∈ s.fifoRequests a) (gid : Nat) : r.who ≠ .group gid := by
  unfold State.fifoRequests at h
  obtain ⟨c, -, hc⟩ := List.mem_filterMap.1 h
  split at hc
  · split at hc
    · simp at hc
    · rw [← Option.some.inj hc]
      simp
  · simp at hc

/-- A group without a reservation makes no request. -/
theorem requests_who {s : State} {a : QArray} {gid : Nat} (h : a.freeOf gid) {r : Resv} (hr : r ∈ s.requests a) :
    r.who ≠ .group gid := by
  rcases List.mem_append.1 (List.mem_filter.1 hr).1 with hr | hr
  · exact h.2 r hr
  · exact fifoRequests_who hr gid

theorem give_freeOf {a : QArray} {gid : Nat} {r : Resv} (h : a.freeOf gid) (hr : r.who ≠ .group gid) : (a.give r).freeOf gid :=
  ⟨fun e => hr (Option.some.inj e), fun x hx => h.2 x (List.mem_filter.1 hx).1⟩

theorem requeue_freeOf {a : QArray} {gid : Nat} (h : a.freeOf gid) : a.requeue.freeOf gid := by
  unfold QArray.requeue
  split
  · rename_i o ho
    split
    · refine ⟨by simp, fun x hx => ?_⟩
      rcases List.mem_append.1 hx with hx | hx
      · exact h.2 x (List.mem_filter.1 hx).1
      · rw [List.mem_singleton.1 hx]
        exact fun e => h.1 (by rw [ho]; exact congrArg some e)
    · exact ⟨by simp, h.2⟩
  · exact h

@[simp] theorem requeue_place (a : QArray) : a.requeue.place = a.place := by
  unfold QArray.requeue
  split
  · split <;> rfl
  · rfl

/-- The arbiter gives the array to no group that has not asked for it. -/
theorem arbitrate_freeOf {s : State} {q : QuadId} {gid : Nat} (h : (s.array q).freeOf gid) :
    ((s.arbitrate q).array q).freeOf gid := by
  have hplace := array_place s q
  unfold State.arbitrate
  dsimp only
  split
  · split
    · rename_i r hr
      exact setArray_freeOf hplace (give_freeOf h (requests_who h (bestResv_mem hr)))
    · exact h
  · split
    · rename_i r hr
      split_ifs
      · exact h
      · exact setArray_freeOf hplace h
      · exact setArray_freeOf ((requeue_place _).trans hplace)
          (give_freeOf (requeue_freeOf h) (requests_who h (bestResv_mem hr)))
    · exact h

theorem releaseArray_freeOf {s : State} {gid : Nat} {q : QuadId} (h : s.quadOf gid = some q) :
    ((s.releaseArray gid).array q).freeOf gid := by
  have hplace := array_place s q
  have hresvs : ∀ x ∈ (s.array q).resvs.filter (fun r => r.who != .group gid), x.who ≠ .group gid := fun x hx => by
    simpa using (List.mem_filter.1 hx).2
  unfold State.releaseArray
  rw [h]
  dsimp only
  split
  · exact setArray_freeOf hplace ⟨by simp, hresvs⟩
  · rename_i hother
    exact setArray_freeOf hplace ⟨by simpa using hother, hresvs⟩

theorem letGo_freeOf {s : State} {gid : Nat} {q : QuadId} (h : s.quadOf gid = some q) :
    ((s.letGo gid).array q).freeOf gid := by
  unfold State.letGo
  rw [h]
  exact arbitrate_freeOf (releaseArray_freeOf h)

/-! ### How trap entry ends (R269, R272) -/

/-- A group whose trap entry has written EPC and ESTATE (R269, R270). -/
def Group.recorded (g : Group) (r : Resume) : Group :=
  { g with epc := r.epc, estFwd := r.info.fwd, estCount := r.info.count, estLane := r.info.lane, entry := .none }

/-- A group that trap entry has sent to its handler (R269). -/
def Group.handled (g : Group) (r : Resume) (handler : Addr) (cycle : Nat) : Group :=
  { g.recorded r with
    handling := true, clause := none, interval := true, status := if g.window then .windowed else .resident
    ageFrom := cycle, since := cycle, prog := 0
    splits := g.splits.map fun x => if x.label == r.split then { x with pc := handler } else x }

/-- A group with a home stands in that team, of that context. -/
theorem home_spec {s : State} {g : Group} {t : Team} {c : Context} (h : s.home g = some (t, c)) :
    s.team g.team = some t ∧ s.context t.ctx = some c := by
  unfold State.home at h
  cases ht : s.team g.team with
  | none => simp [ht] at h
  | some t' =>
    cases hc : s.context t'.ctx with
    | none => simp [ht, hc] at h
    | some c' =>
      simp only [ht, hc] at h
      split at h
      · obtain ⟨rfl, rfl⟩ := Prod.mk.inj (Option.some.inj h)
        exact ⟨rfl, hc⟩
      · simp at h

section Entry
variable {s : State} {g : Group} {t : Team} {c : Context} {r : Resume} {n : Nat}

/-- Trap entry of a trapped group goes on past step 1 where its trap is not forwarded. -/
theorem execTrapEntry_raised (hg : s.group s.ev.g = some g) (hh : s.home g = some (t, c)) (hst : g.status = .trapped)
    (he : g.entry = .raised) (hr : g.resume = some r) (hf : c.forwards r.info.cause = false ∨ g.double = true) :
    exec .trapEntry s = .next (s.enterTrap State.letGo State.fatal g.gid) := by
  obtain ⟨ht, hc⟩ := home_spec hh
  have hown : s.group g.gid = some g := by rw [group_gid hg]; exact hg
  have hfwd : (c.forwards r.info.cause && !g.double) = false := by
    rcases hf with hf | hf <;> simp [hf]
  rw [exec_trapEntry]
  unfold execTrapEntry State.whenLive
  simp only [hg, hh, Option.isSome_some, if_true, he]
  unfold State.trapEntry
  simp [hown, hr, ht, hc, he, hst, hfwd]

variable (hg : s.group n = some g) (ht : s.team g.team = some t) (hc : s.context t.ctx = some c) (hr : g.resume = some r)
include hg ht hc hr

/-- Entry waits for the group's register results (R269 step 2). -/
theorem enterTrap_waits (release fatal : State → Nat → State) (hd : g.drained = false) : s.enterTrap release fatal n = s := by
  unfold State.enterTrap
  simp [hg, hr, ht, hc, hd]

/-- Entry writes EPC and ESTATE; a trap in a handler, or without one, is fatal then, and any other starts the handler. -/
theorem enterTrap_drained (fatal : State → Nat → State) (hd : g.drained = true) :
    s.enterTrap State.letGo fatal n =
      if c.handler = 0 ∨ g.double = true then fatal ((s.letGo n).setGroup (g.recorded r)) n
      else (s.letGo n).setGroup (g.handled r c.handler s.cycle) := by
  have hsame := letGo_onlyArrays s n
  have hg' : (s.letGo n).group n = some g := (hsame.sameUnits.group n).trans hg
  have hcycle : (s.letGo n).cycle = s.cycle := by rw [hsame]
  unfold State.enterTrap
  split
  · rename_i hnone
    simp [hg] at hnone
  · rename_i g' hsome
    obtain rfl : g = g' := Option.some.inj (hg.symm.trans hsome)
    split
    · rename_i r' c' hr' hc'
      obtain rfl : r = r' := Option.some.inj (hr.symm.trans hr')
      obtain rfl : c = c' := by simpa [ht, hc] using hc'
      rw [if_neg (by simp [hd])]
      dsimp only
      rw [hg', Option.getD_some]
      by_cases hfatal : c.handler = 0 ∨ g.double = true
      · rw [if_pos hfatal]
        exact if_pos (by simpa using hfatal)
      · rw [if_neg hfatal, ← hcycle]
        exact if_neg (by simpa using hfatal)
    · rename_i hnone
      exact absurd (by simp [ht, hc]) (hnone r c hr)

end Entry

/-- Entry into a handler: the group alone and the arrays are changed, and the group has let its array go (R269). -/
theorem handled_leaves {s : State} {g : Group} {t : Team} {n : Nat} (hg : s.group n = some g) (ht : s.team g.team = some t)
    {h : Group} (hh : h.gid = n) :
    let u := (s.letGo n).setGroup h
    u.group n = some h ∧ u = { s with groups := u.groups, arrays := u.arrays } ∧ (u.array t.place).freeOf n := by
  have hsame := letGo_onlyArrays s n
  have hquad : s.quadOf n = some t.place := by
    unfold State.quadOf
    rw [hg, Option.bind_some, ht]
    rfl
  refine ⟨group_setGroup_eq hh ((hsame.sameUnits.group n).trans hg), ?_, letGo_freeOf hquad⟩
  generalize s.letGo n = u at hsame
  rw [hsame]
  rfl

/-! ### Fatal traps (R272) -/

theorem subset_withChildren (s : State) (n : Nat) {lids : List Nat} {lid : Nat} (h : lid ∈ lids) :
    lid ∈ s.withChildren n lids := by
  induction n generalizing lids with
  | zero => exact h
  | succ n ih => exact ih (List.mem_append_left _ h)

theorem rootOf_host (s : State) (n : Nat) {l : Launch} (h : l.origin = .host) : s.rootOf n l = l := by
  cases n with
  | zero => rfl
  | succ n =>
    unfold State.rootOf
    rw [h]

theorem mem_groupsOf {s : State} {g : Group} {t : Team} {n : Nat} {lids : List Nat} (hg : s.group n = some g)
    (ht : s.team g.team = some t) (h : t.launch ∈ lids) : n ∈ s.groupsOf lids := by
  refine List.mem_map.2 ⟨g, List.mem_filter.2 ⟨List.mem_of_find?_eq_some hg, ?_⟩, group_gid hg⟩
  simpa [ht] using h

/-- A fatal trap ends the trapping group and its launch, where that launch is the host's (R272). -/
theorem fatal_gone {s : State} {g : Group} {t : Team} {l : Launch} {r : Resume} {n : Nat} (hg : s.group n = some g)
    (ht : s.team g.team = some t) (hl : s.launch t.launch = some l) (ho : l.origin = .host) (hr : g.resume = some r)
    (hplain : ∀ l ∈ s.launches, l.plain) : (s.fatal n).group n = none ∧ (s.fatal n).launch t.launch = none := by
  have hlof : s.launchOf n = some l := by
    unfold State.launchOf
    rw [hg, Option.bind_some, ht, Option.bind_some, hl]
  have hlid : l.lid = t.launch := by simpa using List.find?_some hl
  have hraise := raise_sameUnits s (s.trapRecord 0x10 g r)
  have hmem : t.launch ∈ s.withChildren 4 [l.lid] := subset_withChildren s 4 (by simp [hlid])
  unfold State.fatal
  simp only [hg, hlof, hr, rootOf_host s 4 ho]
  obtain ⟨hgroups, hlaunches⟩ := endUnits_gone (s := s.raise (s.trapRecord 0x10 g r)) (lids := s.withChildren 4 [l.lid])
    (by rw [hraise.2.2]; exact hplain) 1 r.info.cause
  refine ⟨hgroups n (mem_groupsOf ((hraise.group n).trans hg) ((hraise.team _).trans ht) hmem), ?_⟩
  rw [← hlid]
  exact hlaunches l (by rw [hraise.2.2]; exact List.mem_of_find?_eq_some hl) (hlid ▸ hmem)

/-- A fatal trap at the end of trap entry ends the trapping group and its launch, where that launch is the host's (R272). -/
theorem entry_fatal_gone {s : State} {g : Group} {t : Team} {l : Launch} {r : Resume} {n : Nat} (hg : s.group n = some g)
    (ht : s.team g.team = some t) (hl : s.launch t.launch = some l) (ho : l.origin = .host) (hr : g.resume = some r)
    (hplain : ∀ l ∈ s.launches, l.plain) :
    let u := State.fatal ((s.letGo n).setGroup (g.recorded r)) n
    u.group n = none ∧ u.launch t.launch = none := by
  have hsame := (letGo_onlyArrays s n).sameUnits
  have hgid : (g.recorded r).gid = n := show g.gid = n from group_gid hg
  refine fatal_gone (g := g.recorded r) (l := l) (r := r) (group_setGroup_eq hgid ((hsame.group n).trans hg))
    ((hsame.team _).trans ht) ((hsame.launch _).trans hl) ho hr fun k hk => hplain k ?_
  rw [← hsame.2.2]
  exact hk

end Sys2Proof.Machine
end

section
/-!
SUPPORT. TRAP, BKPT and TRAPRET (R89, R273, R274).
-/
namespace Sys2Proof.Machine
set_option Elab.async false

/-- An instruction with nothing of its own to wait for reaches its effect where nothing stops it. -/
theorem run_clear_now {i : Instr} {s : State} {I : Issue} {enc priv : Issue → Bool} {body : Issue → Eff} (h : s.issue = some I)
    (hc : I.clear i = true) (he : enc I = false) (hp : priv I = false) :
    runInstr i (prologue i enc priv body) s = .next ((body I).finish I.g.gid (instrBytes i)) := by
  have hwaits : withWaits i body I = body I := by
    unfold Issue.clear at hc
    simp only [Bool.and_eq_true, Bool.not_eq_true', List.all_eq_true, Option.isNone_iff_eq_none] at hc
    obtain ⟨⟨-, halias⟩, hports⟩ := hc
    exact withWaits_clear halias hports
  have hsame : prologue i enc priv body I = prologue i enc priv (withWaits i body) I := by
    unfold prologue
    rw [hwaits]
  have hrun := run_clear (body := body) h hc he hp
  unfold runInstr at hrun ⊢
  rw [h] at hrun ⊢
  dsimp only at hrun ⊢
  rw [hsame]
  exact hrun

/-- A trap of the issuing instruction raises it at its place (R8, R38). -/
theorem trap_finish {s : State} {I : Issue} (h : s.issue = some I) (i : Instr) (cause : Byte) (addr : Addr) :
    (I.trap cause addr).finish I.g.gid (instrBytes i) = I.raises i { cause := cause, addr := addr } := by
  obtain ⟨rfl, hgrp, hcl, -⟩ := issue_spec h
  unfold Issue.trap Eff.finish State.trapGroup Issue.raises
  simp only [hgrp, hcl]

theorem exec_trap_raises {s : State} {I : Issue} (h : s.issue = some I) (o : CtlOp) (hc : I.clear (.trap o) = true) :
    exec (.trap o) s = .next (I.raises (.trap o) { cause := SOFTWARE, addr := o.imm.setWidth 64 }) := by
  rw [← trap_finish h]
  exact run_clear h hc rfl rfl

theorem exec_bkpt_raises {s : State} {I : Issue} (h : s.issue = some I) (o : CtlOp) (hc : I.clear (.bkpt o) = true) :
    exec (.bkpt o) s = .next (I.raises (.bkpt o) { cause := BREAKPOINT, addr := o.imm.setWidth 64 }) := by
  rw [← trap_finish h]
  exact run_clear h hc rfl rfl

/-- TRAPRET in a handler makes its group what `Group.trapReturn` says (R274). -/
theorem exec_trapret_returns {s : State} {I : Issue} (h : s.issue = some I) (o : CtlOp) (hc : I.clear (.trapret o) = true)
    (hh : I.g.handling = true) : exec (.trapret o) s = .next (s.setGroup (I.g.trapReturn I.cl s.cycle)) := by
  obtain ⟨rfl, -⟩ := issue_spec h
  exact run_clear_now h hc rfl (by simp [hh])

/-- The split that TRAPRET puts back (R274). -/
def Group.restored (g : Group) (own : Clause) (r : Resume) : Split :=
  { label := r.split, pc := codeAddr g.epc, lanes := r.lanes, cc := g.trapCc r own.split, join := r.join }

/-- A group that TRAPRET takes out of its handler, before it is known where in the recorded clause it goes on (R274). -/
def Group.returned (g : Group) (own : Clause) (r : Resume) (cycle : Nat) : Group :=
  { g with
    splits := g.restored own r :: g.splits.filter fun x => x.lanes &&& r.lanes == 0
    joins := g.joins.filter (fun j => !j.handler), handling := false, clause := none
    status := if own.marker && !g.drained then .parked .marker else .resident
    window := false, interval := true, since := cycle, ageFrom := cycle, prog := 0
    resume := none, entry := .none, sched := g.cls, dropClaim := false, claim := none, enqDone := 0, enq := none }

/-- The claim that survives a TRAPRET to the same instruction (R270, R274). -/
def Group.keptClaim (g : Group) : Option (Addr × Nat) := if g.dropClaim then none else g.claim

section Return
variable {g : Group} {own : Clause} {cycle : Nat} {r : Resume} (hr : g.resume = some r)
include hr

/-- With EPC as it was TRAPRET goes on at the recorded clause's same instruction; with any other EPC at its next one, where
EPC is that instruction's, or at no clause. -/
theorem trapReturn_cases : g.trapReturn own cycle =
    if g.epc = r.epc ∧ r.byInstr = true then
      { g.returned own r cycle with
        clause := r.clause.map Clause.again, claim := g.keptClaim, enqDone := (r.clause.map fun _ => r.appended).getD 0 }
    else
      { g.returned own r cycle with
        clause := (if g.epc = r.epc + BitVec.ofNat 64 r.len then r.past else none).map Clause.again } := by
  unfold Group.trapReturn
  split
  · rename_i hnone
    simp [hr] at hnone
  · rename_i r' hr'
    obtain rfl : r = r' := Option.some.inj (hr.symm.trans hr')
    by_cases hsame : g.epc = r.epc ∧ r.byInstr = true
    · rw [if_pos hsame]
      refine (if_pos (by simpa using hsame)).trans ?_
      cases r.clause <;> rfl
    · rw [if_neg hsame]
      refine (if_neg (by simpa using hsame)).trans ?_
      by_cases hnext : g.epc = r.epc + BitVec.ofNat 64 r.len
      · rw [if_pos hnext, if_pos (by simpa using hnext)]
        cases r.past <;> rfl
      · rw [if_neg hnext, if_neg (by simpa using hnext)]
        rfl

theorem trapReturn_again (he : g.epc = r.epc) (hb : r.byInstr = true) :
    g.trapReturn own cycle = { g.returned own r cycle with
      clause := r.clause.map Clause.again, claim := g.keptClaim, enqDone := (r.clause.map fun _ => r.appended).getD 0 } :=
  (trapReturn_cases hr).trans (if_pos ⟨he, hb⟩)

theorem trapReturn_elsewhere (h : g.epc ≠ r.epc ∨ r.byInstr = false) :
    g.trapReturn own cycle = { g.returned own r cycle with
      clause := (if g.epc = r.epc + BitVec.ofNat 64 r.len then r.past else none).map Clause.again } :=
  (trapReturn_cases hr).trans (if_neg fun ⟨he, hb⟩ => h.elim (· he) fun hf => by simp [hf] at hb)

/-- What every TRAPRET does (R274): all but clause, claim and the count of an ENQ. -/
theorem trapReturn_eq : ∃ cl claim n,
    g.trapReturn own cycle = { g.returned own r cycle with clause := cl, claim := claim, enqDone := n } := by
  rw [trapReturn_cases hr]
  split
  · exact ⟨_, _, _, rfl⟩
  · exact ⟨_, _, _, rfl⟩

end Return

/-- The recorded clause with its instruction done has a next instruction only where the clause goes on. -/
theorem past_eq_none {r : Resume} (h : r.byInstr = false ∨ ∀ cl, r.clause = some cl → cl.count ≤ cl.idx + 1) :
    r.past = none := by
  unfold Resume.past
  split
  · rfl
  · rename_i cl hcl
    refine if_neg fun hlt => ?_
    simp only [Bool.and_eq_true, decide_eq_true_eq] at hlt
    rcases h with h | h
    · simp [h] at hlt
    · exact absurd hlt.2 (Nat.not_lt.2 (h cl hcl))

theorem past_eq_some {r : Resume} {cl : Clause} (hb : r.byInstr = true) (hcl : r.clause = some cl)
    (hlt : cl.idx + 1 < cl.count) :
    r.past = some { cl with idx := cl.idx + 1, pc := r.epc + BitVec.ofNat 64 r.len, words := none } := by
  unfold Resume.past
  rw [hcl]
  exact if_pos (by rw [hb, Bool.true_and]; exact decide_eq_true hlt)

/-- The splits after TRAPRET: the trapping one, and those that do not overlap it (R274). -/
theorem returned_splits (g : Group) (own : Clause) (r : Resume) (cycle : Nat) (y : Split) :
    y ∈ (g.returned own r cycle).splits ↔ y = g.restored own r ∨ (y ∈ g.splits ∧ y.lanes &&& r.lanes = 0) := by
  show y ∈ _ :: List.filter _ _ ↔ _
  rw [List.mem_cons, List.mem_filter, beq_iff_eq]

/-- The trapping split keeps the flags it has (R274; log 10). -/
theorem restored_cc {g : Group} {own : Clause} {r : Resume} {y : Split}
    (h : g.splits.find? (fun y => y.label == r.split) = some y) : (g.restored own r).cc = y.cc := by
  show g.trapCc r own.split = y.cc
  unfold Group.trapCc
  rw [h]
  rfl

end Sys2Proof.Machine
end

section
/-!
PROOFS. Traps and returns (O33).
-/
namespace Sys2Proof.Machine
set_option Elab.async false

/-- The trapping group alone is changed by a TRAPRET, and every field of it that does not tell where it goes on (R274). -/
theorem trapret_restores {s : State} {I : Issue} {r : Resume} (h : s.issue = some I) (hr : I.g.resume = some r)
    (hm : I.cl.marker = false) :
    let g := I.g.trapReturn I.cl s.cycle
    (s.setGroup g).group I.g.gid = some g ∧ g.handling = false ∧ g.status = .resident ∧
      g.window = false ∧ g.interval = true ∧ g.resume = none ∧ g.sched = I.g.cls ∧ g.regs = I.g.regs ∧
      s.sameButGroup (s.setGroup g) I.g.gid ∧ (∀ j, j ∈ g.joins ↔ j ∈ I.g.joins ∧ j.handler = false) ∧
      g.splits = (I.g.returned I.cl r s.cycle).splits := by
  obtain ⟨rfl, hgrp, -⟩ := issue_spec h
  obtain ⟨cl, claim, n, he⟩ := trapReturn_eq (own := I.cl) (cycle := I.s.cycle) hr
  have hstatus : (I.g.returned I.cl r I.s.cycle).status = .resident := by
    simp [Group.returned, hm]
  have hjoins : ∀ j, j ∈ (I.g.returned I.cl r I.s.cycle).joins ↔ j ∈ I.g.joins ∧ j.handler = false := fun j => by
    simp [Group.returned]
  rw [he]
  exact ⟨group_setGroup_eq rfl hgrp, rfl, hstatus, rfl, rfl, rfl, rfl, rfl, setGroup_sameButGroup _ rfl, hjoins, rfl⟩

/-- The trapping split is back with its lanes, join and flags, and no other that overlaps it (R274). -/
theorem returned_trapping_split (g : Group) (own : Clause) (r : Resume) (cycle : Nat) :
    ∃ x ∈ (g.returned own r cycle).splits, x.label = r.split ∧ x.pc = (g.epc.extractLsb' 0 56).setWidth 64 ∧
      x.lanes = r.lanes ∧ x.join = r.join ∧ x.parked = false ∧
      (∀ y, g.splits.find? (fun y => y.label == r.split) = some y → x.cc = y.cc) ∧
      ∀ y ∈ (g.returned own r cycle).splits, y = x ∨ (y ∈ g.splits ∧ y.lanes &&& r.lanes = 0) :=
  ⟨g.restored own r, (returned_splits _ _ _ _ _).2 (.inl rfl), rfl, rfl, rfl, rfl, rfl, fun _ => restored_cc,
    fun y => (returned_splits _ _ _ _ y).1⟩

/-- Where a group goes on after TRAPRET, by its EPC (R270, R274). -/
theorem trapReturn_resumes {g : Group} {own : Clause} {r : Resume} {cycle : Nat} (hr : g.resume = some r) :
    (∀ cl, g.epc = r.epc → r.byInstr = true → r.clause = some cl →
      (g.trapReturn own cycle).clause = some { cl with debited := false, words := none } ∧
        (g.trapReturn own cycle).enqDone = r.appended ∧
        (g.trapReturn own cycle).claim = if g.dropClaim then none else g.claim) ∧
    (∀ cl, g.epc ≠ r.epc → g.epc = r.epc + BitVec.ofNat 64 r.len → r.byInstr = true → r.clause = some cl →
      cl.idx + 1 < cl.count →
      (g.trapReturn own cycle).clause = some { cl with idx := cl.idx + 1, pc := g.epc, debited := false, words := none } ∧
        (g.trapReturn own cycle).claim = none ∧ (g.trapReturn own cycle).enqDone = 0) ∧
    ((g.epc ≠ r.epc ∨ r.byInstr = false) →
      (g.epc ≠ r.epc + BitVec.ofNat 64 r.len ∨ r.byInstr = false ∨ ∀ cl, r.clause = some cl → cl.count ≤ cl.idx + 1) →
      (g.trapReturn own cycle).clause = none ∧ (g.trapReturn own cycle).claim = none) := by
  refine ⟨fun cl he hb hcl => ?_, fun cl hne he hb hcl hlt => ?_, fun hne hpast => ?_⟩
  · rw [trapReturn_again hr he hb, hcl]
    exact ⟨rfl, rfl, rfl⟩
  · rw [trapReturn_elsewhere hr (.inl hne), if_pos he, past_eq_some hb hcl hlt, ← he]
    exact ⟨rfl, rfl, rfl⟩
  · have hnone : (if g.epc = r.epc + BitVec.ofNat 64 r.len then r.past else none) = none := by
      split
      · rename_i he
        exact past_eq_none (hpast.resolve_left (not_not_intro he))
      · rfl
    rw [trapReturn_elsewhere hr hne, hnone]
    exact ⟨rfl, rfl⟩

end Sys2Proof.Machine

open Sys2Proof.Machine

/-- Settles O33: TRAP and BKPT by how an instruction that nothing stops ends, TRAPRET by the equations of `trapReturn`, trap
entry by `enterTrap_drained`, its fatal end because nothing that follows the removal of the group and of the launch brings
either back. -/
theorem trapsAndReturns : Obligations.TrapsAndReturns := by
  unfold Obligations.TrapsAndReturns
  refine ⟨fun s I o h => ⟨exec_trap_raises h o, exec_bkpt_raises h o, fun r hc hh hr hm => ?_⟩,
    fun s g t c r hg hh hst he hr hf => ?_⟩
  · obtain ⟨hgrp, hhandling, hstatus, hwindow, hinterval, hresume, hsched, hregs, hsame, hjoins, hsplits⟩ :=
      trapret_restores h hr hm
    refine ⟨_, _, exec_trapret_returns h o hc hh, hgrp, hhandling, hstatus, hwindow, hinterval, hresume, hsched, hregs,
      hsame, hjoins, ?_, ?_, trapReturn_resumes hr⟩
    · rw [hsplits]
      exact fun y hy hdisjoint => (returned_splits _ _ _ _ y).2 (.inr ⟨hy, hdisjoint⟩)
    · rw [hsplits]
      exact returned_trapping_split I.g I.cl r s.cycle
  · have hexec := execTrapEntry_raised hg hh hst he hr hf
    obtain ⟨ht, hc⟩ := home_spec hh
    have hown : s.group g.gid = some g := (group_gid hg).symm ▸ hg
    refine ⟨fun hd => ?_, fun hd hhandler hdouble => ?_, fun hd hfatal _ ⟨l, hl, ho⟩ hplain => ?_⟩
    · rw [hexec, enterTrap_waits hown ht hc hr _ _ hd]
    · rw [hexec, enterTrap_drained hown ht hc hr _ hd, if_neg (not_or.2 ⟨hhandler, by simp [hdouble]⟩)]
      obtain ⟨hgrp, hframe, howner, hresvs⟩ := handled_leaves hown ht (h := g.handled r c.handler s.cycle) rfl
      exact ⟨_, _, rfl, hgrp, rfl, hframe, howner, hresvs⟩
    · rw [hexec, enterTrap_drained hown ht hc hr _ hd, if_pos hfatal]
      exact ⟨_, rfl, entry_fatal_gone hown ht hl ho hr hplain⟩
end

section
/-!
SUPPORT. The words that the decoder accepts: each is the encoding of the instruction that it gives (R23 to R38).
-/
namespace Sys2Proof
set_option Elab.async false

/-! ### Words and their fields -/

/-- Adjacent fields of a word, the high one first, are one field. -/
theorem append_extract {n hi lo k m : Nat} (w : BitVec n) (h : hi = lo + m) :
    w.extractLsb' hi k ++ w.extractLsb' lo m = w.extractLsb' lo (k + m) := by
  subst h
  apply BitVec.eq_of_getLsbD_eq
  intro i hi
  simp only [BitVec.getLsbD_append, BitVec.getLsbD_extractLsb']
  by_cases hm : i < m
  · simp [hm, hi]
  · simp [hm, hi, show i - m < k by omega, show lo + m + (i - m) = lo + i by omega]

/-- A single bit of a word is a field of one bit. -/
theorem ofBool_getLsbD {n : Nat} (w : BitVec n) (k : Nat) : BitVec.ofBool (w.getLsbD k) = w.extractLsb' k 1 := by
  apply BitVec.eq_of_getLsbD_eq
  intro i hi
  obtain rfl : i = 0 := by omega
  cases h : w.getLsbD k <;> simp [h]

theorem ofNat_toNat_field {n : Nat} (w : BitVec n) (lo k : Nat) :
    BitVec.ofNat k (w.extractLsb' lo k).toNat = w.extractLsb' lo k := by
  rw [BitVec.ofNat_toNat, BitVec.setWidth_eq]

/-- A word of format S is put together again from its fields (R23). -/
theorem packS_unpackS (w : Word) : packS (opOf w) (unpackS w) = w := by
  unfold packS unpackS opOf
  rw [ofNat_toNat_field, ofBool_getLsbD]
  simp (disch := rfl) only [append_extract]
  exact extract_all w

/-- A word of format SI is put together again from its fields (R23). -/
theorem packI_unpackI (w : Word) : packI (opOf w) (unpackI w) = w := by
  unfold packI unpackI opOf
  rw [ofNat_toNat_field, ofBool_getLsbD]
  simp (disch := rfl) only [append_extract]
  exact extract_all w

/-- The first bytes of a list as a word, and the list put together again (R4). -/
theorem takeWord_eq_some {bs rest : List Byte} {w : Word} (h : takeWord bs = some (w, rest)) : bs = wordBytes w ++ rest := by
  unfold takeWord at h
  split at h
  · simp only [Option.some.injEq, Prod.mk.injEq] at h
    obtain ⟨rfl, rfl⟩ := h
    unfold wordBytes
    simp (disch := omega) only [extract_append_high, extract_append_low, Nat.reduceSub, extract_all]
    rfl
  · cases h

/-! ### What a decoder accepts -/

/-- All that a decoder accepts is well-formed instructions whose words are the ones read. -/
def Accepts (r : Except DecodeErr Instr) (ws : List Word) : Prop :=
  ∀ i, r = .ok i → wf i = true ∧ i.isEvent = false ∧ encode i = ws

theorem accepts_error (e : DecodeErr) (ws : List Word) : Accepts (.error e) ws := fun _ h => by cases h

theorem accepts_mk {i : Instr} {ws : List Word} (hev : i.isEvent = false) (hws : encode i = ws) : Accepts (mk i) ws := by
  intro j h
  unfold mk at h
  split at h
  · rename_i hw
    obtain rfl : i = j := by simpa using h
    exact ⟨hw, hev, hws⟩
  · cases h

theorem accepts_ite_error {p : Prop} [Decidable p] {e : DecodeErr} {r : Except DecodeErr Instr} {ws : List Word}
    (h : ¬p → Accepts r ws) : Accepts (if p then .error e else r) ws := by
  split
  · exact accepts_error e ws
  · rename_i hp
    exact h hp

/-- A reserved field of an accepted word is zero (R26). -/
theorem accepts_reserved {ok : Bool} {r : Except DecodeErr Instr} {ws : List Word} (h : ok = true → Accepts r ws) :
    Accepts (reserved ok r) ws := by
  unfold reserved
  split
  · exact accepts_error _ ws
  · split
    · rename_i hok
      exact h hok
    · exact accepts_error _ ws

theorem pickShort_accepts (n : Nat) (o : SOp) : Accepts (pickShort n o) [packS n o] := by
  unfold pickShort
  split
  case h_45 => exact accepts_error _ _
  all_goals exact accepts_mk rfl rfl

theorem pickImm_accepts (n : Nat) (o : IOp) : Accepts (pickImm n o) [packI n o] := by
  unfold pickImm
  split
  case h_5 => exact accepts_error _ _
  all_goals exact accepts_mk rfl rfl

theorem pickSfu_accepts (f : Nat) (o : UOp) : Accepts (pickSfu f o) [uW 0x2B f o] := by
  unfold pickSfu
  split
  case h_11 => exact accepts_error _ _
  all_goals exact accepts_mk rfl rfl

theorem pickUni_accepts (f : Nat) (o : UOp) : Accepts (pickUni f o) [uW 0x2C f o] := by
  unfold pickUni
  split
  case h_18 => exact accepts_error _ _
  all_goals exact accepts_mk rfl rfl

theorem pickShfl_accepts (f : Nat) (o : UOp) : Accepts (pickShfl f o) [uW 0x2D f o] := by
  unfold pickShfl
  split
  · exact accepts_mk rfl rfl
  · exact accepts_error _ _

theorem pickRedl_accepts (f : Nat) (o : UOp) : Accepts (pickRedl f o) [uW 0x2F f o] := by
  unfold pickRedl
  split
  case h_10 => exact accepts_error _ _
  all_goals exact accepts_mk rfl rfl

theorem pickScan_accepts (f : Nat) (o : UOp) : Accepts (pickScan f o) [uW 0x30 f o] := by
  unfold pickScan
  split
  case h_19 => exact accepts_error _ _
  all_goals exact accepts_mk rfl rfl

theorem pickVote_accepts (f : Nat) (o : UOp) : Accepts (pickVote f o) [uW 0x31 f o] := by
  unfold pickVote
  split
  case h_6 => exact accepts_error _ _
  all_goals exact accepts_mk rfl rfl

theorem pickL3_accepts (f : Nat) (o : L3Op) : Accepts (pickL3 f o) (l3W f o) := by
  unfold pickL3
  split
  case h_13 => exact accepts_error _ _
  all_goals exact accepts_mk rfl rfl

theorem pickMem_accepts (f : Nat) (o : MemOp) : Accepts (pickMem f o) (memW f o) := by
  unfold pickMem
  split
  case h_41 => exact accepts_error _ _
  all_goals exact accepts_mk rfl rfl

theorem pickMat_accepts (f : Nat) (o : MatOp) : Accepts (pickMat f o) (matW f o) := by
  unfold pickMat
  split
  case h_11 => exact accepts_error _ _
  all_goals exact accepts_mk rfl rfl

theorem pickCtl_accepts (f : Nat) (o : CtlOp) : Accepts (pickCtl f o) (ctlW f o) := by
  unfold pickCtl
  split
  case h_18 => exact accepts_error _ _
  all_goals exact accepts_mk rfl rfl

theorem pickSync_accepts (f : Nat) (o : SyncOp) : Accepts (pickSync f o) (syncW f o) := by
  unfold pickSync
  split
  case h_9 => exact accepts_error _ _
  all_goals exact accepts_mk rfl rfl

theorem not_and_not_of_or {t d : Bool} (h : ¬(t || d) = true) : t = false ∧ d = false := by simpa using h

/-- The XFER family: T and D choose among the forms of a funct and are zero in the others (R31). -/
theorem pickXfer_accepts (f : Nat) (t d : Bool) (o : XferOp) : Accepts (pickXfer f t d o) (xferW f t d o) := by
  unfold pickXfer
  split
  case h_6 =>
    refine accepts_ite_error fun ht => ?_
    cases t
    · cases d
      · exact accepts_mk rfl rfl
      · exact accepts_mk rfl rfl
    · exact absurd rfl ht
  case h_8 =>
    refine accepts_ite_error fun hd => ?_
    cases d
    · cases t
      · exact accepts_mk rfl rfl
      · exact accepts_mk rfl rfl
    · exact absurd rfl hd
  case h_11 => exact accepts_error _ _
  all_goals
    refine accepts_ite_error fun htd => ?_
    obtain ⟨rfl, rfl⟩ := not_and_not_of_or htd
    exact accepts_mk rfl rfl

/-- A sub-operation by its number. -/
theorem eq_ofNat_of_toNat {n k : Nat} {x : BitVec n} (h : x.toNat = k) : x = BitVec.ofNat n k := by
  subst h
  simp

theorem pickRatom_accepts (o : FabOp) : Accepts (pickRatom o) (fabW 3 o.sub false o) := by
  unfold pickRatom
  split
  case h_6 => exact accepts_error _ _
  all_goals
    rename_i hsub
    rw [eq_ofNat_of_toNat hsub]
    exact accepts_mk rfl rfl

theorem pickRred_accepts (o : FabOp) : Accepts (pickRred o) (fabW 4 o.sub false o) := by
  unfold pickRred
  split
  case h_4 => exact accepts_error _ _
  all_goals
    rename_i hsub
    rw [eq_ofNat_of_toNat hsub]
    exact accepts_mk rfl rfl

/-- The FAB family: M chooses among the forms of RST and is zero in the others (R32). -/
theorem pickFab_accepts (f : Nat) (m : Bool) (o : FabOp) : Accepts (pickFab f m o) (fabW f o.sub m o) := by
  unfold pickFab
  split
  case h_2 =>
    cases m
    · exact accepts_mk rfl rfl
    · exact accepts_mk rfl rfl
  case h_4 =>
    refine accepts_ite_error fun hm => ?_
    rw [Bool.not_eq_true] at hm
    exact hm ▸ pickRatom_accepts o
  case h_5 =>
    refine accepts_ite_error fun hm => ?_
    rw [Bool.not_eq_true] at hm
    exact hm ▸ pickRred_accepts o
  case h_12 => exact accepts_error _ _
  all_goals
    refine accepts_ite_error fun hm => ?_
    rw [Bool.not_eq_true] at hm
    subst hm
    exact accepts_mk rfl rfl

theorem pickSys_accepts (f : Nat) (o : SysOp) : Accepts (pickSys f o) (sysW f o) := by
  unfold pickSys
  split
  case h_4 =>
    split
    · exact accepts_mk rfl rfl
    · exact accepts_mk rfl rfl
  case h_5 => exact accepts_error _ _
  all_goals exact accepts_mk rfl rfl

/-! ### The words of an accepted instruction -/

/-- A word whose function code stands in b is put together again from it, where xb is zero (R25). -/
theorem packS_fnOp {w : Word} (h : (unpackS w).xb = 0) :
    packS (opOf w) (fnOp (unpackS w).b.toNat ⟨(unpackS w).d, (unpackS w).a, (unpackS w).xa, (unpackS w).m⟩) = w := by
  have hop : fnOp (unpackS w).b.toNat ⟨(unpackS w).d, (unpackS w).a, (unpackS w).xa, (unpackS w).m⟩ = unpackS w := by
    generalize unpackS w = o at h
    obtain ⟨d, a, xa, b, xb, m⟩ := o
    subst h
    simp [fnOp]
  rw [hop, packS_unpackS]

theorem withFn_accepts {w : Word} {n : Nat} {pick : Nat → UOp → Except DecodeErr Instr} (hn : opOf w = n)
    (hpick : ∀ f o, Accepts (pick f o) [uW n f o]) : Accepts (withFn w pick) [w] := by
  unfold withFn
  refine accepts_reserved fun hxb => ?_
  have hw := packS_fnOp (eq_of_beq hxb)
  rw [hn] at hw
  have haccepts := hpick (unpackS w).b.toNat ⟨(unpackS w).d, (unpackS w).a, (unpackS w).xa, (unpackS w).m⟩
  unfold uW at haccepts
  rwa [hw] at haccepts

/-- What the decoder accepts of a one-word opcode is encoded as that word. -/
theorem decodeShort_accepts (w : Word) : Accepts (decodeShort w) [w] := by
  unfold decodeShort
  split
  case h_1 =>
    split
    · rename_i hw
      rw [eq_of_beq hw]
      intro i hi
      obtain rfl : Instr.nop = i := by simpa using hi
      exact ⟨rfl, rfl, rfl⟩
    · exact accepts_error _ _
  case h_6 hn => exact withFn_accepts hn pickSfu_accepts
  case h_7 hn => exact withFn_accepts hn pickUni_accepts
  case h_8 hn =>
    split
    · exact withFn_accepts hn pickShfl_accepts
    · exact accepts_error _ _
  case h_9 hn => exact withFn_accepts hn pickRedl_accepts
  case h_10 hn => exact withFn_accepts hn pickScan_accepts
  case h_11 hn => exact withFn_accepts hn pickVote_accepts
  case h_12 =>
    have haccepts := pickShort_accepts (opOf w) (unpackS w)
    rwa [packS_unpackS] at haccepts
  all_goals
    have haccepts := pickImm_accepts (opOf w) (unpackI w)
    rwa [packI_unpackI] at haccepts

/-- The two words of a long instruction are put together again from their fields: what a family packs of its second word is
that word. -/
theorem words_eq {w1 w2 x : Word} {n : Nat} (hn : opOf w1 = n) (h2 : x = w2) : [packS n (unpackS w1), x] = [w1, w2] := by
  rw [← hn, packS_unpackS, h2]

/-- The funct field of a second word, packed again (R26). -/
theorem f8_field (w : Word) : f8 (w.extractLsb' 24 8).toNat = w.extractLsb' 24 8 := ofNat_toNat_field w 24 8

theorem memW_memOf {w1 w2 : Word} (hn : opOf w1 = 0x38) : memW (w2.extractLsb' 24 8).toNat (memOf w1 w2) = [w1, w2] :=
  words_eq hn (by
    simp (disch := rfl) only [memOf, f8_field, append_extract]
    exact extract_all w2)

theorem ctlW_ctlOf {w1 w2 : Word} (hn : opOf w1 = 0x3A) : ctlW (w2.extractLsb' 24 8).toNat (ctlOf w1 w2) = [w1, w2] :=
  words_eq hn (by
    simp (disch := rfl) only [ctlOf, f8_field, append_extract]
    exact extract_all w2)

theorem sysW_sysOf {w1 w2 : Word} (hn : opOf w1 = 0x3E) : sysW (w2.extractLsb' 24 8).toNat (sysOf w1 w2) = [w1, w2] :=
  words_eq hn (by
    simp (disch := rfl) only [sysOf, f8_field, append_extract]
    exact extract_all w2)

theorem matW_matOf {w1 w2 : Word} (hn : opOf w1 = 0x39) (hz : w2.extractLsb' 0 3 = 0) :
    matW (w2.extractLsb' 24 8).toNat (matOf w1 w2) = [w1, w2] :=
  words_eq hn (by
    simp (disch := rfl) only [matOf, f8_field, ofBool_getLsbD, ← hz, append_extract]
    exact extract_all w2)

theorem syncW_syncOf {w1 w2 : Word} (hn : opOf w1 = 0x3B) (hz : w2.extractLsb' 0 16 = 0) :
    syncW (w2.extractLsb' 24 8).toNat (syncOf w1 w2) = [w1, w2] :=
  words_eq hn (by
    simp (disch := rfl) only [syncOf, f8_field, ofBool_getLsbD, ← hz, append_extract]
    exact extract_all w2)

theorem xferW_xferOf {w1 w2 : Word} (hn : opOf w1 = 0x3C) (hz : w2.extractLsb' 0 11 = 0) :
    xferW (w2.extractLsb' 24 8).toNat (w2.getLsbD 13) (w2.getLsbD 12) (xferOf w1 w2) = [w1, w2] :=
  words_eq hn (by
    simp (disch := rfl) only [xferOf, f8_field, ofBool_getLsbD, ← hz, append_extract]
    exact extract_all w2)

theorem fabW_fabOf {w1 w2 : Word} (hn : opOf w1 = 0x3D) (hz : w2.extractLsb' 0 9 = 0) :
    fabW (w2.extractLsb' 24 8).toNat (fabOf w1 w2).sub (w2.getLsbD 9) (fabOf w1 w2) = [w1, w2] :=
  words_eq hn (by
    simp (disch := rfl) only [fabOf, f8_field, ofBool_getLsbD, ← hz, append_extract]
    exact extract_all w2)

/-- What the decoder accepts of a two-word opcode is encoded as those words. -/
theorem decodeLong_accepts (w1 w2 : Word) : Accepts (decodeLong w1 w2) [w1, w2] := by
  unfold decodeLong
  dsimp only
  split
  case h_1 hn => exact memW_memOf hn ▸ pickMem_accepts _ _
  case h_2 hn => exact accepts_reserved fun hz => matW_matOf hn (eq_of_beq hz) ▸ pickMat_accepts _ _
  case h_3 hn => exact ctlW_ctlOf hn ▸ pickCtl_accepts _ _
  case h_4 hn => exact accepts_reserved fun hz => syncW_syncOf hn (eq_of_beq hz) ▸ pickSync_accepts _ _
  case h_5 hn => exact accepts_reserved fun hz => xferW_xferOf hn (eq_of_beq hz) ▸ pickXfer_accepts _ _ _ _
  case h_6 hn => exact accepts_reserved fun hz => fabW_fabOf hn (eq_of_beq hz) ▸ pickFab_accepts _ _ _
  case h_7 hn => exact sysW_sysOf hn ▸ pickSys_accepts _ _
  case h_8 hn =>
    refine accepts_reserved fun hz => ?_
    have hwords := words_eq (x := w2) hn rfl
    have haccepts := pickL3_accepts (unpackS w1).b.toNat
      ⟨(unpackS w1).d, (unpackS w1).a, (unpackS w1).xa, (unpackS w1).m, w2⟩
    unfold l3W at haccepts
    have hw := packS_fnOp (eq_of_beq hz)
    rw [hn] at hw
    rwa [hw] at haccepts
  case h_9 => exact accepts_error _ _

/-- What the decoder accepts of a list of bytes is a well-formed instruction, no event, whose encoding the list begins
with. -/
theorem decodeBytes_eq_ok {bs rest : List Byte} {i : Instr} (h : decodeBytes bs = .ok (i, rest)) :
    wf i = true ∧ i.isEvent = false ∧ bs = encodeBytes i ++ rest := by
  unfold decodeBytes at h
  split at h
  · cases h
  · rename_i w1 r1 h1
    split at h
    · split at h
      · cases h
      · rename_i w2 r2 h2
        cases hd : decodeLong w1 w2 with
        | error e => simp [hd, Except.map] at h
        | ok j =>
          simp only [hd, Except.map, Except.ok.injEq, Prod.mk.injEq] at h
          obtain ⟨rfl, rfl⟩ := h
          obtain ⟨hwf, hev, hwords⟩ := decodeLong_accepts w1 w2 j hd
          refine ⟨hwf, hev, ?_⟩
          rw [encodeBytes, hwords, takeWord_eq_some h1, takeWord_eq_some h2]
          simp
    · cases hd : decodeShort w1 with
      | error e => simp [hd, Except.map] at h
      | ok j =>
        simp only [hd, Except.map, Except.ok.injEq, Prod.mk.injEq] at h
        obtain ⟨rfl, rfl⟩ := h
        obtain ⟨hwf, hev, hwords⟩ := decodeShort_accepts w1 j hd
        refine ⟨hwf, hev, ?_⟩
        rw [encodeBytes, hwords, takeWord_eq_some h1]
        simp

end Sys2Proof
end

section
/-!
PROOFS. Decoding and encoding (O1, O2).
-/
namespace Sys2Proof.Laws
set_option Elab.async false

/-- Every instruction is decoded from its encoding; events have none. -/
theorem roundTrip (i : Instr) : RoundTrip.Statement i := by
  cases i with
  | nop => exact RoundTrip.nop | iadd o => exact RoundTrip.iadd o | isub o => exact RoundTrip.isub o
  | imul o => exact RoundTrip.imul o | imulhi o => exact RoundTrip.imulhi o | imulhu o => exact RoundTrip.imulhu o
  | imad o => exact RoundTrip.imad o | iaddi o => exact RoundTrip.iaddi o | and o => exact RoundTrip.and o
  | or o => exact RoundTrip.or o | xor o => exact RoundTrip.xor o | andn o => exact RoundTrip.andn o
  | shl o => exact RoundTrip.shl o | shr o => exact RoundTrip.shr o | sar o => exact RoundTrip.sar o
  | shli o => exact RoundTrip.shli o | shri o => exact RoundTrip.shri o | sari o => exact RoundTrip.sari o
  | imin o => exact RoundTrip.imin o | imax o => exact RoundTrip.imax o | umin o => exact RoundTrip.umin o
  | umax o => exact RoundTrip.umax o | iseq o => exact RoundTrip.iseq o | isne o => exact RoundTrip.isne o
  | islt o => exact RoundTrip.islt o | isle o => exact RoundTrip.isle o | isltu o => exact RoundTrip.isltu o
  | isleu o => exact RoundTrip.isleu o | fadd o => exact RoundTrip.fadd o | fsub o => exact RoundTrip.fsub o
  | fmul o => exact RoundTrip.fmul o | fmac o => exact RoundTrip.fmac o | fmin o => exact RoundTrip.fmin o
  | fmax o => exact RoundTrip.fmax o | fseq o => exact RoundTrip.fseq o | fslt o => exact RoundTrip.fslt o
  | fsle o => exact RoundTrip.fsle o | fsun o => exact RoundTrip.fsun o | badd2 o => exact RoundTrip.badd2 o
  | bmul2 o => exact RoundTrip.bmul2 o | bmac2 o => exact RoundTrip.bmac2 o | sel o => exact RoundTrip.sel o
  | add64 o => exact RoundTrip.add64 o | ex2 o => exact RoundTrip.ex2 o | lg2 o => exact RoundTrip.lg2 o
  | rcp o => exact RoundTrip.rcp o | rsq o => exact RoundTrip.rsq o | sqrt o => exact RoundTrip.sqrt o
  | sinpi o => exact RoundTrip.sinpi o | cospi o => exact RoundTrip.cospi o | tanh o => exact RoundTrip.tanh o
  | sigm o => exact RoundTrip.sigm o | erf o => exact RoundTrip.erf o | popc o => exact RoundTrip.popc o
  | clz o => exact RoundTrip.clz o | brev o => exact RoundTrip.brev o | iabs o => exact RoundTrip.iabs o
  | ineg o => exact RoundTrip.ineg o | fabs o => exact RoundTrip.fabs o | fneg o => exact RoundTrip.fneg o
  | frintRne o => exact RoundTrip.frintRne o | frintRz o => exact RoundTrip.frintRz o
  | frintRp o => exact RoundTrip.frintRp o | frintRm o => exact RoundTrip.frintRm o | cvtfi o => exact RoundTrip.cvtfi o
  | cvtfu o => exact RoundTrip.cvtfu o | cvtif o => exact RoundTrip.cvtif o | cvtuf o => exact RoundTrip.cvtuf o
  | cvtfb o => exact RoundTrip.cvtfb o | cvtbf o => exact RoundTrip.cvtbf o | shfl o => exact RoundTrip.shfl o
  | shflx o => exact RoundTrip.shflx o | redlIadd o => exact RoundTrip.redlIadd o | redlFadd o => exact RoundTrip.redlFadd o
  | redlImax o => exact RoundTrip.redlImax o | redlImin o => exact RoundTrip.redlImin o
  | redlFmax o => exact RoundTrip.redlFmax o | redlFmin o => exact RoundTrip.redlFmin o
  | redlAnd o => exact RoundTrip.redlAnd o | redlOr o => exact RoundTrip.redlOr o | redlXor o => exact RoundTrip.redlXor o
  | scanIadd o => exact RoundTrip.scanIadd o | scanFadd o => exact RoundTrip.scanFadd o
  | scanImax o => exact RoundTrip.scanImax o | scanImin o => exact RoundTrip.scanImin o
  | scanFmax o => exact RoundTrip.scanFmax o | scanFmin o => exact RoundTrip.scanFmin o
  | scanAnd o => exact RoundTrip.scanAnd o | scanOr o => exact RoundTrip.scanOr o | scanXor o => exact RoundTrip.scanXor o
  | scanXIadd o => exact RoundTrip.scanXIadd o | scanXFadd o => exact RoundTrip.scanXFadd o
  | scanXImax o => exact RoundTrip.scanXImax o | scanXImin o => exact RoundTrip.scanXImin o
  | scanXFmax o => exact RoundTrip.scanXFmax o | scanXFmin o => exact RoundTrip.scanXFmin o
  | scanXAnd o => exact RoundTrip.scanXAnd o | scanXOr o => exact RoundTrip.scanXOr o
  | scanXXor o => exact RoundTrip.scanXXor o | voteAny o => exact RoundTrip.voteAny o
  | voteAll o => exact RoundTrip.voteAll o | voteCount o => exact RoundTrip.voteCount o
  | voteFirst o => exact RoundTrip.voteFirst o | voteBallot o => exact RoundTrip.voteBallot o
  | ucmp o => exact RoundTrip.ucmp o | ufcmp o => exact RoundTrip.ufcmp o | csrr o => exact RoundTrip.csrr o
  | csrw o => exact RoundTrip.csrw o | fcpys o => exact RoundTrip.fcpys o | ldB o => exact RoundTrip.ldB o
  | ldBs o => exact RoundTrip.ldBs o | ldH o => exact RoundTrip.ldH o | ldHs o => exact RoundTrip.ldHs o
  | ldW o => exact RoundTrip.ldW o | ldD o => exact RoundTrip.ldD o | ldQ o => exact RoundTrip.ldQ o
  | stB o => exact RoundTrip.stB o | stH o => exact RoundTrip.stH o | stW o => exact RoundTrip.stW o
  | stD o => exact RoundTrip.stD o | stQ o => exact RoundTrip.stQ o | atomAdd o => exact RoundTrip.atomAdd o
  | atomMin o => exact RoundTrip.atomMin o | atomMax o => exact RoundTrip.atomMax o
  | atomUmin o => exact RoundTrip.atomUmin o | atomUmax o => exact RoundTrip.atomUmax o
  | atomAnd o => exact RoundTrip.atomAnd o | atomOr o => exact RoundTrip.atomOr o | atomXor o => exact RoundTrip.atomXor o
  | atomXchg o => exact RoundTrip.atomXchg o | atomCas o => exact RoundTrip.atomCas o
  | atomIncb o => exact RoundTrip.atomIncb o | atomFadd o => exact RoundTrip.atomFadd o
  | atomBadd2 o => exact RoundTrip.atomBadd2 o | atomFmaxa o => exact RoundTrip.atomFmaxa o
  | redAdd o => exact RoundTrip.redAdd o | redFadd o => exact RoundTrip.redFadd o | redFmaxa o => exact RoundTrip.redFmaxa o
  | stc o => exact RoundTrip.stc o | lde o => exact RoundTrip.lde o | pref o => exact RoundTrip.pref o
  | cclean o => exact RoundTrip.cclean o | cinv o => exact RoundTrip.cinv o | cflush o => exact RoundTrip.cflush o
  | fence o => exact RoundTrip.fence o | defer o => exact RoundTrip.defer o | resolve o => exact RoundTrip.resolve o
  | cellq o => exact RoundTrip.cellq o | cellfail o => exact RoundTrip.cellfail o | modeM o => exact RoundTrip.modeM o
  | modeV o => exact RoundTrip.modeV o | mresv o => exact RoundTrip.mresv o | mbaton o => exact RoundTrip.mbaton o
  | mma o => exact RoundTrip.mma o | gmma o => exact RoundTrip.gmma o | mdrain o => exact RoundTrip.mdrain o
  | mfill o => exact RoundTrip.mfill o | dotb o => exact RoundTrip.dotb o | mstat o => exact RoundTrip.mstat o
  | br o => exact RoundTrip.br o | brz o => exact RoundTrip.brz o | brnz o => exact RoundTrip.brnz o
  | call o => exact RoundTrip.call o | ret o => exact RoundTrip.ret o | jmpr o => exact RoundTrip.jmpr o
  | split o => exact RoundTrip.split o | merge o => exact RoundTrip.merge o | yield o => exact RoundTrip.yield o
  | yieldc o => exact RoundTrip.yieldc o | exit o => exact RoundTrip.exit o | spawn o => exact RoundTrip.spawn o
  | trap o => exact RoundTrip.trap o | trapret o => exact RoundTrip.trapret o | waitc o => exact RoundTrip.waitc o
  | sleep o => exact RoundTrip.sleep o | bkpt o => exact RoundTrip.bkpt o | bararv o => exact RoundTrip.bararv o
  | barwait o => exact RoundTrip.barwait o | barsync o => exact RoundTrip.barsync o | gsync o => exact RoundTrip.gsync o
  | sbexp o => exact RoundTrip.sbexp o | sbarv o => exact RoundTrip.sbarv o | sbwait o => exact RoundTrip.sbwait o
  | sbtry o => exact RoundTrip.sbtry o | cpy o => exact RoundTrip.cpy o | cpy2d o => exact RoundTrip.cpy2d o
  | gath2d o => exact RoundTrip.gath2d o | scat2d o => exact RoundTrip.scat2d o | chain o => exact RoundTrip.chain o
  | qbindR o => exact RoundTrip.qbindR o | qbindW o => exact RoundTrip.qbindW o | qend o => exact RoundTrip.qend o
  | enq o => exact RoundTrip.enq o | enqTry o => exact RoundTrip.enqTry o | decode o => exact RoundTrip.decode o
  | cpyw o => exact RoundTrip.cpyw o | pset o => exact RoundTrip.pset o | rst o => exact RoundTrip.rst o
  | rstBlock o => exact RoundTrip.rstBlock o | rld o => exact RoundTrip.rld o | ratomAdd o => exact RoundTrip.ratomAdd o
  | ratomFadd o => exact RoundTrip.ratomFadd o | ratomFmaxa o => exact RoundTrip.ratomFmaxa o
  | ratomCas o => exact RoundTrip.ratomCas o | ratomIncb o => exact RoundTrip.ratomIncb o
  | rredAdd o => exact RoundTrip.rredAdd o | rredFadd o => exact RoundTrip.rredFadd o
  | rredFmaxa o => exact RoundTrip.rredFmaxa o | rcpy o => exact RoundTrip.rcpy o | rsig o => exact RoundTrip.rsig o
  | rwait o => exact RoundTrip.rwait o | reshard o => exact RoundTrip.reshard o | pcount o => exact RoundTrip.pcount o
  | coord o => exact RoundTrip.coord o | setx o => exact RoundTrip.setx o | budget o => exact RoundTrip.budget o
  | clock o => exact RoundTrip.clock o | csrmvRead o => exact RoundTrip.csrmvRead o
  | csrmvWrite o => exact RoundTrip.csrmvWrite o | ldi o => exact RoundTrip.ldi o | iaddl o => exact RoundTrip.iaddl o
  | andl o => exact RoundTrip.andl o | orl o => exact RoundTrip.orl o | xorl o => exact RoundTrip.xorl o
  | cvtq o => exact RoundTrip.cvtq o | cvtx o => exact RoundTrip.cvtx o | amaxb o => exact RoundTrip.amaxb o
  | fmal o => exact RoundTrip.fmal o | pack o => exact RoundTrip.pack o | unpack o => exact RoundTrip.unpack o
  | lea o => exact RoundTrip.lea o
  | _ => exact fun h => absurd h (by decide)

end Sys2Proof.Laws

open Sys2Proof

/-- Settles O1: from instruction to words by the law of each instruction, from words to instruction because what each family
of the decoder accepts has the words that were read as its encoding. -/
theorem decodeEncode : Obligations.DecodeEncode :=
  ⟨fun i rest hev hwf => Laws.roundTrip i hev hwf rest, fun _ _ _ h => decodeBytes_eq_ok h⟩

/-- Settles O2: by evaluating the decoder. -/
theorem decodePrintedWords : Obligations.DecodePrintedWords := by
  unfold Obligations.DecodePrintedWords
  decide
end

section
/-!
SUPPORT. What a fetch leaves of the machine: nothing but lines of the L2 (R129, R136).
-/
namespace Sys2Proof.Machine
set_option Elab.async false

/-- Two memories agree but for the lines that the L2 holds. -/
def Memory.onlyLines (m n : Memory) : Prop := n = { m with lines := n.lines }

theorem Memory.onlyLines.refl (m : Memory) : m.onlyLines m := rfl

theorem Memory.onlyLines.trans {m n p : Memory} (h : m.onlyLines n) (k : n.onlyLines p) : m.onlyLines p := by
  unfold Memory.onlyLines at h k ⊢
  rw [k, h]

/-- Steps that each change lines alone change lines alone together. -/
theorem foldl_onlyLines {α : Type} {f : Memory → α → Memory} (hf : ∀ (m : Memory) (a : α), m.onlyLines (f m a))
    (l : List α) (m : Memory) : m.onlyLines (l.foldl f m) :=
  List.foldlRecOn l f (motive := m.onlyLines) (.refl m) fun n hn a _ => hn.trans (hf n a)

theorem l2Access_onlyLines (m : Memory) (line reuse : Nat) (dirty : Bool) : m.onlyLines (m.l2Access line reuse dirty) := by
  unfold Memory.l2Access
  dsimp only
  split
  · rfl
  · split <;> rfl

theorem l2Lines_onlyLines (m : Memory) (cached : Bool) (a n reuse : Nat) (dirty : Bool) :
    m.onlyLines (m.l2Lines cached a n reuse dirty) :=
  foldl_onlyLines (fun m k => by
    split
    · exact l2Access_onlyLines m k reuse dirty
    · exact .refl m) _ m

theorem l2Use_onlyLines (m : Memory) (p : Place) (n reuse : Nat) (dirty : Bool) : m.onlyLines (m.l2Use p n reuse dirty) := by
  unfold Memory.l2Use
  split
  · exact .refl m
  · exact l2Lines_onlyLines m _ _ _ _ _

theorem readTables_onlyLines (m : Memory) (root va : Nat) : m.onlyLines (m.readTables root va) :=
  foldl_onlyLines (fun m _ => l2Lines_onlyLines m _ _ _ _ _) _ m

/-- The table words of a translation and the words fetched come through L2; nothing else changes. -/
theorem fetched_eq_setMem (s : State) (c : Context) (q : QuadId) (va : Addr) (n : Nat) :
    ∃ m, s.mem.onlyLines m ∧ s.fetched c q va n = s.setMem m := by
  have htables : ∃ m, s.mem.onlyLines m ∧ s.useTables q.die (coreIdx q) c va = s.setMem m := by
    unfold State.useTables
    extract_lets held
    split
    · exact ⟨s.mem, .refl _, rfl⟩
    · exact ⟨_, readTables_onlyLines _ _ _, rfl⟩
  obtain ⟨m, hm, ht⟩ := htables
  unfold State.fetched
  dsimp only
  rw [ht]
  split
  · exact ⟨_, hm.trans (l2Use_onlyLines m _ _ _ _), rfl⟩
  · exact ⟨m, hm, rfl⟩

end Sys2Proof.Machine
end

section
/-!
SUPPORT. The turn of a group: how its instruction is planned, and what the debit leaves of the machine (R13, R22, R80).
-/
namespace Sys2Proof.Machine
set_option Elab.async false

/-! ### How an instruction runs -/

/-- Every instruction runs its own effect for the group in a position to issue. -/
theorem exec_of_instruction {i : Instr} (h : i.isEvent = false) : ∃ body, ∀ s, exec i s = runInstr i body s := by
  cases i <;> cases h <;> exact ⟨_, fun _ => rfl⟩

/-- Every event and command answers a next state. -/
theorem exec_of_event {i : Instr} (h : i.isEvent = true) (s : State) : ∃ t, exec i s = .next t := by
  cases i <;> cases h <;> exact ⟨_, rfl⟩

/-- An instruction of the group in a position to issue. -/
theorem runInstr_of_issue {i : Instr} {body : Issue → Eff} {s : State} {I : Issue} (h : s.issue = some I) :
    runInstr i body s = .next ((body I).finish I.g.gid (instrBytes i)) := by
  unfold runInstr
  rw [h]

/-- An instruction answers a next state wherever a group issues it or tests it again. -/
theorem exec_of_issuer {s : State} {I : Issue} (h : (s.issue <|> s.waiter) = some I) (i : Instr) : ∃ t, exec i s = .next t := by
  cases hev : i.isEvent
  · obtain ⟨body, hrun⟩ := exec_of_instruction hev
    rw [hrun]
    cases hi : s.issue with
    | some J => exact ⟨_, runInstr_of_issue hi⟩
    | none =>
      rw [hi] at h
      have hw : s.waiter = some I := h
      unfold runInstr
      rw [hi, hw]
      exact ⟨_, rfl⟩
  · exact exec_of_event hev s

/-! ### The group whose turn it is -/

/-- What the issue of a group inside a clause says. -/
theorem inClause_spec {s : State} {ok : Group → Bool} {I : Issue} (h : s.inClause ok = some I) :
    I.s = s ∧ s.cur.bind s.group = some I.g ∧ I.g.clause = some I.cl ∧ s.team I.g.team = some I.t ∧
      I.g.splits.find? (fun x => x.label == I.cl.split) = some I.sp ∧ s.context I.t.ctx = some I.c ∧ ok I.g = true := by
  unfold State.inClause at h
  split at h
  · cases h
  · rename_i g hg
    split at h
    · rename_i cl t hcl ht
      split at h
      · rename_i sp c hsp hc
        split at h
        · rename_i hok
          obtain rfl := Option.some.inj h
          exact ⟨rfl, hg, hcl, ht, hsp, hc, hok⟩
        · cases h
      · cases h
    · cases h

theorem inClause_eq_some {s : State} {ok : Group → Bool} {g : Group} {cl : Clause} {t : Team} {sp : Split} {c : Context}
    (hg : s.cur.bind s.group = some g) (hcl : g.clause = some cl) (ht : s.team g.team = some t)
    (hsp : g.splits.find? (fun x => x.label == cl.split) = some sp) (hc : s.context t.ctx = some c) (hok : ok g = true) :
    s.inClause ok = some ⟨s, g, sp, cl, t, c⟩ := by
  unfold State.inClause
  simp [hg, hcl, ht, hsp, hc, hok]

theorem inClause_group {s : State} {ok : Group → Bool} {I : Issue} (h : s.inClause ok = some I) :
    I.s = s ∧ s.group I.g.gid = some I.g := by
  obtain ⟨hs, hcur, -⟩ := inClause_spec h
  obtain ⟨n, -, hn⟩ := Option.bind_eq_some_iff.1 hcur
  refine ⟨hs, ?_⟩
  rw [group_gid hn]
  exact hn

/-- The group whose turn it is issues an instruction, or tests one again. -/
theorem issuer_cases {s : State} {I : Issue} (h : (s.issue <|> s.waiter) = some I) :
    s.issue = some I ∨ s.waiter = some I := by
  cases hi : s.issue with
  | some J =>
    rw [hi] at h
    exact .inl h
  | none =>
    rw [hi] at h
    exact .inr h

theorem issuer_cur {s : State} {I : Issue} (h : (s.issue <|> s.waiter) = some I) : s.cur.bind s.group = some I.g := by
  rcases issuer_cases h with hi | hw
  · obtain ⟨-, hcur, -⟩ := inClause_spec hi
    exact hcur
  · obtain ⟨-, hcur, -⟩ := inClause_spec hw
    exact hcur

/-! ### The debit (R22) -/

/-- The group with its instruction fetched and debited. -/
def Issue.debitedGroup (I : Issue) (w1 w2 : Word) : Group :=
  { I.g with clause := some { I.cl with debited := true, words := some (w1, w2) } }

/-- A debit changes the L2, the context's budget and the group's clause, and nothing else. -/
theorem debit_eq (I : Issue) (w1 w2 : Word) :
    ∃ m b, I.s.mem.onlyLines m ∧
      (I.debit w1 w2 = (I.s.setMem m).setGroup (I.debitedGroup w1 w2) ∨
        I.debit w1 w2 = ((I.s.setMem m).setContext (I.c.setBudget (coreIdx I.t.place) b)).setGroup (I.debitedGroup w1 w2)) := by
  have hfetch : ∃ m, I.s.mem.onlyLines m ∧
      (if I.cl.words.isSome then I.s else I.s.fetched I.c I.t.place I.cl.pc (lengthOf w1)) = I.s.setMem m := by
    split
    · exact ⟨I.s.mem, .refl _, rfl⟩
    · exact fetched_eq_setMem _ _ _ _ _
  obtain ⟨m, hm, he⟩ := hfetch
  refine ⟨m, I.c.budget (coreIdx I.t.place) - energyUnits I.cl.header, hm, ?_⟩
  unfold Issue.debit
  dsimp only
  rw [he]
  split
  · exact .inl rfl
  · exact .inr rfl

theorem context_num {s : State} {n : Nat} {c : Context} (h : s.context n = some c) : c.num = n := by
  simpa using List.find?_some h

/-- A context replaced is found in place of the old one. -/
theorem context_setContext {s : State} {n : Nat} {c d : Context} (h : s.context n = some c) (hd : d.num = n) :
    (s.setContext d).context n = some d := by
  subst hd
  exact find_replace_same h (by simp)

section Debit
variable {s : State} {I : Issue} {ok : Group → Bool} (h : s.inClause ok = some I) (w1 w2 : Word)
include h

theorem debit_group : (I.debit w1 w2).group I.g.gid = some (I.debitedGroup w1 w2) := by
  obtain ⟨rfl, hown⟩ := inClause_group h
  obtain ⟨m, b, -, he | he⟩ := debit_eq I w1 w2
  · rw [he]
    exact group_setGroup_eq (x := I.g) rfl hown
  · rw [he]
    exact group_setGroup_eq (x := I.g) rfl hown

theorem debit_context : ∃ d, (I.debit w1 w2).context I.t.ctx = some d := by
  obtain ⟨rfl, -, -, -, -, hc, -⟩ := inClause_spec h
  obtain ⟨m, b, -, he | he⟩ := debit_eq I w1 w2
  · rw [he]
    exact ⟨I.c, hc⟩
  · rw [he]
    exact ⟨_, context_setContext (s := I.s.setMem m) (d := I.c.setBudget (coreIdx I.t.place) b) hc (context_num (c := I.c) hc)⟩

theorem debit_cur_teams : (I.debit w1 w2).cur = s.cur ∧ (I.debit w1 w2).teams = s.teams := by
  obtain ⟨rfl, -⟩ := inClause_group h
  obtain ⟨m, b, -, he | he⟩ := debit_eq I w1 w2 <;> rw [he] <;> exact ⟨rfl, rfl⟩

/-- After the debit the group is still inside its clause, at the same instruction. -/
theorem debit_inClause (hok : ∀ g cl, ok { g with clause := cl } = ok g) :
    ∃ J, (I.debit w1 w2).tick.inClause ok = some J := by
  obtain ⟨-, hcur, -, ht, hsp, -, hokg⟩ := inClause_spec h
  obtain ⟨d, hd⟩ := debit_context h w1 w2
  obtain ⟨hcur', hteams⟩ := debit_cur_teams h w1 w2
  obtain ⟨n, hn, hgn⟩ := Option.bind_eq_some_iff.1 hcur
  obtain rfl := group_gid hgn
  refine ⟨_, inClause_eq_some (s := (I.debit w1 w2).tick) (g := I.debitedGroup w1 w2) ?_ rfl ?_ hsp hd
    ((hok I.g _).trans hokg)⟩
  · rw [State.tick_cur, hcur', hn]
    exact debit_group h w1 w2
  · unfold State.team
    rw [State.tick_teams, hteams]
    exact ht

end Debit

/-- After the debit the group still issues its instruction, or tests it again. -/
theorem debit_keeps_issuer {s : State} {I : Issue} (h : (s.issue <|> s.waiter) = some I) (w1 w2 : Word) :
    ∃ J, ((I.debit w1 w2).tick.issue <|> (I.debit w1 w2).tick.waiter) = some J := by
  rcases issuer_cases h with hi | hw
  · obtain ⟨J, hJ⟩ := debit_inClause hi w1 w2 fun _ _ => rfl
    exact ⟨J, by rw [show (I.debit w1 w2).tick.issue = some J from hJ]; rfl⟩
  · obtain ⟨K, hK⟩ := debit_inClause hw w1 w2 fun _ _ => rfl
    cases hi : (I.debit w1 w2).tick.issue with
    | some J => exact ⟨J, rfl⟩
    | none => exact ⟨K, hK⟩

/-! ### The plan of a step -/

theorem plan_eq_turn {s : State} (ha : s.agenda = []) (hc : s.commands = []) : s.plan = s.turn := by
  unfold State.plan
  rw [ha, hc]

/-- A group that may issue plans its instruction, where it does not wait for a result of its own before it tests again. -/
theorem turn_eq_plan {s : State} {I : Issue} (h : (s.issue <|> s.waiter) = some I)
    (hops : I.g.status = .parked .retry → ∀ op ∈ I.g.ops, op.pending = false ∧ s.flying I.g.gid op.seq = false)
    (hf : I.free = true) : s.turn = I.plan := by
  unfold State.turn
  rw [issuer_cur h]
  dsimp only
  rw [if_neg, h]
  · exact if_pos hf
  · intro hwait
    simp only [Bool.and_eq_true, beq_iff_eq, List.any_eq_true, Bool.or_eq_true] at hwait
    obtain ⟨hst, op, hop, hw⟩ := hwait
    obtain ⟨hp, hfl⟩ := hops hst op hop
    simp [hp, hfl] at hw

theorem words_of_none {I : Issue} (h : I.cl.words = none) : I.words = I.s.fetchInstr I.c I.t.place I.cl.pc := by
  unfold Issue.words
  rw [h]

theorem words_of_some {I : Issue} {w1 w2 : Word} (h : I.cl.words = some (w1, w2)) : I.words = .ok w1 w2 := by
  unfold Issue.words
  rw [h]

theorem plan_of_decoded {I : Issue} {w1 w2 : Word} {i : Instr} (hw : I.words = .ok w1 w2) (hd : decodeWords w1 w2 = .ok i) :
    I.plan = .run i (I.debit w1 w2).tick := by
  unfold Issue.plan
  simp only [hw, hd]

theorem plan_of_undecoded {I : Issue} {w1 w2 : Word} {e : DecodeErr} (hw : I.words = .ok w1 w2)
    (hd : decodeWords w1 w2 = .error e) :
    I.plan = .next ((I.debit w1 w2).tick.trapGroup (((I.debit w1 w2).tick.group I.g.gid).getD I.g) (lengthOf w1)
      (trapOfErr e)) := by
  unfold Issue.plan
  simp only [hw, hd]

theorem step_of_next {s t : State} (h : s.plan = .next t) : step s = .next t.after := by
  unfold step
  rw [h]

theorem step_of_run {s t u : State} {i : Instr} (h : s.plan = .run i t) (hx : exec i t = .next u) :
    step s = .next u.after := by
  unfold step
  simp only [h, hx]

/-! ### The words at the pc -/

theorem map_eq_ok {ε α β : Type} {x : Except ε α} {f : α → β} {y : β} (h : x.map f = .ok y) : ∃ a, x = .ok a ∧ f a = y := by
  cases x with
  | error e => cases h
  | ok a => exact ⟨a, rfl, Except.ok.inj h⟩

/-- A long instruction needs its second word (R23). -/
theorem decodeBytes_cut {w : Word} (hl : isLong w = true) : decodeBytes (wordBytes w ++ []) = .error .short := by
  unfold decodeBytes
  simp only [takeWord_wordBytes, hl]
  rfl

theorem decodeBytes_eq_short {w : Word} (rest : List Byte) (hl : isLong w = false) :
    decodeBytes (wordBytes w ++ rest) = (decodeShort w).map (·, rest) := by
  unfold decodeBytes
  simp only [takeWord_wordBytes, hl]
  rfl

theorem decodeBytes_eq_long {w1 w2 : Word} (rest : List Byte) (hl : isLong w1 = true) :
    decodeBytes (wordBytes w1 ++ (wordBytes w2 ++ rest)) = (decodeLong w1 w2).map (·, rest) := by
  unfold decodeBytes
  simp only [takeWord_wordBytes, hl, if_true]

/-- Where the bytes at the pc decode to an instruction, its words are fetched, and decode to it. -/
theorem fetchInstr_of_codeBytes {I : Issue} {i : Instr} {rest : List Byte} (h : decodeBytes I.codeBytes = .ok (i, rest)) :
    ∃ w1 w2, I.s.fetchInstr I.c I.t.place I.cl.pc = .ok w1 w2 ∧ decodeWords w1 w2 = .ok i := by
  unfold Issue.codeBytes at h
  unfold State.fetchInstr decodeWords
  cases h1 : I.s.fetchWord I.c I.t.place I.cl.pc with
  | wait | bad => rw [h1] at h; cases h
  | ok w1 =>
    rw [h1] at h
    dsimp only at h ⊢
    cases hl : isLong w1 with
    | false =>
      rw [decodeBytes_eq_short _ hl] at h
      obtain ⟨j, hd, hj⟩ := map_eq_ok h
      obtain ⟨rfl, -⟩ := Prod.mk.inj hj
      exact ⟨w1, 0, rfl, by simpa [hl] using hd⟩
    | true =>
      cases h2 : I.s.fetchWord I.c I.t.place (I.cl.pc + 4) with
      | wait | bad =>
        rw [h2] at h
        exact absurd ((decodeBytes_cut hl).symm.trans h) (by simp)
      | ok w2 =>
        rw [h2] at h
        dsimp only at h
        rw [← List.append_nil (wordBytes w2), decodeBytes_eq_long _ hl] at h
        obtain ⟨j, hd, hj⟩ := map_eq_ok h
        obtain ⟨rfl, -⟩ := Prod.mk.inj hj
        exact ⟨w1, w2, rfl, by simpa [hl] using hd⟩

/-! ### Every step answers (R22, R37, R38, R352) -/

theorem commandRow_isEvent (e : Entry) : (commandRow e).isEvent = true := by
  have hsub : ∀ (rows : List Instr) (first : Instr), first.isEvent = true → (∀ r ∈ rows, r.isEvent = true) →
      (rows.getD (cmdSub e) first).isEvent = true := by
    intro rows first hfirst hrows
    rw [List.getD_eq_getElem?_getD]
    cases hr : rows[cmdSub e]? with
    | none => exact hfirst
    | some r => exact hrows r (List.mem_of_getElem? hr)
  unfold commandRow
  dsimp only
  split
  case h_11 | h_13 | h_14 | h_15 | h_18 => exact hsub _ _ rfl (by decide)
  all_goals rfl

/-- What a step may run: something that answers a next state. -/
def Plan.answers (p : Plan) : Prop := ∀ i t, p = .run i t → ∃ u, exec i t = .next u

theorem answers_next (s : State) : (Plan.next s).answers := fun _ _ h => by cases h

theorem answers_event {i : Instr} (hi : i.isEvent = true) (s : State) : (Plan.run i s).answers := by
  intro j t h
  obtain ⟨rfl, rfl⟩ := Plan.run.inj h
  exact exec_of_event hi s

theorem owed_isEvent {s : State} {g : Group} {i : Instr} {a : EvArgs} (h : s.owed g = some (i, a)) : i.isEvent = true := by
  unfold State.owed at h
  dsimp only at h
  split at h
  · cases h
    rfl
  · split at h
    case h_5 =>
      cases h
      rfl
    case h_6 =>
      split at h
      case h_3 => cases h
      all_goals
        cases h
        rfl
    case h_7 => cases h
    all_goals
      split at h
      · cases h
        rfl
      · cases h

theorem idle_answers (s : State) (g : Group) : (s.idle g).answers := by
  unfold State.idle
  split
  · rename_i howed
    exact answers_event (owed_isEvent howed) _
  · split
    · exact answers_next _
    · split
      · exact answers_event rfl _
      · exact answers_next _

theorem plan_answers_of_issuer {s : State} {I : Issue} (h : (s.issue <|> s.waiter) = some I) : I.plan.answers := by
  unfold Issue.plan
  split
  · exact answers_next _
  · exact answers_next _
  · rename_i w1 w2 _
    dsimp only
    split
    · intro i t ht
      obtain ⟨rfl, rfl⟩ := Plan.run.inj ht
      obtain ⟨J, hJ⟩ := debit_keeps_issuer h w1 w2
      exact exec_of_issuer hJ _
    · exact answers_next _

theorem turn_answers (s : State) : s.turn.answers := by
  unfold State.turn
  split
  · exact answers_next _
  · split
    · exact idle_answers s _
    · split
      · rename_i hI
        split
        · exact plan_answers_of_issuer hI
        · exact idle_answers s _
      · exact idle_answers s _

theorem plan_answers (s : State) : s.plan.answers := by
  unfold State.plan
  split
  case h_7 =>
    split
    · rename_i hev
      exact answers_event hev _
    · exact answers_next _
  case h_8 =>
    split
    · split
      · exact answers_event (commandRow_isEvent _) _
      · exact turn_answers s
    · exact turn_answers s
  all_goals exact answers_next _

theorem step_answers (s : State) : ∃ t, step s = .next t := by
  cases hp : s.plan with
  | next t => exact ⟨_, step_of_next hp⟩
  | run i t =>
    obtain ⟨u, hu⟩ := plan_answers s i t hp
    exact ⟨_, step_of_run hp hu⟩

end Sys2Proof.Machine
end

section
/-!
PROOFS. The machine's step (O3, O4, O5) and words that are no instruction (O19).
-/
namespace Sys2Proof.Machine
set_option Elab.async false

/-- The turn of a group that issues, or tests its instruction again, in a machine with nothing else to do. -/
theorem plan_of_turn {s : State} {I : Issue} (ha : s.agenda = []) (hc : s.commands = [])
    (hturn : s.issue = some I ∨ (s.issue = none ∧ s.waiter = some I ∧
      ∀ op ∈ I.g.ops, op.pending = false ∧ s.flying I.g.gid op.seq = false)) (hf : I.free = true) : s.plan = I.plan := by
  rw [plan_eq_turn ha hc]
  obtain hi | ⟨hi, hw, hops⟩ := hturn
  · obtain ⟨-, -, -, -, -, -, -, hst⟩ := issue_spec hi
    exact turn_eq_plan (by rw [hi]; rfl) (fun hpark => by simp [hst] at hpark) hf
  · exact turn_eq_plan (by rw [hi]; exact hw) (fun _ => hops) hf

end Sys2Proof.Machine

open Sys2Proof Sys2Proof.Machine

/-- Settles O3: the plan of the turn is the instruction that the words fetched, or kept, decode to. -/
theorem stepRunsDecoded : Obligations.StepRunsDecoded := by
  unfold Obligations.StepRunsDecoded
  intro s I i ha hc hturn hf
  have hplan : ∀ {w1 w2 : Word}, I.words = .ok w1 w2 → decodeWords w1 w2 = .ok i → s.plan = .run i (I.debit w1 w2).tick :=
    fun hw hd => (plan_of_turn ha hc hturn hf).trans (plan_of_decoded hw hd)
  refine ⟨fun rest hnone hbytes => ?_, fun w1 w2 hsome hd => ?_⟩
  · obtain ⟨w1, w2, hfetch, hd⟩ := fetchInstr_of_codeBytes hbytes
    have hp := hplan ((words_of_none hnone).trans hfetch) hd
    obtain ⟨t, ht⟩ := plan_answers s i _ hp
    exact ⟨w1, w2, hfetch, hd, by simp only [step_of_run hp ht, ht]⟩
  · have hp := hplan (words_of_some hsome) hd
    obtain ⟨t, ht⟩ := plan_answers s i _ hp
    simp only [step_of_run hp ht, ht]

/-- Settles O4: what a step plans to run is an event or command, which always answers, or an instruction of a group that
still issues it after the debit. -/
theorem stepAnswers : Obligations.StepAnswers := step_answers

/-- Settles O5: an instruction stops only in `runInstr`, where there is neither an issue nor a waiter. -/
theorem stopsOnlyWithoutIssuer : Obligations.StopsOnlyWithoutIssuer := by
  unfold Obligations.StopsOnlyWithoutIssuer
  intro i s
  cases hI : (s.issue <|> s.waiter) with
  | some I => exact .inl (exec_of_issuer hI i)
  | none =>
    cases hev : i.isEvent with
    | true => exact .inl (exec_of_event hev s)
    | false =>
      obtain ⟨hi, hw⟩ : s.issue = none ∧ s.waiter = none := by simpa using hI
      obtain ⟨body, hrun⟩ := exec_of_instruction hev
      refine .inr ⟨?_, rfl, hi, hw⟩
      rw [hrun]
      unfold runInstr
      rw [hi, hw]
end

section
/-!
PROOFS. Words that are no instruction (O19): what the decoder rejects by opcode and function code (R25 to R34, R37).
-/
namespace Sys2Proof
set_option Elab.async false

/-! ### Fields as numbers -/

theorem opOf_eq_div (w : Word) : opOf w = w.toNat / 2 ^ 26 := by
  unfold opOf
  rw [BitVec.extractLsb'_toNat, Nat.shiftRight_eq_div_pow]
  omega

theorem funct_eq_div (w : Word) : (w.extractLsb' 24 8).toNat = w.toNat / 2 ^ 24 := by
  rw [BitVec.extractLsb'_toNat, Nat.shiftRight_eq_div_pow]
  omega

/-- Where the function code of a short word stands (R25). -/
theorem functOf_short {w1 : Word} (w2 : Word) (h : opOf w1 < 0x38) : Spec.functOf w1 w2 = (unpackS w1).b.toNat := by
  unfold Spec.functOf unpackS
  rw [← opOf_eq_div]
  dsimp only
  rw [if_neg (by omega), BitVec.extractLsb'_toNat, Nat.shiftRight_eq_div_pow]

theorem functOf_l3 {w1 : Word} (w2 : Word) (h : opOf w1 = 0x3F) : Spec.functOf w1 w2 = (unpackS w1).b.toNat := by
  unfold Spec.functOf unpackS
  rw [← opOf_eq_div]
  dsimp only
  rw [if_neg (by omega), BitVec.extractLsb'_toNat, Nat.shiftRight_eq_div_pow]

/-- Where the function code of a long family stands (R26). -/
theorem functOf_long {w1 : Word} (w2 : Word) (h : 0x38 ≤ opOf w1) (h' : opOf w1 ≠ 0x3F) :
    Spec.functOf w1 w2 = (w2.extractLsb' 24 8).toNat := by
  unfold Spec.functOf
  rw [← opOf_eq_div, funct_eq_div]
  exact if_pos ⟨h, h'⟩

theorem decodeWords_short {w1 : Word} (w2 : Word) (h : opOf w1 < 0x38) : decodeWords w1 w2 = decodeShort w1 :=
  if_neg (by unfold isLong; simpa using h)

theorem decodeWords_long {w1 : Word} (w2 : Word) (h : 0x38 ≤ opOf w1) : decodeWords w1 w2 = decodeLong w1 w2 :=
  if_pos (by unfold isLong; simpa using h)

/-! ### Function codes that no instruction has -/

section Unassigned
variable {f : Nat}

theorem pickSfu_unassigned (o : UOp) (hf : f ∉ List.range 10) : pickSfu f o = .error .opcode := by
  unfold pickSfu
  split
  case h_11 => rfl
  all_goals exact absurd (by decide) hf

theorem pickUni_unassigned (o : UOp) (hf : f ∉ List.range 17) : pickUni f o = .error .opcode := by
  unfold pickUni
  split
  case h_18 => rfl
  all_goals exact absurd (by decide) hf

theorem pickRedl_unassigned (o : UOp) (hf : f ∉ List.range 9) : pickRedl f o = .error .opcode := by
  unfold pickRedl
  split
  case h_10 => rfl
  all_goals exact absurd (by decide) hf

theorem pickScan_unassigned (o : UOp) (hf : f ∉ List.range 9 ++ (List.range 9).map (64 + ·)) :
    pickScan f o = .error .opcode := by
  unfold pickScan
  split
  case h_19 => rfl
  all_goals exact absurd (by decide) hf

theorem pickVote_unassigned (o : UOp) (hf : f ∉ List.range 5) : pickVote f o = .error .opcode := by
  unfold pickVote
  split
  case h_6 => rfl
  all_goals exact absurd (by decide) hf

theorem pickMem_unassigned (o : MemOp) (hf : f ∉ List.range 7 ++ (List.range 5).map (8 + ·) ++ (List.range 14).map (0x10 + ·) ++
    (List.range 3).map (0x20 + ·) ++ [0x28, 0x29] ++ (List.range 5).map (0x30 + ·) ++ (List.range 4).map (0x38 + ·)) :
    pickMem f o = .error .opcode := by
  unfold pickMem
  split
  case h_41 => rfl
  all_goals exact absurd (by decide) hf

theorem pickMat_unassigned (o : MatOp) (hf : f ∉ List.range 10) : pickMat f o = .error .opcode := by
  unfold pickMat
  split
  case h_11 => rfl
  all_goals exact absurd (by decide) hf

theorem pickCtl_unassigned (o : CtlOp) (hf : f ∉ List.range 17) : pickCtl f o = .error .opcode := by
  unfold pickCtl
  split
  case h_18 => rfl
  all_goals exact absurd (by decide) hf

theorem pickSync_unassigned (o : SyncOp) (hf : f ∉ List.range 8) : pickSync f o = .error .opcode := by
  unfold pickSync
  split
  case h_9 => rfl
  all_goals exact absurd (by decide) hf

theorem pickXfer_unassigned (t d : Bool) (o : XferOp) (hf : f ∉ List.range 10) : pickXfer f t d o = .error .opcode := by
  unfold pickXfer
  split
  case h_11 => rfl
  all_goals exact absurd (by decide) hf

theorem pickFab_unassigned (m : Bool) (o : FabOp) (hf : f ∉ List.range 11) : pickFab f m o = .error .opcode := by
  unfold pickFab
  split
  case h_12 => rfl
  all_goals exact absurd (by decide) hf

theorem pickSys_unassigned (o : SysOp) (hf : f ∉ (List.range 4).map (0x10 + ·)) : pickSys f o = .error .opcode := by
  unfold pickSys
  split
  case h_5 => rfl
  all_goals exact absurd (by decide) hf

theorem pickL3_unassigned (o : L3Op) (hf : f ∉ List.range 12) : pickL3 f o = .error .opcode := by
  unfold pickL3
  split
  case h_13 => rfl
  all_goals exact absurd (by decide) hf

end Unassigned

theorem reserved_opcode (ok : Bool) : reserved ok (.error .opcode) = .error .opcode := rfl

/-! ### Words that no instruction has -/

/-- A short word whose function code in b is unassigned (R25). -/
theorem withFn_unassigned {w1 : Word} (w2 : Word) {pick : Nat → UOp → Except DecodeErr Instr} {fs : List Nat}
    (hn : opOf w1 < 0x38) (hpick : ∀ {f : Nat} (o : UOp), f ∉ fs → pick f o = .error .opcode)
    (hdec : decodeShort w1 = withFn w1 pick) (hf : Spec.functOf w1 w2 ∉ fs) : decodeWords w1 w2 = .error .opcode := by
  rw [functOf_short w2 hn] at hf
  rw [decodeWords_short w2 hn, hdec]
  unfold withFn
  dsimp only
  rw [hpick _ hf, reserved_opcode]

/-- A long word whose funct is unassigned (R26 to R33). -/
theorem decodeLong_unassigned {w1 w2 : Word} {fs : List Nat} (hn : 0x38 ≤ opOf w1) (hn' : opOf w1 ≠ 0x3F)
    (hdec : (w2.extractLsb' 24 8).toNat ∉ fs → decodeLong w1 w2 = .error .opcode) (hf : Spec.functOf w1 w2 ∉ fs) :
    decodeWords w1 w2 = .error .opcode := by
  rw [functOf_long w2 hn hn'] at hf
  rw [decodeWords_long w2 hn, hdec hf]

theorem decodeWords_l3_unassigned {w1 w2 : Word} (hn : opOf w1 = 0x3F) (hf : Spec.functOf w1 w2 ∉ List.range 12) :
    decodeWords w1 w2 = .error .opcode := by
  rw [functOf_l3 w2 hn] at hf
  rw [decodeWords_long w2 (by omega)]
  unfold decodeLong
  simp only [hn, pickL3_unassigned _ hf, reserved_opcode]

theorem decodeWords_zero_op {w1 : Word} (w2 : Word) (hn : opOf w1 = 0) (hw : w1 ≠ 0) : decodeWords w1 w2 = .error .encoding := by
  rw [decodeWords_short w2 (by omega)]
  unfold decodeShort
  rw [hn]
  exact if_neg (by simpa using hw)

theorem decodeWords_op_37 {w1 : Word} (w2 : Word) (hn : opOf w1 = 0x37) : decodeWords w1 w2 = .error .opcode := by
  rw [decodeWords_short w2 (by omega)]
  unfold decodeShort
  rw [hn]
  rfl

/-- A function code that no instruction of an opcode has is rejected, for each of the families (R25 to R34, R37). -/
theorem decodeWords_unassigned (w1 w2 : Word) :
    ∀ p ∈ Spec.assigned, opOf w1 = p.1 → Spec.functOf w1 w2 ∉ p.2 → decodeWords w1 w2 = .error .opcode := by
  unfold Spec.assigned
  simp only [List.forall_mem_cons]
  refine ⟨fun hn => ?sfu, fun hn => ?uni, fun hn => ?redl, fun hn => ?scan, fun hn => ?vote, fun hn => ?mem, fun hn => ?mat,
    fun hn => ?ctl, fun hn => ?sync, fun hn => ?xfer, fun hn => ?fab, fun hn => ?sys, decodeWords_l3_unassigned, by simp⟩
  case sfu => exact withFn_unassigned w2 (by omega) pickSfu_unassigned (by simp only [decodeShort, hn])
  case uni => exact withFn_unassigned w2 (by omega) pickUni_unassigned (by simp only [decodeShort, hn])
  case redl => exact withFn_unassigned w2 (by omega) pickRedl_unassigned (by simp only [decodeShort, hn])
  case scan => exact withFn_unassigned w2 (by omega) pickScan_unassigned (by simp only [decodeShort, hn])
  case vote => exact withFn_unassigned w2 (by omega) pickVote_unassigned (by simp only [decodeShort, hn])
  all_goals refine decodeLong_unassigned (by omega) (by omega) fun hf => ?_
  all_goals unfold decodeLong; simp only [hn]
  case mem => exact pickMem_unassigned _ hf
  case mat => rw [pickMat_unassigned _ hf, reserved_opcode]
  case ctl => exact pickCtl_unassigned _ hf
  case sync => rw [pickSync_unassigned _ hf, reserved_opcode]
  case xfer => rw [pickXfer_unassigned _ _ _ hf, reserved_opcode]
  case fab => rw [pickFab_unassigned _ _ hf, reserved_opcode]
  case sys => exact pickSys_unassigned _ hf

end Sys2Proof

namespace Sys2Proof.Machine

theorem trapOfErr_eq {e : DecodeErr} (h : e ≠ .short) :
    trapOfErr e = { cause := if e = .opcode then 0x01 else 0x02, addr := 0 } := by
  cases e with
  | opcode => rfl
  | encoding => rfl
  | short => exact absurd rfl h

end Sys2Proof.Machine

open Sys2Proof Sys2Proof.Machine

/-- Settles O19: the decoder family by family, and the step because the plan of a word that is no instruction is its trap. -/
theorem unassignedWords : Obligations.UnassignedWords := by
  unfold Obligations.UnassignedWords
  refine ⟨fun w1 w2 => ?_, fun s I w1 w2 e ha hc hi hf hnone hfetch hd hshort => ?_⟩
  · rw [← opOf_eq_div]
    exact ⟨decodeWords_zero_op w2, decodeWords_op_37 w2, decodeWords_unassigned w1 w2⟩
  · have hg : (I.debit w1 w2).tick.group I.g.gid = some (I.debitedGroup w1 w2) := debit_group hi w1 w2
    have hplan := (plan_of_turn ha hc (.inl hi) hf).trans (plan_of_undecoded ((words_of_none hnone).trans hfetch) hd)
    rw [hg, Option.getD_some, trapOfErr_eq hshort] at hplan
    exact ⟨_, hg, step_of_next hplan⟩
end

section
/-!
SUPPORT. Words of the one-source instructions and of register pairs, by their values (R67, R95, R102).
-/
namespace Sys2Proof.Machine
set_option Elab.async false

/-! ### Counting bits -/

/-- The length of what a test admits at the front of 0 to n - 1. -/
theorem length_takeWhile_range {p : Nat → Bool} {n k : Nat} (hk : k ≤ n) (hp : ∀ j < k, p j = true)
    (hstop : k < n → p k = false) :
    ((List.range n).takeWhile p).length = k := by
  obtain ⟨m, rfl⟩ := Nat.exists_eq_add_of_le hk
  rw [List.range_add, List.takeWhile_append_of_pos fun j hj => hp j (List.mem_range.1 hj)]
  cases m with
  | zero => simp
  | succ m =>
    rw [List.range_succ_eq_map, List.map_cons, List.takeWhile_cons_of_neg (by simp [hstop])]
    simp

/-- The number whose bits below n a test gives. -/
def bitSum (p : Nat → Bool) (n : Nat) : Nat := (List.range n).foldl (fun a j => if p j then a + 2 ^ j else a) 0

theorem bitSum_succ (p : Nat → Bool) (n : Nat) : bitSum p (n + 1) = if p n then bitSum p n + 2 ^ n else bitSum p n := by
  unfold bitSum
  rw [List.range_succ, List.foldl_append]
  rfl

theorem bitSum_lt (p : Nat → Bool) (n : Nat) : bitSum p n < 2 ^ n := by
  induction n with
  | zero => exact Nat.one_pos
  | succ n ih =>
    rw [bitSum_succ, Nat.pow_succ]
    split <;> omega

theorem testBit_bitSum (p : Nat → Bool) (n i : Nat) : (bitSum p n).testBit i = (decide (i < n) && p i) := by
  induction n with
  | zero => simp [bitSum]
  | succ n ih =>
    have hn : (bitSum p n).testBit n = false := Nat.testBit_lt_two_pow (bitSum_lt p n)
    rw [bitSum_succ]
    rcases Nat.lt_trichotomy i n with hi | rfl | hi
    · have hsame : (if p n then bitSum p n + 2 ^ n else bitSum p n).testBit i = (bitSum p n).testBit i := by
        split
        · rw [Nat.add_comm, Nat.testBit_two_pow_add_gt hi]
        · rfl
      rw [hsame, ih]
      simp [hi, Nat.lt_succ_of_lt hi]
    · split
      · rename_i hp
        rw [Nat.add_comm, Nat.testBit_two_pow_add_eq, hn]
        simp [hp]
      · rename_i hp
        simp [hn, hp]
    · rw [← bitSum_succ, Nat.testBit_lt_two_pow ((bitSum_lt p (n + 1)).trans_le (Nat.pow_le_pow_right (by omega) hi))]
      simp [show ¬ i < n + 1 by omega]

theorem popc_eq (x : Word) : popc x = Spec.word ((List.range 32).countP fun j => x.getLsbD j) := by
  unfold popc Spec.word
  rw [List.countP_eq_length_filter, BitVec.ofInt_natCast]

theorem clz_eq (x : Word) : clz x = Spec.word ((List.range 32).takeWhile fun j => !x.getLsbD (31 - j)).length := by
  unfold clz Spec.word
  rw [BitVec.ofInt_natCast]
  by_cases hx : x = 0
  · subst hx
    rfl
  · have hne : x.toNat ≠ 0 := fun h => hx (BitVec.eq_of_toNat_eq h)
    have hlog : Nat.log2 x.toNat < 32 := (Nat.log2_lt hne).2 x.isLt
    rw [if_neg hx]
    congr 1
    refine (length_takeWhile_range (by omega) (fun j hj => ?_) fun _ => ?_).symm
    · have hlt : x.toNat < 2 ^ (31 - j) := (Nat.lt_log2_self (n := x.toNat)).trans_le (Nat.pow_le_pow_right (by omega) (by omega))
      simp [BitVec.getLsbD, Nat.testBit_lt_two_pow hlt]
    · have hbit := Nat.testBit_log2 hne
      rw [show 31 - (31 - Nat.log2 x.toNat) = Nat.log2 x.toNat by omega]
      simp [BitVec.getLsbD, hbit]

theorem brev_eq (x : Word) : brev x = x.reverse := by
  apply BitVec.eq_of_getLsbD_eq
  intro i hi
  have hbits : brev x = BitVec.ofNat 32 (bitSum (fun j => x.getLsbD (31 - j)) 32) := rfl
  rw [hbits, BitVec.getLsbD_reverse, BitVec.getLsbD_ofNat, testBit_bitSum]
  simp [BitVec.getMsbD, hi]

/-! ### Signs -/

theorem iabs_eq (x : Word) : (if x.msb then -x else x) = Spec.word x.toInt.natAbs := by
  unfold Spec.word
  rw [BitVec.msb_eq_toInt]
  split
  · rename_i h
    rw [Int.ofNat_natAbs_of_nonpos (by simp at h; omega), BitVec.ofInt_neg, BitVec.ofInt_toInt]
  · rename_i h
    rw [Int.natAbs_of_nonneg (by simpa using h), BitVec.ofInt_toInt]

theorem ineg_eq (x : Word) : -x = Spec.word (0 - x.toNat) := by
  unfold Spec.word
  rw [Int.zero_sub, BitVec.ofInt_neg, BitVec.ofInt_natCast, BitVec.ofNat_toNat, BitVec.setWidth_eq]

theorem fabs_eq (x : Word) : x &&& 0x7FFFFFFF = BitVec.ofBool false ++ x.extractLsb' 0 31 := by
  apply BitVec.eq_of_toNat_eq
  rw [BitVec.toNat_and, BitVec.toNat_append, BitVec.extractLsb'_toNat]
  exact (Nat.and_two_pow_sub_one_eq_mod x.toNat 31).trans (by simp)

theorem fneg_eq (x : Word) : x ^^^ 0x80000000 = BitVec.ofBool (!x.msb) ++ x.extractLsb' 0 31 := by
  apply BitVec.eq_of_getLsbD_eq
  intro i hi
  rw [show (0x80000000 : Word) = BitVec.twoPow 32 31 from rfl, BitVec.getLsbD_xor, BitVec.getLsbD_twoPow,
    BitVec.getLsbD_append, BitVec.msb_eq_getLsbD_last]
  by_cases h : i < 31
  · simp [h, show ¬ 31 = i by omega]
  · obtain rfl : i = 31 := by omega
    simp

/-! ### Conversions -/

theorem truncClamp_eq (x : Word) (lo hi : Int) : BitVec.ofInt 32 (truncClamp x lo hi) = Spec.truncated (Spec.fp32 x) lo hi := by
  unfold truncClamp Spec.truncated
  rw [show Spec.fp32 x = fp x from rfl]
  cases fp x with
  | nan => rfl
  | inf neg => rfl
  | fin neg m e =>
    have hmag : ((toIntMag .rz neg m e : Nat) : Int) = if 0 ≤ e then (m : Int) * 2 ^ e.toNat else (m : Int) / 2 ^ (-e).toNat := by
      unfold toIntMag
      split <;> push_cast <;> rfl
    dsimp only
    rw [hmag]
    rfl

theorem cvtbf_eq (x : Word) : cvtbf x = Spec.single (Spec.bf16 x 0) := by
  unfold cvtbf bf loHalf Spec.bf16
  rw [BitVec.extractLsb'_toNat, Nat.shiftRight_eq_div_pow]
  rfl

/-! ### Register pairs (R67) -/

theorem pair_eq_ofNat (lo hi : Word) : pair lo hi = BitVec.ofNat 64 (lo.toNat + 2 ^ 32 * hi.toNat) := by
  apply BitVec.eq_of_toNat_eq
  unfold pair
  rw [BitVec.toNat_append, BitVec.toNat_ofNat, ← Nat.shiftLeft_add_eq_or_of_lt lo.isLt, Nat.shiftLeft_eq]
  omega

theorem xpair_eq_ofNat (I : Issue) (x : BitVec 2) (v : Reg) (i : Nat) :
    I.xpair x v i = BitVec.ofNat 64 (Spec.pairValue I x v i) :=
  pair_eq_ofNat _ _

theorem xpair_add_xpair (I : Issue) (x y : BitVec 2) (u v : Reg) (i : Nat) :
    I.xpair x u i + I.xpair y v i = Spec.long (Spec.pairValue I x u i + Spec.pairValue I y v i) := by
  unfold Spec.long
  rw [BitVec.ofInt_add, BitVec.ofInt_natCast, BitVec.ofInt_natCast, xpair_eq_ofNat, xpair_eq_ofNat]

theorem xpair_add_simm (I : Issue) (x : BitVec 2) (v : Reg) (i : Nat) (imm : Word) :
    I.xpair x v i + simm imm = Spec.long (Spec.pairValue I x v i + imm.toInt) := by
  unfold Spec.long
  rw [BitVec.ofInt_add, BitVec.ofInt_natCast, xpair_eq_ofNat]
  rfl

end Sys2Proof.Machine
end

section
/-!
PROOFS. One-source instructions, the SFU, and the instructions of register pairs and two masks (O13).
-/
namespace Sys2Proof.Machine
set_option Elab.async false

/-- An instruction that writes f of its source in every mask-on lane. -/
def LaneOne (op : UOp → Instr) (f : Word → Word) : Prop :=
  ∀ (o : UOp) (s : State), exec (op o) s = aluInstr (op o) (fun I => I.lane1 o f) s

theorem laneOne_congr {op : UOp → Instr} {f f' : Word → Word} (h : LaneOne op f) (hf : ∀ x, f x = f' x) : LaneOne op f' :=
  funext hf ▸ h

theorem exec_of_laneOne {op : UOp → Instr} {f : Word → Word} (h : LaneOne op f) {s : State} {I : Issue} (hi : s.issue = some I)
    (o : UOp) (hc : I.clear (op o) = true) :
    exec (op o) s = .next (I.wrote (op o) o.d.toNat (I.maskOn o.m) fun i => f (I.xbar o.xa o.a i)) :=
  (h o s).trans ((alu_clear hi hc).trans (congrArg _ (writeD_finish I o.d o.m _ _)))

/-- The functions of UNI and SHFL are those of R102's table. -/
theorem unary_laneOne : ∀ p ∈ Spec.unary, LaneOne p.1 p.2 := by
  unfold Spec.unary
  simp only [List.forall_mem_cons]
  exact ⟨laneOne_congr (f := popc) (fun _ _ => rfl) popc_eq, laneOne_congr (f := clz) (fun _ _ => rfl) clz_eq,
    laneOne_congr (f := brev) (fun _ _ => rfl) brev_eq,
    laneOne_congr (f := fun x => if x.msb then -x else x) (fun _ _ => rfl) iabs_eq,
    laneOne_congr (f := fun x => -x) (fun _ _ => rfl) ineg_eq,
    laneOne_congr (f := fun x => x &&& 0x7FFFFFFF) (fun _ _ => rfl) fabs_eq,
    laneOne_congr (f := fun x => x ^^^ 0x80000000) (fun _ _ => rfl) fneg_eq,
    laneOne_congr (f := cvtfi) (fun _ _ => rfl) fun x => truncClamp_eq x _ _,
    laneOne_congr (f := cvtfu) (fun _ _ => rfl) fun x => truncClamp_eq x _ _,
    fun _ _ => rfl, fun _ _ => rfl, fun _ _ => rfl, laneOne_congr (f := cvtbf) (fun _ _ => rfl) cvtbf_eq,
    fun _ _ => rfl, fun _ h => by cases h⟩

theorem rounding_laneOne : ∀ p ∈ Spec.rounding, LaneOne p.1 (frint p.2) := by
  unfold Spec.rounding
  simp only [List.forall_mem_cons]
  exact ⟨fun _ _ => rfl, fun _ _ => rfl, fun _ _ => rfl, fun _ _ => rfl, fun _ h => by cases h⟩

theorem special_runs : ∀ p ∈ Spec.special, ∀ (o : UOp) (s : State),
    exec (p.1 o) s = aluInstr (p.1 o) (fun I => I.sfu o p.2) s := by
  unfold Spec.special
  simp only [List.forall_mem_cons]
  exact ⟨fun _ _ => rfl, fun _ _ => rfl, fun _ _ => rfl, fun _ _ => rfl, fun _ _ => rfl, fun _ _ => rfl, fun _ _ => rfl,
    fun _ _ => rfl, fun _ _ => rfl, fun _ _ => rfl, fun _ h => by cases h⟩

theorem pendingOf_one (d : Nat) (ls : List Nat) (f : Nat → Nat → Word) :
    pendingOf d 1 ls f = ls.map fun i => (64 * d + i, f 0 i) := by
  unfold pendingOf
  rw [List.map_eq_flatMap]
  rfl

/-- A posted result: the group has one more operation, and no register has changed (R17, R18). -/
theorem later_finish {s : State} {I : Issue} (h : s.issue = some I) (i : Instr) (c : Counter) (ws : List (Nat × Word)) :
    (I.later I.s c ws).finish I.g.gid (instrBytes i) = I.posted i c ws := by
  obtain ⟨rfl, hg, -⟩ := issue_spec h
  unfold Issue.later Issue.posted
  rw [onGroup_eq _ hg]
  rfl

/-- An instruction that nothing stops names no bound port. -/
theorem port_of_clear {I : Issue} {i : Instr} (hc : I.clear i = true) {v : Nat} (hv : v ∈ I.readsOf i ++ i.writes) :
    I.g.port v = none := by
  unfold Issue.clear at hc
  simp only [Bool.and_eq_true, List.all_eq_true, Option.isNone_iff_eq_none] at hc
  obtain ⟨-, hports⟩ := hc
  exact hports v hv

theorem writes_sel (o : SOp) : (Instr.sel o).writes = [o.d.toNat] := rfl

theorem everyLane_eq {I : Issue} {v : Nat} (m : Bool) (hp : I.g.port v = none) : I.everyLane v m = I.active := by
  unfold Issue.everyLane
  rw [hp]
  rfl

end Sys2Proof.Machine

open Sys2Proof Sys2Proof.Machine

/-- Settles O13: each instruction runs the function of the spec's table in its lanes, lane values by the laws of words and
pairs. -/
theorem laneResults : Obligations.LaneResults := by
  unfold Obligations.LaneResults
  refine ⟨fun s I h => ⟨fun p hp o => exec_of_laneOne (unary_laneOne p hp) h o,
    fun p hp o => exec_of_laneOne (rounding_laneOne p hp) h o⟩, fun s I h p hp o hc => ?_,
    fun s I h => ⟨fun o hc => ?_, fun o hc => ?_, fun o hc => ?_⟩⟩
  · rw [special_runs p hp, alu_clear h hc]
    unfold Issue.sfu
    rw [later_finish h, pendingOf_one]
  · rw [exec_add64]
    unfold execAdd64
    rw [alu_clear h hc]
    simp only [writePair_finish, xpair_add_xpair]
  · rw [exec_lea]
    unfold execLea
    rw [alu_clear h hc]
    simp only [writePair_finish, xpair_add_simm]
  · have hport : I.g.port o.d.toNat = none := port_of_clear hc (List.mem_append_right _ (by
      rw [writes_sel]
      exact List.mem_singleton_self _))
    rw [exec_sel]
    unfold execSel
    rw [alu_clear h hc]
    simp only [everyLane_eq o.m hport]
    rfl
end

section
/-!
PROOFS. Control and status registers (O17).
-/
namespace Sys2Proof.Machine
set_option Elab.async false

/-! ### Reads (R35, R114, R275) -/

/-- The numbers of the CSRs that CSRR may read (R35, R36). -/
def csrNumbers : List Nat :=
  [0x00, 0x01, 0x02, 0x03, 0x04, 0x05, 0x06, 0x07, 0x08, 0x09, 0x0A, 0x0B, 0x0C, 0x10, 0x11, 0x12, 0x13, 0x14, 0x15, 0x16,
    0x20, 0x21, 0x22, 0x23]

/-- The table of the spec holds each number with the value that the model reads. -/
theorem csrs_eq_map (I : Issue) (i : Nat) : Spec.csrs I i = csrNumbers.map fun n => (n, I.csr n i) := rfl

theorem csr_mem_csrs {I : Issue} {n : Nat} (i : Nat) (hn : n ∈ csrNumbers) : (n, I.csr n i) ∈ Spec.csrs I i := by
  rw [csrs_eq_map]
  exact List.mem_map_of_mem hn

theorem mem_csrNumbers_of_readable {r : Reg} (h : csrReadable r = true) : r.toNat ∈ csrNumbers := by
  unfold csrReadable at h
  simp only [Bool.or_eq_true, decide_eq_true_eq] at h
  simp only [csrNumbers, List.mem_cons, List.not_mem_nil, or_false]
  omega

theorem csr64_eq (r : Reg) : csr64 r = decide (r.toNat ∈ [0x14, 0x15, 0x21, 0x22]) := by
  simp only [csr64, List.mem_cons, List.not_mem_nil, or_false, Bool.decide_or]
  simp only [Bool.or_assoc]
  rfl

theorem mem_csrNumbers_of_csr64 {r : Reg} (h : csr64 r = true) : r.toNat ∈ csrNumbers := by
  have hwide : ∀ n ∈ [0x14, 0x15, 0x21, 0x22], n ∈ csrNumbers := by decide
  rw [csr64_eq, decide_eq_true_eq] at h
  exact hwide _ h

theorem wf_csrr {o : SOp} (h : wf (.csrr o) = true) : csrReadable o.a = true :=
  (Bool.and_eq_true_iff.1 h).2

theorem wf_csrmvRead {o : SysOp} (h : wf (.csrmvRead o) = true) : csr64 (o.f.extractLsb' 16 7) = true := by
  have hok : csrmvOk o false = true := (Bool.and_eq_true_iff.1 h).2
  exact (Bool.and_eq_true_iff.1 hok).2

/-! ### Writes (R71, R115, R174, R270, R271, R275) -/

theorem laneU_eq {I : Issue} {m : Bool} {u : Nat} (h : (lanesOf (I.maskOn m)).head? = some u) : I.laneU m = u :=
  congrArg (·.getD 0) h

/-- An instruction that changes its own group and nothing else. -/
theorem group_finish {s : State} {I : Issue} (h : s.issue = some I) (i : Instr) (g : Group) :
    (Eff.done (I.s.setGroup g)).finish I.g.gid (instrBytes i) = I.ended i (s.setGroup g) := by
  obtain ⟨rfl, -⟩ := issue_spec h
  rfl

/-- Writing a group back changes nothing at the end of its instruction. -/
theorem ended_setGroup_self {s : State} {I : Issue} (h : s.issue = some I) (i : Instr) :
    I.ended i (s.setGroup I.g) = I.ended i s := by
  obtain ⟨rfl, hgrp, -⟩ := issue_spec h
  unfold Issue.ended
  rw [onGroup_setGroup _ rfl hgrp (advance_gid _ _ _), onGroup_eq _ hgrp]
  rfl

theorem csrWrite_mode_same {I : Issue} {x : Word} (h : x &&& 0x00037F01 = I.g.mode) : I.csrWrite csrMODE x = .done I.s :=
  if_pos (beq_iff_eq.2 h)

theorem csrWrite_mode_other {I : Issue} {x : Word} (h : x &&& 0x00037F01 ≠ I.g.mode) :
    I.csrWrite csrMODE x = I.trap MATRIX_STATE :=
  if_neg (mt beq_iff_eq.1 h)

theorem clampThresh_eq (x : Word) : clampThresh x = BitVec.ofNat 32 (max 1 (min 64 x.toNat)) := by
  apply BitVec.eq_of_toNat_eq
  have hle : x ≤ 64 ↔ x.toNat ≤ 64 := BitVec.le_def
  have hzero : x = 0 ↔ x.toNat = 0 := BitVec.toNat_eq
  unfold clampThresh
  rw [BitVec.toNat_ofNat]
  split
  · rename_i hx
    rw [hzero.1 hx]
    rfl
  · split
    · rename_i hx hs
      rw [hzero] at hx
      rw [hle] at hs
      omega
    · rename_i hx hs
      rw [hle] at hs
      rw [show min 64 x.toNat = 64 by omega]
      rfl

/-- A CSRW that its group may perform has the effect of `Issue.csrWrite` on its register. -/
theorem csrw_runs {s : State} {I : Issue} (h : s.issue = some I) {o : SOp} {u n : Nat} (hc : I.clear (.csrw o) = true)
    (hu : (lanesOf (I.maskOn o.m)).head? = some u) (hn : o.d.toNat = n)
    (hp : (csrFree n || csrHandlerOnly n && I.g.handling) = true) :
    exec (.csrw o) s = .next ((I.csrWrite n (I.xbar o.xa o.a u)).finish I.g.gid (instrBytes (.csrw o))) := by
  subst hn
  rw [exec_csrw]
  unfold execCsrw
  rw [run_clear h hc rfl (by rw [← Bool.not_or, hp]; rfl), laneU_eq hu]

/-- A CSRMV that its group may perform writes the pair of the lowest mask-on lane. -/
theorem csrmvWrite_runs {s : State} {I : Issue} (h : s.issue = some I) {o : SysOp} {u : Nat}
    (hc : I.clear (.csrmvWrite o) = true) (hh : I.g.handling = true) (hu : (lanesOf (I.maskOn o.w.m)).head? = some u)
    {v : Addr} (hv : BitVec.ofNat 64 (Spec.pairValue I o.w.xa o.w.a u) = v) {n : Nat} (hn : csrNum o = n) :
    exec (.csrmvWrite o) s = .next ((if n == csrXSET && !xsetOk v then I.trap ILLEGAL_ENCODING else I.csrmvWrite n v).finish
      I.g.gid (instrBytes (.csrmvWrite o))) := by
  subst hn
  have hval : I.csrmvValue o = v := by
    unfold Issue.csrmvValue
    rw [laneU_eq hu, xpair_eq_ofNat, hv]
  rw [exec_csrmvWrite]
  unfold execCsrmvWrite
  rw [run_clear h hc rfl (by rw [hh]; rfl), hval]

theorem getLsbD_mask16 (j : Nat) : (0xFFFF : BitVec 64).getLsbD j = decide (j < 16) := by
  rw [show (0xFFFF : BitVec 64) = (BitVec.allOnes 16).setWidth 64 from rfl, BitVec.getLsbD_setWidth, BitVec.getLsbD_allOnes,
    ← Bool.decide_and]
  exact decide_eq_decide.2 (by omega)

/-- Preset k of XSET after preset n was replaced (R70, R71). -/
theorem extract_setPreset (x : BitVec 64) (p : BitVec 16) {n k : Nat} (hn : 1 ≤ n) (hn3 : n ≤ 3) (hk : 1 ≤ k) (hk4 : k ≤ 4) :
    (setPreset x n p).extractLsb' (16 * (k - 1)) 16 = if k = n then p else x.extractLsb' (16 * (k - 1)) 16 := by
  unfold setPreset
  apply BitVec.eq_of_getLsbD_eq
  intro i hi
  simp only [BitVec.getLsbD_extractLsb', BitVec.getLsbD_or, BitVec.getLsbD_and, BitVec.getLsbD_not, BitVec.getLsbD_shiftLeft,
    getLsbD_mask16, BitVec.getLsbD_setWidth, hi, decide_true, Bool.true_and]
  have hin : 16 * (k - 1) + i < 64 := by omega
  simp only [hin, decide_true, Bool.true_and]
  split
  · rename_i hkn
    subst hkn
    simp [hi, show i < 64 by omega]
  · rename_i hkn
    rcases Nat.lt_or_gt_of_ne hkn with hlt | hgt
    · simp [hi, show 16 * (k - 1) + i < 16 * (n - 1) by omega]
    · have hout : 16 ≤ 16 * (k - 1) + i - 16 * (n - 1) := by omega
      simp [hi, BitVec.getLsbD_of_ge p _ hout, show ¬ 16 * (k - 1) + i - 16 * (n - 1) < 16 by omega]

theorem wf_setx {o : SysOp} (h : wf (.setx o) = true) : 1 ≤ (o.f.extractLsb' 22 2).toNat ∧ (o.f.extractLsb' 22 2).toNat ≤ 3 := by
  have hok : (o.f.extractLsb' 22 2 != 0 && o.f.extractLsb' 16 6 == 0 && presetOk (o.f.extractLsb' 0 16)) = true :=
    (Bool.and_eq_true_iff.1 h).2
  simp only [Bool.and_eq_true, bne_iff_ne] at hok
  obtain ⟨⟨hne, -⟩, -⟩ := hok
  have hlt := (o.f.extractLsb' 22 2).isLt
  have hpos : (o.f.extractLsb' 22 2).toNat ≠ 0 := fun hz => hne (BitVec.eq_of_toNat_eq hz)
  omega

end Sys2Proof.Machine

open Sys2Proof Sys2Proof.Machine

/-- Settles O17: reads give the spec's table, and each write is one change of the group. -/
theorem csrAccess : Obligations.CsrAccess := by
  unfold Obligations.CsrAccess
  refine ⟨fun s I h =>
    ⟨fun o hc hw => ⟨fun i => I.csr o.a.toNat i, fun i => csr_mem_csrs i (mem_csrNumbers_of_readable (wf_csrr hw)), ?_⟩,
      fun o hc hw hh => ⟨fun i => I.csr (csrNum o) i, fun i => csr_mem_csrs i (mem_csrNumbers_of_csr64 (wf_csrmvRead hw)), ?_⟩,
      fun o hc => ?_, fun o hc => ?_⟩,
    fun s I h => ⟨fun o u hc hu => ?_, fun o u hc hh hu => ?_, fun o hc hw => ?_⟩⟩
  · rw [exec_csrr]
    unfold execCsrr
    rw [alu_clear h hc]
    simp only [csr64_eq, decide_eq_true_eq]
    split
    · rw [writePair_finish]
    · rw [writeD_finish]
      exact congrArg _ (wrote_congr I _ _ _ fun j _ => (BitVec.setWidth_eq_extractLsb' (by omega)).symm)
  · rw [exec_csrmvRead]
    unfold execCsrmvRead
    rw [run_clear h hc rfl (by rw [hh]; rfl), writePair_finish]
  · rw [exec_clock]
    unfold execClock
    rw [alu_clear h hc, writePair_finish, (issue_spec h).1]
  · rw [exec_budget]
    unfold execBudget
    rw [alu_clear h hc]
    dsimp only
    rw [writePair_finish, (issue_spec h).1]
    rfl
  · have hown : I.g.handling = true → ∀ n, csrHandlerOnly n = true → (csrFree n || csrHandlerOnly n && I.g.handling) = true :=
      fun hh n hn => by rw [hn, hh]; exact Bool.or_true _
    refine ⟨fun hd => ?_, fun hd => ?_, fun hh => ⟨fun hd => ?_, fun hd => ?_, fun hd => ?_, fun hd hm => ?_, fun hd hm => ?_⟩⟩
    · rw [csrw_runs (n := csrCC) h hc hu (congrArg BitVec.toNat hd) rfl, BitVec.setWidth_eq_extractLsb' (by omega)]
      exact congrArg _ (group_finish h _ _)
    · rw [csrw_runs (n := csrMTHRESH) h hc hu (congrArg BitVec.toNat hd) rfl, ← clampThresh_eq]
      exact congrArg _ (group_finish h _ _)
    · rw [csrw_runs (n := csrCLASS) h hc hu (congrArg BitVec.toNat hd) (hown hh _ rfl)]
      refine (congrArg _ (group_finish h _ _)).trans ?_
      rw [BitVec.extractLsb'_toNat]
      rfl
    · rw [csrw_runs (n := csrTRAPCAUSE) h hc hu (congrArg BitVec.toNat hd) (hown hh _ rfl),
        BitVec.setWidth_eq_extractLsb' (by omega)]
      exact congrArg _ (group_finish h _ _)
    · rw [csrw_runs (n := csrESTATE) h hc hu (congrArg BitVec.toNat hd) (hown hh _ rfl)]
      exact congrArg _ (group_finish h _ _)
    · rw [csrw_runs (n := csrMODE) h hc hu (congrArg BitVec.toNat hd) (hown hh _ rfl), csrWrite_mode_same hm, (issue_spec h).1]
      exact congrArg _ (ended_setGroup_self h _).symm
    · rw [csrw_runs (n := csrMODE) h hc hu (congrArg BitVec.toNat hd) (hown hh _ rfl), csrWrite_mode_other hm, trap_finish h]
  · have hrun := fun n => csrmvWrite_runs h hc hh hu rfl (n := n)
    refine ⟨fun hn hok => ?_, fun hn hok => ?_, fun hn => ?_, fun hn => ?_, fun hn => ?_⟩
    · rw [hrun csrXSET hn, hok]
      exact congrArg _ (group_finish h _ _)
    · rw [hrun csrXSET hn, hok]
      exact congrArg _ (trap_finish h _ _ _)
    · rw [hrun csrLINEAGE hn]
      exact congrArg _ (group_finish h _ _)
    · rw [hrun csrTRAPADDR hn]
      exact congrArg _ (group_finish h _ _)
    · rw [hrun csrEPC hn]
      exact congrArg _ (group_finish h _ _)
  · obtain ⟨hn, hn3⟩ := wf_setx hw
    refine ⟨_, ?_, fun k hk hk4 => extract_setPreset I.g.xset (o.f.extractLsb' 0 16) hn hn3 hk hk4⟩
    rw [exec_setx]
    unfold execSetx
    rw [alu_clear h hc]
    exact congrArg _ (group_finish h _ _)
end

section
/-!
PROOFS. What comes before an instruction's effect (O9): an RWAIT whose target was taken ends without the checks of R38.
-/
namespace Sys2Proof.Machine
set_option Elab.async false

/-- A group of 64 registers inside a clause, whose RWAIT has been taken up by an arrival (R306, R320). -/
def wokenGroup : Group := { bareGroup 1 with nregs := 64, woken := true }

/-- The smallest machine in which that group issues. -/
def wokenState : State :=
  { State.reset with cur := some 1, groups := [wokenGroup], teams := [bareTeam 0 1], contexts := [bareContext 0 0] }

/-- What that group knows as it issues. -/
def wokenIssue : Issue :=
  ⟨wokenState, wokenGroup, { label := 0, pc := 0xFFC, lanes := ~~~0 },
    { header := 0x1E000000, addr := 0xFFC, split := 0, pc := 0x1000 },
    bareTeam 0 1, bareContext 0 0⟩

theorem wokenState_issue : wokenState.issue = some wokenIssue := inClause_eq_some rfl rfl rfl rfl rfl rfl

/-- An RWAIT that names v100. -/
def rwait100 : FabOp := ⟨⟨0, 0, 0, 100, 0, false⟩, 0, 0, 0⟩

theorem rwait100_outside : ∃ v ∈ (Instr.rwait rwait100).reads ++ (Instr.rwait rwait100).writes ++
    (if masked (.rwait rwait100) then [wokenIssue.cl.mr] else []), wokenIssue.g.nregs ≤ v ∧ wokenIssue.g.port v = none :=
  ⟨100, by decide, by decide, by decide⟩

/-- The status of group 1 after a step. -/
def statusAfter : Host.Outcome State Fault Refusal → Option GStatus
  | .next t => (t.group 1).map Group.status
  | _ => none

/-- The group that was woken goes on: its RWAIT is over. -/
theorem rwait_woken_goes_on : statusAfter (exec (.rwait rwait100) wokenState) = some .windowed := by
  rw [exec_rwait]
  unfold execRwait
  rw [runInstr_of_issue wokenState_issue]
  decide

end Sys2Proof.Machine

open Sys2Proof Sys2Proof.Machine

/-- Refutes O9: the first clause keeps out a parked ENQ, but not an RWAIT that was parked. One whose target has been taken
ends at once, whatever registers it names: the checks of R38 are those of its issue. -/
theorem not_beforeEffect : ¬ Obligations.BeforeEffect := by
  unfold Obligations.BeforeEffect
  rintro ⟨⟨hbad, -⟩, -⟩
  have htraps := hbad wokenState wokenIssue (.rwait rwait100) wokenState_issue rfl (by decide) rfl rwait100_outside
  have hstatus := congrArg statusAfter htraps
  rw [rwait_woken_goes_on] at hstatus
  exact absurd hstatus (by decide)
end

section
/-!
SUPPORT. The first among the best of a list (R75, R250).
-/
namespace Sys2Proof.Machine
set_option Elab.async false

/-- A strict order whose ties are like equals: it is asymmetric, and what does not come before stays behind. -/
structure WeakOrder {α : Type} (before : α → α → Bool) : Prop where
  asymm : ∀ {x y}, before x y = true → before y x = false
  trans : ∀ {x y z}, before x y = false → before y z = false → before x z = false

theorem WeakOrder.irrefl {α : Type} {before : α → α → Bool} (h : WeakOrder before) (x : α) : before x x = false := by
  cases hx : before x x with
  | false => rfl
  | true => exact hx.symm.trans (h.asymm hx)

theorem best_eq_none {α : Type} {before : α → α → Bool} {l : List α} : best before l = none ↔ l = [] := by
  cases l with
  | nil => exact iff_of_true rfl rfl
  | cons x r =>
    refine iff_of_false ?_ (List.cons_ne_nil x r)
    unfold best
    split
    · exact Option.some_ne_none _
    · split <;> exact Option.some_ne_none _

/-- The best of a list with a first element: that one, unless the best of the rest comes before it. -/
theorem best_cons {α : Type} {before : α → α → Bool} {x g : α} {r : List α} (h : best before (x :: r) = some g) :
    (g = x ∧ ∀ y, best before r = some y → before y x = false) ∨ (best before r = some g ∧ before g x = true) := by
  unfold best at h
  cases hr : best before r with
  | none =>
    simp only [hr, Option.some.injEq] at h
    exact .inl ⟨h.symm, fun y hy => by cases hy⟩
  | some y =>
    simp only [hr] at h
    split at h
    · rename_i hb
      obtain rfl := Option.some.inj h
      exact .inr ⟨rfl, hb⟩
    · rename_i hb
      refine .inl ⟨(Option.some.inj h).symm, fun z hz => ?_⟩
      obtain rfl := Option.some.inj hz
      exact Bool.eq_false_iff.2 hb

theorem best_mem {α : Type} {before : α → α → Bool} {l : List α} {g : α} (h : best before l = some g) : g ∈ l := by
  induction l with
  | nil => cases h
  | cons x r ih =>
    rcases best_cons h with ⟨rfl, -⟩ | ⟨hr, -⟩
    · exact List.mem_cons_self
    · exact List.mem_cons_of_mem _ (ih hr)

/-- Nothing in the list comes before the best. -/
theorem not_before_best {α : Type} {before : α → α → Bool} (ho : WeakOrder before) {l : List α} {g : α}
    (h : best before l = some g) : ∀ y ∈ l, before y g = false := by
  induction l generalizing g with
  | nil => cases h
  | cons x r ih =>
    intro y hy
    rcases best_cons h with ⟨rfl, hrest⟩ | ⟨hr, hx⟩
    · rcases List.mem_cons.1 hy with rfl | hy
      · exact ho.irrefl y
      · cases hb : best before r with
        | none =>
          rw [best_eq_none.1 hb] at hy
          cases hy
        | some z => exact ho.trans (ih hb y hy) (hrest z hb)
    · rcases List.mem_cons.1 hy with rfl | hy
      · exact ho.asymm hx
      · exact ih hr y hy

/-- Of those alike the best is the one that stands first. -/
theorem best_first {α : Type} [DecidableEq α] {before : α → α → Bool} (ho : WeakOrder before) (p : α → Bool) {l : List α} {g : α}
    (h : best before (l.filter p) = some g) {y : α} (hy : y ∈ l) (hp : p y = true) (halike : before g y = false) :
    l.idxOf g ≤ l.idxOf y := by
  induction l with
  | nil => cases hy
  | cons x r ih =>
    have hpg : p g = true := (List.mem_filter.1 (best_mem h)).2
    by_cases hpx : p x = true
    · rw [List.filter_cons_of_pos hpx] at h
      rcases best_cons h with ⟨rfl, -⟩ | ⟨hr, hx⟩
      · rw [List.idxOf_cons_self]
        exact Nat.zero_le _
      · have hgx : x ≠ g := by
          rintro rfl
          rw [ho.irrefl] at hx
          cases hx
        have hyx : x ≠ y := by
          rintro rfl
          rw [hx] at halike
          cases halike
        rw [List.idxOf_cons_ne _ hgx, List.idxOf_cons_ne _ hyx]
        exact Nat.succ_le_succ (ih hr ((List.mem_cons.1 hy).resolve_left hyx.symm))
    · rw [List.filter_cons_of_neg hpx] at h
      have hne : ∀ z, p z = true → x ≠ z := fun z hz e => hpx (e ▸ hz)
      rw [List.idxOf_cons_ne _ (hne g hpg), List.idxOf_cons_ne _ (hne y hp)]
      exact Nat.succ_le_succ (ih h ((List.mem_cons.1 hy).resolve_left (hne y hp).symm))

/-- A higher rank first, and of equal rank a higher second one. -/
theorem weakOrder_of_ranks {α : Type} {before : α → α → Bool} (r1 r2 : α → Int)
    (h : ∀ x y, before x y = true ↔ r1 y < r1 x ∨ (r1 x = r1 y ∧ r2 y < r2 x)) : WeakOrder before where
  asymm {x y} hxy := by
    rw [h] at hxy
    rw [Bool.eq_false_iff, Ne, h]
    omega
  trans {x y z} hxy hyz := by
    rw [Bool.eq_false_iff, Ne, h] at hxy hyz ⊢
    omega

end Sys2Proof.Machine
end

section
/-!
SUPPORT. Results landing: registers after writes by key, and completed operations (R18, R90, R157).
-/
namespace Sys2Proof.Machine
set_option Elab.async false

/-! ### Writes by key -/

/-- A write changes registers and ports alone (R8, R66, R344). -/
theorem write_changes (g : Group) (v i : Nat) (x : Word) :
    g.write v i x = { g with regs := (g.write v i x).regs, ports := (g.write v i x).ports } := by
  unfold Group.write
  split
  · rfl
  · split
    · rfl
    · split <;> rfl

/-- A register that is no port stays one. -/
theorem port_write {g : Group} {u : Nat} (v i : Nat) (x : Word) (hu : g.port u = none) : (g.write v i x).port u = none := by
  unfold Group.write
  split
  · exact hu
  · split
    · exact hu
    · rename_i p hp
      split
      · exact hu
      · have hreg : p.reg = v := by
          unfold Group.port at hp
          split at hp
          · cases hp
          · simpa using List.find?_some hp
        unfold Group.port at hu ⊢
        split
        · rfl
        · rename_i hlow
          rw [if_neg hlow] at hu
          have hvu : v ≠ u := by
            rintro rfl
            unfold Group.port at hp
            rw [if_neg hlow, hu] at hp
            cases hp
          refine (find_replace_other ?_ fun q hq => ?_).trans hu
          · simpa [hreg] using hvu
          · simp only [beq_iff_eq] at hq
            simpa [hq] using hvu

/-- A register that is no port after a write to any register (R8, R66). -/
theorem read_write {g : Group} {u j : Nat} (v i : Nat) (x : Word) (hi : i < 64) (hj : j < 64) (hu : g.port u = none) :
    (g.write v i x).read u j = if regKey v i = regKey u j then (if u = 0 then 0 else x) else g.read u j := by
  by_cases h0 : u = 0
  · subst h0
    simp [read_zero]
  · rw [read_eq j h0 (port_write v i x hu), read_eq j h0 hu, if_neg h0]
    by_cases hv : v = 0
    · subst hv
      have hkey : ¬ regKey 0 i = regKey u j := fun e => h0 ((regKey_inj hi hj).1 e).1.symm
      rw [if_neg hkey]
      rfl
    · cases hp : g.port v with
      | none =>
        rw [write_eq i x hv hp, lookup_put]
        simp only [eq_comm]
      | some p =>
        have hkey : ¬ regKey v i = regKey u j := by
          intro e
          rw [((regKey_inj hi hj).1 e).1, hu] at hp
          cases hp
        have hregs : (g.write v i x).regs = g.regs := by
          unfold Group.write
          rw [if_neg hv, hp]
          dsimp only
          split <;> rfl
        rw [if_neg hkey, hregs]

/-- The register writes of a result, in their order (R18). -/
def Group.writeKeys (g : Group) (ws : List (Nat × Word)) : Group := ws.foldl (fun g w => g.write (w.1 / 64) (w.1 % 64) w.2) g

theorem writeKeys_append (g : Group) (ws : List (Nat × Word)) (w : Nat × Word) :
    g.writeKeys (ws ++ [w]) = (g.writeKeys ws).write (w.1 / 64) (w.1 % 64) w.2 := by
  unfold Group.writeKeys
  rw [List.foldl_append]
  rfl

theorem writeKeys_changes (g : Group) (ws : List (Nat × Word)) :
    g.writeKeys ws = { g with regs := (g.writeKeys ws).regs, ports := (g.writeKeys ws).ports } := by
  induction ws using List.reverseRecOn with
  | nil => rfl
  | append_singleton ws w ih =>
    rw [writeKeys_append]
    refine (write_changes _ _ _ _).trans ?_
    generalize g.writeKeys ws = k at ih ⊢
    rw [ih]

theorem port_writeKeys {g : Group} {u : Nat} (ws : List (Nat × Word)) (hu : g.port u = none) :
    (g.writeKeys ws).port u = none := by
  induction ws using List.reverseRecOn with
  | nil => exact hu
  | append_singleton ws w ih =>
    rw [writeKeys_append]
    exact port_write _ _ _ ih

/-- The last write to a register in a lane is what it reads as. -/
theorem read_writeKeys {g : Group} {u j : Nat} (ws : List (Nat × Word)) (hj : j < 64) (hu : g.port u = none) :
    (g.writeKeys ws).read u j = match (ws.filter fun w => w.1 == 64 * u + j).getLast? with
      | some w => if u = 0 then 0 else w.2
      | none => g.read u j := by
  induction ws using List.reverseRecOn with
  | nil => rfl
  | append_singleton ws w ih =>
    have hkey : regKey (w.1 / 64) (w.1 % 64) = w.1 := by
      unfold regKey
      omega
    have hreg : regKey u j = 64 * u + j := rfl
    rw [writeKeys_append, read_write _ _ _ (Nat.mod_lt _ (by omega)) hj (port_writeKeys ws hu), hkey, hreg, List.filter_append]
    by_cases hw : (w.1 == 64 * u + j) = true
    · rw [if_pos (beq_iff_eq.1 hw), List.filter_cons_of_pos (p := fun x : Nat × Word => x.1 == 64 * u + j) hw, List.filter_nil,
        List.getLast?_concat]
    · rw [if_neg (mt beq_iff_eq.2 hw), List.filter_cons_of_neg (p := fun x : Nat × Word => x.1 == 64 * u + j) hw, List.filter_nil,
        List.append_nil, ih]

/-! ### Completed operations (R90) -/

/-- A completed operation changes the operations outstanding, the acquires owed and the deferred faults alone. -/
theorem complete_changes (g : Group) (seq : Nat) (f : Option TrapInfo) :
    g.complete seq f = { g with
      ops := (g.complete seq f).ops, acqs := (g.complete seq f).acqs, deferred := (g.complete seq f).deferred } := by
  unfold Group.complete
  split <;> rfl

/-- Where every operation of a class is done, its counter reads zero. -/
theorem counter_eq_zero {g : Group} {c : Counter} (h : ∀ p ∈ g.ops, p.cls = c → p.done = true) : g.counter c = 0 := by
  unfold Group.counter
  rw [List.length_eq_zero_iff, List.dropWhile_eq_nil_iff]
  intro p hp
  obtain ⟨hmem, hcls⟩ := List.mem_filter.1 hp
  exact h p hmem (by simpa using hcls)

/-- Where an operation completes that is alone in its class, the counter reads zero. -/
theorem counter_complete {g : Group} {seq : Nat} {o : Op} (f : Option TrapInfo)
    (hfind : g.ops.find? (fun p => p.seq == seq) = some o) (honly : ∀ p ∈ g.ops, p.cls = o.cls → p.seq = seq) :
    (g.complete seq f).counter o.cls = 0 := by
  refine counter_eq_zero fun p hp hcls => ?_
  unfold Group.complete at hp
  rw [hfind] at hp
  obtain ⟨q, hq, hqp⟩ := List.mem_map.1 (List.mem_filter.1 hp).1
  split at hqp
  · rw [← hqp]
  · rename_i hseq
    subst hqp
    exact absurd (beq_iff_eq.2 (honly q hq hcls)) hseq

/-! ### Accesses on their way -/

theorem needed_of_none {p : Flight → Bool} {l : List Flight} (h : ∀ x ∈ l, p x = false) : needed p l = ([], l) := by
  induction l with
  | nil => rfl
  | cons y r ih =>
    unfold needed
    rw [ih fun x hx => h x (List.mem_cons_of_mem _ hx)]
    simp [h y List.mem_cons_self]

theorem drain_of_none {s : State} {p : Flight → Bool} (h : (s.flights.getD []).any p = false) : s.drain p = s := by
  unfold State.drain
  cases hf : s.flights with
  | none => rfl
  | some l =>
    rw [hf] at h
    dsimp only
    rw [needed_of_none (by simpa using h)]
    rfl

end Sys2Proof.Machine
end

section
/-!
PROOFS. Events of a group and its quad: results, waits, windows and budgets (O47).
-/
namespace Sys2Proof.Machine
set_option Elab.async false

/-! ### A result lands (R18, R157) -/

/-- A group after the writes of an operation in some lanes, the other writes still outstanding. -/
def Group.landed (g : Group) (o : Op) (m : LaneSet) : Group :=
  { g.writeKeys (o.writes.filter fun w => m.getLsbD (w.1 % 64)) with
    ops := g.ops.map fun p => if p.seq == o.seq then { p with writes := o.writes.filter fun w => !m.getLsbD (w.1 % 64) } else p }

theorem land_eq (g : Group) (o : Op) (m : LaneSet) :
    g.land o m = if (o.writes.filter fun w => !m.getLsbD (w.1 % 64)).isEmpty && o.due.isEmpty
      then (g.landed o m).complete o.seq none else g.landed o m := by
  have hops : (g.writeKeys (o.writes.filter fun w => m.getLsbD (w.1 % 64))).ops = g.ops := by rw [writeKeys_changes]
  unfold Group.land landingIn Group.landed
  simp only [List.partition_eq_filter_filter]
  rw [← hops]
  rfl

theorem land_keeps (g : Group) (o : Op) (m : LaneSet) :
    (g.land o m).gid = g.gid ∧ (g.land o m).regs = (g.landed o m).regs ∧ (g.land o m).ports = (g.landed o m).ports := by
  have hgid : (g.landed o m).gid = g.gid := by
    unfold Group.landed
    rw [writeKeys_changes]
  rw [land_eq]
  split
  · rw [complete_changes]
    exact ⟨hgid, rfl, rfl⟩
  · exact ⟨hgid, rfl, rfl⟩

/-- Registers after a result landed: the last write to a lane of a register is what it reads as. -/
theorem read_land {g : Group} (o : Op) (m : LaneSet) {v j : Nat} (hj : j < 64) (hp : g.port v = none) :
    (g.land o m).read v j = match (o.writes.filter fun w => w.1 == 64 * v + j && m.getLsbD j).getLast? with
      | some w => if v = 0 then 0 else w.2
      | none => g.read v j := by
  obtain ⟨-, hregs, hports⟩ := land_keeps g o m
  have hkeys : ((o.writes.filter fun w => m.getLsbD (w.1 % 64)).filter fun w => w.1 == 64 * v + j) =
      o.writes.filter fun w => w.1 == 64 * v + j && m.getLsbD j := by
    rw [List.filter_filter]
    refine List.filter_congr fun w _ => ?_
    by_cases hw : w.1 = 64 * v + j
    · rw [hw, show (64 * v + j) % 64 = j by omega]
    · rw [beq_eq_false_iff_ne.2 hw, Bool.false_and, Bool.false_and]
  rw [read_congr (h := g.land o m) hregs hports, ← hkeys]
  exact read_writeKeys _ hj hp

theorem execResultLand_eq {s : State} {g : Group} {o : Op} (hg : s.group s.ev.g = some g)
    (ho : g.ops.find? (fun p => p.seq == s.ev.seq && p.pending) = some o) (hfly : s.flying s.ev.g s.ev.seq = false) :
    exec .resultLand s = .next (s.setGroup (g.land o s.ev.lanes)) := by
  rw [exec_resultLand]
  unfold execResultLand
  rw [drain_of_none hfly, onGroup_eq _ hg]
  simp only [ho]

/-- With part of its result outstanding the operation stays, and every other. -/
theorem ops_land_part {g : Group} {o : Op} {m : LaneSet} (honly : ∀ p ∈ g.ops, p.seq = o.seq → p = o)
    (hpart : ∃ w ∈ o.writes, m.getLsbD (w.1 % 64) = false) :
    (g.land o m).ops = g.ops.map fun p =>
      if p.seq = o.seq then { o with writes := o.writes.filter fun w => !m.getLsbD (w.1 % 64) } else p := by
  obtain ⟨w, hw, hoff⟩ := hpart
  have hrest : (o.writes.filter fun w => !m.getLsbD (w.1 % 64)).isEmpty = false := by
    rw [List.isEmpty_eq_false_iff]
    exact List.ne_nil_of_mem (List.mem_filter.2 ⟨hw, by rw [hoff]; rfl⟩)
  rw [land_eq, hrest, if_neg (by simp)]
  refine List.map_congr_left fun p hp => ?_
  by_cases hseq : p.seq = o.seq
  · rw [if_pos (beq_iff_eq.2 hseq), if_pos hseq, honly p hp hseq]
  · rw [if_neg (mt beq_iff_eq.1 hseq), if_neg hseq]

/-- With nothing outstanding the operation, the only one of its class, leaves its counter (R90). -/
theorem counter_land_all {g : Group} {o : Op} {m : LaneSet} (hmem : o ∈ g.ops)
    (hall : ∀ w ∈ o.writes, m.getLsbD (w.1 % 64) = true) (hdue : o.due = [])
    (honly : ∀ p ∈ g.ops, p.seq = o.seq → p = o) (hcls : ∀ p ∈ g.ops, p.cls = o.cls → p.seq = o.seq) :
    (g.land o m).counter o.cls = 0 := by
  have hrest : (o.writes.filter fun w => !m.getLsbD (w.1 % 64)) = [] :=
    List.filter_eq_nil_iff.2 fun w hw => by rw [hall w hw]; exact Bool.false_ne_true
  have hcond : ((o.writes.filter fun w => !m.getLsbD (w.1 % 64)).isEmpty && o.due.isEmpty) = true := by
    rw [hrest, hdue]
    rfl
  have hops : ∀ q ∈ (g.landed o m).ops, ∃ p ∈ g.ops, q.seq = p.seq ∧ q.cls = p.cls := by
    intro q hq
    obtain ⟨p, hp, rfl⟩ := List.mem_map.1 hq
    refine ⟨p, hp, ?_⟩
    split <;> exact ⟨rfl, rfl⟩
  rw [land_eq, if_pos hcond]
  cases hfind : (g.landed o m).ops.find? (fun p => p.seq == o.seq) with
  | none =>
    have hnone := List.find?_eq_none.1 hfind _ (List.mem_map_of_mem hmem)
    rw [if_pos (beq_self_eq_true _)] at hnone
    exact absurd (beq_self_eq_true _) hnone
  | some q =>
    obtain ⟨p, hp, hpseq, hpcls⟩ := hops q (List.mem_of_find?_eq_some hfind)
    have hseq : q.seq = o.seq := by simpa using List.find?_some hfind
    have hqcls : q.cls = o.cls := by rw [hpcls, honly p hp (hpseq.symm.trans hseq)]
    rw [← hqcls]
    refine counter_complete none hfind fun x hx hxcls => ?_
    obtain ⟨y, hy, hyseq, hycls⟩ := hops x hx
    rw [hyseq]
    exact hcls y hy (hycls.symm.trans (hxcls.trans hqcls))

/-! ### Waits end (R20, R88, R170, R211) -/

theorem counters_getElem {k : Nat} (hk : k < 6) : [Counter.ld, .sfu, .mma, .cpy, .fab, .spn][k]? = some (counterOf k) := by
  have hall : ∀ k < 6, [Counter.ld, .sfu, .mma, .cpy, .fab, .spn][k]? = some (counterOf k) := by decide
  exact hall k hk

/-- A WZ set is met where every counter that it names reads zero (R13). -/
theorem wzMet_iff (g : Group) (m : BitVec 6) : g.wzMet m = true ↔ ∀ k < 6, m.getLsbD k = true →
    ∀ cl, [Counter.ld, .sfu, .mma, .cpy, .fab, .spn][k]? = some cl → g.counter cl = 0 := by
  unfold Group.wzMet wzClasses
  simp only [List.all_eq_true, List.mem_map, List.mem_filter, List.mem_range, beq_iff_eq]
  constructor
  · intro h k hk hm cl hcl
    rw [counters_getElem hk] at hcl
    exact h cl ⟨k, ⟨hk, hm⟩, Option.some.inj hcl⟩
  · rintro h cl ⟨k, ⟨hk, hm⟩, rfl⟩
    exact h k hk hm _ (counters_getElem hk)

theorem drained_iff (g : Group) : g.drained = true ↔ g.counter .ld = 0 ∧ g.counter .sfu = 0 ∧ g.counter .mma = 0 := by
  unfold Group.drained
  simp only [Bool.and_eq_true, beq_iff_eq, and_assoc]

theorem mem_sectorsOf_line (c i : Nat) : i ∈ sectorsOf (128 * c) 128 ↔ i / 4 = c := by
  unfold sectorsOf
  rw [if_neg (by omega), List.mem_map]
  constructor
  · rintro ⟨k, hk, rfl⟩
    rw [List.mem_range] at hk
    omega
  · intro h
    exact ⟨i - 128 * c / 32, List.mem_range.2 (by omega), by omega⟩

/-- The L1 of a core without the lines of awaited units; nothing else of the memory changes. -/
theorem foldl_dropSectors (core : Nat) (us : List Nat) (m : Memory) :
    ∃ xs, us.foldl (fun m u => m.dropSectors core (128 * (u / 2)) 128) m = { m with sectors := xs } ∧
      ∀ x, x ∈ xs ↔ x ∈ m.sectors ∧ ¬(x.core = core ∧ ∃ y ∈ us, x.idx / 4 = y / 2) := by
  induction us generalizing m with
  | nil => exact ⟨m.sectors, rfl, fun x => by simp⟩
  | cons u r ih =>
    obtain ⟨xs, he, hxs⟩ := ih (m.dropSectors core (128 * (u / 2)) 128)
    refine ⟨xs, he, fun x => ?_⟩
    have hone : x ∈ (m.dropSectors core (128 * (u / 2)) 128).sectors ↔ x ∈ m.sectors ∧ ¬(x.core = core ∧ x.idx / 4 = u / 2) := by
      unfold Memory.dropSectors
      rw [List.mem_filter, Bool.not_eq_true', Bool.and_eq_false_iff, List.contains_eq_mem, decide_eq_false_iff_not,
        mem_sectorsOf_line, beq_eq_false_iff_ne, not_and_or]
    rw [hxs, hone, and_assoc, ← not_or]
    simp only [List.mem_cons, exists_eq_or_imp, and_or_left]

theorem dropAwaited_eq (s : State) (core : Nat) (us : List Nat) :
    ∃ xs, s.dropAwaited core us = s.setMem { s.mem with sectors := xs } ∧
      ∀ x, x ∈ xs ↔ x ∈ s.mem.sectors ∧ ¬(x.core = core ∧ ∃ y ∈ us, x.idx / 4 = y / 2) := by
  obtain ⟨xs, he, hxs⟩ := foldl_dropSectors core us s.mem
  exact ⟨xs, congrArg s.setMem he, hxs⟩

/-- An event changes a group of a placed team of an ACTIVE context. -/
theorem whenLive_eq {s : State} {n : Nat} {g : Group} {x : Team × Context} (f : State → Group → State) (hg : s.group n = some g)
    (hh : s.home g = some x) : s.whenLive n f = f s g := by
  unfold State.whenLive
  simp only [hg, hh]
  rfl

/-- A group found is found under its own id. -/
theorem group_own {s : State} {n : Nat} {g : Group} (h : s.group n = some g) : s.group g.gid = some g := by
  rw [group_gid h]
  exact h

theorem core_of_home {s : State} {g : Group} {t : Team} {c : Context} (hh : s.home g = some (t, c)) :
    ((s.team g.team).map fun t => coreIdx t.place).getD 0 = coreIdx t.place := by
  rw [(home_spec hh).1]
  rfl

section Waits
variable {s : State} {g : Group} {t : Team} {c : Context} (hg : s.group s.ev.g = some g) (hh : s.home g = some (t, c))
include hg hh

theorem waitZeroEnd_wz {m : BitVec 6} (hst : g.status = .parked (.wz m)) :
    exec .waitZeroEnd s = .next (if g.wzMet m then s.setGroup (g.unpark s.cycle) else s) := by
  rw [exec_waitZeroEnd]
  unfold execWaitZeroEnd
  rw [whenLive_eq _ hg hh]
  simp only [hst]

theorem waitZeroEnd_marker (hst : g.status = .parked .marker) :
    exec .waitZeroEnd s = .next (if g.drained then s.setGroup (g.unpark s.cycle) else s) := by
  rw [exec_waitZeroEnd]
  unfold execWaitZeroEnd
  rw [whenLive_eq _ hg hh]
  simp only [hst]

theorem sleepExpire_sleep {w : Nat} (hst : g.status = .parked (.sleep w)) :
    exec .sleepExpire s = .next (if w ≤ s.cycle then s.setGroup { g.unpark s.cycle with prog := 1 } else s) := by
  rw [exec_sleepExpire]
  unfold execSleepExpire
  rw [whenLive_eq _ hg hh]
  simp only [hst]

theorem waitTableRetry_full {w : Nat} {us : List Nat} (hst : g.status = .parked (.tableFull w us)) :
    exec .waitTableRetry s = .next
      (if w ≤ s.cycle then (s.dropAwaited (coreIdx t.place) us).setGroup (g.unpark s.cycle) else s) := by
  rw [exec_waitTableRetry]
  unfold execWaitTableRetry
  rw [whenLive_eq _ hg hh]
  simp only [hst, core_of_home hh]

theorem parkedRecheck_cell {us : List Nat} (hst : g.status = .parked (.cell us)) (hrem : ∀ p ∈ s.remotes, p.rid ≠ s.ev.op) :
    exec .parkedRecheck s = .next (if us.all (s.awaits ·) then s
      else ((s.dropAwaited (coreIdx t.place) us).dropWaits (.group g.gid)).setGroup (g.unpark s.cycle)) := by
  have hnone : ∀ u : State, u.remotes = s.remotes → u.recheckReq s.ev.op = u := by
    intro u hu
    unfold State.recheckReq
    rw [hu, List.find?_eq_none.2 fun p hp => by simpa using hrem p hp]
  rw [exec_parkedRecheck]
  unfold execParkedRecheck
  rw [whenLive_eq _ hg hh]
  simp only [hst, core_of_home hh]
  split
  · exact congrArg _ (hnone _ rfl)
  · exact congrArg _ (hnone _ rfl)

end Waits

/-- A waiting remote request is taken again once none of its cells is awaited (R308). -/
theorem parkedRecheck_remote {s : State} {p : Parked} (hp : s.remotes.find? (fun x => x.rid == s.ev.op) = some p)
    (hg : s.group s.ev.g = none) :
    exec .parkedRecheck s = .next (if p.units.any (s.awaits ·) then s
      else State.takeReq { s with
        waits := s.waits.filter fun w => w.who != Waiter.remote p.rid
        remotes := s.remotes.filter fun x => x.rid != p.rid } ⟨p.req, true⟩) := by
  have hrid : p.rid = s.ev.op := by simpa using List.find?_some hp
  have hlive : ∀ f, s.whenLive s.ev.g f = s := by
    intro f
    unfold State.whenLive
    rw [hg]
  rw [exec_parkedRecheck]
  unfold execParkedRecheck State.recheckReq
  rw [hlive, hp, hrid]
  rfl

/-! ### Windows (R75) -/

theorem residents_weakOrder : WeakOrder fun x y : Group =>
    decide (y.sched < x.sched) || (x.sched == y.sched && decide (x.since < y.since)) :=
  weakOrder_of_ranks (fun x => (x.sched.toNat : Int)) (fun x => -(x.since : Int)) fun x y => by
    simp only [Bool.or_eq_true, Bool.and_eq_true, decide_eq_true_eq, beq_iff_eq, BitVec.lt_def, ← BitVec.toNat_inj]
    omega

theorem parkedFirst_weakOrder : WeakOrder fun x y : Group => decide (x.since < y.since) :=
  weakOrder_of_ranks (fun x => -(x.since : Int)) (fun _ => 0) fun x y => by
    simp only [decide_eq_true_eq]
    omega

/-- The group that a quad serves next is a resident one, of the highest class, and of that class the one that waits
longest. -/
theorem nextResident_spec {s : State} {q : QuadId} {g : Group} (h : s.nextResident q = some g) :
    g ∈ s.quadGroups q ∧ g.status = .resident ∧ g.window = false ∧
      ∀ x ∈ s.quadGroups q, x.status = .resident → x.window = false →
        x.sched ≤ g.sched ∧ (x.sched = g.sched → g.since ≤ x.since) := by
  obtain ⟨hmem, hwait⟩ := List.mem_filter.1 (best_mem h)
  simp only [Bool.and_eq_true, beq_iff_eq, Bool.not_eq_true'] at hwait
  obtain ⟨hst, hwin⟩ := hwait
  refine ⟨hmem, hst, hwin, fun x hx hxst hxwin => ?_⟩
  have hnot := not_before_best residents_weakOrder h x (List.mem_filter.2 ⟨hx, by simp [hxst, hxwin]⟩)
  simp only [Bool.or_eq_false_iff, decide_eq_false_iff_not, BitVec.not_lt, Bool.and_eq_false_iff, beq_eq_false_iff_ne] at hnot
  obtain ⟨hle, halike⟩ := hnot
  exact ⟨hle, fun e => Nat.not_lt.1 (halike.resolve_left (not_not_intro e))⟩

section Grant
variable {s : State} {g : Group} (h : s.nextResident s.ev.q = some g)
include h

theorem windowGrant_room (hroom : (s.holders s.ev.q).length < 8) : exec .windowGrant s = .next (s.grantWindow g) := by
  rw [exec_windowGrant]
  unfold execWindowGrant
  simp only [h, if_pos hroom]

/-- With every window held by groups that run or are of a higher class, none is granted. -/
theorem windowGrant_full (hfull : ¬ (s.holders s.ev.q).length < 8) (hhigh : ∀ p ∈ s.parkedHolders s.ev.q, g.sched < p.sched) :
    exec .windowGrant s = .next s := by
  have hnone : ¬ (s.parkedHolders s.ev.q).any (fun p => decide (p.sched ≤ g.sched)) = true := by
    rw [List.any_eq_true]
    rintro ⟨p, hp, hle⟩
    exact absurd (of_decide_eq_true hle) (BitVec.not_le.2 (hhigh p hp))
  rw [exec_windowGrant]
  unfold execWindowGrant
  simp only [h, if_neg hfull, if_neg hnone]

/-- With every window held and a parked holder of no higher class, the one that parked first gives its window up. -/
theorem windowGrant_reclaims (hfull : ¬ (s.holders s.ev.q).length < 8)
    (hlow : ∃ p ∈ s.parkedHolders s.ev.q, p.sched ≤ g.sched) :
    ∃ p ∈ s.parkedHolders s.ev.q, (∀ x ∈ s.parkedHolders s.ev.q, p.since ≤ x.since) ∧
      exec .windowGrant s = .next ((s.setGroup p.loseWindow).grantWindow g) := by
  obtain ⟨q, hq, hqs⟩ := hlow
  have hany : ((s.parkedHolders s.ev.q).any fun p => decide (p.sched ≤ g.sched)) = true :=
    List.any_eq_true.2 ⟨q, hq, decide_eq_true hqs⟩
  cases hb : best (fun x y : Group => decide (x.since < y.since)) (s.parkedHolders s.ev.q) with
  | none =>
    rw [best_eq_none.1 hb] at hq
    cases hq
  | some p =>
    refine ⟨p, best_mem hb, fun x hx => ?_, ?_⟩
    · simpa using not_before_best parkedFirst_weakOrder hb x hx
    · rw [exec_windowGrant]
      unfold execWindowGrant
      simp only [h, if_neg hfull, if_pos hany, hb]

end Grant

end Sys2Proof.Machine

open Sys2Proof Sys2Proof.Machine

/-- Settles O47: each event is the one change of its group that the statement names. -/
theorem issueEvents : Obligations.IssueEvents := by
  unfold Obligations.IssueEvents
  refine ⟨fun s g o hg ho honly hfly => ?_, fun s g t c hg hh => ⟨fun m hst => ?_, fun hst => ?_, fun w hst => ?_,
    fun w us hst => ?_, fun us hst hrem => ?_⟩, fun s p hp hg => ?_, fun s g h => ?_, fun s => ?_, fun s => rfl⟩
  · have hland : (g.land o s.ev.lanes).gid = g.gid := (land_keeps g o s.ev.lanes).1
    exact ⟨_, g.land o s.ev.lanes, execResultLand_eq hg ho hfly, group_setGroup_eq hland (group_own hg),
      setGroup_sameButGroup s hland,
      fun v j hj hp => read_land o _ hj hp, ops_land_part honly,
      fun hall hdue hcls => counter_land_all (List.mem_of_find?_eq_some ho) hall hdue honly hcls⟩
  · rw [waitZeroEnd_wz hg hh hst]
    exact ⟨fun hz => by rw [if_pos ((wzMet_iff g m).2 hz)]; rfl, fun hz => by rw [if_neg (mt (wzMet_iff g m).1 hz)]⟩
  · rw [waitZeroEnd_marker hg hh hst]
    exact ⟨fun hz => by rw [if_pos ((drained_iff g).2 hz)]; rfl, fun hz => by rw [if_neg (mt (drained_iff g).1 hz)]⟩
  · rw [sleepExpire_sleep hg hh hst]
    exact ⟨fun hw => by rw [if_pos hw]; rfl, fun hw => by rw [if_neg (Nat.not_le.2 hw)]⟩
  · rw [waitTableRetry_full hg hh hst]
    refine ⟨fun hw => ?_, fun hw => by rw [if_neg (Nat.not_le.2 hw)]⟩
    obtain ⟨xs, he, hxs⟩ := dropAwaited_eq s (coreIdx t.place) us
    rw [if_pos hw, he]
    exact ⟨_, rfl, ⟨group_setGroup_eq rfl (group_own hg), rfl, hxs⟩, rfl⟩
  · rw [parkedRecheck_cell hg hh hst hrem]
    obtain ⟨xs, he, hxs⟩ := dropAwaited_eq s (coreIdx t.place) us
    refine ⟨fun hall => by rw [if_pos (List.all_eq_true.2 hall)], fun ⟨v, hv, hfree⟩ => ?_⟩
    have hsome : ¬ us.all (s.awaits ·) = true := fun hall => by
      rw [List.all_eq_true.1 hall v hv] at hfree
      cases hfree
    rw [if_neg hsome, he]
    refine ⟨_, rfl, ⟨group_setGroup_eq rfl (group_own hg), rfl, hxs⟩, fun w => ?_⟩
    exact List.mem_filter.trans (and_congr_right' bne_iff_ne)
  · rw [parkedRecheck_remote hp hg]
    refine ⟨fun hsome => by rw [if_pos (List.any_eq_true.2 hsome)], fun hnone => ?_⟩
    rw [if_neg (by simpa using hnone)]
    rfl
  · obtain ⟨hmem, hst, hwin, hbest⟩ := nextResident_spec h
    refine ⟨hmem, hst, hwin, hbest, fun hroom => ?_, fun hfull hhigh => ?_, fun hfull hlow => ?_⟩
    · exact windowGrant_room h hroom
    · exact windowGrant_full h (Nat.not_lt.2 hfull) hhigh
    · exact windowGrant_reclaims h (Nat.not_lt.2 hfull) hlow
  · cases hn : s.nextResident s.ev.q with
    | some g => exact .inr ⟨g, rfl⟩
    | none =>
      refine .inl ?_
      rw [exec_windowGrant]
      unfold execWindowGrant
      simp only [hn]
end

section
/-!
SUPPORT. The clause check (R14, R16), and what a header fetch and the end of a WZ wait leave of the machine (R20, R80, R168).
-/
namespace Sys2Proof.Machine
set_option Elab.async false

/-! ### Classes of words (R14 to R16) -/

/-- A word's class is its opcode's, where its opcode and funct are assigned. -/
theorem engClass_eq (w1 w2 : Word) :
    engClass w1 w2 = if decodeWords w1 w2 = .error .opcode then none else some (Spec.engine (w1.toNat / 2 ^ 26)) := by
  unfold engClass
  rw [opOf_eq_div]
  generalize w1.toNat / 2 ^ 26 = op
  split
  · rename_i h
    rw [if_pos h]
  · rename_i h
    rw [if_neg h]
    split
    case h_9 =>
      unfold Spec.engine
      rw [List.lookup_eq_none_iff.2 (by simp_all)]
      rfl
    all_goals
      rfl

theorem wrongClass_iff (eng : Nat) (w1 w2 : Word) : (engClass w1 w2).any (· != eng) = true ↔
    decodeWords w1 w2 ≠ .error .opcode ∧ Spec.engine (w1.toNat / 2 ^ 26) ≠ eng := by
  rw [engClass_eq]
  split
  · rename_i h
    exact iff_of_false Bool.false_ne_true fun hne => hne.1 h
  · rename_i h
    rw [Option.any_some, bne_iff_ne]
    exact (and_iff_right h).symm

theorem mem_transfers (op f : Nat) : (op, f) ∈ Spec.transfers ↔
    (op = 0x3A ∧ f ≤ 0x10 ∧ f ≠ 0x08 ∧ f ≠ 0x0E ∧ f ≠ 0x0F ∧ f ≠ 0x10) ∨ (op = 0x3B ∧ (f = 1 ∨ f = 2 ∨ f = 5 ∨ f = 7)) := by
  unfold Spec.transfers
  simp only [List.mem_append, List.mem_map, List.mem_filter, List.mem_range, decide_eq_true_eq, List.mem_cons, List.not_mem_nil,
    or_false, Prod.mk.injEq, exists_eq_right_right, not_or]
  omega

theorem isTransfer_iff (w1 w2 : Word) : isTransfer w1 w2 = true ↔ (w1.toNat / 2 ^ 26, w2.toNat / 2 ^ 24) ∈ Spec.transfers := by
  rw [mem_transfers]
  unfold isTransfer
  dsimp only
  rw [opOf_eq_div, funct_eq_div]
  generalize w1.toNat / 2 ^ 26 = op, w2.toNat / 2 ^ 24 = f
  split
  · simp only [Bool.and_eq_true, decide_eq_true_eq, bne_iff_ne, true_and]
    omega
  · simp only [Bool.or_eq_true, beq_iff_eq, true_and]
    omega
  · rename_i hctl hsync
    refine iff_of_false Bool.false_ne_true ?_
    rintro (⟨h, -⟩ | ⟨h, -⟩)
    · exact hctl h
    · exact hsync h

theorem lengthOf_eq (w : Word) : lengthOf w = if 0x38 ≤ w.toNat / 2 ^ 26 then 8 else 4 := by
  unfold lengthOf isLong
  rw [opOf_eq_div]
  simp only [decide_eq_true_eq]

/-! ### The fields of a header (R13) -/

theorem headerEng_eq (h : Word) : headerEng h = h.toNat / 2 ^ 25 % 8 := by
  unfold headerEng
  rw [BitVec.extractLsb'_toNat, Nat.shiftRight_eq_div_pow]

theorem headerCount_eq (h : Word) : headerCount h = h.toNat / 2 ^ 28 := by
  unfold headerCount
  rw [BitVec.extractLsb'_toNat, Nat.shiftRight_eq_div_pow]
  omega

theorem header_reserved_iff (h : Word) : h.extractLsb' 0 8 = 0 ↔ h.toNat % 2 ^ 8 = 0 := by
  rw [← BitVec.toNat_inj, BitVec.extractLsb'_toNat]
  rfl

theorem wzMet_header_iff (g : Group) (h : Word) : g.wzMet (headerWz h) = true ↔
    ∀ k ∈ (List.range 6).filter (fun k => h.getLsbD (8 + k)), ∀ cl,
      [Counter.ld, .sfu, .mma, .cpy, .fab, .spn][k]? = some cl → g.counter cl = 0 := by
  rw [wzMet_iff]
  simp only [List.mem_filter, List.mem_range, and_imp]
  refine forall_congr' fun k => forall_congr' fun hk => ?_
  unfold headerWz
  rw [BitVec.getLsbD_extractLsb', decide_eq_true hk, Bool.true_and]

/-! ### The check of a clause (R14) -/

section Check
variable {s : State} {c : Context} {q : QuadId} {eng n : Nat} {a : Addr} {w1 w2 : Word}
  (hf : s.fetchInstr c q a = .ok w1 w2)
include hf

theorem checkInstrs_bad (hbad : (eng ≠ 7 ∧ (engClass w1 w2).any (· != eng) = true) ∨ (n ≠ 0 ∧ isTransfer w1 w2 = true)) :
    s.checkInstrs c q eng (n + 1) a = .bad a := by
  unfold State.checkInstrs
  rw [hf]
  exact if_pos hbad

theorem checkInstrs_good (hgood : ¬((eng ≠ 7 ∧ (engClass w1 w2).any (· != eng) = true) ∨ (n ≠ 0 ∧ isTransfer w1 w2 = true))) :
    s.checkInstrs c q eng (n + 1) a = s.checkInstrs c q eng n (a + BitVec.ofNat 64 (lengthOf w1)) := by
  rw [State.checkInstrs, hf]
  exact if_neg hgood

end Check

/-- What R14 forbids of instruction k of a clause of n: another class than ENG, or a control transfer before the last. -/
def clauseBad (eng n k : Nat) (w : Word × Word) : Prop :=
  (eng ≠ 7 ∧ decodeWords w.1 w.2 ≠ .error .opcode ∧ Spec.engine (w.1.toNat / 2 ^ 26) ≠ eng) ∨
    (k + 1 < n ∧ (w.1.toNat / 2 ^ 26, w.2.toNat / 2 ^ 24) ∈ Spec.transfers)

theorem clauseBad_iff (eng n k : Nat) (w : Word × Word) : clauseBad eng n k w ↔
    (eng ≠ 7 ∧ (engClass w.1 w.2).any (· != eng) = true) ∨ (n - (k + 1) ≠ 0 ∧ isTransfer w.1 w.2 = true) := by
  unfold clauseBad
  rw [wrongClass_iff, isTransfer_iff, Nat.sub_ne_zero_iff_lt]

section Walk
variable {s : State} {c : Context} {q : QuadId} {eng n : Nat} {at' : Nat → Addr} {code : Nat → Word × Word}

/-- The check reaches instruction j where those before it are sound. -/
theorem checkInstrs_reaches {j : Nat} (hj : j < n)
    (hstep : ∀ k < j, at' (k + 1) = at' k + BitVec.ofNat 64 (lengthOf (code k).1) ∧ ¬ clauseBad eng n k (code k))
    (hfetch : ∀ k ≤ j, s.fetchInstr c q (at' k) = .ok (code k).1 (code k).2) :
    s.checkInstrs c q eng n (at' 0) = s.checkInstrs c q eng (n - j) (at' j) := by
  induction j with
  | zero => rfl
  | succ j ih =>
    obtain ⟨hnext, hgood⟩ := hstep j (Nat.lt_succ_self j)
    rw [clauseBad_iff] at hgood
    rw [ih (by omega) (fun k hk => hstep k (by omega)) (fun k hk => hfetch k (by omega)),
      show n - j = n - (j + 1) + 1 by omega, checkInstrs_good (hfetch j (by omega)) hgood, hnext]

theorem checkInstrs_of_bad {j : Nat} (hj : j < n)
    (hstep : ∀ k < j, at' (k + 1) = at' k + BitVec.ofNat 64 (lengthOf (code k).1) ∧ ¬ clauseBad eng n k (code k))
    (hfetch : ∀ k ≤ j, s.fetchInstr c q (at' k) = .ok (code k).1 (code k).2) (hbad : clauseBad eng n j (code j)) :
    s.checkInstrs c q eng n (at' 0) = .bad (at' j) := by
  rw [clauseBad_iff] at hbad
  rw [checkInstrs_reaches hj hstep hfetch, show n - j = n - (j + 1) + 1 by omega, checkInstrs_bad (hfetch j le_rfl) hbad]

theorem checkInstrs_of_good {j : Nat} (hj : j + 1 = n)
    (hstep : ∀ k < j, at' (k + 1) = at' k + BitVec.ofNat 64 (lengthOf (code k).1) ∧ ¬ clauseBad eng n k (code k))
    (hfetch : ∀ k ≤ j, s.fetchInstr c q (at' k) = .ok (code k).1 (code k).2) (hgood : ¬ clauseBad eng n j (code j)) :
    s.checkInstrs c q eng n (at' 0) = .ok := by
  rw [clauseBad_iff] at hgood
  rw [checkInstrs_reaches (by omega) hstep hfetch, show n - j = n - (j + 1) + 1 by omega,
    checkInstrs_good (hfetch j le_rfl) hgood, show n - (j + 1) = 0 by omega]
  rfl

end Walk

theorem checkClause_bad {s : State} {c : Context} {q : QuadId} {a : Addr} {h : Word}
    (hbad : h.toNat / 2 ^ 28 = 0 ∨ h.toNat % 2 ^ 8 ≠ 0) : s.checkClause c q a h = .bad a := by
  unfold State.checkClause
  simp only [headerCount_eq, ne_eq, header_reserved_iff]
  exact if_pos hbad

theorem checkClause_eq {s : State} {c : Context} {q : QuadId} {a : Addr} {h : Word} (hn : h.toNat / 2 ^ 28 ≠ 0)
    (hres : h.toNat % 2 ^ 8 = 0) :
    s.checkClause c q a h = s.checkInstrs c q (h.toNat / 2 ^ 25 % 8) (h.toNat / 2 ^ 28) (a + 4) := by
  unfold State.checkClause
  simp only [headerCount_eq, headerEng_eq, ne_eq, header_reserved_iff]
  exact if_neg (not_or.2 ⟨hn, not_not_intro hres⟩)

/-! ### What the L2 holds does not matter to a fetch (R80, R129) -/

section OnlyLines
variable {s : State} {m : Memory} (h : s.mem.onlyLines m)
include h

theorem fetchWord_onlyLines (c : Context) (q : QuadId) (va : Addr) : (s.setMem m).fetchWord c q va = s.fetchWord c q va := by
  rw [show m = { s.mem with lines := m.lines } from h]
  rfl

theorem fetchInstr_onlyLines (c : Context) (q : QuadId) (va : Addr) : (s.setMem m).fetchInstr c q va = s.fetchInstr c q va := by
  unfold State.fetchInstr
  rw [fetchWord_onlyLines h, fetchWord_onlyLines h]

theorem checkInstrs_onlyLines (c : Context) (q : QuadId) (eng n : Nat) (a : Addr) :
    (s.setMem m).checkInstrs c q eng n a = s.checkInstrs c q eng n a := by
  induction n generalizing a with
  | zero => rfl
  | succ n ih =>
    rw [State.checkInstrs, State.checkInstrs, fetchInstr_onlyLines h]
    simp only [ih]

theorem checkClause_onlyLines (c : Context) (q : QuadId) (a : Addr) (w : Word) :
    (s.setMem m).checkClause c q a w = s.checkClause c q a w := by
  unfold State.checkClause
  rw [checkInstrs_onlyLines h]

end OnlyLines

/-- A fetch that fails for another reason than an error of memory traps at its own address. -/
theorem fetchWord_bad {s : State} {c : Context} {q : QuadId} {va : Addr} {i : TrapInfo} (h : s.fetchWord c q va = .bad i)
    (hc : i.cause ≠ UNCORRECTABLE) : i = { cause := i.cause, addr := va } := by
  unfold State.fetchWord at h
  split at h
  · cases h
  · cases h
    rfl
  · split at h
    · cases h
      exact absurd rfl hc
    · split at h
      · cases h
        exact absurd rfl hc
      · cases h

theorem fetchError_of_other {s : State} {c : Context} {q : QuadId} {i : TrapInfo} (hc : i.cause ≠ UNCORRECTABLE) :
    s.fetchError c q i = s :=
  if_pos (bne_iff_ne.2 hc)

/-! ### The start of a clause (R13, R20, R168) -/

/-- What the end of a WZ wait may change: the L1, and the acquires that one group owes. -/
def State.onlyAcquires (s u : State) (n : Nat) : Prop :=
  u = { s with groups := u.groups, mem := { s.mem with sectors := u.mem.sectors } } ∧ (∀ j, j ≠ n → u.group j = s.group j) ∧
    ∀ g, s.group n = some g → ∃ a, u.group n = some { g with acqs := a }

theorem State.onlyAcquires.refl (s : State) (n : Nat) : s.onlyAcquires s n := ⟨rfl, fun _ _ => rfl, fun g hg => ⟨g.acqs, hg⟩⟩

theorem State.onlyAcquires.trans {s t u : State} {n : Nat} (h : s.onlyAcquires t n) (k : t.onlyAcquires u n) :
    s.onlyAcquires u n := by
  obtain ⟨hst, hstOther, hstOwn⟩ := h
  obtain ⟨htu, htuOther, htuOwn⟩ := k
  refine ⟨?_, fun j hj => (htuOther j hj).trans (hstOther j hj), fun g hg => ?_⟩
  · rw [htu, hst]
  · obtain ⟨a, ha⟩ := hstOwn g hg
    obtain ⟨b, hb⟩ := htuOwn _ ha
    exact ⟨b, hb⟩

/-- A group replaced that owes other acquires. -/
theorem setGroup_onlyAcquires {s : State} {g : Group} {n : Nat} (hg : s.group n = some g) (a : List (Counter × Nat)) :
    s.onlyAcquires (s.setGroup { g with acqs := a }) n := by
  have hgid : g.gid = n := group_gid hg
  refine ⟨rfl, fun j hj => group_setGroup_other s (by rw [hgid]; exact hj), fun x hx => ⟨a, ?_⟩⟩
  obtain rfl := Option.some.inj (hg.symm.trans hx)
  exact group_setGroup_eq hgid hg

theorem acquireWait_onlyAcquires {s : State} {g : Group} {n : Nat} (hg : s.group n = some g) (core : Nat) (c : Counter)
    (k : Nat) : s.onlyAcquires (s.acquireWait g core c k) n := by
  unfold State.acquireWait
  extract_lets mine s'
  have hflash : s.onlyAcquires s' n ∧ s'.group n = some g := by
    unfold s'
    split
    · exact ⟨⟨rfl, fun _ _ => rfl, fun x hx => ⟨x.acqs, hx⟩⟩, hg⟩
    · exact ⟨.refl s n, hg⟩
  obtain ⟨hmem, hgrp⟩ := hflash
  rw [group_gid hg, onGroup_eq _ hgrp]
  exact hmem.trans (setGroup_onlyAcquires hgrp _)

theorem foldl_acquireWait_onlyAcquires {s : State} {g : Group} (hg : s.group g.gid = some g) (core k : Nat) (cs : List Counter) :
    s.onlyAcquires (cs.foldl (fun s c => s.acquireWait ((s.group g.gid).getD g) core c k) s) g.gid := by
  refine List.foldlRecOn cs _ (motive := (s.onlyAcquires · g.gid)) (.refl s _) fun u hu c _ => ?_
  obtain ⟨-, -, hown⟩ := id hu
  obtain ⟨a, ha⟩ := hown g hg
  rw [ha]
  exact hu.trans (acquireWait_onlyAcquires ha core c k)

/-- The machine at the start of a clause, once the wait for its WZ set is over. -/
def State.wzOver (s : State) (g : Group) (h : Word) : State :=
  (wzClasses (headerWz h)).foldl (fun u c =>
    u.acquireWait ((u.group g.gid).getD g) (((s.team g.team).map fun t => coreIdx t.place).getD 0) c 0) s

theorem wzOver_onlyAcquires {s : State} {g : Group} (hg : s.group g.gid = some g) (h : Word) :
    s.onlyAcquires (s.wzOver g h) g.gid :=
  foldl_acquireWait_onlyAcquires hg _ 0 _

/-- A group at the first instruction of the clause whose header stands where a split is. -/
def Group.atClause (g : Group) (x : Split) (h : Word) (cycle : Nat) : Group :=
  { g with clause := some { header := h, addr := x.pc, split := x.label, pc := x.pc + 4 }, interval := false, ageFrom := cycle }

theorem beginClause_eq (s : State) (g : Group) (x : Split) (h : Word) :
    s.beginClause g x h =
      { ((s.wzOver g h).onGroup g.gid fun k => k.atClause x h (s.wzOver g h).cycle) with cur := some g.gid } := rfl

/-- The clause that starts at a header, the acquires that its WZ set ends, and nothing else. -/
theorem beginClause_spec {s : State} {g : Group} (hg : s.group g.gid = some g) (x : Split) (h : Word) :
    ∃ u k, s.beginClause g x h = u ∧ u.cur = some g.gid ∧ u.group g.gid = some k ∧
      k = { g.atClause x h s.cycle with acqs := k.acqs } ∧ (∀ j, j ≠ g.gid → u.group j = s.group j) ∧
      u = { s with cur := u.cur, groups := u.groups, mem := { s.mem with sectors := u.mem.sectors } } := by
  obtain ⟨hsame, hother, hown⟩ := wzOver_onlyAcquires hg h
  obtain ⟨a, ha⟩ := hown g hg
  rw [beginClause_eq]
  generalize s.wzOver g h = v at hsame hother ha
  have hcycle : v.cycle = s.cycle := by rw [hsame]
  rw [onGroup_eq _ ha, hcycle]
  refine ⟨_, _, rfl, rfl, group_setGroup_eq (s := v) rfl ha, rfl, fun j hj => ?_, ?_⟩
  · exact (group_setGroup_other (g := Group.atClause { g with acqs := a } x h s.cycle) v hj).trans (hother j hj)
  · rw [hsame]
    rfl

end Sys2Proof.Machine
end

section
/-!
PROOFS. The quad issues its next clause (O46).
-/
namespace Sys2Proof.Machine
set_option Elab.async false

/-! ### Which group (R250) -/

theorem before_iff (cycle : Nat) (x y : Group) : x.before cycle y = true ↔
    y.effective cycle < x.effective cycle ∨ (x.effective cycle = y.effective cycle ∧ y.age cycle < x.age cycle) := by
  unfold Group.before
  simp only [Bool.or_eq_true, Bool.and_eq_true, decide_eq_true_eq, beq_iff_eq]

theorem before_weakOrder (cycle : Nat) : WeakOrder (Group.before cycle) :=
  weakOrder_of_ranks (fun x => (x.effective cycle : Int)) (fun x => (x.age cycle : Int)) fun x y => by
    rw [before_iff]
    omega

theorem chooseGroup_eq_none (s : State) (q : QuadId) : s.chooseGroup q = none ↔
    (∃ g ∈ s.groups, s.midClause q g = true) ∨ ∀ g ∈ s.groups, s.candidate q g = false := by
  unfold State.chooseGroup
  split
  · rename_i hmid
    exact iff_of_true rfl (.inl (List.any_eq_true.1 hmid))
  · rename_i hmid
    rw [best_eq_none, List.filter_eq_nil_iff]
    simp only [Bool.not_eq_true]
    exact (or_iff_right (mt List.any_eq_true.2 hmid)).symm

theorem chooseGroup_eq_some {s : State} {q : QuadId} {g : Group} (h : s.chooseGroup q = some g) :
    best (Group.before s.cycle) (s.groups.filter (s.candidate q)) = some g := by
  unfold State.chooseGroup at h
  split at h
  · cases h
  · exact h

/-- The chosen group is first by class, then by age, then by place. -/
theorem chooseGroup_spec {s : State} {q : QuadId} {g : Group} (h : s.chooseGroup q = some g) :
    g ∈ s.groups ∧ s.candidate q g = true ∧ ∀ x ∈ s.groups, s.candidate q x = true →
      x.effective s.cycle < g.effective s.cycle ∨ (x.effective s.cycle = g.effective s.cycle ∧
        (x.age s.cycle < g.age s.cycle ∨ (x.age s.cycle = g.age s.cycle ∧ s.groups.idxOf g ≤ s.groups.idxOf x))) := by
  have hbest := chooseGroup_eq_some h
  obtain ⟨hmem, hcand⟩ := List.mem_filter.1 (best_mem hbest)
  refine ⟨hmem, hcand, fun x hx hxc => ?_⟩
  have hnot := not_before_best (before_weakOrder s.cycle) hbest x (List.mem_filter.2 ⟨hx, hxc⟩)
  have hfirst := best_first (before_weakOrder s.cycle) (s.candidate q) hbest hx hxc
  rw [Bool.eq_false_iff, Ne, before_iff] at hnot hfirst
  by_cases halike : x.effective s.cycle = g.effective s.cycle ∧ x.age s.cycle = g.age s.cycle
  · have hidx := hfirst (by omega)
    omega
  · omega

theorem clauseIssue_of_none {s : State} (h : s.chooseGroup s.ev.q = none) : exec .clauseIssue s = .next s := by
  rw [exec_clauseIssue]
  unfold execClauseIssue
  simp only [h]

/-! ### How the clause begins (R14, R20, R80) -/

theorem clauseIssue_of_some {s : State} {g : Group} {t : Team} {c : Context} {x : Split} (h : s.chooseGroup s.ev.q = some g)
    (hh : s.home g = some (t, c)) (hx : g.pickSplit s.ev.split = some x) :
    exec .clauseIssue s = .next (s.issueClause s.ev.q c g x) := by
  rw [exec_clauseIssue]
  unfold execClauseIssue
  simp only [h, hh, hx]

/-- What a quad does with a fetched header h once its clause was checked: it waits, traps, or begins the clause where the WZ
set is met. -/
def State.afterCheck (s : State) (g : Group) (x : Split) (h : Word) : ClauseCheck → State
  | .wait => s.setGroup (g.parkOn .header s.cycle)
  | .bad a => s.trapHeader g x { cause := ILLEGAL_CLAUSE, addr := a }
  | .ok => if g.wzMet (headerWz h) then s.beginClause g x h else s.setGroup (g.parkOn (.wz (headerWz h)) s.cycle)

theorem afterCheck_met {s : State} {g : Group} {h : Word} (x : Split) (hz : g.wzMet (headerWz h) = true) :
    s.afterCheck g x h .ok = s.beginClause g x h := if_pos hz

theorem afterCheck_unmet {s : State} {g : Group} {h : Word} (x : Split) (hz : ¬ g.wzMet (headerWz h) = true) :
    s.afterCheck g x h .ok = s.setGroup (g.parkOn (.wz (headerWz h)) s.cycle) := if_neg hz

section Issue
variable {s : State} {q : QuadId} {c : Context} {g : Group} {x : Split}

theorem issueClause_misaligned (ha : x.pc.toNat % 4 ≠ 0) :
    s.issueClause q c g x = s.trapHeader g x { cause := MISALIGNED, addr := x.pc } :=
  if_pos (bne_iff_ne.2 ha)

variable (ha : x.pc.toNat % 4 = 0)
include ha

theorem issueClause_wait (hf : s.fetchWord c q x.pc = .wait) : s.issueClause q c g x = s.setGroup (g.parkOn .header s.cycle) := by
  unfold State.issueClause
  rw [if_neg (by simpa using ha), hf]

/-- A header that cannot be fetched traps at its address (R80, R130). -/
theorem issueClause_bad {i : TrapInfo} (hf : s.fetchWord c q x.pc = .bad i) (hc : i.cause ≠ UNCORRECTABLE) :
    ∃ m, s.mem.onlyLines m ∧ s.issueClause q c g x = (s.setMem m).trapHeader g x { cause := i.cause, addr := x.pc } := by
  obtain ⟨m, hm, he⟩ := fetched_eq_setMem s c q x.pc 4
  refine ⟨m, hm, ?_⟩
  unfold State.issueClause
  rw [if_neg (by simpa using ha), hf]
  dsimp only
  rw [fetchError_of_other hc, he, ← fetchWord_bad hf hc]

/-- What follows a fetched header, by the check of its clause. -/
theorem issueClause_ok {h : Word} (hf : s.fetchWord c q x.pc = .ok h) :
    ∃ m, s.mem.onlyLines m ∧ s.issueClause q c g x = (s.setMem m).afterCheck g x h (s.checkClause c q x.pc h) := by
  obtain ⟨m, hm, he⟩ := fetched_eq_setMem s c q x.pc 4
  refine ⟨m, hm, ?_⟩
  unfold State.issueClause
  rw [if_neg (by simpa using ha), hf]
  dsimp only
  rw [he, checkClause_onlyLines hm]
  cases s.checkClause c q x.pc h <;> rfl

end Issue

/-- The statement's steps of a clause are the check's. -/
theorem clause_steps {eng n j : Nat} {at' : Nat → Addr} {code : Nat → Word × Word}
    (h : ∀ k < j, at' (k + 1) = at' k + (if 0x38 ≤ (code k).1.toNat / 2 ^ 26 then 8 else 4) ∧
      ¬(eng ≠ 7 ∧ decodeWords (code k).1 (code k).2 ≠ .error .opcode ∧ Spec.engine ((code k).1.toNat / 2 ^ 26) ≠ eng) ∧
      ¬(k + 1 < n ∧ ((code k).1.toNat / 2 ^ 26, (code k).2.toNat / 2 ^ 24) ∈ Spec.transfers)) :
    ∀ k < j, at' (k + 1) = at' k + BitVec.ofNat 64 (lengthOf (code k).1) ∧ ¬ clauseBad eng n k (code k) := by
  intro k hk
  obtain ⟨hnext, hother, hearly⟩ := h k hk
  refine ⟨?_, not_or.2 ⟨hother, hearly⟩⟩
  rw [hnext, lengthOf_eq]
  split <;> rfl

end Sys2Proof.Machine

open Sys2Proof Sys2Proof.Machine

/-- Settles O46: the best of the candidates, then the fetch and the check of its next clause, each by its own lemma. -/
theorem clauseIssue : Obligations.ClauseIssue := by
  unfold Obligations.ClauseIssue
  refine ⟨fun s => ⟨chooseGroup_eq_none s _, clauseIssue_of_none, fun g h => chooseGroup_spec h⟩,
    fun s g t c x h hchoose hown hhome hpick => ?_⟩
  have hrun := clauseIssue_of_some hchoose hhome hpick
  refine ⟨fun ha => ?_, fun i ha hf hc => ?_, fun ha hf => ?_, fun ha hf => ⟨fun hbad => ?_,
    fun at' code j hj hres hat hstep hfetch => ⟨fun hbad => ?_, fun hlast hgood => ?_⟩,
    fun hcheck => ⟨fun hz => ?_, fun hz => ?_⟩⟩⟩
  · rw [hrun, issueClause_misaligned ha]
    rfl
  · obtain ⟨m, hm, he⟩ := issueClause_bad (g := g) ha hf hc
    exact ⟨m, hm, hrun.trans (congrArg _ he)⟩
  · rw [hrun, issueClause_wait ha hf]
    rfl
  · obtain ⟨m, hm, he⟩ := issueClause_ok (g := g) ha hf
    rw [checkClause_bad hbad] at he
    exact ⟨m, hm, hrun.trans (congrArg _ he)⟩
  · obtain ⟨m, hm, he⟩ := issueClause_ok (g := g) ha hf
    rw [checkClause_eq (Nat.ne_zero_of_lt hj) hres, ← hat, checkInstrs_of_bad hj (clause_steps hstep) hfetch hbad] at he
    exact ⟨m, hm, hrun.trans (congrArg _ he)⟩
  · rw [checkClause_eq (Nat.ne_zero_of_lt hj) hres, ← hat]
    refine checkInstrs_of_good hlast (clause_steps hstep) hfetch ?_
    rintro (hother | ⟨hlt, -⟩)
    · exact hgood hother
    · omega
  · obtain ⟨m, hm, he⟩ := issueClause_ok (g := g) ha hf
    rw [hcheck, afterCheck_met x ((wzMet_header_iff g h).2 hz)] at he
    obtain ⟨u, k, hu, hcur, hgrp, hk, hothers, hsame⟩ := beginClause_spec (s := s.setMem m) hown x h
    refine ⟨u, k, hrun.trans (congrArg _ (he.trans hu)), hcur, hgrp, hk, hothers, hsame.trans ?_⟩
    have hlines : u.mem.lines = m.lines := congrArg (fun v => v.mem.lines) hsame
    rw [hlines]
    obtain ⟨ls, rfl⟩ : ∃ ls, m = { s.mem with lines := ls } := ⟨_, hm⟩
    rfl
  · obtain ⟨m, hm, he⟩ := issueClause_ok (g := g) ha hf
    rw [hcheck, afterCheck_unmet x (mt (wzMet_header_iff g h).1 hz)] at he
    exact ⟨m, hm, hrun.trans (congrArg _ he)⟩
end

section
/-!
SUPPORT. Conversions that name a format slot (R60, R120), the two blocks of 32 lanes, and strings of bits (R123).
-/
namespace Sys2Proof.Machine
set_option Elab.async false

/-! ### Slots (R58, R60) -/

theorem slotNarrow_iff (f : Word) : slotNarrow f = true ↔ 1 ≤ slotElem f ∧ slotElem f ≤ 9 := by
  simp [slotNarrow]

theorem slotBlocked_iff (f : Word) : slotBlocked f = true ↔ 3 ≤ slotElem f ∧ slotElem f ≤ 9 ∧ slotScale f = 1 := by
  simp [slotBlocked, and_assoc]

theorem not_slotNarrow {f : Word} (h : slotElem f = 0 ∨ 9 < slotElem f) : ¬ slotNarrow f = true := by
  rw [slotNarrow_iff]
  omega

theorem not_slotBlocked {f : Word} (h : slotElem f < 3 ∨ 9 < slotElem f ∨ slotScale f ≠ 1) : ¬ slotBlocked f = true := by
  rw [slotBlocked_iff]
  omega

/-- An instruction that nothing stops meets none of the waits of R176 and R344. -/
theorem withWaits_of_clear {i : Instr} {I : Issue} (hc : I.clear i = true) (body : Issue → Eff) :
    withWaits i body I = body I := by
  unfold Issue.clear at hc
  simp only [Bool.and_eq_true, Bool.not_eq_true', List.all_eq_true, Option.isNone_iff_eq_none] at hc
  obtain ⟨⟨-, halias⟩, hports⟩ := hc
  exact withWaits_clear halias hports

section Slot
variable {i : Instr} {s : State} {I : Issue} {o : L3Op} {ok : Word → Bool} {body : Issue → Eff}
  (h : s.issue = some I) (hc : I.clear i = true)
include h hc

/-- A conversion whose slot is valid for its role reaches its effect. -/
theorem slotInstr_valid (hok : ok (I.slot o.imm.toNat) = true) :
    slotInstr i o ok body s = .next ((body I).finish I.g.gid (instrBytes i)) := by
  unfold slotInstr
  rw [run_clear_now h hc rfl rfl]
  unfold withChecks Issue.slotCheck
  rw [if_pos hok]
  dsimp only
  rw [withWaits_of_clear hc]

/-- A conversion whose slot is not valid for its role traps FORMAT_SLOT (R60). -/
theorem slotInstr_invalid (hok : ¬ ok (I.slot o.imm.toNat) = true) :
    slotInstr i o ok body s = .next (I.raises i { cause := FORMAT_SLOT, addr := 0 }) := by
  unfold slotInstr
  rw [run_clear_now h hc rfl rfl]
  unfold withChecks Issue.slotCheck
  rw [if_neg hok]
  exact congrArg _ (trap_finish h i FORMAT_SLOT 0)

end Slot

/-! ### Blocks of 32 lanes (R120) -/

/-- The 32 inputs of block b: the values of mask-on lanes, +0 elsewhere (R120). -/
def Issue.blockValues (I : Issue) (o : L3Op) (b : Nat) : List Num :=
  (List.range 32).map fun j =>
    if (I.maskOn o.m).getLsbD (32 * b + j) then Spec.fp32 (I.xbar o.xa o.a (32 * b + j)) else .fin false 0 0

theorem blockInputs_eq (I : Issue) (o : L3Op) (i : Nat) : I.blockInputs o i = I.blockValues o (i / 32) := by
  unfold Issue.blockInputs Issue.blockValues
  rw [Nat.mul_comm]
  rfl

/-- What is worked out for each of the two blocks is, in a lane, that of the lane's own block. -/
theorem blockOf_lane {α : Type} (I : Issue) (o : L3Op) (f : List Num → α) {i : Nat} (hi : i < 64) :
    (if i < 32 then f (I.blockInputs o 0) else f (I.blockInputs o 32)) = f (I.blockValues o (i / 32)) := by
  rw [blockInputs_eq, blockInputs_eq]
  split
  · rw [show i / 32 = 0 / 32 by omega]
  · rw [show i / 32 = 32 / 32 by omega]

/-! ### Effects -/

/-- CVTQ of single values (R54, R120). -/
theorem cvtq_single (I : Issue) (o : L3Op) (h : slotElem (I.slot o.imm.toNat) ≤ 2 ∨ slotScale (I.slot o.imm.toNat) = 0) :
    I.cvtq o = I.writeD o.d o.m fun i =>
      let f := I.slot o.imm.toNat
      BitVec.ofNat 32 (round (slotElem f) (slotRz f) (slotSat f) (Spec.fp32 (I.xbar o.xa o.a i))) := by
  unfold Issue.cvtq
  dsimp only
  rw [if_pos (by simpa using h)]
  rfl

/-- The word that CVTQ gives a lane of a quantised block (R120). -/
def Block.lane (b : Block) (i : Nat) : Word := BitVec.ofNat 32 (b.codes.getD (i % 32) 0 + 256 * b.scale + 65536 * b.special)

/-- CVTQ of blocks (R54, R57, R120). -/
theorem cvtq_block {I : Issue} {o : L3Op} (h : 3 ≤ slotElem (I.slot o.imm.toNat))
    (hs : slotScale (I.slot o.imm.toNat) ≠ 0) (i : Instr) :
    let f := I.slot o.imm.toNat
    (I.cvtq o).finish I.g.gid (instrBytes i) = I.wrote i o.d.toNat (I.maskOn o.m) fun j =>
      (quantise (slotElem f) (slotRz f) (slotSat f) (I.blockValues o (j / 32))).lane j := by
  intro f
  unfold Issue.cvtq
  dsimp only
  rw [if_neg (by simp [hs]; omega), writeD_finish]
  exact wrote_congr _ _ _ _ fun j hj => congrArg (Block.lane · j) (blockOf_lane I o (quantise _ _ _) hj)

/-- AMAXB (R122). -/
theorem amaxb_finish (I : Issue) (o : L3Op) (i : Instr) :
    let f := I.slot o.imm.toNat
    (I.amaxb o).finish I.g.gid (instrBytes i) = I.wrotePair i o.d.toNat (I.maskOn o.m) fun j =>
      (BitVec.ofNat 32 (quantise (slotElem f) (slotRz f) (slotSat f) (I.blockValues o (j / 32))).scale : Word) ++
        Spec.single (amax (I.blockValues o (j / 32))) := by
  intro f
  unfold Issue.amaxb
  dsimp only
  rw [writePair_finish]
  exact wrotePair_congr _ _ _ _ fun j hj => blockOf_lane I o
    (fun xs => pair (toFp (amax xs)) (BitVec.ofNat 32 (quantise (slotElem f) (slotRz f) (slotSat f) xs).scale)) hj

/-! ### Strings of bits (R123) -/

/-- A string of w-bit values is the sum of the values, each at its own place. -/
theorem bitString_map_range (w : Nat) (x : Nat → Nat) (n : Nat) :
    bitString w ((List.range n).map x) = ((List.range n).map fun j => x j % 2 ^ w * 2 ^ (w * j)).sum := by
  induction n generalizing x with
  | zero => rfl
  | succ n ih =>
    rw [List.range_succ_eq_map, List.map_cons, List.map_map, List.map_cons, List.map_map, List.sum_cons, bitString, ih,
      ← List.sum_map_mul_left, Nat.mul_zero, Nat.pow_zero, Nat.mul_one]
    congr 3
    funext j
    simp only [Function.comp, Nat.succ_eq_add_one]
    ring

theorem pack_finish (I : Issue) (o : L3Op) (i : Instr) :
    let w := packWidth o.imm
    (I.pack o).finish I.g.gid (instrBytes i) = I.wrote i o.d.toNat (I.maskOn o.m) fun l =>
      if l < 2 * w then Spec.word ((((List.range 64).map fun j =>
        (I.xbar o.xa o.a j).toNat % 2 ^ w * 2 ^ (w * j)).sum / 2 ^ (32 * l) % 2 ^ 32 : Nat)) else 0 := by
  intro w
  have hlanes : Config.width * w / 32 = 2 * w := by
    show 64 * w / 32 = 2 * w
    omega
  unfold Issue.pack Spec.word bits
  dsimp only
  rw [writeD_finish, hlanes, bitString_map_range]
  simp only [BitVec.ofInt_natCast]
  rfl

theorem unpack_finish (I : Issue) (o : L3Op) (i : Instr) :
    let w := packWidth o.imm
    (I.unpack o).finish I.g.gid (instrBytes i) = I.wrote i o.d.toNat (I.maskOn o.m) fun l =>
      Spec.word ((((List.range (2 * w)).map fun j =>
        (I.xbar o.xa o.a j).toNat * 2 ^ (32 * j)).sum / 2 ^ (w * l) % 2 ^ w : Nat)) := by
  intro w
  have hlanes : Config.width * w / 32 = 2 * w := by
    show 64 * w / 32 = 2 * w
    omega
  unfold Issue.unpack Spec.word bits
  dsimp only
  rw [writeD_finish, hlanes, bitString_map_range]
  simp only [BitVec.ofInt_natCast, Nat.mod_eq_of_lt (BitVec.isLt _)]
  rfl

end Sys2Proof.Machine
end

section
/-!
PROOFS. Conversions through a format slot, PACK and UNPACK (O18).
-/
open Sys2Proof Sys2Proof.Machine

/-- Settles O18: a slot that is valid for its role lets the conversion run and any other traps; a lane's block is one of the
two that the model works out, and a string of bits is the sum of its values. -/
theorem slotResults : Obligations.SlotResults := by
  unfold Obligations.SlotResults
  refine fun s I o h => ⟨fun hc => ⟨fun hbad => ?_, fun hlo hhi hsingle => ?_, fun hlo hhi hscale => ?_⟩,
    fun hc => ⟨fun hbad => ?_, fun hlo hhi => ?_⟩, fun hc => ⟨fun hbad => ?_, fun hlo hhi hscale => ?_⟩,
    fun hc => ?_, fun hc => ?_⟩
  · exact slotInstr_invalid h hc (not_slotNarrow hbad)
  · refine (slotInstr_valid h hc ((slotNarrow_iff _).2 ⟨hlo, hhi⟩)).trans ?_
    rw [cvtq_single I o hsingle]
    rfl
  · exact ⟨fun b => quantise _ _ _ (I.blockValues o b), fun b => rfl,
      (slotInstr_valid h hc ((slotNarrow_iff _).2 ⟨Nat.le_trans (by decide) hlo, hhi⟩)).trans
        (congrArg _ (cvtq_block hlo hscale _))⟩
  · exact slotInstr_invalid h hc (not_slotNarrow hbad)
  · exact slotInstr_valid h hc ((slotNarrow_iff _).2 ⟨hlo, hhi⟩)
  · exact slotInstr_invalid h hc (not_slotBlocked hbad)
  · exact ⟨I.blockValues o, fun b => rfl,
      (slotInstr_valid h hc ((slotBlocked_iff _).2 ⟨hlo, hhi, hscale⟩)).trans (congrArg _ (amaxb_finish I o _))⟩
  · exact (alu_clear h hc).trans (congrArg _ (pack_finish I o _))
  · exact (alu_clear h hc).trans (congrArg _ (unpack_finish I o _))
end

section
/-!
SUPPORT. FP32 magnitudes: the codes without their sign, as rational numbers, rise with the code, and rounding picks the nearer
of the two between which a value lies (R45, R51).
-/
namespace Sys2Proof.Machine
set_option Elab.async false

/-! ### Magnitudes of FP32 codes (R45) -/

/-- The binade of a code in steps from the subnormals, which share theirs with the lowest normal values. -/
def fp32Binade (c : Nat) : Nat := c / 2 ^ 23 - 1

/-- The magnitude of an FP32 code without its sign, with no bound to the exponent above. -/
def fp32Mag (c : Nat) : ℚ := (c - fp32Binade c * 2 ^ 23 : Nat) * 2 ^ ((fp32Binade c : Int) - 149)

/-- A code as its binade and significand, the first significand of the next binade included. -/
theorem fp32Mag_code {k h : Nat} (hh : h ≤ 2 ^ 24) (hk : k = 0 ∨ 2 ^ 23 ≤ h) :
    fp32Mag (k * 2 ^ 23 + h) = h * 2 ^ ((k : Int) - 149) := by
  unfold fp32Mag
  rcases Nat.lt_or_eq_of_le hh with hlt | rfl
  · have hb : fp32Binade (k * 2 ^ 23 + h) = k := by
      unfold fp32Binade
      omega
    rw [hb, Nat.add_sub_cancel_left]
  · have hb : fp32Binade (k * 2 ^ 23 + 2 ^ 24) = k + 1 := by
      unfold fp32Binade
      omega
    rw [hb, show k * 2 ^ 23 + 2 ^ 24 - (k + 1) * 2 ^ 23 = 2 ^ 23 by omega,
      show ((k + 1 : Nat) : Int) - 149 = ((k : Int) - 149) + 1 by omega, zpow_add_one₀ (by norm_num)]
    push_cast
    ring

theorem fp32Mag_zero : fp32Mag 0 = 0 := by simp [fp32Mag]

/-- The codes rise by one from each value to the next (R51). -/
theorem fp32Mag_strictMono : StrictMono fp32Mag := by
  refine strictMono_nat_of_lt_succ fun c => ?_
  obtain ⟨k, h, hh, hk, rfl⟩ : ∃ k h, h < 2 ^ 24 ∧ (k = 0 ∨ 2 ^ 23 ≤ h) ∧ c = k * 2 ^ 23 + h :=
    ⟨c / 2 ^ 23 - 1, c - (c / 2 ^ 23 - 1) * 2 ^ 23, by omega, by omega, by omega⟩
  rw [Nat.add_assoc, fp32Mag_code hh.le hk, fp32Mag_code hh (by omega)]
  have hpos : (0 : ℚ) < 2 ^ ((k : Int) - 149) := by positivity
  push_cast
  linarith [mul_lt_mul_of_pos_right (lt_add_one (h : ℚ)) hpos]

theorem fp32Mag_nonneg (c : Nat) : 0 ≤ fp32Mag c := fp32Mag_zero ▸ fp32Mag_strictMono.monotone (Nat.zero_le c)

/-- -1 for a negative sign, else 1. -/
def signum (neg : Bool) : ℚ := if neg then -1 else 1

theorem fmtOf_fp32 : fmtOf 0 = ⟨8, 23, 127⟩ := rfl

/-- What a pattern means: infinities and NaNs in the topmost binade, below it the sign of bit 31 and the magnitude of the
rest (R45, R46). -/
theorem fp32_eq (w : Word) :
    let c := w.toNat % 2 ^ 31
    let neg := w.toNat.testBit 31
    Spec.fp32 w = if c / 2 ^ 23 = 255 then (if c % 2 ^ 23 = 0 then .inf neg else .nan)
      else .fin neg (c - fp32Binade c * 2 ^ 23) (fp32Binade c - 149) := by
  intro c neg
  have hex : w.toNat / 2 ^ 23 % 2 ^ 8 = c / 2 ^ 23 := by omega
  have hm : w.toNat % 2 ^ 23 = c % 2 ^ 23 := by omega
  unfold Spec.fp32 valueOf
  rw [if_neg (by decide), fmtOf_fp32]
  dsimp only
  rw [hex, hm]
  by_cases htop : c / 2 ^ 23 = 255
  · rw [if_pos (by simpa using htop), if_pos htop]
  · rw [if_neg (by simpa using htop), if_neg (by simp), if_neg htop]
    unfold fp32Binade
    split_ifs with hsub
    · exact congrArg₂ (Num.fin neg) (by omega) (by omega)
    · exact congrArg₂ (Num.fin neg) (by omega) (by omega)

/-- A pattern with a finite value has the magnitude of its low 31 bits and the sign of the highest (R45). -/
theorem rational_fp32 {w : Word} {y : ℚ} (h : Spec.rational (Spec.fp32 w) = some y) :
    y = signum (w.toNat.testBit 31) * fp32Mag (w.toNat % 2 ^ 31) := by
  rw [fp32_eq] at h
  split_ifs at h
  · cases h
  · cases h
  · rw [← Option.some.inj h, fp32Mag, ← mul_assoc]
    rfl

/-! ### Rounding a magnitude (R51) -/

/-- Code c is the nearer to t of the two codes C and C + 1 between whose magnitudes t lies, and of two equally near ones the
even one. -/
def RoundsTo (t : ℚ) (c : Nat) : Prop :=
  ∃ C, fp32Mag C ≤ t ∧ t < fp32Mag (C + 1) ∧
    ((c = C ∧ t - fp32Mag C ≤ fp32Mag (C + 1) - t ∧ (t - fp32Mag C = fp32Mag (C + 1) - t → C % 2 = 0)) ∨
     (c = C + 1 ∧ fp32Mag (C + 1) - t ≤ t - fp32Mag C ∧ (fp32Mag (C + 1) - t = t - fp32Mag C → (C + 1) % 2 = 0)))

/-- No code lies nearer than the one rounded to, and of two equally near ones it is the even one. -/
theorem RoundsTo.nearest {t : ℚ} {c : Nat} (h : RoundsTo t c) (d : Nat) :
    |fp32Mag c - t| ≤ |fp32Mag d - t| ∧ (|fp32Mag c - t| = |fp32Mag d - t| → fp32Mag c ≠ fp32Mag d → c % 2 = 0) := by
  obtain ⟨C, hlow, hhigh, hc⟩ := h
  have hlow' : |fp32Mag C - t| = t - fp32Mag C := by rw [abs_sub_comm, abs_of_nonneg (by linarith)]
  have hhigh' : |fp32Mag (C + 1) - t| = fp32Mag (C + 1) - t := abs_of_pos (by linarith)
  rcases Nat.lt_or_ge C d with hd | hd
  · have hle := fp32Mag_strictMono.monotone (Nat.succ_le_of_lt hd)
    rw [abs_of_nonneg (show 0 ≤ fp32Mag d - t by linarith)]
    rcases hc with ⟨rfl, hnear, heven⟩ | ⟨rfl, -, -⟩
    · rw [hlow']
      exact ⟨by linarith, fun he _ => heven (by linarith)⟩
    · rw [hhigh']
      exact ⟨by linarith, fun he hne => absurd (by linarith) hne⟩
  · have hle := fp32Mag_strictMono.monotone hd
    rw [abs_sub_comm (fp32Mag d), abs_of_nonneg (show 0 ≤ t - fp32Mag d by linarith)]
    rcases hc with ⟨rfl, -, -⟩ | ⟨rfl, hnear, heven⟩
    · rw [hlow']
      exact ⟨by linarith, fun he hne => absurd (by linarith) hne⟩
    · rw [hhigh']
      exact ⟨by linarith, fun he _ => heven (by linarith)⟩

/-- The same against values of either sign: a value of the other sign is no nearer than 0. -/
theorem RoundsTo.nearest_signed {t y : ℚ} {c d : Nat} (h : RoundsTo t c) (ht : 0 ≤ t)
    (hy : y = fp32Mag d ∨ y = -fp32Mag d) :
    |fp32Mag c - t| ≤ |y - t| ∧ (|fp32Mag c - t| = |y - t| → fp32Mag c ≠ y → c % 2 = 0) := by
  rcases hy with rfl | rfl
  · exact h.nearest d
  · obtain ⟨hle, heven⟩ := h.nearest 0
    rw [fp32Mag_zero, zero_sub, abs_neg, abs_of_nonneg ht] at hle heven
    have hd := fp32Mag_nonneg d
    have hother : |-fp32Mag d - t| = fp32Mag d + t := by rw [abs_of_nonpos (by linarith)]; ring
    rw [hother]
    refine ⟨by linarith, fun he hne => ?_⟩
    have hzero : fp32Mag d = 0 := by linarith
    rw [hzero, neg_zero] at hne
    exact heven (by linarith) hne

/-- Rounding to whole steps of the binade k rounds to the nearer code. -/
theorem roundsTo_shiftRound {k n m : Nat} {e : Int} (hh : m / 2 ^ n < 2 ^ 24) (hk : k = 0 ∨ 2 ^ 23 ≤ m / 2 ^ n)
    (he : (k : Int) - 149 = e + n) : RoundsTo (m * 2 ^ e) (k * 2 ^ 23 + shiftRound false m n) := by
  have hunit : (2 : ℚ) ^ ((k : Int) - 149) = 2 ^ n * 2 ^ e := by
    rw [he, zpow_add₀ (by norm_num), zpow_natCast, mul_comm]
  have hstep : (0 : ℚ) < 2 ^ e := by positivity
  have hdiv : ((2 ^ n * (m / 2 ^ n) + m % 2 ^ n : Nat) : ℚ) = m := congrArg _ (Nat.div_add_mod m (2 ^ n))
  have hmod := Nat.mod_lt m (Nat.two_pow_pos n)
  have hlow : m * 2 ^ e - fp32Mag (k * 2 ^ 23 + m / 2 ^ n) = (m % 2 ^ n : Nat) * 2 ^ e := by
    rw [fp32Mag_code hh.le hk, hunit, ← hdiv]
    push_cast
    ring
  have hhigh : fp32Mag (k * 2 ^ 23 + m / 2 ^ n + 1) - m * 2 ^ e = (2 ^ n - m % 2 ^ n : Nat) * 2 ^ e := by
    rw [Nat.add_assoc, fp32Mag_code hh (by omega), hunit, ← hdiv, Nat.cast_sub hmod.le]
    push_cast
    ring
  refine ⟨k * 2 ^ 23 + m / 2 ^ n, sub_nonneg.1 (hlow ▸ by positivity), sub_pos.1 ?_, ?_⟩
  · rw [hhigh]
    exact mul_pos (Nat.cast_pos.2 (Nat.sub_pos_of_lt hmod)) hstep
  · rw [hlow, hhigh, mul_le_mul_iff_of_pos_right hstep, mul_le_mul_iff_of_pos_right hstep, mul_left_inj' hstep.ne',
      mul_left_inj' hstep.ne', Nat.cast_le, Nat.cast_le, Nat.cast_inj, Nat.cast_inj]
    unfold shiftRound
    dsimp only
    rw [if_neg (by simp)]
    split_ifs with hup
    · exact .inr ⟨(Nat.add_assoc _ _ _).symm, by omega, by omega⟩
    · refine .inl ⟨rfl, by omega, fun htie => ?_⟩
      have hn : n ≠ 0 := by
        rintro rfl
        omega
      omega

theorem shiftRound_zero (m : Nat) : shiftRound false m 0 = m := by
  simp [shiftRound, Nat.mod_one]

/-- The exponent of the unit in which a value is rounded: that of its own binade, or of the subnormals (R51). -/
theorem roundMag_fp32 {m : Nat} (hm : m ≠ 0) (e : Int) :
    ∃ k : Nat, (k : Int) - 149 = max ((Nat.log2 m : Int) + e - 23) (-149) ∧
      roundMag (fmtOf 0) false m e = k * 2 ^ 23 +
        if (k : Int) - 149 ≤ e then m * 2 ^ (e - (k - 149)).toNat else shiftRound false m (k - 149 - e).toNat := by
  obtain ⟨k, hk⟩ : ∃ k : Nat, (k : Int) - 149 = max ((Nat.log2 m : Int) + e - 23) (-149) :=
    ⟨(max ((Nat.log2 m : Int) + e - 23) (-149) + 149).toNat, by omega⟩
  refine ⟨k, hk, ?_⟩
  unfold roundMag
  rw [if_neg hm, fmtOf_fp32]
  dsimp only
  rw [show ((1 : Int) - (127 : Nat) - (23 : Nat)) = -149 by norm_num, show ((23 : Nat) : Int) = 23 by norm_num, ← hk,
    show ((k : Int) - 149 - -149).toNat = k by omega]

/-- The model's rounding of a magnitude takes the nearer code. -/
theorem roundMag_roundsTo (m : Nat) (e : Int) : RoundsTo (m * 2 ^ e) (roundMag (fmtOf 0) false m e) := by
  by_cases hm : m = 0
  · subst hm
    have := roundsTo_shiftRound (k := 0) (n := 0) (m := 0) (e := -149) (by norm_num) (.inl rfl) (by norm_num)
    simpa [roundMag, shiftRound_zero] using this
  · obtain ⟨k, hk, hround⟩ := roundMag_fp32 hm e
    rw [hround]
    split_ifs with hq
    · obtain ⟨j, hj⟩ : ∃ j : Nat, e = k - 149 + j := ⟨(e - (k - 149)).toNat, by omega⟩
      rw [show (e - (k - 149)).toNat = j by omega]
      have hlt : m * 2 ^ j < 2 ^ 24 := by
        rw [show (24 : Nat) = 24 - j + j by omega, Nat.pow_add]
        exact Nat.mul_lt_mul_of_pos_right ((Nat.log2_lt hm).1 (by omega)) (Nat.two_pow_pos j)
      have hge : k = 0 ∨ 2 ^ 23 ≤ m * 2 ^ j := by
        refine or_iff_not_imp_left.2 fun hk0 => ?_
        rw [show (23 : Nat) = 23 - j + j by omega, Nat.pow_add]
        exact Nat.mul_le_mul_right _ ((Nat.le_log2 hm).1 (by omega))
      have := roundsTo_shiftRound (k := k) (n := 0) (m := m * 2 ^ j) (e := k - 149) (by simpa using hlt) (by simpa using hge)
        (by omega)
      rw [shiftRound_zero] at this
      convert this using 1
      rw [hj, zpow_add₀ (by norm_num), zpow_natCast]
      push_cast
      ring
    · obtain ⟨n, hn⟩ : ∃ n : Nat, (k : Int) - 149 = e + n := ⟨(k - 149 - e).toNat, by omega⟩
      rw [show ((k : Int) - 149 - e).toNat = n by omega]
      have hlt : m / 2 ^ n < 2 ^ 24 := by
        rw [Nat.div_lt_iff_lt_mul (Nat.two_pow_pos n), ← Nat.pow_add]
        exact (Nat.log2_lt hm).1 (by omega)
      have hge : k = 0 ∨ 2 ^ 23 ≤ m / 2 ^ n := by
        refine or_iff_not_imp_left.2 fun hk0 => ?_
        rw [Nat.le_div_iff_mul_le (Nat.two_pow_pos n), ← Nat.pow_add]
        exact (Nat.le_log2 hm).1 (by omega)
      exact roundsTo_shiftRound hlt hge hn

/-! ### Round(FP32, RNE, v) of a finite v (R51, R93) -/

theorem signum_abs (neg : Bool) : |signum neg| = 1 := by
  cases neg <;> simp [signum]

theorem signum_mul_or (neg neg' : Bool) (y : ℚ) : signum neg' * y = signum neg * y ∨ signum neg' * y = signum neg * -y := by
  cases neg <;> cases neg' <;> simp [signum]

/-- Round(FP32, RNE, v): the sign, and the code of the magnitude, or of infinity beyond the largest (R51). -/
theorem single_fin (neg : Bool) (m : Nat) (e : Int) : Spec.single (.fin neg m e) =
    BitVec.ofNat 32 (neg.toNat * 2 ^ 31 + min (roundMag (fmtOf 0) false m e) 0x7F800000) := by
  have hsign : signBit 0 neg = neg.toNat * 2 ^ 31 := by cases neg <;> rfl
  have hmax : maxCode 0 = 0x7F7FFFFF := rfl
  unfold Spec.single round
  dsimp only
  rw [if_neg (by decide), hsign, hmax]
  generalize roundMag (fmtOf 0) false m e = c
  by_cases hbig : 0x7F7FFFFF < c
  · rw [if_pos (by simpa using hbig), if_neg (by simp), if_neg (by simp), if_neg (by simp), min_eq_right hbig]
  · rw [if_neg (by simpa using hbig), if_neg (by simp), min_eq_left (by omega)]

/-- A value that rounds to a finite pattern rounds to the code of its magnitude, with its sign. -/
theorem single_of_finite {neg : Bool} {m : Nat} {e : Int} {x : ℚ}
    (h : Spec.rational (Spec.fp32 (Spec.single (.fin neg m e))) = some x) :
    let c := roundMag (fmtOf 0) false m e
    x = signum neg * fp32Mag c ∧ (Spec.single (.fin neg m e)).toNat % 2 = c % 2 := by
  rw [single_fin] at h ⊢
  generalize roundMag (fmtOf 0) false m e = c at h ⊢
  rcases Nat.lt_or_ge c 0x7F800000 with hc | hc
  · rw [min_eq_left hc.le] at h ⊢
    have hz : (BitVec.ofNat 32 (neg.toNat * 2 ^ 31 + c)).toNat = neg.toNat * 2 ^ 31 + c := by
      rw [BitVec.toNat_ofNat]
      have := Bool.toNat_lt neg
      omega
    have hneg : (neg.toNat * 2 ^ 31 + c).testBit 31 = neg := by
      cases neg <;> simp [Nat.testBit_eq_decide_div_mod_eq] <;> omega
    have hx := rational_fp32 h
    rw [hz, hneg, show (neg.toNat * 2 ^ 31 + c) % 2 ^ 31 = c by omega] at hx
    exact ⟨hx, by omega⟩
  · rw [min_eq_right hc] at h
    have hinf : Spec.fp32 (BitVec.ofNat 32 (neg.toNat * 2 ^ 31 + 0x7F800000)) = .inf neg := by
      cases neg <;> decide
    rw [hinf] at h
    cases h

end Sys2Proof.Machine
end

section
/-!
PROOFS. Rounding to FP32 (O12).
-/
open Sys2Proof Sys2Proof.Machine

/-- Settles O12: up to a common sign, the pattern is the code that the magnitude rounds to, and that is a nearest one. -/
theorem roundNearestEven : Obligations.RoundNearestEven := by
  unfold Obligations.RoundNearestEven
  intro neg m e r x y w z hr hx hy
  obtain ⟨hxc, hpar⟩ := single_of_finite hx
  have hrt : r = signum neg * (m * 2 ^ e) := by
    rw [← Option.some.inj hr, ← mul_assoc]
    rfl
  have hsplit := signum_mul_or neg (w.toNat.testBit 31) (fp32Mag (w.toNat % 2 ^ 31))
  rw [← rational_fp32 hy] at hsplit
  obtain ⟨y', hyy, hy'⟩ : ∃ y', y = signum neg * y' ∧
      (y' = fp32Mag (w.toNat % 2 ^ 31) ∨ y' = -fp32Mag (w.toNat % 2 ^ 31)) :=
    hsplit.elim (fun h => ⟨_, h, .inl rfl⟩) fun h => ⟨_, h, .inr rfl⟩
  obtain ⟨hle, heven⟩ := (roundMag_roundsTo m e).nearest_signed (by positivity) hy'
  have hdist : ∀ a : ℚ, |signum neg * a - r| = |a - m * 2 ^ e| := fun a => by
    rw [hrt, ← mul_sub, abs_mul, signum_abs, one_mul]
  rw [hxc, hyy, hdist, hdist, hpar]
  exact ⟨hle, fun he hne => heven he fun hsame => hne (by rw [hsame])⟩
end

section
/-!
SUPPORT. Sets of lanes: their members, and the number whose bits they are (R7).
-/
namespace Sys2Proof.Machine
set_option Elab.async false

theorem getLsbD_laneSet (p : Nat → Bool) (i : Nat) : (laneSet p).getLsbD i = (decide (i < 64) && p i) := by
  have hbits : laneSet p = BitVec.ofNat 64 (bitSum p 64) := rfl
  rw [hbits, BitVec.getLsbD_ofNat, testBit_bitSum, ← Bool.and_assoc, Bool.and_self]

/-- The lanes of a set in which a test holds. -/
theorem lanesOf_and_laneSet (m : LaneSet) (p : Nat → Bool) :
    lanesOf (m &&& laneSet p) = (List.range 64).filter fun i => m.getLsbD i && p i := by
  unfold lanesOf
  refine List.filter_congr fun i hi => ?_
  rw [BitVec.getLsbD_and, getLsbD_laneSet, decide_eq_true (List.mem_range.1 hi), Bool.true_and]

theorem lanesOf_eq_nil_iff {m : LaneSet} : lanesOf m = [] ↔ m = 0 := by
  constructor
  · intro h
    apply BitVec.eq_of_getLsbD_eq
    intro i hi
    have hout : i ∉ lanesOf m := by simp [h]
    simpa [mem_lanesOf, hi] using hout
  · rintro rfl
    simp [lanesOf]

/-- The number whose bits a test gives is the sum of their powers of 2. -/
theorem bitSum_eq_sum (p : Nat → Bool) (n : Nat) : bitSum p n = (((List.range n).filter p).map (2 ^ ·)).sum := by
  induction n with
  | zero => rfl
  | succ n ih =>
    rw [bitSum_succ, List.range_succ, List.filter_append, List.map_append, List.sum_append, ← ih]
    by_cases hp : p n <;> simp [hp]

/-- A set of lanes as a number. -/
theorem ofNat_sum_lanesOf (m : LaneSet) : BitVec.ofNat 64 ((lanesOf m).map (2 ^ ·)).sum = m := by
  have hset : laneSet m.getLsbD = m := by
    apply BitVec.eq_of_getLsbD_eq
    intro i hi
    rw [getLsbD_laneSet, decide_eq_true hi, Bool.true_and]
  conv_rhs => rw [← hset]
  unfold lanesOf
  rw [← bitSum_eq_sum]
  rfl

/-- A part of a set of lanes is all of it where it has as many lanes. -/
theorem and_eq_left_iff_laneCount (m v : LaneSet) : m &&& v = m ↔ laneCount (m &&& v) = laneCount m := by
  refine ⟨fun h => by rw [h], fun h => ?_⟩
  have hsub : (lanesOf (m &&& v)).Sublist (lanesOf m) := by
    refine List.monotone_filter_right _ fun i hi => ?_
    rw [BitVec.getLsbD_and] at hi
    exact (Bool.and_eq_true_iff.1 hi).1
  have hsame := hsub.eq_of_length h
  rw [← ofNat_sum_lanesOf (m &&& v), hsame, ofNat_sum_lanesOf]

end Sys2Proof.Machine
end

section
/-!
PROOFS. VOTE, UCMP and UFCMP (O15, O16).
-/
namespace Sys2Proof.Machine
set_option Elab.async false

/-! ### The flags of a split (R72) -/

/-- CC.Z after it was set, and the other flags as they were. -/
theorem getLsbD_cc_withZ (c : BitVec 5) (z : Bool) (b : Nat) :
    ({ flagsOf c with z := z } : Flags).cc.getLsbD b = if b = 0 then z else c.getLsbD b := by
  have hfive : ∀ (c : BitVec 5) (z : Bool), ∀ b < 5,
      ({ flagsOf c with z := z } : Flags).cc.getLsbD b = if b = 0 then z else c.getLsbD b := by decide
  by_cases hb : b < 5
  · exact hfive c z b hb
  · rw [BitVec.getLsbD_of_ge _ _ (by omega), BitVec.getLsbD_of_ge c _ (by omega), if_neg (by omega)]

/-- A split after its flag Z was set is what it was but for that flag (R72, R111). -/
theorem setZ_split (g : Group) (l : Nat) (z : Bool) (k : Nat) {x : Split} (h : g.splits[k]? = some x) :
    ∃ y : Split, (g.setZ l z).splits[k]? = some y ∧ y = { x with cc := y.cc } ∧ (x.label ≠ l → y.cc = x.cc) ∧
      (x.label = l → y.cc.getLsbD 0 = z ∧ ∀ b, 1 ≤ b → y.cc.getLsbD b = x.cc.getLsbD b) := by
  refine ⟨if x.label == l then { x with cc := { flagsOf x.cc with z := z }.cc } else x, ?_, ?_, fun hne => ?_, fun he => ?_⟩
  · unfold Group.setZ
    rw [List.getElem?_map, h, Option.map_some]
  · split <;> rfl
  · rw [if_neg (by simpa using hne)]
  · rw [if_pos (by simpa using he)]
    exact ⟨getLsbD_cc_withZ x.cc z 0, fun b hb => (getLsbD_cc_withZ x.cc z b).trans (if_neg (by omega))⟩

/-- The flags of UCMP and UFCMP are the spec's, with E kept (R113). -/
theorem ucmpFlags_cc (c : BitVec 5) (x y : Word) : (ucmpFlags (flagsOf c) x y).cc = Spec.ccOf c (Spec.ucmp x y) := by
  have hz : (x == y) = (x.toNat == y.toNat) := by
    rw [Bool.eq_iff_iff, beq_iff_eq, beq_iff_eq, BitVec.toNat_eq]
  have hn : x - y = Spec.word (x.toNat - y.toNat) := by
    unfold Spec.word
    rw [Int.sub_eq_add_neg, BitVec.ofInt_add, BitVec.ofInt_neg, ← BitVec.sub_eq_add_neg, BitVec.ofInt_natCast, BitVec.ofInt_natCast,
      BitVec.ofNat_toNat, BitVec.ofNat_toNat,
      BitVec.setWidth_eq, BitVec.setWidth_eq]
  unfold ucmpFlags Spec.ccOf Spec.ucmp Flags.cc flagsOf
  simp only [hz, hn, BitVec.le_def]
  rfl

theorem ufcmpFlags_cc (c : BitVec 5) (x y : Word) : (ufcmpFlags (flagsOf c) x y).cc = Spec.ccOf c (Spec.ufcmp x y) := by
  have hfp : ∀ w, Spec.fp32 w = fp w := fun _ => rfl
  unfold ufcmpFlags Spec.ccOf Spec.ufcmp Flags.cc flagsOf
  simp only [hfp]
  split_ifs <;> rfl

/-! ### The lanes that vote (R111) -/

theorem lanesOf_votes (I : Issue) (o : UOp) : lanesOf (I.votes o) = Spec.voters I o :=
  lanesOf_and_laneSet _ _

theorem votes_eq_long (I : Issue) (o : UOp) : I.votes o = Spec.long (((Spec.voters I o).map fun i => 2 ^ i).sum : Nat) := by
  unfold Spec.long
  rw [← lanesOf_votes, BitVec.ofInt_natCast, ofNat_sum_lanesOf]

theorem votes_bne_zero (I : Issue) (o : UOp) : (I.votes o != 0) = !(Spec.voters I o).isEmpty := by
  rw [← lanesOf_votes, Bool.eq_iff_iff, bne_iff_ne, Bool.not_eq_true', ← Bool.not_eq_true, List.isEmpty_iff, ne_eq,
    lanesOf_eq_nil_iff]

theorem votes_beq_maskOn (I : Issue) (o : UOp) :
    (I.votes o == I.maskOn o.m) = decide ((Spec.voters I o).length = laneCount (I.maskOn o.m)) := by
  rw [← lanesOf_votes, Bool.eq_iff_iff, beq_iff_eq, decide_eq_true_iff]
  exact and_eq_left_iff_laneCount _ _

/-! ### The instructions -/

/-- An instruction of the vector ALU that changes its group, or nothing where a test says so, and is over. -/
theorem setGroup_finish_ite {s : State} {I : Issue} (h : s.issue = some I) (i : Instr) (p : Prop) [Decidable p] (g : Group) :
    (if p then Eff.done I.s else .done (I.s.setGroup g)).finish I.g.gid (instrBytes i) =
      I.ended i (if p then s else s.setGroup g) := by
  obtain ⟨rfl, -⟩ := issue_spec h
  split <;> rfl

/-- UCMP and UFCMP in a lane: the flags of the lowest mask-on lane's values (R112). -/
theorem compare_some {s : State} {I : Issue} (h : s.issue = some I) (i : Instr) {o : SOp} (f : Flags → Word → Word → Flags)
    {u : Nat} (hu : (lanesOf (I.maskOn o.m)).head? = some u) :
    (I.compare o f).finish I.g.gid (instrBytes i) = I.ended i (s.setGroup
      (I.g.setCc I.sp.label (f (flagsOf I.sp.cc) (I.xbar o.xa o.a u) (I.xbar o.xb o.b u)).cc)) := by
  unfold Issue.compare lowest
  rw [hu]
  exact group_finish h i _

theorem compare_none {s : State} {I : Issue} (h : s.issue = some I) (i : Instr) {o : SOp} (f : Flags → Word → Word → Flags)
    (hu : I.maskOn o.m = 0) : (I.compare o f).finish I.g.gid (instrBytes i) = I.ended i s := by
  obtain ⟨rfl, -⟩ := issue_spec h
  unfold Issue.compare lowest
  rw [lanesOf_eq_nil_iff.2 hu]
  rfl

end Sys2Proof.Machine

open Sys2Proof Sys2Proof.Machine

/-- Settles O15: the voting lanes are the spec's, and Z is one bit of the flags of one split. -/
theorem voteResults : Obligations.VoteResults := by
  unfold Obligations.VoteResults
  refine ⟨fun s I o h => ⟨fun hc => ?_, fun hc => ?_, fun hc => ?_, fun hc => ?_, fun hc => ?_⟩,
    fun g l z => ⟨rfl, List.length_map _, fun k x hx => setZ_split g l z k hx⟩⟩
  · rw [exec_voteCount, execVoteCount, alu_clear h hc, writeD_finish, laneCount, lanesOf_votes]
    exact congrArg _ (wrote_congr I _ _ _ fun _ _ => (BitVec.ofInt_natCast _ _).symm)
  · rw [exec_voteFirst, execVoteFirst, alu_clear h hc, writeD_finish, lowest, lanesOf_votes]
    refine congrArg _ (wrote_congr I _ _ _ fun _ _ => ?_)
    cases (Spec.voters I o).head? with
    | none => rfl
    | some i => exact (BitVec.ofInt_natCast _ _).symm
  · rw [exec_voteBallot, execVoteBallot, alu_clear h hc, writePair_finish, votes_eq_long]
  · rw [exec_voteAny, execVoteAny, alu_clear h hc, ← votes_bne_zero]
    simp only [beq_iff_eq]
    rw [setGroup_finish_ite h]
  · rw [exec_voteAll, execVoteAll, alu_clear h hc, ← votes_beq_maskOn]
    simp only [beq_iff_eq]
    rw [setGroup_finish_ite h]

/-- Settles O16: the flags are the spec's function of the values in the lowest mask-on lane. -/
theorem compareResults : Obligations.CompareResults := by
  unfold Obligations.CompareResults
  refine fun s I o h => ⟨fun u hu => ⟨fun hc => ?_, fun hc => ?_⟩, fun h0 => ⟨fun hc => ?_, fun hc => ?_⟩⟩
  · rw [exec_ucmp, execUcmp, alu_clear h hc, compare_some h _ _ hu, ucmpFlags_cc]
  · rw [exec_ufcmp, execUfcmp, alu_clear h hc, compare_some h _ _ hu, ufcmpFlags_cc]
  · rw [exec_ucmp, execUcmp, alu_clear h hc, compare_none h _ _ h0]
  · rw [exec_ufcmp, execUfcmp, alu_clear h hc, compare_none h _ _ h0]
end

section
/-!
SUPPORT. How a control instruction ends: at a target, or in a group that it has settled itself (R16, R80).
-/
namespace Sys2Proof.Machine
set_option Elab.async false

/-- A control instruction that nothing stops reaches its own effect. -/
theorem ctl_clear {i : Instr} {s : State} {I : Issue} {body : Issue → Eff} (h : s.issue = some I) (hc : I.clear i = true) :
    ctlInstr i body s = .next ((body I).finish I.g.gid (instrBytes i)) := run_clear h hc rfl rfl

theorem goto_finish {s : State} {I : Issue} (h : s.issue = some I) (len : Nat) (pc : Addr) :
    (Eff.goto I.s pc).finish I.g.gid len = I.jumps s pc := by
  obtain ⟨rfl, -⟩ := issue_spec h
  rfl

theorem goto_setGroup_finish {s : State} {I : Issue} (h : s.issue = some I) (len : Nat) (g : Group) (pc : Addr) :
    (Eff.goto (I.s.setGroup g) pc).finish I.g.gid len = I.jumps (s.setGroup g) pc := by
  obtain ⟨rfl, -⟩ := issue_spec h
  rfl

theorem ended_finish {s : State} {I : Issue} (h : s.issue = some I) (i : Instr) :
    (Eff.done I.s).finish I.g.gid (instrBytes i) = I.ended i s := by
  obtain ⟨rfl, -⟩ := issue_spec h
  rfl

/-- Writing a group back changes nothing where its split goes on at a header. -/
theorem jumps_setGroup_self {s : State} {I : Issue} (h : s.issue = some I) (pc : Addr) :
    I.jumps (s.setGroup I.g) pc = I.jumps s pc := by
  obtain ⟨rfl, hgrp, hcl, -⟩ := issue_spec h
  unfold Issue.jumps
  rw [onGroup_setGroup _ rfl hgrp, onGroup_eq _ hgrp]
  · rfl
  · rw [hcl]
    exact endClause_gid _ _ _ _

/-! ### Targets (R80 to R83) -/

theorem next_eq_long (I : Issue) : I.next = Spec.long (I.cl.pc.toNat + 8) := by
  unfold Issue.next Spec.long
  rw [BitVec.ofInt_add, BitVec.ofInt_natCast, BitVec.ofNat_toNat, BitVec.setWidth_eq]
  rfl

/-- A count of words as a distance in bytes. -/
theorem simm_words {n : Nat} (x : BitVec n) : simm x <<< 2 = BitVec.ofInt 64 (4 * x.toInt) := by
  unfold simm BitVec.signExtend
  rw [BitVec.shiftLeft_eq_mul_twoPow, BitVec.mul_comm, BitVec.ofInt_mul]
  rfl

/-- A distance in words from the instruction's first word. -/
theorem pc_add_words {n : Nat} (I : Issue) (x : BitVec n) : I.cl.pc + (simm x <<< 2) = Spec.long (I.cl.pc.toNat + 4 * x.toInt) := by
  unfold Spec.long
  rw [simm_words, BitVec.ofInt_add, BitVec.ofInt_natCast, BitVec.ofNat_toNat, BitVec.setWidth_eq]

theorem target_eq_long (I : Issue) (x : BitVec 24) : I.target x = Spec.long (I.cl.pc.toNat + 4 * x.toInt) := pc_add_words I x

/-- The conditions of BR are the spec's (R73). -/
theorem meets_eq_condition (cc : BitVec 5) (code : Nat) : (flagsOf cc).meets code = Spec.condition cc code := by
  match code with
  | 0 | 1 | 2 | 3 | 4 | 5 | 6 | 7 | 8 | 9 | 10 | 11 | 12 | 13 | 14 | 15 | 16 => rfl
  | _ + 17 => rfl

theorem anyNonzero_iff (I : Issue) (o : CtlOp) :
    I.anyNonzero o = true ↔ ∃ i ∈ lanesOf (I.maskOn o.w.m), I.xbar o.w.xa o.w.a i ≠ 0 := by
  simp [Issue.anyNonzero]

/-- The low 56 bits of a code address (R80). -/
theorem codeAddr_ofInt (v : Int) : codeAddr (BitVec.ofInt 64 v) = BitVec.ofInt 64 (v % 2 ^ 56) := by
  apply BitVec.eq_of_toNat_eq
  unfold codeAddr
  rw [BitVec.toNat_setWidth, BitVec.extractLsb'_toNat, BitVec.toNat_ofInt, BitVec.toNat_ofInt, Nat.shiftRight_zero]
  omega

theorem misaligned_iff (v : Int) : (BitVec.ofInt 64 (v % 2 ^ 56)).extractLsb' 0 2 != 0 ↔ v % 4 ≠ 0 := by
  rw [bne_iff_ne, ne_eq, BitVec.toNat_eq, BitVec.extractLsb'_toNat, BitVec.toNat_ofInt, Nat.shiftRight_zero]
  show ¬ _ = 0 ↔ _
  omega

/-- A target from a register: the header there, or MISALIGNED (R80). -/
theorem jump_finish {s : State} {I : Issue} (h : s.issue = some I) (i : Instr) {a : Addr} {v : Int} (ha : a = BitVec.ofInt 64 v) :
    (I.jump a).finish I.g.gid (instrBytes i) =
      if v % 4 = 0 then I.jumps s (BitVec.ofInt 64 (v % 2 ^ 56))
      else I.raises i { cause := MISALIGNED, addr := BitVec.ofInt 64 (v % 2 ^ 56) } := by
  subst ha
  unfold Issue.jump
  rw [codeAddr_ofInt]
  dsimp only
  by_cases hv : v % 4 = 0
  · rw [if_neg (mt (misaligned_iff v).1 (not_not_intro hv)), if_pos hv, goto_finish h]
  · rw [if_pos ((misaligned_iff v).2 hv), if_neg hv, trap_finish h]

/-- RET and JMPR go to their pair's value, JMPR with its word offset (R83). -/
theorem exec_ret_jumps {s : State} {I : Issue} (h : s.issue = some I) (o : CtlOp) (hc : I.clear (.ret o) = true) :
    exec (.ret o) s = .next ((I.jump (BitVec.ofInt 64 (Spec.pairValue I 0 o.w.a I.lane0))).finish I.g.gid (instrBytes (.ret o))) := by
  rw [exec_ret, execRet, ctl_clear h hc, xpair_eq_ofNat, BitVec.ofInt_natCast]

theorem exec_jmpr_jumps {s : State} {I : Issue} (h : s.issue = some I) (o : CtlOp) (hc : I.clear (.jmpr o) = true) :
    exec (.jmpr o) s = .next ((I.jump (BitVec.ofInt 64 (Spec.pairValue I 0 o.w.a I.lane0 + 4 * o.imm.toInt))).finish I.g.gid
      (instrBytes (.jmpr o))) := by
  rw [exec_jmpr, execJmpr, ctl_clear h hc, xpair_eq_ofNat, simm_words, BitVec.ofInt_add, BitVec.ofInt_natCast]

end Sys2Proof.Machine
end

section
/-!
PROOFS. Branches, calls and returns (O30).
-/
open Sys2Proof Sys2Proof.Machine

/-- Settles O30: each instruction ends at a target, which is the spec's number. -/
theorem branches : Obligations.Branches := by
  unfold Obligations.Branches
  intro s I o h next target
  have hnext : I.next = next := next_eq_long I
  have htarget : I.target o.imm = target := target_eq_long I o.imm
  refine ⟨fun hc => ?_, fun hc => ?_, fun hc => ?_, fun hc => ?_, fun i hi hc => ?_⟩
  · rw [exec_br, execBr, ctl_clear h hc, goto_finish h, meets_eq_condition, hnext, htarget]
  · rw [exec_brz, execBrz, ctl_clear h hc, goto_finish h, hnext, htarget]
    simp only [Bool.or_eq_true, beq_iff_eq, anyNonzero_iff]
  · rw [exec_brnz, execBrnz, ctl_clear h hc, goto_finish h, hnext, htarget]
    simp only [anyNonzero_iff]
  · rw [exec_call, execCall, ctl_clear h hc]
    dsimp only
    rw [goto_setGroup_finish h, htarget, hnext]
    split
    · rw [jumps_setGroup_self h]
    · rfl
  · rw [List.mem_pair] at hi
    rcases hi with rfl | rfl
    · simp only [reduceCtorEq, if_false, Int.add_zero]
      rw [exec_ret_jumps h o hc, jump_finish h _ rfl]
      exact ⟨fun hv => by rw [if_pos hv], fun hv => by rw [if_neg hv]⟩
    · simp only [if_true]
      rw [exec_jmpr_jumps h o hc, jump_finish h _ rfl]
      exact ⟨fun hv => by rw [if_pos hv], fun hv => by rw [if_neg hv]⟩
end

section
/-!
SUPPORT. Parking at an instruction, deferred faults, and the end of a wait (R74, R90, R163, R168).
-/
namespace Sys2Proof.Machine
set_option Elab.async false

theorem park_finish {s : State} {I : Issue} (h : s.issue = some I) (len : Nat) (w : Wait) :
    (Eff.park I.s w).finish I.g.gid len = I.parksOn w := by
  obtain ⟨rfl, hgrp, -⟩ := issue_spec h
  exact onGroup_eq _ hgrp

/-- What parking leaves of a group. -/
theorem park_setGroup {u : State} {n : Nat} {g : Group} (hg : u.group n = some g) (w : Wait) (len : Nat) :
    ∃ c, (Eff.park u w).finish n len = u.setGroup (g.parkOn w c) := ⟨_, onGroup_eq _ hg⟩

/-- Parking at an instruction changes the group alone, which then looks as after `Group.parkOn`, from the cycle at which its
wait began. -/
theorem park_leaves {s u : State} {n : Nat} {g : Group} (hg : u.group n = some g) (hs : s.sameButGroup u n) (w : Wait) (len : Nat) :
    ∃ c, ((Eff.park u w).finish n len).group n = some (g.parkOn w c) ∧ s.sameButGroup ((Eff.park u w).finish n len) n := by
  have hgid := group_gid hg
  obtain ⟨c, hc⟩ := park_setGroup hg w len
  obtain ⟨hrest, hother⟩ := hs
  have hparked : (g.parkOn w c).gid = n := hgid
  rw [hc]
  refine ⟨c, group_setGroup_eq hparked hg, ?_, fun m hm => (group_setGroup_other u (by rw [hparked]; exact hm)).trans (hother m hm)⟩
  rw [hrest]
  rfl

/-! ### The earliest deferred fault (R90) -/

/-- Of two deferred faults the one issued earlier, the first where there is no other. -/
def earlierFault : Option Deferred → Deferred → Option Deferred
  | none, d => some d
  | some b, d => if d.seq < b.seq then some d else some b

theorem takeFault_eq (g : Group) (covered : Deferred → Bool) :
    g.takeFault covered = ((g.deferred.filter covered).foldl earlierFault none).map fun d =>
      (d.info, { g with deferred := g.deferred.filter fun x => x != d }) := by
  unfold Group.takeFault
  dsimp only
  congr 2
  funext a d
  cases a <;> rfl

/-- A fault issued before all others of a list is the one that is found. -/
theorem foldl_earlierFault {d : Deferred} {l : List Deferred} {a : Option Deferred} (hmin : ∀ e ∈ l, e ≠ d → d.seq < e.seq)
    (ha : ∀ b, a = some b → b ≠ d → d.seq < b.seq) (hd : a = some d ∨ d ∈ l) : l.foldl earlierFault a = some d := by
  induction l generalizing a with
  | nil => simpa using hd
  | cons e r ih =>
    rw [List.foldl_cons]
    have hr := fun x hx => hmin x (List.mem_cons_of_mem _ hx)
    have he := hmin e List.mem_cons_self
    refine ih hr (fun b hb hne => ?_) ?_
    · cases a with
      | none => exact (Option.some.inj hb) ▸ he (by rintro rfl; exact hne (Option.some.inj hb).symm)
      | some c =>
        have hb' : (if e.seq < c.seq then some e else some c) = some b := hb
        split at hb'
        · exact Option.some.inj hb' ▸ he (by rintro rfl; exact hne (Option.some.inj hb').symm)
        · exact ha b (Option.some.inj hb' ▸ rfl) hne
    · by_cases hed : e = d
      · subst hed
        left
        cases a with
        | none => rfl
        | some c =>
          unfold earlierFault
          by_cases hc : c = e
          · subst hc
            simp
          · exact if_pos (ha c rfl hc)
      · rcases hd with rfl | hd
        · left
          exact if_neg (Nat.not_lt.2 (Nat.le_of_lt (he hed)))
        · right
          exact (List.mem_cons.1 hd).resolve_left fun h => hed h.symm

theorem takeFault_none {g : Group} {covered : Deferred → Bool} (h : ∀ d ∈ g.deferred, covered d = false) :
    g.takeFault covered = none := by
  rw [takeFault_eq, List.filter_eq_nil_iff.2 (by simpa using h)]
  rfl

theorem takeFault_first {g : Group} {covered : Deferred → Bool} {d : Deferred} (hd : d ∈ g.deferred) (hc : covered d = true)
    (hmin : ∀ e ∈ g.deferred, covered e = true → e ≠ d → d.seq < e.seq) :
    g.takeFault covered = some (d.info, { g with deferred := g.deferred.filter fun x => x != d }) := by
  rw [takeFault_eq, foldl_earlierFault (d := d) (fun e he => hmin e (List.mem_filter.1 he).1 (List.mem_filter.1 he).2)
    (by simp) (.inr (List.mem_filter.2 ⟨hd, hc⟩))]
  rfl

/-- A trap raised for a group that has changed its deferred faults: it stops as TRAPPED with the trap's cause and address. -/
theorem trap_setGroup_leaves {u : State} {n : Nat} {g x : Group} (hx : u.group n = some x) (hgid : g.gid = n) {cl : Clause}
    (hcl : g.clause = some cl) (len : Nat) (i : TrapInfo) :
    ∃ h, ((Eff.trap (u.setGroup g) i).finish n len).group n = some h ∧ h.status = .trapped ∧ h.trapCause = i.cause ∧
      h.trapAddr = i.addr ∧ h.splits = g.splits ∧ h.deferred = g.deferred := by
  have hgrp : (u.setGroup g).group n = some g := group_setGroup_eq hgid hx
  refine ⟨g.trapped (g.resumeAt cl i true cl.pc len), ?_, rfl, rfl, rfl, rfl, rfl⟩
  unfold Eff.finish State.trapGroup
  simp only [hgrp, hcl]
  have hleave : ((u.setGroup g).leaveEnq g).group n = some g := by
    unfold State.leaveEnq
    split
    · exact hgrp
    · exact hgrp
  exact group_setGroup_eq hgid hleave

/-! ### The end of a wait for a class (R90, R163, R168) -/

/-- The group after a wait for at most n operations of a class: it owes no more acquires that the wait covers. -/
def Group.acquired (g : Group) (c : Counter) (n : Nat) : Group :=
  { g with acqs := g.acqs.filter fun x => !(x.1 == c && g.covers c n x.2) }

/-- The machine after the wait but for the group: the L1 is empty where the wait covers an acquire. -/
def State.flashed (s : State) (g : Group) (core : Nat) (c : Counter) (n : Nat) : State :=
  if g.acqs.any fun x => x.1 == c && g.covers c n x.2 then s.setMem (s.mem.flash core) else s

theorem flashed_group (s : State) (g : Group) (core : Nat) (c : Counter) (n m : Nat) : (s.flashed g core c n).group m = s.group m := by
  unfold State.flashed
  split <;> rfl

theorem acquireWait_eq {s : State} {g : Group} (hg : s.group g.gid = some g) (core : Nat) (c : Counter) (n : Nat) :
    s.acquireWait g core c n = (s.flashed g core c n).setGroup (g.acquired c n) :=
  onGroup_eq _ ((flashed_group s g core c n _).trans hg)

/-- The class that a WAITC code names (R90). -/
theorem counterOf_of_getElem {k : Nat} {c : Counter}
    (h : [Counter.ld, .sfu, .mma, .cpy, .fab, .spn][k]? = some c) : counterOf k = c := by
  match k with
  | 0 | 1 | 2 | 3 | 4 | 5 => exact Option.some.inj h
  | _ + 6 => simp at h

theorem exec_waitc_parks {s : State} {I : Issue} (h : s.issue = some I) {o : CtlOp} (hc : I.clear (.waitc o) = true) {c : Counter}
    {n : Nat} (hcls : counterOf (o.imm.extractLsb' 8 3).toNat = c) (hn : (o.imm.extractLsb' 0 8).toNat = n)
    (hlt : n < I.g.counter c) : exec (.waitc o) s = .next (I.parksOn .retry) := by
  rw [exec_waitc, execWaitc, ctl_clear h hc]
  subst hcls hn
  dsimp only
  rw [if_pos hlt, park_finish h]

/-- A WAITC whose operations are over: it ends, or traps the earliest deferred fault that it covers (R90). -/
theorem exec_waitc_over {s : State} {I : Issue} (h : s.issue = some I) {o : CtlOp} (hc : I.clear (.waitc o) = true) {c : Counter}
    {n : Nat} (hcls : counterOf (o.imm.extractLsb' 8 3).toNat = c) (hn : (o.imm.extractLsb' 0 8).toNat = n)
    (hle : I.g.counter c ≤ n) :
    exec (.waitc o) s = .next (((match (I.g.acquired c n).takeFault fun d => d.cls == c && I.g.covers c n d.nth with
      | some (i, g) => Eff.trap (((s.flashed I.g I.core c n).setGroup (I.g.acquired c n)).setGroup g) i
      | none => .done ((s.flashed I.g I.core c n).setGroup (I.g.acquired c n)))).finish I.g.gid (instrBytes (.waitc o))) := by
  obtain ⟨rfl, hgrp, -⟩ := issue_spec h
  have hown : ((I.s.flashed I.g I.core c n).setGroup (I.g.acquired c n)).group I.g.gid = some (I.g.acquired c n) :=
    group_setGroup_eq rfl ((flashed_group _ _ _ _ _ _).trans hgrp)
  rw [exec_waitc, execWaitc, ctl_clear h hc]
  subst hcls hn
  dsimp only
  rw [if_neg (Nat.not_lt.2 hle), acquireWait_eq hgrp, hown]
  rfl

end Sys2Proof.Machine
end

section
/-!
PROOFS. YIELD, YIELDC, SLEEP and WAITC (O32).
-/
namespace Sys2Proof.Machine
set_option Elab.async false

/-- A clause that YIELDC ends: the group has given its window back and goes on at the target (R21, R87). -/
theorem yieldc_leaves (s : State) (I : Issue) (pc : Addr) :
    let g := (I.g.endClause I.cl pc s.cycle).freeWindow s.cycle
    g.gid = I.g.gid ∧ g.clause = none ∧ g.window = false ∧ g.interval = true ∧
      (I.cl.marker = false → g.status = .resident) ∧ g.regs = I.g.regs ∧
      ∀ x ∈ g.splits, x.label = I.cl.split → x.pc = pc := by
  unfold Group.freeWindow Group.endClause Group.closeClause
  refine ⟨?_, ?_, rfl, rfl, fun hm => ?_, ?_, fun x hx hl => ?_⟩
  · dsimp only
    split <;> rfl
  · dsimp only
    split <;> rfl
  · simp [hm]
  · dsimp only
    split <;> rfl
  · have hsplits : x ∈ I.g.splits.map fun x => if x.label == I.cl.split then { x with pc := pc } else x := by
      dsimp only at hx
      split at hx <;> exact hx
    obtain ⟨y, -, rfl⟩ := List.mem_map.1 hsplits
    by_cases hy : (y.label == I.cl.split) = true
    · rw [if_pos hy]
    · rw [if_neg hy] at hl
      exact absurd (beq_iff_eq.2 hl) hy

/-- A SLEEP of some cycles parks until they are over, and gives its window back for 4096 of them or more (R88). -/
theorem sleep_leaves {s : State} {I : Issue} (h : s.issue = some I) {o : CtlOp} (hc : I.clear (.sleep o) = true) (h0 : o.imm ≠ 0)
    (h1 : I.g.prog ≠ 1) :
    ∃ t g, exec (.sleep o) s = .next t ∧ t.group I.g.gid = some g ∧ g.status = .parked (.sleep (s.cycle + o.imm.toNat)) ∧
      (g.window = true ↔ (I.g.window = true ∧ o.imm.toNat < 4096)) ∧ g.clause = I.g.clause ∧ g.regs = I.g.regs ∧
      s.sameButGroup t I.g.gid := by
  obtain ⟨rfl, hgrp, -⟩ := issue_spec h
  rw [exec_sleep, execSleep, ctl_clear h hc, if_neg (not_or.2 ⟨h0, h1⟩)]
  dsimp only
  by_cases hlong : 4096 ≤ o.imm.toNat
  · have hfree : (I.s.setGroup (I.g.freeWindow I.s.cycle)).group I.g.gid = some (I.g.freeWindow I.s.cycle) :=
      group_setGroup_eq rfl hgrp
    obtain ⟨c, hg, hs⟩ := park_leaves hfree (setGroup_sameButGroup I.s rfl) (.sleep (I.s.cycle + o.imm.toNat))
      (instrBytes (.sleep o))
    rw [if_pos hlong]
    exact ⟨_, _, rfl, hg, rfl, by simp [Group.parkOn, Group.freeWindow, hlong], rfl, rfl, hs⟩
  · obtain ⟨c, hg, hs⟩ := park_leaves hgrp ⟨rfl, fun _ _ => rfl⟩ (.sleep (I.s.cycle + o.imm.toNat)) (instrBytes (.sleep o))
    rw [if_neg hlong]
    exact ⟨_, _, rfl, hg, rfl, by simp [Group.parkOn, Nat.lt_of_not_le hlong], rfl, rfl, hs⟩

end Sys2Proof.Machine

open Sys2Proof Sys2Proof.Machine

/-- Settles O32: each instruction by what its end leaves of its group; a wait that is over traps the deferred fault that the
search for the earliest finds. -/
theorem waits : Obligations.Waits := by
  unfold Obligations.Waits
  refine fun s I o h => ⟨fun hc => ?_, fun hc => ?_, fun hc => ⟨fun hnow => ?_, fun h0 h1 => sleep_leaves h hc h0 h1⟩, fun hc => ?_⟩
  · rw [exec_yield, execYield, ctl_clear h hc, group_finish h]
    obtain ⟨rfl, -⟩ := issue_spec h
    rfl
  · have hexec : exec (.yieldc o) s = .next (s.setGroup ((I.g.endClause I.cl (I.target o.imm) s.cycle).freeWindow s.cycle)) := by
      obtain ⟨rfl, -⟩ := issue_spec h
      rw [exec_yieldc, execYieldc, ctl_clear h hc]
      rfl
    obtain ⟨-, hgrp, -⟩ := issue_spec h
    obtain ⟨hgid, hclause, hwindow, hinterval, hstatus, hregs, hpc⟩ := yieldc_leaves s I (I.target o.imm)
    exact ⟨_, _, hexec, group_setGroup_eq hgid hgrp, hclause, hwindow, hinterval, hstatus, hregs,
      target_eq_long I o.imm ▸ hpc, setGroup_sameButGroup s hgid⟩
  · rw [exec_sleep, execSleep, ctl_clear h hc, if_pos hnow, ended_finish h]
  · intro n k c hk hcls
    have hcls' : counterOf (o.imm.extractLsb' 8 3).toNat = c := hk ▸ counterOf_of_getElem hcls
    have hn : (o.imm.extractLsb' 0 8).toNat = n := by
      rw [BitVec.extractLsb'_toNat, Nat.shiftRight_zero]
    refine ⟨exec_waitc_parks h hc hcls' hn, fun hle => ?_⟩
    have hover := exec_waitc_over h hc hcls' hn hle
    obtain ⟨-, hgrp, hcl, -⟩ := issue_spec h
    refine ⟨fun hnone => ?_, fun d hd hdc hcov hmin => ?_⟩
    · rw [hover, takeFault_none fun d hd => ?_]
      · rfl
      · by_contra hcov
        exact hnone d hd (by simpa [Group.covers] using hcov)
    · rw [hover, takeFault_first (g := I.g.acquired c n) hd (by simpa [Group.covers, hdc] using hcov) fun e he hce hne =>
        hmin e he (by simp at hce; exact hce.1) (by simp at hce; exact hce.2) hne]
      have hown : ((s.flashed I.g I.core c n).setGroup (I.g.acquired c n)).group I.g.gid = some (I.g.acquired c n) :=
        group_setGroup_eq rfl ((flashed_group _ _ _ _ _ _).trans hgrp)
      obtain ⟨u, hu, hstatus, hcause, haddr, -, hdef⟩ := trap_setGroup_leaves hown
        (g := { I.g.acquired c n with deferred := I.g.deferred.filter fun x => x != d }) rfl hcl (instrBytes (.waitc o)) d.info
      exact ⟨_, u, rfl, hu, hstatus, hcause, haddr, hdef⟩
end

section
/-!
SUPPORT. Splits and join records: free labels and records, the fusion of the splits that wait at a record (R76, R78).
-/
namespace Sys2Proof.Machine
set_option Elab.async false

/-! ### The lowest lane of a set (R7) -/

/-- The lowest lane of a set as a number, 64 where it is empty. -/
def firstLane (m : LaneSet) : Nat := (lowest m).getD 64

theorem lowest_eq_find (m : LaneSet) : lowest m = (List.range 64).find? m.getLsbD :=
  List.head?_filter

theorem getLsbD_of_lt_firstLane {m : LaneSet} {i : Nat} (h : i < firstLane m) : m.getLsbD i = false := by
  unfold firstLane at h
  rw [lowest_eq_find] at h
  cases hf : (List.range 64).find? m.getLsbD with
  | none =>
    rw [hf] at h
    simpa using List.find?_range_eq_none.1 hf i h
  | some n =>
    rw [hf] at h
    simpa using (List.find?_range_eq_some.1 hf).2.2 i h

theorem getLsbD_firstLane {m : LaneSet} (h : firstLane m < 64) : m.getLsbD (firstLane m) = true := by
  unfold firstLane at h ⊢
  rw [lowest_eq_find] at h ⊢
  cases hf : (List.range 64).find? m.getLsbD with
  | none => simp [hf] at h
  | some n => exact (List.find?_range_eq_some.1 hf).1

theorem firstLane_lt_of_ne_zero {m : LaneSet} (h : m ≠ 0) : firstLane m < 64 := by
  by_contra hge
  refine h (BitVec.eq_of_getLsbD_eq fun i hi => ?_)
  rw [getLsbD_of_lt_firstLane (by omega)]
  simp

/-! ### Parts of a fusion (R78) -/

/-- The lanes of some parts together. -/
theorem getLsbD_foldl_or (ps : List (LaneSet × BitVec 5)) (a : LaneSet) (n : Nat) :
    (ps.foldl (fun m p => m ||| p.1) a).getLsbD n = (a.getLsbD n || ps.any fun p => p.1.getLsbD n) := by
  induction ps generalizing a with
  | nil => simp
  | cons p r ih => rw [List.foldl_cons, ih, BitVec.getLsbD_or, List.any_cons, Bool.or_assoc]

/-- The flags of a fusion are those of a part that has no lane above the lowest of any other. -/
theorem lowestCc_part {ps : List (LaneSet × BitVec 5)} (h : ps ≠ []) :
    ∃ p ∈ ps, lowestCc ps = p.2 ∧ ∀ q ∈ ps, firstLane p.1 ≤ firstLane q.1 := by
  induction ps with
  | nil => exact absurd rfl h
  | cons x r ih =>
    obtain ⟨m, c⟩ := x
    unfold lowestCc
    split
    · rename_i hlower
      obtain ⟨y, hy, hlt⟩ := List.any_eq_true.1 hlower
      have hlt' : firstLane y.1 < firstLane m := of_decide_eq_true hlt
      obtain ⟨p, hp, hcc, hmin⟩ := ih (List.ne_nil_of_mem hy)
      refine ⟨p, List.mem_cons_of_mem _ hp, hcc, fun q hq => ?_⟩
      rcases List.mem_cons.1 hq with rfl | hq
      · exact (hmin y hy).trans hlt'.le
      · exact hmin q hq
    · rename_i hlower
      refine ⟨(m, c), List.mem_cons_self, rfl, fun q hq => ?_⟩
      rcases List.mem_cons.1 hq with rfl | hq
      · exact Nat.le_refl _
      · by_contra hlt
        exact hlower (List.any_eq_true.2 ⟨q, hq, decide_eq_true (Nat.lt_of_not_le hlt)⟩)

/-- The lowest lane of some parts lies in one whose flags the fusion takes. -/
theorem lowestCc_lane {ps : List (LaneSet × BitVec 5)} {m : LaneSet} (hm : m = ps.foldl (fun m p => m ||| p.1) 0) (h : m ≠ 0) :
    ∃ n, (∀ k < n, m.getLsbD k = false) ∧ ∃ p ∈ ps, p.1.getLsbD n = true ∧ lowestCc ps = p.2 := by
  have hbit : ∀ n, m.getLsbD n = ps.any fun p => p.1.getLsbD n := fun n => by
    rw [hm, getLsbD_foldl_or]
    simp
  have hlow := getLsbD_firstLane (firstLane_lt_of_ne_zero h)
  rw [hbit] at hlow
  obtain ⟨q, hq, hqn⟩ := List.any_eq_true.1 hlow
  obtain ⟨p, hp, hcc, hmin⟩ := lowestCc_part (List.ne_nil_of_mem hq)
  have hle : firstLane p.1 ≤ firstLane m := by
    by_contra hgt
    have hfalse := getLsbD_of_lt_firstLane ((Nat.lt_of_not_le hgt).trans_le (hmin q hq))
    rw [hqn] at hfalse
    exact absurd hfalse (by simp)
  refine ⟨firstLane p.1, fun k hk => ?_, p, hp, getLsbD_firstLane (hle.trans_lt (firstLane_lt_of_ne_zero h)), hcc⟩
  rw [hbit, List.any_eq_false]
  exact fun q hq => by simp [getLsbD_of_lt_firstLane (hk.trans_le (hmin q hq))]

/-! ### Records and labels (R76) -/

theorem setSplit_eq (g : Group) (x : Split) :
    g.setSplit x = { g with splits := g.splits.map fun y => if y.label = x.label then x else y } := by
  simp [Group.setSplit]

theorem setJoin_eq (g : Group) (j : Join) :
    g.setJoin j = { g with joins := g.joins.map fun x => if x.idx = j.idx then j else x } := by
  simp [Group.setJoin]

theorem joinAt_idx {g : Group} {k : Nat} {j : Join} (h : g.joinAt k = some j) : j.idx = k := by
  simpa using List.find?_some h

/-- A join record that is replaced and then freed is freed. -/
theorem setJoin_dropJoin (g : Group) {j : Join} {k : Nat} (h : j.idx = k) : (g.setJoin j).dropJoin k = g.dropJoin k := by
  subst h
  unfold Group.setJoin Group.dropJoin
  congr 1
  dsimp only
  induction g.joins with
  | nil => rfl
  | cons x r ih =>
    rw [List.map_cons, List.filter_cons, List.filter_cons, ih]
    by_cases hx : x.idx = j.idx <;> simp [hx]

/-- With at most four splits there is a label that none has (R76, R274). -/
theorem freeLabel_ne {g : Group} (h : g.splits.length ≤ 4) : ∀ x ∈ g.splits, x.label ≠ g.freeLabel := by
  unfold Group.freeLabel
  cases hf : (List.range 6).find? fun n => !(g.splits.any fun x => x.label == n) && (g.resume.map Resume.split) != some n with
  | some n =>
    have hn := List.find?_some hf
    simp only [Bool.and_eq_true, Bool.not_eq_true', List.any_eq_false, beq_iff_eq] at hn
    exact hn.1
  | none =>
    have hall : List.range 6 ⊆ g.splits.map Split.label ++ (g.resume.map Resume.split).toList := fun n hn => by
      have hn := List.find?_eq_none.1 hf n hn
      simp only [Bool.and_eq_true, Bool.not_eq_true', List.any_eq_false, beq_iff_eq, bne_iff_ne, not_and, not_not] at hn
      by_cases hr : g.resume.map Resume.split = some n
      · simp [hr]
      · refine List.mem_append_left _ (List.mem_map.2 ?_)
        by_contra hno
        exact hr (hn fun x hx e => hno ⟨x, hx, e⟩)
    have hlen := (List.nodup_range.subperm hall).length_le
    rw [List.length_append, List.length_map, List.length_range] at hlen
    have hone : (g.resume.map Resume.split).toList.length ≤ 1 := by cases g.resume <;> simp
    omega

theorem freeJoin_eq_none {g : Group} (h : ∀ n < 16, ∃ j ∈ g.joins, j.idx = n) : g.freeJoin = none := by
  unfold Group.freeJoin
  rw [List.find?_range_eq_none]
  intro n hn
  simpa using h n hn

theorem freeJoin_eq_some {g : Group} {n : Nat} (hn : n < 16) (hfree : ∀ j ∈ g.joins, j.idx ≠ n)
    (hlow : ∀ k < n, ∃ j ∈ g.joins, j.idx = k) : g.freeJoin = some n := by
  unfold Group.freeJoin
  rw [List.find?_range_eq_some]
  exact ⟨by simpa using hfree, List.mem_range.2 hn, fun k hk => by simpa using hlow k hk⟩

/-! ### Fusion (R78) -/

/-- A split that is parked at a join record. -/
def Split.waitsAt (x : Split) (k : Nat) : Prop := x.parked = true ∧ x.join = some k

theorem waitsAt_iff (x : Split) (k : Nat) : (x.parked && x.join == some k) = true ↔ x.waitsAt k := by
  simp [Split.waitsAt]

/-- What the split that a fusion makes has of those that waited at the record, and of the record itself (R78, R274). -/
structure FusedFrom (g : Group) (j : Join) (one : Split) : Prop where
  join : one.join = j.parent
  parked : one.parked = false
  lanes : ∀ n, one.lanes.getLsbD n = true ↔
    (j.done.getLsbD n = true ∨ ∃ x ∈ g.splits, x.waitsAt j.idx ∧ x.lanes.getLsbD n = true)
  pc : ∃ x ∈ g.splits, x.waitsAt j.idx ∧ one.pc = x.pc
  cc : one.lanes ≠ 0 → ∃ n, (∀ m < n, one.lanes.getLsbD m = false) ∧
    ((j.done.getLsbD n = true ∧ one.cc = j.doneCc) ∨ ∃ x ∈ g.splits, x.waitsAt j.idx ∧ x.lanes.getLsbD n = true ∧ one.cc = x.cc)
  label : ∀ r, g.resume = some r → (∃ x ∈ g.splits, x.waitsAt j.idx ∧ x.label = r.split) → one.label = r.split

/-- The parts that a fusion brings together: the splits that wait, and the lanes that are done (R78). -/
def Group.parts (g : Group) (j : Join) : List (LaneSet × BitVec 5) :=
  ((g.splits.filter fun x => x.parked && x.join == some j.idx).map fun x => (x.lanes, x.cc)) ++
    (if j.done = 0 then [] else [(j.done, j.doneCc)])

theorem mem_parts {g : Group} {j : Join} {p : LaneSet × BitVec 5} :
    p ∈ g.parts j ↔ (∃ x ∈ g.splits, x.waitsAt j.idx ∧ (x.lanes, x.cc) = p) ∨ (j.done ≠ 0 ∧ p = (j.done, j.doneCc)) := by
  unfold Group.parts
  rw [List.mem_append, List.mem_map]
  refine or_congr (exists_congr fun x => ?_) ?_
  · rw [List.mem_filter, waitsAt_iff, and_assoc]
  · by_cases hd : j.done = 0 <;> simp [hd]

/-- The fusion of a join record at which some split waits (R78). -/
theorem fuse_spec {g : Group} {j : Join} (h : ∃ x ∈ g.splits, x.waitsAt j.idx) : ∃ one, FusedFrom g j one ∧
    g.fuse j = { g with
      splits := one :: g.splits.filter fun y => !(y.parked && y.join == some j.idx)
      joins := g.joins.filter fun x => x.idx != j.idx } := by
  have hmem : ∀ x, x ∈ g.splits.filter (fun x => x.parked && x.join == some j.idx) ↔ x ∈ g.splits ∧ x.waitsAt j.idx := fun x => by
    rw [List.mem_filter, waitsAt_iff]
  obtain ⟨z, hz, hzw⟩ := h
  cases hhere : g.splits.filter fun x => x.parked && x.join == some j.idx with
  | nil =>
    have hin := (hmem z).2 ⟨hz, hzw⟩
    rw [hhere] at hin
    exact absurd hin (by simp)
  | cons x r =>
    obtain ⟨hx, hxw⟩ := (hmem x).1 (by rw [hhere]; exact List.mem_cons_self)
    have hany : ∀ n, ((g.parts j).any fun p => p.1.getLsbD n) = true ↔
        (j.done.getLsbD n = true ∨ ∃ x ∈ g.splits, x.waitsAt j.idx ∧ x.lanes.getLsbD n = true) := fun n => by
      rw [List.any_eq_true]
      constructor
      · rintro ⟨p, hp, hn⟩
        rcases mem_parts.1 hp with ⟨y, hy, hyw, rfl⟩ | ⟨-, rfl⟩
        · exact .inr ⟨y, hy, hyw, hn⟩
        · exact .inl hn
      · rintro (hn | ⟨y, hy, hyw, hn⟩)
        · exact ⟨_, mem_parts.2 (.inr ⟨by rintro h0; simp [h0] at hn, rfl⟩), hn⟩
        · exact ⟨_, mem_parts.2 (.inl ⟨y, hy, hyw, rfl⟩), hn⟩
    refine ⟨{ label := (((x :: r).find? fun y => (g.resume.map Resume.split) == some y.label).getD x).label, pc := x.pc
              lanes := (g.parts j).foldl (fun m p => m ||| p.1) 0, cc := lowestCc (g.parts j), join := j.parent }, ?_, ?_⟩
    · refine ⟨rfl, rfl, fun n => ?_, ⟨x, hx, hxw, rfl⟩, fun hne => ?_, fun q hq ⟨y, hy, hyw, hyl⟩ => ?_⟩
      · rw [← hany n, getLsbD_foldl_or]
        simp
      · obtain ⟨n, hlow, p, hp, hpn, hcc⟩ := lowestCc_lane rfl hne
        refine ⟨n, hlow, ?_⟩
        rcases mem_parts.1 hp with ⟨y, hy, hyw, rfl⟩ | ⟨-, rfl⟩
        · exact .inr ⟨y, hy, hyw, hpn, hcc⟩
        · exact .inl ⟨hpn, hcc⟩
      · have hsome : ((x :: r).find? fun y => (g.resume.map Resume.split) == some y.label).isSome := by
          rw [← hhere, List.find?_isSome]
          exact ⟨y, (hmem y).2 ⟨hy, hyw⟩, by simp [hq, hyl]⟩
        obtain ⟨w, hw⟩ := Option.isSome_iff_exists.1 hsome
        have hwl := List.find?_some hw
        rw [hq] at hwl
        rw [hw]
        exact (Option.some.inj (beq_iff_eq.1 hwl)).symm
    · unfold Group.fuse
      dsimp only
      rw [hhere]
      unfold Group.parts
      rw [hhere]
      rfl

end Sys2Proof.Machine
end

section
/-!
SUPPORT. SPLIT and MERGE, one equation for each way that they end (R77, R84, R85).
-/
namespace Sys2Proof.Machine
set_option Elab.async false

/-! ### SPLIT (R84) -/

/-- The active lanes that hold non-zero, and the others (R84). -/
def Issue.taken (I : Issue) (o : CtlOp) : LaneSet := I.active &&& laneSet fun i => I.xbar o.w.xa o.w.a i != 0
def Issue.left (I : Issue) (o : CtlOp) : LaneSet := I.active &&& ~~~I.taken o

/-- The join record of a SPLIT (R84). -/
def Issue.forkJoin (I : Issue) (o : CtlOp) (k : Nat) : Join :=
  { idx := k, merge := I.joinTarget o, parent := I.sp.join, kind := .split, count := 2, handler := I.g.handling }

section Split
variable {I : Issue} {o : CtlOp}

theorem split_none (hT : I.taken o = 0) : I.split o = .goto I.s I.next := if_pos hT

theorem split_all (hT : I.taken o ≠ 0) (hF : I.left o = 0) : I.split o = .goto I.s (I.target o.imm) :=
  (if_neg hT).trans (if_pos hF)

theorem split_full (hT : I.taken o ≠ 0) (hF : I.left o ≠ 0) (hk : I.g.freeJoin = none) : I.split o = I.trap SOFTWARE 16 := by
  refine (if_neg hT).trans ((if_neg hF).trans ?_)
  rw [hk]

theorem split_fork {k : Nat} (hT : I.taken o ≠ 0) (hF : I.left o ≠ 0) (hk : I.g.freeJoin = some k) (hroom : I.g.splits.length < 4) :
    I.split o = .goto (I.s.setGroup { I.g with
      splits := (I.g.splits.map fun x => if x.label = I.sp.label then { I.sp with lanes := I.left o, join := some k } else x) ++
        [{ label := I.g.freeLabel, pc := I.target o.imm, lanes := I.taken o, cc := I.sp.cc, join := some k }]
      joins := I.g.joins ++ [I.forkJoin o k] }) I.next := by
  refine (if_neg hT).trans ((if_neg hF).trans ?_)
  rw [hk]
  dsimp only
  rw [if_pos hroom, setSplit_eq]
  rfl

theorem split_serial {k : Nat} (hT : I.taken o ≠ 0) (hF : I.left o ≠ 0) (hk : I.g.freeJoin = some k) (hroom : 4 ≤ I.g.splits.length) :
    I.split o = .goto (I.s.setGroup { I.g with
      splits := I.g.splits.map fun x => if x.label = I.sp.label then { I.sp with lanes := I.taken o, join := some k } else x
      joins := I.g.joins ++
        [{ I.forkJoin o k with kind := .serial, count := 1, rest := I.left o, restPc := I.next, restCc := I.sp.cc }] })
      (I.target o.imm) := by
  refine (if_neg hT).trans ((if_neg hF).trans ?_)
  rw [hk]
  dsimp only
  rw [if_neg (Nat.not_lt.2 hroom), setSplit_eq]
  rfl

end Split

theorem exec_split_runs {s : State} {I : Issue} (h : s.issue = some I) {o : CtlOp} (hc : I.clear (.split o) = true) :
    exec (.split o) s = .next ((I.split o).finish I.g.gid (instrBytes (.split o))) := by
  rw [exec_split, execSplit, ctl_clear h hc]

/-! ### MERGE (R85) -/

theorem exec_merge_settles {s : State} {I : Issue} (h : s.issue = some I) {o : CtlOp} (hc : I.clear (.merge o) = true) :
    exec (.merge o) s = .next (s.setGroup (I.g.merge I.sp I.cl I.next s.cycle)) := by
  obtain ⟨rfl, -⟩ := issue_spec h
  rw [exec_merge, execMerge, ctl_clear h hc]
  rfl

section Merge
variable {g : Group} {sp : Split} {cl : Clause} {next : Addr} {cycle k : Nat} {j : Join}

theorem merge_elsewhere (h : sp.join = none ∨ ∃ k j, sp.join = some k ∧ g.joinAt k = some j ∧ j.merge ≠ cl.addr) :
    g.merge sp cl next cycle = g.endClause cl next cycle := by
  unfold Group.merge
  rcases h with h | ⟨k, j, hk, hj, hm⟩
  · rw [h]
    rfl
  · rw [hk, Option.bind_some, hj]
    exact if_pos (bne_iff_ne.2 hm)

variable (hk : sp.join = some k) (hj : g.joinAt k = some j) (hm : j.merge = cl.addr)
include hk hj hm

/-- The lanes of a SERIAL record that go first are done, and its remainder goes on (R85). -/
theorem merge_rest (hs : j.kind = .serial) (hr : j.rest ≠ 0) : g.merge sp cl next cycle =
    ({ g with
      splits := g.splits.map fun x => if x.label = sp.label then { sp with lanes := j.rest, cc := j.restCc } else x
      joins := g.joins.map fun x => if x.idx = j.idx then
        { j with done := sp.lanes, doneCc := sp.cc, donePc := next, rest := 0 } else x } : Group).endClause cl j.restPc cycle := by
  unfold Group.merge
  rw [show sp.join.bind g.joinAt = some j by rw [hk]; exact hj]
  refine (if_neg (by simp [hm])).trans ((if_pos (by simpa [hs] using hr)).trans ?_)
  rw [setSplit_eq, setJoin_eq]

/-- The group after a split has parked at its record, one less to come (R85). -/
def Group.parkedAt (g : Group) (sp : Split) (j : Join) : Group :=
  { g with
    splits := g.splits.map fun x => if x.label = sp.label then { sp with parked := true } else x
    joins := g.joins.map fun x => if x.idx = j.idx then { j with count := j.count - 1 } else x }

theorem merge_parks (hs : j.kind = .split ∨ j.rest = 0) : g.merge sp cl next cycle =
    if j.count - 1 = 0 then ((g.parkedAt sp j).endClause cl next cycle).fuse { j with count := j.count - 1 }
    else (g.parkedAt sp j).endClause cl next cycle := by
  unfold Group.merge
  rw [show sp.join.bind g.joinAt = some j by rw [hk]; exact hj]
  have hrest : ¬(j.kind == .serial && j.rest != 0) = true := by
    rcases hs with hs | hs <;> simp [hs]
  refine (if_neg (by simp [hm])).trans ((if_neg hrest).trans ?_)
  dsimp only
  rw [setSplit_eq, setJoin_eq]
  rfl

end Merge

/-! ### The splits as a clause ends (R16) -/

theorem endClause_splits (g : Group) (cl : Clause) (pc : Addr) (n : Nat) :
    (g.endClause cl pc n).splits = g.splits.map fun x => if x.label == cl.split then { x with pc := pc } else x :=
  closeClause_splits _ _ _

@[simp] theorem closeClause_clause (g : Group) (cl : Clause) (n : Nat) : (g.closeClause cl n).clause = none := by
  unfold Group.closeClause
  dsimp only
  split <;> rfl

@[simp] theorem endClause_clause (g : Group) (cl : Clause) (pc : Addr) (n : Nat) : (g.endClause cl pc n).clause = none :=
  closeClause_clause _ _ _

theorem closeClause_keeps (g : Group) (cl : Clause) (n : Nat) :
    (g.closeClause cl n).joins = g.joins ∧ (g.closeClause cl n).regs = g.regs ∧ (g.closeClause cl n).ports = g.ports ∧
      (g.closeClause cl n).resume = g.resume := by
  unfold Group.closeClause
  dsimp only
  split <;> exact ⟨rfl, rfl, rfl, rfl⟩

end Sys2Proof.Machine
end

section
/-!
PROOFS. SPLIT and MERGE (O31).
-/
namespace Sys2Proof.Machine
set_option Elab.async false

/-- A split as it stands after the MERGE of the last split of its record, before the fusion. -/
def Split.parkedInto (sp : Split) (next : Addr) (x : Split) : Split :=
  if x.label = sp.label then { sp with parked := true, pc := next } else x

theorem mem_parkedInto {g : Group} {sp : Split} (hsp : sp ∈ g.splits) (next : Addr) (y : Split) :
    y ∈ g.splits.map (sp.parkedInto next) ↔ y = { sp with parked := true, pc := next } ∨ (y ∈ g.splits ∧ y.label ≠ sp.label) := by
  rw [List.mem_map]
  unfold Split.parkedInto
  constructor
  · rintro ⟨x, hx, rfl⟩
    by_cases hl : x.label = sp.label
    · exact .inl (if_pos hl)
    · rw [if_neg hl]
      exact .inr ⟨hx, hl⟩
  · rintro (rfl | ⟨hy, hl⟩)
    · exact ⟨sp, hsp, if_pos rfl⟩
    · exact ⟨y, hy, if_neg hl⟩

section Last
variable {g : Group} {sp : Split} {cl : Clause} {next : Addr} {cycle k : Nat} {j : Join}

theorem parkedAt_endClause_splits (hl : cl.split = sp.label) :
    ((g.parkedAt sp j).endClause cl next cycle).splits = g.splits.map (sp.parkedInto next) := by
  rw [endClause_splits]
  show (g.splits.map fun x => if x.label = sp.label then { sp with parked := true } else x).map _ = _
  rw [List.map_map]
  refine List.map_congr_left fun x _ => ?_
  unfold Split.parkedInto
  by_cases hx : x.label = sp.label <;> simp [hl, hx]

/-- The group after the last MERGE of a record (R78, R85): the record is free, the splits that do not wait at it stay, and the
others are one. -/
theorem fuse_leaves (hsp : sp ∈ g.splits) (hl : cl.split = sp.label) (hk : sp.join = some k) (hidx : j.idx = k) :
    let h := ((g.parkedAt sp j).endClause cl next cycle).fuse { j with count := j.count - 1 }
    h.gid = g.gid ∧ (∀ x ∈ h.joins, x.idx ≠ k) ∧ (∀ x ∈ g.joins, x.idx ≠ k → x ∈ h.joins) ∧ h.regs = g.regs ∧
      h.clause = none ∧
      (∀ x ∈ g.splits, x.label ≠ sp.label → ¬(x.label ≠ sp.label ∧ x.waitsAt k) → x ∈ h.splits) ∧
      ∃ one ∈ h.splits, one.join = j.parent ∧ one.parked = false ∧
        (∀ n, one.lanes.getLsbD n = true ↔ (sp.lanes.getLsbD n = true ∨ j.done.getLsbD n = true ∨
          ∃ x ∈ g.splits, (x.label ≠ sp.label ∧ x.waitsAt k) ∧ x.lanes.getLsbD n = true)) ∧
        ((∀ x ∈ g.splits, (x.label ≠ sp.label ∧ x.waitsAt k) → x.pc = next) → one.pc = next) ∧
        (sp.lanes ≠ 0 → ∃ n, (∀ m < n, one.lanes.getLsbD m = false) ∧
          ((sp.lanes.getLsbD n = true ∧ one.cc = sp.cc) ∨ (j.done.getLsbD n = true ∧ one.cc = j.doneCc) ∨
            ∃ x ∈ g.splits, (x.label ≠ sp.label ∧ x.waitsAt k) ∧ x.lanes.getLsbD n = true ∧ one.cc = x.cc)) ∧
        (∀ r, g.resume = some r →
          (sp.label = r.split ∨ ∃ x ∈ g.splits, (x.label ≠ sp.label ∧ x.waitsAt k) ∧ x.label = r.split) → one.label = r.split) := by
  subst hidx
  intro h
  obtain ⟨hjoins, hregs, -, hresume⟩ := closeClause_keeps ({ g.parkedAt sp j with splits := (g.parkedAt sp j).splits.map fun x =>
    if x.label == cl.split then { x with pc := next } else x }) cl cycle
  have hmem : ∀ y, y ∈ ((g.parkedAt sp j).endClause cl next cycle).splits ↔
      y = { sp with parked := true, pc := next } ∨ (y ∈ g.splits ∧ y.label ≠ sp.label) := fun y => by
    rw [parkedAt_endClause_splits hl, mem_parkedInto hsp]
  have hself : ({ sp with parked := true, pc := next } : Split).waitsAt j.idx := ⟨rfl, hk⟩
  obtain ⟨one, hone, hfuse⟩ := fuse_spec (g := (g.parkedAt sp j).endClause cl next cycle)
    (j := { j with count := j.count - 1 }) ⟨_, (hmem _).2 (.inl rfl), hself⟩
  have hh : h = _ := hfuse
  have hsplits : ∀ x, x ∈ h.splits ↔
      x = one ∨ (x ∈ ((g.parkedAt sp j).endClause cl next cycle).splits ∧ ¬x.waitsAt j.idx) := fun x => by
    rw [hh, List.mem_cons, List.mem_filter, Bool.not_eq_true', ← Bool.not_eq_true, waitsAt_iff]
  have hjoin : ∀ x, x ∈ h.joins ↔ x ∈ (g.parkedAt sp j).joins ∧ x.idx ≠ j.idx := fun x => by
    rw [hh, List.mem_filter, bne_iff_ne]
    exact and_congr_left' (by rw [← hjoins]; rfl)
  have hlanes : ∀ n, one.lanes.getLsbD n = true ↔ (sp.lanes.getLsbD n = true ∨ j.done.getLsbD n = true ∨
      ∃ x ∈ g.splits, (x.label ≠ sp.label ∧ x.waitsAt j.idx) ∧ x.lanes.getLsbD n = true) := fun n => by
    rw [hone.lanes]
    constructor
    · rintro (hd | ⟨x, hx, hw, hn⟩)
      · exact .inr (.inl hd)
      · rcases (hmem x).1 hx with rfl | ⟨hx, hne⟩
        · exact .inl hn
        · exact .inr (.inr ⟨x, hx, ⟨hne, hw⟩, hn⟩)
    · rintro (hn | hd | ⟨x, hx, ⟨hne, hw⟩, hn⟩)
      · exact .inr ⟨_, (hmem _).2 (.inl rfl), hself, hn⟩
      · exact .inl hd
      · exact .inr ⟨x, (hmem x).2 (.inr ⟨hx, hne⟩), hw, hn⟩
  refine ⟨?_, fun x hx => ((hjoin x).1 hx).2, fun x hx hne => (hjoin x).2 ⟨List.mem_map.2 ⟨x, hx, if_neg hne⟩, hne⟩, ?_, ?_,
    fun x hx hne hw => (hsplits x).2 (.inr ⟨(hmem x).2 (.inr ⟨hx, hne⟩), fun hw' => hw ⟨hne, hw'⟩⟩), one,
    (hsplits one).2 (.inl rfl), hone.join, hone.parked, hlanes, fun hpc => ?_, fun hsp0 => ?_, fun r hr hx => ?_⟩
  · rw [hh]
    exact endClause_gid _ _ _ _
  · rw [hh]
    exact hregs
  · rw [hh]
    exact endClause_clause _ _ _ _
  · obtain ⟨x, hx, hw, hone'⟩ := hone.pc
    rw [hone']
    rcases (hmem x).1 hx with rfl | ⟨hx, hne⟩
    · rfl
    · exact hpc x hx ⟨hne, hw⟩
  · have hne : one.lanes ≠ 0 := fun h0 => hsp0 (BitVec.eq_of_getLsbD_eq fun n _ => by
      have hn := mt (hlanes n).2 (by simp [h0])
      simpa using fun hbit => hn (.inl hbit))
    obtain ⟨n, hlow, hcc⟩ := hone.cc hne
    refine ⟨n, hlow, ?_⟩
    rcases hcc with hd | ⟨x, hx, hw, hn, hcc⟩
    · exact .inr (.inl hd)
    · rcases (hmem x).1 hx with rfl | ⟨hx, hne⟩
      · exact .inl ⟨hn, hcc⟩
      · exact .inr (.inr ⟨x, hx, ⟨hne, hw⟩, hn, hcc⟩)
  · refine hone.label r (hresume.trans hr) ?_
    rcases hx with hx | ⟨x, hx, ⟨hne, hw⟩, hxr⟩
    · exact ⟨_, (hmem _).2 (.inl rfl), hself, hx⟩
    · exact ⟨x, (hmem x).2 (.inr ⟨hx, hne⟩), hw, hxr⟩

end Last

/-- The issuing split is one of its group's, the one of its clause. -/
theorem issue_split {s : State} {I : Issue} (h : s.issue = some I) : I.sp ∈ I.g.splits ∧ I.cl.split = I.sp.label := by
  obtain ⟨-, -, -, -, hsp, -⟩ := issue_spec h
  have hlabel := List.find?_some hsp
  exact ⟨List.mem_of_find?_eq_some hsp, (beq_iff_eq.1 hlabel).symm⟩

end Sys2Proof.Machine

open Sys2Proof Sys2Proof.Machine

/-- Settles O31: SPLIT and MERGE by the equations of each way that they end, the last MERGE by what a fusion leaves. -/
theorem splitsAndMerges : Obligations.SplitsAndMerges := by
  unfold Obligations.SplitsAndMerges
  intro s I o h next target T F merge ends
  have hnext : I.next = next := next_eq_long I
  have htarget : I.target o.imm = target := target_eq_long I o.imm
  have hmerge : I.joinTarget o = merge := pc_add_words I _
  refine ⟨fun hc => ?_, fun hc => ?_⟩
  · have hexec := exec_split_runs h hc
    refine ⟨fun hT => ?_, fun hT hF => ?_, fun hT hF hfull => ?_, fun hT hF n hn hfree hlow => ?_⟩
    · rw [hexec, split_none hT, goto_finish h, hnext]
    · rw [hexec, split_all hT hF, goto_finish h, htarget]
    · rw [hexec, split_full hT hF (freeJoin_eq_none hfull), trap_finish h]
    · intro j
      have hk := freeJoin_eq_some hn hfree hlow
      have hj : I.forkJoin o n = j := by
        unfold Issue.forkJoin
        rw [hmerge]
      refine ⟨fun hroom => ⟨I.g.freeLabel, freeLabel_ne (Nat.le_of_lt hroom), ?_⟩, fun hroom => ?_⟩
      · rw [hexec, split_fork hT hF hk hroom, goto_setGroup_finish h, hnext, htarget, hj]
        rfl
      · rw [hexec, split_serial hT hF hk hroom, goto_setGroup_finish h, hnext, htarget, hj]
        rfl
  · have hexec := exec_merge_settles h hc
    rw [hnext] at hexec
    refine ⟨fun helse => hexec.trans (by rw [merge_elsewhere helse]), fun k j hk hj hm => ?_⟩
    intro g here
    refine ⟨fun hs h2 => ?_, fun hs h1 => ?_, fun hs hr => ?_⟩
    · refine hexec.trans ?_
      rw [merge_parks hk hj hm hs, if_neg (by omega)]
      rfl
    · obtain ⟨hsp, hl⟩ := issue_split h
      obtain ⟨-, hgrp, -⟩ := issue_spec h
      rw [merge_parks hk hj hm hs, if_pos (by omega)] at hexec
      obtain ⟨hgid, hgone, hjoins, hregs, hclause, hstay, hone⟩ :=
        fuse_leaves (next := next) (cycle := s.cycle) hsp hl hk (joinAt_idx hj)
      exact ⟨_, _, hexec, group_setGroup_eq hgid hgrp, hgone, hjoins, setGroup_sameButGroup s hgid, hregs, hclause, hstay, hone⟩
    · refine hexec.trans ?_
      rw [merge_rest hk hj hm hs hr]
end

section
/-!
SUPPORT. What the exit of a split does to the join records above it, one equation for each way that it ends (R76, R78, R86).
-/
namespace Sys2Proof.Machine
set_option Elab.async false

theorem exitJoins_none (n : Nat) (g : Group) : Group.exitJoins n g none = g := by
  cases n <;> rfl

theorem exitJoins_unlisted (n : Nat) {g : Group} {k : Nat} (hj : g.joinAt k = none) : Group.exitJoins n g (some k) = g := by
  cases n with
  | zero => rfl
  | succ n =>
    unfold Group.exitJoins
    rw [hj]

section Joins
variable {g : Group} {k : Nat} {j : Join} (n : Nat) (hj : g.joinAt k = some j)
include hj

/-- The remainder of a SERIAL record is revived where it waits (R86). -/
theorem exitJoins_rest (hs : j.kind = .serial) (hr : j.rest ≠ 0) : Group.exitJoins (n + 1) g (some k) = { g with
    splits := g.splits ++ [{ label := g.freeLabel, pc := j.restPc, lanes := j.rest, cc := j.restCc, join := some k }]
    joins := g.joins.map fun x => if x.idx = k then { j with rest := 0 } else x } := by
  have hidx := joinAt_idx hj
  unfold Group.exitJoins
  rw [hj]
  refine (if_pos (by simpa [hs] using hr)).trans ?_
  rw [setJoin_eq]
  subst hidx
  rfl

section Counted
variable (hs : j.kind = .split ∨ j.rest = 0)
include hs

/-- Any other record counts one less (R86); its group then goes on by what the record still counts. -/
theorem exitJoins_counts : Group.exitJoins (n + 1) g (some k) =
    let c := { j with count := j.count - 1 }
    if c.count ≠ 0 then g.setJoin c
    else if (g.setJoin c).splits.any fun x => x.parked && x.join == some k then (g.setJoin c).fuse c
    else if c.done != 0 then
      ({ g.setJoin c with splits := g.splits ++ [{ label := g.freeLabel, pc := j.donePc, lanes := j.done, cc := j.doneCc, join := j.parent }] } :
        Group).dropJoin k
    else Group.exitJoins n ((g.setJoin c).dropJoin k) j.parent := by
  have hrest : ¬(j.kind == .serial && j.rest != 0) = true := by
    rcases hs with hs | hs <;> simp [hs]
  conv_lhs => unfold Group.exitJoins
  rw [hj]
  exact if_neg hrest

theorem exitJoins_more (h2 : 2 ≤ j.count) : Group.exitJoins (n + 1) g (some k) =
    { g with joins := g.joins.map fun x => if x.idx = k then { j with count := j.count - 1 } else x } := by
  have hidx := joinAt_idx hj
  rw [exitJoins_counts n hj hs]
  refine (if_pos (by show j.count - 1 ≠ 0; omega)).trans ?_
  rw [setJoin_eq]
  subst hidx
  rfl

variable (h1 : j.count ≤ 1)
include h1

theorem exitJoins_fuse (hw : ∃ x ∈ g.splits, x.waitsAt k) :
    Group.exitJoins (n + 1) g (some k) = (g.setJoin { j with count := j.count - 1 }).fuse { j with count := j.count - 1 } := by
  obtain ⟨x, hx, hw⟩ := hw
  rw [exitJoins_counts n hj hs]
  refine (if_neg (by show ¬j.count - 1 ≠ 0; omega)).trans (if_pos ?_)
  exact List.any_eq_true.2 ⟨x, hx, (waitsAt_iff x k).2 hw⟩

variable (hw : ¬∃ x ∈ g.splits, x.waitsAt k)
include hw

theorem exitJoins_alone : Group.exitJoins (n + 1) g (some k) =
    if j.done ≠ 0 then { g with
      splits := g.splits ++ [{ label := g.freeLabel, pc := j.donePc, lanes := j.done, cc := j.doneCc, join := j.parent }]
      joins := g.joins.filter fun x => x.idx != k }
    else Group.exitJoins n (g.dropJoin k) j.parent := by
  have hidx := joinAt_idx hj
  have hnone : ¬((g.setJoin { j with count := j.count - 1 }).splits.any fun x => x.parked && x.join == some k) = true := fun hany => by
    obtain ⟨x, hx, hxw⟩ := List.any_eq_true.1 hany
    exact hw ⟨x, hx, (waitsAt_iff x k).1 hxw⟩
  have hdrop := setJoin_dropJoin g (j := { j with count := j.count - 1 }) hidx
  rw [exitJoins_counts n hj hs]
  refine (if_neg (by show ¬j.count - 1 ≠ 0; omega)).trans ((if_neg hnone).trans ?_)
  rw [hdrop]
  by_cases hd : j.done = 0
  · rw [if_neg (not_not_intro hd)]
    exact if_neg (by simpa using hd)
  · rw [if_pos hd]
    refine (if_pos (by simpa using hd)).trans ?_
    have hjoins : ((g.setJoin { j with count := j.count - 1 }).joins.filter fun x => x.idx != k) = g.joins.filter fun x => x.idx != k :=
      congrArg Group.joins hdrop
    unfold Group.dropJoin
    dsimp only
    rw [hjoins]
    rfl

end Counted

end Joins

/-- Each way that a record meets the exit of a split (R86). -/
theorem join_cases (g : Group) (k : Nat) (j : Join) : (j.kind = .serial ∧ j.rest ≠ 0) ∨ ((j.kind = .split ∨ j.rest = 0) ∧
    (2 ≤ j.count ∨ (j.count ≤ 1 ∧ ((∃ x ∈ g.splits, x.waitsAt k) ∨ ¬∃ x ∈ g.splits, x.waitsAt k)))) := by
  by_cases hs : j.kind = .serial ∧ j.rest ≠ 0
  · exact .inl hs
  · refine .inr ⟨?_, ?_⟩
    · cases hk : j.kind with
      | split => exact .inl rfl
      | serial => exact .inr (by_contra fun hr => hs ⟨hk, hr⟩)
    · by_cases h2 : 2 ≤ j.count
      · exact .inl h2
      · exact .inr ⟨by omega, em _⟩

/-- The records above a split are freed one by one, so that their number is enough fuel. -/
theorem exitJoins_fuel {n : Nat} {g : Group} (h : g.joins.length ≤ n) (p : Option Nat) :
    Group.exitJoins (n + 1) g p = Group.exitJoins n g p := by
  induction n generalizing g p with
  | zero =>
    have hnil : g.joins = [] := List.length_eq_zero_iff.1 (Nat.le_zero.1 h)
    cases p with
    | none => rfl
    | some k => rw [exitJoins_unlisted _ (by simp [Group.joinAt, hnil]), exitJoins_unlisted _ (by simp [Group.joinAt, hnil])]
  | succ n ih =>
    cases p with
    | none => rfl
    | some k =>
      cases hj : g.joinAt k with
      | none => rw [exitJoins_unlisted _ hj, exitJoins_unlisted _ hj]
      | some j =>
        rcases join_cases g k j with ⟨hs, hr⟩ | ⟨hs, h2 | ⟨h1, hw | hw⟩⟩
        · rw [exitJoins_rest _ hj hs hr, exitJoins_rest _ hj hs hr]
        · rw [exitJoins_more _ hj hs h2, exitJoins_more _ hj hs h2]
        · rw [exitJoins_fuse _ hj hs h1 hw, exitJoins_fuse _ hj hs h1 hw]
        · have hlt : (g.dropJoin k).joins.length ≤ n := by
            have hdrop : (g.joins.filter fun x => x.idx != k).length < g.joins.length :=
              List.length_filter_lt_length_iff_exists.2 ⟨j, List.mem_of_find?_eq_some hj, by simp [joinAt_idx hj]⟩
            exact Nat.le_of_lt_succ (hdrop.trans_le h)
          rw [exitJoins_alone _ hj hs h1 hw, exitJoins_alone _ hj hs h1 hw, ih hlt]

/-- The exit of a split changes the splits and joins of its group alone, and leaves a split where there was one. -/
theorem exitJoins_changes (n : Nat) (g : Group) (p : Option Nat) :
    Group.exitJoins n g p = { g with splits := (Group.exitJoins n g p).splits, joins := (Group.exitJoins n g p).joins } ∧
      (g.splits ≠ [] → (Group.exitJoins n g p).splits ≠ []) := by
  induction n generalizing g p with
  | zero => exact ⟨rfl, id⟩
  | succ n ih =>
    cases p with
    | none => exact ⟨rfl, id⟩
    | some k =>
      cases hj : g.joinAt k with
      | none =>
        rw [exitJoins_unlisted _ hj]
        exact ⟨rfl, id⟩
      | some j =>
        rcases join_cases g k j with ⟨hs, hr⟩ | ⟨hs, h2 | ⟨h1, hw | hw⟩⟩
        · rw [exitJoins_rest _ hj hs hr]
          exact ⟨rfl, fun _ => by simp⟩
        · rw [exitJoins_more _ hj hs h2]
          exact ⟨rfl, id⟩
        · have hidx := joinAt_idx hj
          obtain ⟨one, -, hfuse⟩ := fuse_spec (g := g.setJoin { j with count := j.count - 1 }) (j := { j with count := j.count - 1 })
            (by rw [hidx]; exact hw)
          rw [exitJoins_fuse _ hj hs h1 hw, hfuse]
          exact ⟨rfl, fun _ => by simp⟩
        · rw [exitJoins_alone _ hj hs h1 hw]
          split
          · exact ⟨rfl, fun _ => by simp⟩
          · obtain ⟨hsame, hne⟩ := ih (g.dropJoin k) j.parent
            exact ⟨hsame, hne⟩

/-- The other splits of a group. -/
def Group.others (g : Group) (sp : Split) : List Split := g.splits.filter fun y => y.label != sp.label

theorem mem_others {g : Group} {sp x : Split} : x ∈ g.others sp ↔ x ∈ g.splits ∧ x.label ≠ sp.label := by
  unfold Group.others
  rw [List.mem_filter, bne_iff_ne]

theorem exitSplit_eq (g : Group) (sp : Split) :
    g.exitSplit sp = Group.exitJoins 17 { g with splits := g.others sp } sp.join := rfl

/-- A group of at most four splits has at most three beside one of them. -/
theorem length_others_lt {g : Group} {sp : Split} (hsp : sp ∈ g.splits) : (g.others sp).length < g.splits.length :=
  List.length_filter_lt_length_iff_exists.2 ⟨sp, hsp, by simp⟩

/-! ### The waits of EXIT (R86) -/

theorem quiet_iff (g : Group) : g.quiet = true ↔ ∀ c, g.counter c = 0 := by
  unfold Group.quiet
  simp only [Bool.and_eq_true, drained_iff, beq_iff_eq]
  constructor
  · rintro ⟨⟨⟨⟨hld, hsfu, hmma⟩, hcpy⟩, hfab⟩, hspn⟩ c
    cases c <;> assumption
  · intro h
    exact ⟨⟨⟨⟨h _, h _, h _⟩, h _⟩, h _⟩, h _⟩

theorem onlyPorts_iff (g : Group) : g.onlyPorts = true ↔ (∀ c, c ≠ .cpy → g.counter c = 0) ∧
    ∀ p ∈ g.ops, p.done = true ∨ (p.cls = .cpy ∧ ∃ q ∈ g.ports, q.cmd = p.ref) := by
  unfold Group.onlyPorts
  simp only [Bool.and_eq_true, drained_iff, beq_iff_eq, List.all_eq_true, Bool.or_eq_true, List.any_eq_true]
  refine and_congr_left' ⟨?_, fun h => ?_⟩
  · rintro ⟨⟨⟨hld, hsfu, hmma⟩, hfab⟩, hspn⟩ c hc
    cases c with
    | ld => exact hld
    | sfu => exact hsfu
    | mma => exact hmma
    | cpy => exact absurd rfl hc
    | fab => exact hfab
    | spn => exact hspn
  · exact ⟨⟨⟨h _ (by simp), h _ (by simp), h _ (by simp)⟩, h _ (by simp)⟩, h _ (by simp)⟩

section Exit
variable {s : State} {I : Issue} {o : CtlOp} (h : s.issue = some I) (hc : I.clear (.exit o) = true)
include h hc

theorem exec_exit_runs : exec (.exit o) s = .next (I.exit.finish I.g.gid (instrBytes (.exit o))) := by
  rw [exec_exit, execExit, ctl_clear h hc]

/-- EXIT waits for whatever is outstanding but bound ports alone of a group whose last split it ends (R86; log 25). -/
theorem exit_waits (hb : ∃ c, I.g.counter c ≠ 0)
    (hp : I.g.ports = [] ∨ (I.g.exitSplit I.sp).splits ≠ [] ∨ ∃ c, c ≠ .cpy ∧ I.g.counter c ≠ 0) :
    exec (.exit o) s = .next (I.parksOn .retry) := by
  have hquiet : (!I.g.quiet) = true := by
    obtain ⟨c, hc⟩ := hb
    rw [Bool.not_eq_true', ← Bool.not_eq_true, quiet_iff]
    exact fun hall => hc (hall c)
  have hno : ¬((I.g.exitSplit I.sp).splits.isEmpty && !I.g.ports.isEmpty && I.g.onlyPorts) = true := fun hyes => by
    simp only [Bool.and_eq_true, Bool.not_eq_true', List.isEmpty_eq_false_iff, List.isEmpty_iff, onlyPorts_iff] at hyes
    obtain ⟨⟨hempty, hports⟩, honly, -⟩ := hyes
    rcases hp with hp | hp | ⟨c, hcpy, hne⟩
    · exact hports hp
    · exact hp hempty
    · exact hne (honly c hcpy)
  rw [exec_exit_runs h hc]
  unfold Issue.exit
  rw [if_pos hquiet, if_neg hno, park_finish h]

/-- With nothing outstanding, EXIT traps a deferred fault (R86, R90). -/
theorem exit_traps (hq : ∀ c, I.g.counter c = 0) {i : TrapInfo} {g : Group} (ht : (I.g.takeFault fun _ => true) = some (i, g)) :
    exec (.exit o) s = .next ((Eff.trap (I.s.setGroup g) i).finish I.g.gid (instrBytes (.exit o))) := by
  rw [exec_exit_runs h hc]
  unfold Issue.exit
  simp only [(quiet_iff I.g).2 hq, ht, Bool.not_true, Bool.false_eq_true, if_false]

/-- With nothing outstanding and no deferred fault, EXIT ends the split (R86). -/
theorem exit_settles (hq : ∀ c, I.g.counter c = 0) (ht : (I.g.takeFault fun _ => true) = none) :
    exec (.exit o) s = .next (if ((I.g.exitSplit I.sp).closeClause I.cl I.s.cycle).splits.isEmpty then I.s.exitGroup I.g.gid
      else I.s.setGroup ((I.g.exitSplit I.sp).closeClause I.cl I.s.cycle)) := by
  rw [exec_exit_runs h hc]
  unfold Issue.exit
  simp only [(quiet_iff I.g).2 hq, ht, Bool.not_true, Bool.false_eq_true, if_false]
  split <;> rfl

variable (hq : ∀ c, I.g.counter c = 0) (hd : I.g.deferred = [])
include hq hd

/-- The exit of a split that leaves another: the group goes on with its other splits (R86). -/
theorem exit_goes_on (hne : (I.g.exitSplit I.sp).splits ≠ []) :
    let x := (I.g.exitSplit I.sp).closeClause I.cl s.cycle
    exec (.exit o) s = .next (s.setGroup x) ∧ (s.setGroup x).group I.g.gid = some x ∧
      x.splits = (I.g.exitSplit I.sp).splits ∧ x.joins = (I.g.exitSplit I.sp).joins ∧ x.clause = none ∧ x.ports = I.g.ports ∧
      x.regs = I.g.regs ∧ s.sameButGroup (s.setGroup x) I.g.gid := by
  intro x
  obtain ⟨hsame, -⟩ := exitJoins_changes 17 { I.g with splits := I.g.others I.sp } I.sp.join
  rw [← exitSplit_eq] at hsame
  obtain ⟨hjoins, hregs, hports, -⟩ := closeClause_keeps (I.g.exitSplit I.sp) I.cl s.cycle
  have hgid : x.gid = I.g.gid := by
    rw [closeClause_gid, hsame]
  have hx : x.splits = (I.g.exitSplit I.sp).splits := closeClause_splits _ _ _
  obtain ⟨rfl, hgrp, -⟩ := issue_spec h
  refine ⟨?_, group_setGroup_eq hgid hgrp, hx, hjoins, closeClause_clause _ _ _, hports.trans ?_, hregs.trans ?_,
    setGroup_sameButGroup _ hgid⟩
  · rw [exit_settles h hc hq (takeFault_none (by simp [hd])), if_neg (by rw [List.isEmpty_iff]; exact hx ▸ hne)]
  · rw [hsame]
  · rw [hsame]

/-- The exit of the last split ends the group (R86). -/
theorem exit_last (hnil : (I.g.exitSplit I.sp).splits = []) : exec (.exit o) s = .next (s.exitGroup I.g.gid) := by
  obtain ⟨rfl, -⟩ := issue_spec h
  rw [exit_settles h hc hq (takeFault_none (by simp [hd])), if_pos (by rw [closeClause_splits, hnil]; rfl)]

end Exit

end Sys2Proof.Machine
end

section
/-!
SUPPORT. The end of a group that exits, and of its team (R86, R260).
-/
namespace Sys2Proof.Machine
set_option Elab.async false

/-- The launches are the same, and every group of the second machine was one of the first, of the same team. -/
def State.noNewMembers (s t : State) : Prop :=
  t.launches = s.launches ∧ ∀ g ∈ t.groups, ∃ h ∈ s.groups, h.gid = g.gid ∧ h.team = g.team

theorem State.noNewMembers.refl (s : State) : s.noNewMembers s := ⟨rfl, fun g hg => ⟨g, hg, rfl, rfl⟩⟩

theorem State.noNewMembers.trans {s t u : State} (h : s.noNewMembers t) (k : t.noNewMembers u) : s.noNewMembers u := by
  obtain ⟨hl, hg⟩ := h
  obtain ⟨kl, kg⟩ := k
  refine ⟨kl.trans hl, fun g hgu => ?_⟩
  obtain ⟨x, hx, hxg, hxt⟩ := kg g hgu
  obtain ⟨y, hy, hyg, hyt⟩ := hg x hx
  exact ⟨y, hy, hyg.trans hxg, hyt.trans hxt⟩

theorem State.sameUnits.noNewMembers {s t : State} (h : s.sameUnits t) : s.noNewMembers t := by
  obtain ⟨hg, -, hl⟩ := h
  exact ⟨hl, fun g hgt => ⟨g, hg ▸ hgt, rfl, rfl⟩⟩

theorem foldl_noNewMembers {α : Type} {f : State → α → State} (l : List α) (s : State)
    (hf : ∀ (s : State) (a : α), s.noNewMembers (f s a)) : s.noNewMembers (l.foldl f s) :=
  List.foldlRecOn l f (motive := s.noNewMembers) (.refl s) fun t ht a _ => ht.trans (hf t a)

/-- A group changed in place keeps its id and team where the change does. -/
theorem onGroup_noNewMembers (s : State) (n : Nat) {f : Group → Group} (hf : ∀ g, (f g).gid = g.gid ∧ (f g).team = g.team) :
    s.noNewMembers (s.onGroup n f) := by
  unfold State.onGroup
  split
  · rename_i x hx
    refine ⟨rfl, fun g hg => ?_⟩
    obtain ⟨y, hy, rfl⟩ := List.mem_map.1 hg
    split
    · exact ⟨x, List.mem_of_find?_eq_some hx, (hf x).1.symm, (hf x).2.symm⟩
    · exact ⟨y, hy, rfl, rfl⟩
  · exact .refl s

theorem carryOut_noNewMembers (s : State) (x : Flight) : s.noNewMembers (s.carryOut x) := by
  have hgain : ∀ (u : State) seq ws, u.noNewMembers (u.onGroup x.gid fun g => g.gain seq ws) := fun u _ _ =>
    onGroup_noNewMembers u x.gid fun _ => ⟨rfl, rfl⟩
  unfold State.carryOut
  split
  · exact ((acquireFlight_sameUnits s x).trans (readFlight_sameUnits _ x)).noNewMembers.trans (hgain _ _ _)
  · split
    · exact (setMem_sameUnits s _).noNewMembers
    · split
      · exact ⟨rfl, fun g hg => ⟨g, hg, rfl, rfl⟩⟩
      · exact .refl s
  · have hword : ∀ m, s.noNewMembers (((s.flushShown x.core x.pa 4).setMem m).acquireFlight x) := fun m =>
      (((flushShown_sameUnits s x.core x.pa 4).trans (setMem_sameUnits _ m)).trans (acquireFlight_sameUnits _ x)).noNewMembers
    dsimp only
    split
    · exact (hword _).trans (hgain _ _ _)
    · exact hword _
  · exact (acquireFlight_sameUnits s x).noNewMembers

theorem carry_noNewMembers (s : State) (x : Flight) : s.noNewMembers (s.carry x) := by
  unfold State.carry
  split
  · exact .refl s
  · rename_i l _
    have hland : s.noNewMembers { s with flights := some (l.erase x) } := ⟨rfl, fun g hg => ⟨g, hg, rfl, rfl⟩⟩
    split
    · exact hland.trans (carryOut_noNewMembers _ x)
    · exact .refl s

theorem drain_noNewMembers (s : State) (p : Flight → Bool) : s.noNewMembers (s.drain p) := by
  unfold State.drain
  split
  · exact .refl s
  · exact foldl_noNewMembers _ s carry_noNewMembers

theorem serveWaits_noNewMembers (ctx ctr n : Nat) (s : State) : s.noNewMembers (State.serveWaits ctx ctr n s) := by
  induction n generalizing s with
  | zero => exact .refl s
  | succ n ih =>
    unfold State.serveWaits
    split
    · exact .refl s
    · split
      · exact .refl s
      · rename_i c _ _ w _
        dsimp only
        split
        · exact .refl s
        · have hset : ∀ c, s.noNewMembers (s.setContext c) := fun c => ⟨rfl, fun g hg => ⟨g, hg, rfl, rfl⟩⟩
          refine State.noNewMembers.trans ?_ (ih _)
          exact (hset _).trans (onGroup_noNewMembers (f := fun g => { g with woken := true }) _ w.gid fun _ => ⟨rfl, rfl⟩)

theorem forgetGroup_noNewMembers (s : State) (gid : Nat) : s.noNewMembers (s.forgetGroup gid) :=
  State.noNewMembers.trans (t := s.dropGroup gid) ⟨rfl, fun g hg => ⟨g, (List.mem_filter.1 hg).1, rfl, rfl⟩⟩
    (foldl_noNewMembers _ _ fun u _ => serveWaits_noNewMembers _ _ _ u)

theorem removeGroup_noNewMembers (s : State) (gid : Nat) : s.noNewMembers (s.removeGroup gid) := by
  unfold State.removeGroup
  split
  · exact forgetGroup_noNewMembers s gid
  · rename_i q _
    exact (((drain_noNewMembers s _).trans (releaseArray_onlyArrays _ gid).sameUnits.noNewMembers).trans
      (forgetGroup_noNewMembers _ gid)).trans ((retestBarriers_sameUnits _).trans
        ((arbitrate_onlyArrays _ q).trans (freeLatch_onlyArrays _ q)).sameUnits).noNewMembers

/-- A removed group leaves no other group of its id. -/
theorem removeGroup_gid_ne (s : State) (gid : Nat) : ∀ g ∈ (s.removeGroup gid).groups, g.gid ≠ gid := fun g hg => by
  simpa using List.find?_eq_none.1 (removeGroup_group s gid) g hg

/-! ### The end of a team (R86, R260) -/

theorem dropCluster_keeps (s : State) (cid : Nat) : (s.dropCluster cid).teams = s.teams ∧ (s.dropCluster cid).launches = s.launches := by
  unfold State.dropCluster
  split <;> exact ⟨rfl, rfl⟩

theorem endLaunch_host_teams (s : State) {l : Launch} (h : l.origin = .host) (status cause : Byte) :
    (s.endLaunch l status cause).teams = s.teams := by
  unfold State.endLaunch State.completeLaunch
  simp only [h]
  exact (devDo_sameUnits _ _).2.1

/-- A team that ends is gone, and brings no group back, where its launch is the host's. -/
theorem endTeam_gone {s : State} {t : Team} {l : Launch} (hl : s.launch t.launch = some l) (ho : l.origin = .host) :
    s.noNewUnits (s.endTeam t) ∧ (s.endTeam t).team t.tid = none := by
  obtain ⟨hteams, hlaunches⟩ := dropCluster_keeps (s.dropTeam t) t.cluster
  have hkeep := (dropTeam_noNewUnits s t).trans (dropCluster_noNewUnits (s.dropTeam t) t.cluster)
  have hgone : ((s.dropTeam t).dropCluster t.cluster).team t.tid = none := by
    unfold State.team
    rw [hteams]
    exact List.find?_eq_none.2 fun x hx => by simpa using (List.mem_filter.1 hx).2
  have hsame : ((s.dropTeam t).dropCluster t.cluster).launch t.launch = some l := by
    unfold State.launch
    rw [hlaunches]
    exact hl
  unfold State.endTeam
  dsimp only
  rw [hsame]
  dsimp only
  split
  · refine ⟨hkeep.trans (endLaunch_noNewUnits _ (.inl ho) 0 0), ?_⟩
    unfold State.team
    rw [endLaunch_host_teams _ ho]
    exact hgone
  · exact ⟨hkeep, hgone⟩

/-- A group that has exited is gone; so is its team where it was the last of its groups (R86). -/
theorem exitGroup_gone {s : State} {g : Group} {t : Team} {l : Launch} (hg : s.group g.gid = some g) (ht : s.team g.team = some t)
    (hl : s.launch t.launch = some l) (ho : l.origin = .host) :
    (s.exitGroup g.gid).group g.gid = none ∧
      ((∀ h ∈ s.groups, h.team = t.tid → h.gid = g.gid) → (s.exitGroup g.gid).team t.tid = none) := by
  obtain ⟨hlaunches, hmembers⟩ := removeGroup_noNewMembers s g.gid
  have hl' : (s.removeGroup g.gid).launch t.launch = some l := by
    unfold State.launch
    rw [hlaunches]
    exact hl
  have hbind : (s.group g.gid).bind (fun g => s.team g.team) = some t := by
    rw [hg, Option.bind_some, ht]
  unfold State.exitGroup
  rw [hbind]
  dsimp only
  split
  · rename_i hany
    refine ⟨removeGroup_group s g.gid, fun hlast => ?_⟩
    obtain ⟨x, hx, hxt⟩ := List.any_eq_true.1 hany
    obtain ⟨y, hy, hyg, hyt⟩ := hmembers x hx
    exact absurd (hyg.symm.trans (hlast y hy (hyt.trans (beq_iff_eq.1 hxt)))) (removeGroup_gid_ne s g.gid x hx)
  · obtain ⟨hkeep, hgone⟩ := endTeam_gone hl' ho
    exact ⟨hkeep.1 _ (removeGroup_group s g.gid), fun _ => hgone⟩

end Sys2Proof.Machine
end

section
/-!
SUPPORT. Port bindings that an EXIT ends (R345; log 25).
-/
namespace Sys2Proof.Machine
set_option Elab.async false

/-! ### Engine commands by their id -/

theorem engine_cid {s : State} {c : Nat} {e : Engine} (h : s.engine c = some e) : e.cid = c := by
  simpa using List.find?_some h

theorem engine_setEngine_same {s : State} {c : Nat} {e x : Engine} (hc : e.cid = c) (h : s.engine c = some x) :
    (s.setEngine e).engine c = some e := by
  subst hc
  exact find_replace_same h (by simp)

theorem engine_setEngine_other (s : State) {c : Nat} {e : Engine} (h : c ≠ e.cid) : (s.setEngine e).engine c = s.engine c := by
  refine find_replace_other (by simpa using h.symm) fun y hy => ?_
  simpa [beq_iff_eq.1 hy] using h.symm

theorem engine_dropEngine_same (s : State) (c : Nat) : (s.dropEngine c).engine c = none :=
  List.find?_eq_none.2 fun x hx => by simpa using (List.mem_filter.1 hx).2

theorem engine_dropEngine_other (s : State) {c d : Nat} (h : c ≠ d) : (s.dropEngine d).engine c = s.engine c := by
  show (s.engines.filter fun e => e.cid != d).find? _ = s.engines.find? _
  rw [List.find?_filter]
  congr 1
  funext e
  by_cases he : e.cid = c <;> simp [he, h]

@[simp] theorem setGroup_engine (s : State) (g : Group) (c : Nat) : (s.setGroup g).engine c = s.engine c := rfl

theorem onGroup_engines (s : State) (n : Nat) (f : Group → Group) : (s.onGroup n f).engines = s.engines := by
  unfold State.onGroup
  split <;> rfl

theorem onGroup_engine (s : State) (n : Nat) (f : Group → Group) (c : Nat) : (s.onGroup n f).engine c = s.engine c := by
  unfold State.engine
  rw [onGroup_engines]

theorem complete_gid (g : Group) (seq : Nat) (f : Option TrapInfo) : (g.complete seq f).gid = g.gid := by
  rw [complete_changes]

/-- The end of a command changes of a group the operations outstanding, the acquires owed and the deferred faults alone. -/
theorem engineDone_group {s : State} {n : Nat} {g : Group} (hg : s.group n = some g) (e : Engine) (f : Option TrapInfo) :
    ∃ ops acqs ds, (s.engineDone e f).group n = some { g with ops := ops, acqs := acqs, deferred := ds } := by
  unfold State.engineDone
  have hg' : ((s.dropEngine e.cid).dropWaits (.engine e.cid)).group n = some g := hg
  by_cases hn : e.gid = n
  · have hsame := complete_changes g e.seq f
    refine ⟨(g.complete e.seq f).ops, (g.complete e.seq f).acqs, (g.complete e.seq f).deferred, ?_⟩
    rw [hn, onGroup_eq _ hg', ← hsame]
    exact group_setGroup_eq ((complete_gid g e.seq f).trans (group_gid hg)) hg'
  · refine ⟨g.ops, g.acqs, g.deferred, ?_⟩
    unfold State.onGroup
    split
    · rename_i x hx
      have hgid : (x.complete e.seq f).gid = e.gid := (complete_gid x e.seq f).trans (group_gid hx)
      rw [group_setGroup_other _ (by rw [hgid]; exact Ne.symm hn)]
      exact hg'
    · exact hg'

theorem engineDone_engine (s : State) (e : Engine) (f : Option TrapInfo) (c : Nat) :
    (s.engineDone e f).engine c = if c = e.cid then none else s.engine c := by
  unfold State.engineDone
  rw [onGroup_engine]
  show (s.dropEngine e.cid).engine c = _
  split
  · rename_i hc
    rw [hc]
    exact engine_dropEngine_same s e.cid
  · rename_i hc
    exact engine_dropEngine_other s hc

/-! ### One binding (R345) -/

/-- A group after some of its port bindings have ended: the ports of some registers are gone, and nothing else that a program
sees has changed. -/
structure PortsEnded (regs : List Nat) (g h : Group) : Prop where
  rest : ∃ ops acqs ds, h = { g with ports := h.ports, ops := ops, acqs := acqs, deferred := ds }
  ports : ∀ q ∈ h.ports, q.reg ∉ regs ∧ ∃ p ∈ g.ports, p.reg = q.reg

/-- What has become of the command of a binding that has ended (R345). -/
def Port.endedIn (p : Port) (s t : State) : Prop :=
  (p.dir = .read → t.engine p.cmd = none) ∧
    (p.dir = .write → ∀ e, s.engine p.cmd = some e → e.dead = none →
      ∃ e', t.engine p.cmd = some e' ∧ e'.ending = true ∧ e'.data = e.data ++ p.given.flatMap fun w => leBytes 4 w.2.toNat)

/-- The words that a write port still holds go to its stream (R344). -/
theorem appendPort_leaves {s : State} {n : Nat} {g : Group} (hg : s.group n = some g) (p : Port) :
    (s.appendPort g p).group n = some { g with ports := replace (fun q => q.reg == p.reg) { p with given := [], wanted := false } g.ports } ∧
      (∀ c, c ≠ p.cmd → (s.appendPort g p).engine c = s.engine c) ∧
      (∀ e, s.engine p.cmd = some e → e.dead = none → (s.appendPort g p).engine p.cmd =
        some { e with data := e.data ++ p.given.flatMap fun w => leBytes 4 w.2.toNat }) := by
  have hgid := group_gid hg
  have hset : ∀ x : Group, x.gid = n → (s.setGroup x).group n = some x := fun x hx => group_setGroup_eq hx hg
  unfold State.appendPort
  dsimp only
  rw [setGroup_engine]
  cases he : s.engine p.cmd with
  | none => exact ⟨hset _ hgid, fun _ _ => rfl, fun e h => by cases h⟩
  | some e =>
    dsimp only
    have hcid := engine_cid he
    split
    · rename_i hdead
      refine ⟨hset _ hgid, fun _ _ => rfl, fun x hx hlive => ?_⟩
      cases hx
      simp [hlive] at hdead
    · refine ⟨hset _ hgid, fun c hne => engine_setEngine_other _ (by rw [show _ = e.cid from rfl, hcid]; exact hne), fun x hx _ => ?_⟩
      cases hx
      exact engine_setEngine_same hcid he

theorem dir_read_or_write (p : Port) : p.dir = .read ∨ p.dir = .write := by
  cases p.dir with
  | read => exact .inl rfl
  | write => exact .inr rfl

/-- The end of one binding: its port is gone, its command has ended or is ending, and no other command has changed. -/
theorem endPort_leaves {s : State} {n : Nat} {g : Group} (hg : s.group n = some g) (p : Port) :
    (∃ h, (s.endPort n p).group n = some h ∧ PortsEnded [p.reg] g h) ∧
      (∀ c, c ≠ p.cmd → (s.endPort n p).engine c = s.engine c) ∧ p.endedIn s (s.endPort n p) := by
  have hgid : g.gid = n := group_gid hg
  have hfirst : ∃ u ps, (if p.dir == .write then s.appendPort g p else s) = u ∧ u.group n = some { g with ports := ps } ∧
      (∀ q ∈ ps, ∃ x ∈ g.ports, x.reg = q.reg) ∧ (∀ c, c ≠ p.cmd → u.engine c = s.engine c) ∧
      (p.dir = .write → ∀ e, s.engine p.cmd = some e → e.dead = none → u.engine p.cmd =
        some { e with data := e.data ++ p.given.flatMap fun w => leBytes 4 w.2.toNat }) := by
    rcases dir_read_or_write p with hd | hd
    · exact ⟨s, g.ports, if_neg (by simp [hd]), hg, fun q hq => ⟨q, hq, rfl⟩, fun _ _ => rfl, fun hw => by simp [hd] at hw⟩
    · obtain ⟨hgrp, hother, hsame⟩ := appendPort_leaves hg p
      refine ⟨_, _, if_pos (by simp [hd]), hgrp, fun q hq => ?_, hother, fun _ => hsame⟩
      obtain ⟨x, hx, rfl⟩ := List.mem_map.1 hq
      split
      · rename_i hreg
        exact ⟨x, hx, beq_iff_eq.1 hreg⟩
      · exact ⟨x, hx, rfl⟩
  obtain ⟨u, ps, hu, hgrp, hps, hother, hsame⟩ := hfirst
  have hclosed : (u.onGroup n fun g => { g with ports := g.ports.filter fun q => q.reg != p.reg }).group n =
      some { g with ports := ps.filter fun q => q.reg != p.reg } := by
    rw [onGroup_eq _ hgrp]
    exact group_setGroup_eq hgid hgrp
  have hended : ∀ ops acqs ds, PortsEnded [p.reg] g { g with
      ports := ps.filter (fun q => q.reg != p.reg), ops := ops, acqs := acqs, deferred := ds } := fun ops acqs ds =>
    ⟨⟨ops, acqs, ds, rfl⟩, fun q hq => by
      obtain ⟨hq, hne⟩ := List.mem_filter.1 hq
      exact ⟨by simpa using hne, hps q hq⟩⟩
  unfold State.endPort
  rw [hg]
  dsimp only
  rw [hu, onGroup_engine]
  cases he : u.engine p.cmd with
  | none =>
    refine ⟨⟨_, hclosed, hended g.ops g.acqs g.deferred⟩, fun c hc => (onGroup_engine _ _ _ _).trans (hother c hc), fun _ => ?_,
      fun hw e hse hlive => ?_⟩
    · rw [onGroup_engine, he]
    · rw [hsame hw e hse hlive] at he
      cases he
  | some e =>
    have hcid := engine_cid he
    dsimp only
    split
    · rename_i hover
      obtain ⟨ops, acqs, ds, hdone⟩ := engineDone_group hclosed e none
      refine ⟨⟨_, hdone, hended ops acqs ds⟩, fun c hc => ?_, fun _ => ?_, fun hw x hse hlive => ?_⟩
      · rw [engineDone_engine, if_neg (hcid ▸ hc), onGroup_engine, hother c hc]
      · rw [engineDone_engine, if_pos hcid.symm]
      · have hx := he.symm.trans (hsame hw x hse hlive)
        cases hx
        simp [hw, hlive] at hover
    · rename_i hover
      refine ⟨⟨_, hclosed, hended g.ops g.acqs g.deferred⟩, fun c hc => ?_, fun hr => absurd (by simp [hr]) hover,
        fun hw x hse hlive => ?_⟩
      · have hne : c ≠ e.cid := hcid ▸ hc
        exact (engine_setEngine_other (e := { e with ending := true }) _ hne).trans ((onGroup_engine _ _ _ _).trans (hother c hc))
      · have hx := he.symm.trans (hsame hw x hse hlive)
        cases hx
        exact ⟨_, engine_setEngine_same hcid ((onGroup_engine _ _ _ _).trans he), rfl, rfl⟩

theorem PortsEnded.trans {r r' : List Nat} {g h k : Group} (a : PortsEnded r g h) (b : PortsEnded r' h k) :
    PortsEnded (r ++ r') g k := by
  obtain ⟨⟨ops, acqs, ds, hh⟩, ha⟩ := a
  obtain ⟨⟨ops', acqs', ds', hk⟩, hb⟩ := b
  refine ⟨⟨ops', acqs', ds', ?_⟩, fun q hq => ?_⟩
  · rw [hk, hh]
  · obtain ⟨hnot, x, hx, hxq⟩ := hb q hq
    obtain ⟨hxnot, hfrom⟩ := ha x hx
    exact ⟨by rw [List.mem_append, not_or]; exact ⟨hxq ▸ hxnot, hnot⟩, hxq ▸ hfrom⟩

/-- The end of a list of bindings, each of a command of its own. -/
theorem endPorts_leave {s : State} {n : Nat} {g : Group} (hg : s.group n = some g) {l : List Port} (hl : (l.map Port.cmd).Nodup) :
    (∃ h, (l.foldl (fun s p => s.endPort n p) s).group n = some h ∧ PortsEnded (l.map Port.reg) g h) ∧
      (∀ c, c ∉ l.map Port.cmd → (l.foldl (fun s p => s.endPort n p) s).engine c = s.engine c) ∧
      ∀ p ∈ l, p.endedIn s (l.foldl (fun s p => s.endPort n p) s) := by
  induction l generalizing s g with
  | nil => exact ⟨⟨g, hg, ⟨g.ops, g.acqs, g.deferred, rfl⟩, fun q hq => ⟨by simp, q, hq, rfl⟩⟩, fun _ _ => rfl, by simp⟩
  | cons p l ih =>
    rw [List.map_cons, List.nodup_cons] at hl
    obtain ⟨hp, hl⟩ := hl
    obtain ⟨⟨h, hh, hend⟩, hother, hdone⟩ := endPort_leaves hg p
    obtain ⟨⟨k, hk, hkend⟩, hrest, hall⟩ := ih hh hl
    rw [List.foldl_cons]
    refine ⟨⟨k, hk, hend.trans hkend⟩, fun c hc => ?_, fun q hq => ?_⟩
    · rw [List.map_cons, List.mem_cons, not_or] at hc
      rw [hrest c hc.2, hother c hc.1]
    · rcases List.mem_cons.1 hq with rfl | hq
      · unfold Port.endedIn
        rw [hrest q.cmd hp]
        exact hdone
      · have hne : q.cmd ≠ p.cmd := fun heq => hp (heq ▸ List.mem_map_of_mem hq)
        unfold Port.endedIn
        rw [← hother q.cmd hne]
        exact hall q hq

end Sys2Proof.Machine
end

section
/-!
SUPPORT. The ways that EXIT of a split ends (R76, R78, R86), and the children of SPAWN (R264).
-/
namespace Sys2Proof.Machine
set_option Elab.async false

section Exit
variable {s : State} {I : Issue} {o : CtlOp} (h : s.issue = some I) (hc : I.clear (.exit o) = true)
include h hc

/-- Where the last split of a group waits for its bound ports alone, EXIT ends every binding and parks (R86, R345; log 25). -/
theorem exit_ends_ports (hempty : (I.g.exitSplit I.sp).splits = []) (hp : I.g.ports ≠ []) (hcpy : I.g.counter .cpy ≠ 0)
    (hctr : ∀ c, c ≠ .cpy → I.g.counter c = 0)
    (hops : ∀ p ∈ I.g.ops, p.done = true ∨ (p.cls = .cpy ∧ ∃ q ∈ I.g.ports, q.cmd = p.ref)) (hcmds : (I.g.ports.map Port.cmd).Nodup) :
    ∃ t g, exec (.exit o) s = .next t ∧ t.group I.g.gid = some g ∧ g.status = .parked .retry ∧ g.ports = [] ∧
      g.clause = I.g.clause ∧ g.splits = I.g.splits ∧ g.regs = I.g.regs ∧ ∀ p ∈ I.g.ports, p.endedIn s t := by
  have hrun := exec_exit_runs h hc
  obtain ⟨rfl, hgrp, -⟩ := issue_spec h
  have hquiet : (!I.g.quiet) = true := by
    rw [Bool.not_eq_true', ← Bool.not_eq_true, quiet_iff]
    exact fun hall => hcpy (hall _)
  have honly : ((I.g.exitSplit I.sp).splits.isEmpty && !I.g.ports.isEmpty && I.g.onlyPorts) = true := by
    rw [hempty, (onlyPorts_iff I.g).2 ⟨hctr, hops⟩]
    simpa using hp
  obtain ⟨⟨x, hx, hend⟩, -, hdone⟩ := endPorts_leave hgrp hcmds
  unfold Issue.exit at hrun
  rw [if_pos hquiet, if_pos honly] at hrun
  obtain ⟨hrest, hports⟩ := hend
  obtain ⟨ops, acqs, ds, hx'⟩ := hrest
  have hnone : x.ports = [] := List.eq_nil_iff_forall_not_mem.2 fun q hq => by
    obtain ⟨hnot, p, hp, hpq⟩ := hports q hq
    exact hnot (List.mem_map.2 ⟨p, hp, hpq⟩)
  have hgid := group_gid hx
  obtain ⟨c, hpark⟩ := park_setGroup hx .retry (instrBytes (.exit o))
  have hparked : (x.parkOn .retry c).gid = I.g.gid := hgid
  refine ⟨_, _, hrun.trans (congrArg _ hpark), group_setGroup_eq hparked hx, rfl, hnone, ?_, ?_, ?_, hdone⟩
  · show x.clause = _
    rw [hx']
  · show x.splits = _
    rw [hx']
  · show x.regs = _
    rw [hx']

/-- With nothing outstanding, EXIT traps the earliest deferred fault (R90). -/
theorem exit_traps_first (hq : ∀ c, I.g.counter c = 0) {d : Deferred} (hd : d ∈ I.g.deferred)
    (hmin : ∀ e ∈ I.g.deferred, e ≠ d → d.seq < e.seq) :
    ∃ t g, exec (.exit o) s = .next t ∧ t.group I.g.gid = some g ∧ g.status = .trapped ∧ g.trapCause = d.info.cause ∧
      g.trapAddr = d.info.addr ∧ g.splits = I.g.splits ∧ g.deferred = I.g.deferred.filter fun x => x != d := by
  have hexec := exit_traps h hc hq (takeFault_first hd rfl fun e he _ hne => hmin e he hne)
  obtain ⟨rfl, hgrp, hcl, -⟩ := issue_spec h
  obtain ⟨x, hx⟩ := trap_setGroup_leaves hgrp (g := { I.g with deferred := I.g.deferred.filter fun x => x != d }) rfl hcl
    (instrBytes (.exit o)) d.info
  exact ⟨_, x, hexec, hx⟩

end Exit

theorem exitSplit_some {g : Group} {sp : Split} {k : Nat} (hk : sp.join = some k) :
    g.exitSplit sp = Group.exitJoins (16 + 1) { g with splits := g.others sp } (some k) := by
  rw [exitSplit_eq, hk]

/-! ### The exit under the parent of a freed record (R86) -/

/-- A group as it would stand with one of its splits under the parent of its record, and the record free. -/
def Group.underParent (g : Group) (sp : Split) (k : Nat) (j : Join) : Group := { g with
  splits := g.splits.map fun x => if x.label = sp.label then { x with join := j.parent } else x
  joins := g.joins.filter fun x => x.idx != k }

theorem underParent_others (g : Group) (sp : Split) (k : Nat) (j : Join) :
    (g.underParent sp k j).others { sp with join := j.parent } = g.others sp := by
  show (g.splits.map _).filter (fun y => y.label != sp.label) = g.splits.filter fun y => y.label != sp.label
  induction g.splits with
  | nil => rfl
  | cons x r ih =>
    rw [List.map_cons, List.filter_cons, List.filter_cons, ih]
    by_cases hx : x.label = sp.label <;> simp [hx]

theorem underParent_exitSplit {g : Group} {sp : Split} {k : Nat} {j : Join} (hk : sp.join = some k) (hj : g.joinAt k = some j)
    (hs : j.kind = .split ∨ j.rest = 0) (h1 : j.count ≤ 1) (hw : ¬∃ x ∈ g.others sp, x.waitsAt k) (hdone : j.done = 0)
    (hlen : g.joins.length ≤ 16) :
    (g.underParent sp k j).exitSplit { sp with join := j.parent } = g.exitSplit sp := by
  have hx := ((exitSplit_some hk).trans (exitJoins_alone 16 hj hs h1 hw)).trans (if_neg (not_not_intro hdone))
  have hfuel : (({ g with splits := g.others sp } : Group).dropJoin k).joins.length ≤ 16 :=
    (List.length_filter_le _ _).trans hlen
  rw [hx, ← exitJoins_fuel hfuel, exitSplit_eq, underParent_others]
  rfl

/-- The machine with a split under its record's parent issues the same instruction. -/
theorem underParent_issue {s : State} {I : Issue} (h : s.issue = some I) (k : Nat) (j : Join) :
    (s.setGroup (I.g.underParent I.sp k j)).issue = some { I with
      s := s.setGroup (I.g.underParent I.sp k j), g := I.g.underParent I.sp k j, sp := { I.sp with join := j.parent } } := by
  obtain ⟨-, hl⟩ := issue_split h
  obtain ⟨-, hgrp, -⟩ := issue_spec h
  obtain ⟨-, hcur, hcl, ht, hsp, hctx, hok⟩ := inClause_spec h
  obtain ⟨n, hn, hgn⟩ := Option.bind_eq_some_iff.1 hcur
  refine inClause_eq_some ?_ hcl ht ?_ hctx hok
  · show s.cur.bind _ = _
    rw [hn, Option.bind_some]
    have hgid := group_gid hgn
    exact group_setGroup_eq (by exact hgid) hgn
  · show (I.g.splits.map _).find? _ = _
    rw [List.find?_map]
    have hsame : ((fun x : Split => x.label == I.cl.split) ∘ fun x : Split =>
        if x.label = I.sp.label then { x with join := j.parent } else x) = fun x => x.label == I.cl.split := by
      funext x
      by_cases hx : x.label = I.sp.label <;> simp [hx]
    rw [hsame, hsp, Option.map_some, if_pos rfl]

theorem underParent_clear {s : State} {I : Issue} {o : CtlOp} (h : s.issue = some I) (hc : I.clear (.exit o) = true) (k : Nat) (j : Join) :
    ({ I with s := s.setGroup (I.g.underParent I.sp k j), g := I.g.underParent I.sp k j, sp := { I.sp with join := j.parent } } :
      Issue).clear (.exit o) = true := by
  obtain ⟨rfl, -⟩ := issue_spec h
  exact hc

/-- The last split's exit leaves none, where no record above it holds lanes (R86). -/
theorem exitSplit_last {g : Group} {sp : Split} (hnil : g.others sp = []) (hj : sp.join = none ∨ ∃ k j, sp.join = some k ∧
    g.joinAt k = some j ∧ (j.kind = .split ∨ j.rest = 0) ∧ j.count ≤ 1 ∧ j.done = 0 ∧ j.parent = none) :
    (g.exitSplit sp).splits = [] := by
  rcases hj with hj | ⟨k, j, hk, hj, hs, h1, hdone, hparent⟩
  · rw [exitSplit_eq, hj, exitJoins_none]
    exact hnil
  · have hw : ¬∃ x ∈ g.others sp, x.waitsAt k := by
      rw [hnil]
      simp
    rw [(exitSplit_some hk).trans (exitJoins_alone 16 hj hs h1 hw), if_neg (not_not_intro hdone), hparent, exitJoins_none]
    exact hnil

/-- The machine after an EXIT that leaves other splits: its group has the splits and records of `g`, and keeps the rest. -/
def Issue.exitLeaves (I : Issue) (o : CtlOp) (s : State) (g : Group) : Prop :=
  ∃ t h, exec (.exit o) s = .next t ∧ t.group I.g.gid = some h ∧ h.splits = g.splits ∧ h.joins = g.joins ∧ h.clause = none ∧
    h.ports = I.g.ports ∧ h.regs = I.g.regs ∧ s.sameButGroup t I.g.gid

section Goes
variable {s : State} {I : Issue} {o : CtlOp} (h : s.issue = some I) (hc : I.clear (.exit o) = true)
  (hq : ∀ c, I.g.counter c = 0) (hd : I.g.deferred = [])
include h hc hq hd

theorem exitLeaves_exitSplit (hne : (I.g.exitSplit I.sp).splits ≠ []) : I.exitLeaves o s (I.g.exitSplit I.sp) := by
  obtain ⟨hexec, hgrp, hrest⟩ := exit_goes_on h hc hq hd hne
  exact ⟨_, _, hexec, hgrp, hrest⟩

theorem exitLeaves_others (hne : I.g.others I.sp ≠ []) (hj : I.sp.join = none) :
    I.exitLeaves o s { I.g with splits := I.g.others I.sp } := by
  have hx : I.g.exitSplit I.sp = { I.g with splits := I.g.others I.sp } := by
    rw [exitSplit_eq, hj, exitJoins_none]
  exact hx ▸ exitLeaves_exitSplit h hc hq hd (by rw [hx]; exact hne)

variable {k : Nat} {j : Join} (hk : I.sp.join = some k) (hj : I.g.joinAt k = some j)
include hk hj

/-- The remainder of a SERIAL record is revived where it waits (R86). -/
theorem exitLeaves_rest (hs : j.kind = .serial) (hr : j.rest ≠ 0) (hlen : I.g.splits.length ≤ 4) :
    ∃ l, (∀ x ∈ I.g.others I.sp, x.label ≠ l) ∧ I.exitLeaves o s { I.g with
      splits := I.g.others I.sp ++ [{ label := l, pc := j.restPc, lanes := j.rest, cc := j.restCc, join := some k }]
      joins := I.g.joins.map fun x => if x.idx = k then { j with rest := 0 } else x } := by
  obtain ⟨hsp, -⟩ := issue_split h
  have hfew := length_others_lt hsp
  have hx := (exitSplit_some hk).trans (exitJoins_rest 16 hj hs hr)
  refine ⟨_, freeLabel_ne (g := { I.g with splits := I.g.others I.sp }) (by show (I.g.others I.sp).length ≤ 4; omega), ?_⟩
  exact hx ▸ exitLeaves_exitSplit h hc hq hd (by rw [hx]; simp)

variable (hs : j.kind = .split ∨ j.rest = 0)
include hs

theorem exitLeaves_counted (h2 : 2 ≤ j.count) (hne : I.g.others I.sp ≠ []) : I.exitLeaves o s { I.g with
    splits := I.g.others I.sp, joins := I.g.joins.map fun x => if x.idx = k then { j with count := j.count - 1 } else x } := by
  have hx := (exitSplit_some hk).trans (exitJoins_more 16 hj hs h2)
  exact hx ▸ exitLeaves_exitSplit h hc hq hd (by rw [hx]; exact hne)

variable (h1 : j.count ≤ 1)
include h1

/-- The splits parked at a record that counts no others are fused with its lanes that are done (R78, R86). -/
theorem exitLeaves_fused (hw : ∃ x ∈ I.g.others I.sp, x.waitsAt k) :
    ∃ one, FusedFrom { I.g with splits := I.g.others I.sp } j one ∧ I.exitLeaves o s { I.g with
      splits := one :: (I.g.others I.sp).filter fun x => !(x.parked && x.join == some k)
      joins := I.g.joins.filter fun x => x.idx != k } := by
  have hx := (exitSplit_some hk).trans (exitJoins_fuse 16 hj hs h1 hw)
  have hidx := joinAt_idx hj
  subst hidx
  obtain ⟨one, hone, hfuse⟩ := fuse_spec (j := { j with count := j.count - 1 })
    (g := { I.g with splits := I.g.others I.sp }.setJoin { j with count := j.count - 1 }) hw
  have hjoins := congrArg Group.joins (setJoin_dropJoin { I.g with splits := I.g.others I.sp } (j := { j with count := j.count - 1 }) rfl)
  obtain ⟨hjoin, hparked, hlanes, hpc, hcc, hlabel⟩ := hone
  have hy : I.g.exitSplit I.sp = { I.g with
      splits := one :: (I.g.others I.sp).filter fun x => !(x.parked && x.join == some j.idx)
      joins := I.g.joins.filter fun x => x.idx != j.idx } := by
    rw [hx, hfuse]
    exact congrArg (fun l => { I.g with
      splits := one :: (I.g.others I.sp).filter fun x => !(x.parked && x.join == some j.idx), joins := l }) hjoins
  exact ⟨one, ⟨hjoin, hparked, hlanes, hpc, hcc, hlabel⟩, hy ▸ exitLeaves_exitSplit h hc hq hd (by rw [hy]; simp)⟩

variable (hw : ¬∃ x ∈ I.g.others I.sp, x.waitsAt k)
include hw

/-- Done lanes that no split waits for are revived behind the MERGE (R86). -/
theorem exitLeaves_done (hdone : j.done ≠ 0) (hlen : I.g.splits.length ≤ 4) : ∃ l, (∀ x ∈ I.g.others I.sp, x.label ≠ l) ∧
    I.exitLeaves o s { I.g with
      splits := I.g.others I.sp ++ [{ label := l, pc := j.donePc, lanes := j.done, cc := j.doneCc, join := j.parent }]
      joins := I.g.joins.filter fun x => x.idx != k } := by
  obtain ⟨hsp, -⟩ := issue_split h
  have hfew := length_others_lt hsp
  have hx := ((exitSplit_some hk).trans (exitJoins_alone 16 hj hs h1 hw)).trans (if_pos hdone)
  refine ⟨_, freeLabel_ne (g := { I.g with splits := I.g.others I.sp }) (by show (I.g.others I.sp).length ≤ 4; omega), ?_⟩
  exact hx ▸ exitLeaves_exitSplit h hc hq hd (by rw [hx]; simp)

/-- A record that no lane is left for is free, and the exit goes on as that of a split under its parent (R86). -/
theorem exit_freed (hdone : j.done = 0) (hne : I.g.others I.sp ≠ []) (hlen : I.g.joins.length ≤ 16) :
    ∃ t t' x, exec (.exit o) s = .next t ∧ exec (.exit o) (s.setGroup (I.g.underParent I.sp k j)) = .next t' ∧
      t.group I.g.gid = some x ∧ t'.group I.g.gid = some x ∧ s.sameButGroup t I.g.gid := by
  have hup := underParent_exitSplit hk hj hs h1 hw hdone hlen
  have hleft : (I.g.exitSplit I.sp).splits ≠ [] := (exitJoins_changes 17 { I.g with splits := I.g.others I.sp } I.sp.join).2 hne
  obtain ⟨hexec, hgrp, -, -, -, -, -, hsame⟩ := exit_goes_on h hc hq hd hleft
  have hissue := underParent_issue h k j
  obtain ⟨hexec', hgrp', -⟩ := exit_goes_on hissue (underParent_clear h hc k j) hq hd (hup.symm ▸ hleft)
  refine ⟨_, _, _, hexec, hexec', hgrp, hgrp'.trans ?_, hsame⟩
  show some (((I.g.underParent I.sp k j).exitSplit { I.sp with join := j.parent }).closeClause I.cl s.cycle) = _
  rw [hup]

end Goes

section Last
variable {s : State} {I : Issue} {o : CtlOp} (h : s.issue = some I) (hc : I.clear (.exit o) = true)
  (hq : ∀ c, I.g.counter c = 0) (hd : I.g.deferred = [])
include h hc hq hd

/-- The exit of the last split of the last group of a host's team ends the group and the team (R86). -/
theorem exit_ends_group (hnil : (I.g.exitSplit I.sp).splits = []) {l : Launch} (hl : s.launch I.t.launch = some l) (ho : l.origin = .host) :
    ∃ t, exec (.exit o) s = .next t ∧ t.group I.g.gid = none ∧
      ((∀ h ∈ s.groups, h.team = I.t.tid → h.gid = I.g.gid) → t.team I.t.tid = none) := by
  obtain ⟨-, hgrp, -, hteam, -⟩ := issue_spec h
  exact ⟨_, exit_last h hc hq hd hnil, exitGroup_gone hgrp hteam hl ho⟩

end Last

/-! ### SPAWN (R264) -/

theorem pairValue_lt (I : Issue) (x : BitVec 2) (v : Reg) (i : Nat) : Spec.pairValue I x v i < 2 ^ 64 := by
  have hlo := (I.g.xbar x v.toNat i).isLt
  have hhi := (I.g.xbar x (v.toNat + 1) i).isLt
  unfold Spec.pairValue
  omega

/-- A field of a number as 64 bits. -/
theorem toNat_extractLsb'_ofNat {n : Nat} (h : n < 2 ^ 64) (a w : Nat) : ((BitVec.ofNat 64 n).extractLsb' a w).toNat = n / 2 ^ a % 2 ^ w := by
  rw [BitVec.extractLsb'_toNat, BitVec.toNat_ofNat, Nat.mod_eq_of_lt h, Nat.shiftRight_eq_div_pow]

/-- The descriptors that SPAWN accepts are the spec's (R264). -/
theorem badSpawn_iff {d : Nat} (h : d < 2 ^ 64) : badSpawn (BitVec.ofNat 64 d) = false ↔
    d / 2 ^ 62 = 0 ∧ d / 2 ^ 45 % 8 = 0 ∧ d / 2 ^ 21 % 2 ^ 11 = 0 ∧ d / 2 ^ 7 % 2 = 0 ∧ d / 2 ^ 48 % 2 ^ 14 ≤ 8192 ∧
      d / 2 ^ 32 % 2 ^ 13 ≤ 4096 ∧ d / 2 ^ 14 % 32 ≤ 16 ∧ d / 2 ^ 8 % 64 ≤ 32 := by
  have hzero : ∀ a w, ((BitVec.ofNat 64 d).extractLsb' a w = 0) ↔ d / 2 ^ a % 2 ^ w = 0 := fun a w => by
    rw [← BitVec.toNat_inj, toNat_extractLsb'_ofNat h]
    rfl
  have hbit : (BitVec.ofNat 64 d).getLsbD 7 = false ↔ d / 2 ^ 7 % 2 = 0 := by
    rw [BitVec.getLsbD_ofNat, Nat.testBit_eq_decide_div_mod_eq]
    simp
  unfold badSpawn
  simp only [Bool.or_eq_false_iff, bne_eq_false_iff_eq, decide_eq_false_iff_not, not_lt, hzero, hbit, toNat_extractLsb'_ofNat h]
  omega

/-- With no access of its core on its way, a release changes nothing. -/
theorem releasing_of_quiet {s : State} {I : Issue} (h : s.issue = some I) (hq : s.quiet I.core = true) (wide : Bool) :
    I.releasing wide = I := by
  obtain ⟨rfl, hgrp, -, hteam, -⟩ := issue_spec h
  have htid : I.t.tid = I.g.team := by simpa using List.find?_some hteam
  have hnone : (I.s.flights.getD []).any (fun y => y.core == I.core &&
      ((y.gid == I.g.gid && y.lanes &&& I.active != 0) || (wide && y.writes && y.space == 0))) = false :=
    List.any_eq_false.2 fun y hy => by
      have hcore := List.all_eq_true.1 hq y hy
      rw [bne_iff_ne] at hcore
      simp [hcore]
  unfold Issue.releasing Issue.within Issue.releaseIn
  rw [drain_of_none hnone, hgrp, htid, hteam]
  rfl

theorem exec_spawn_runs {s : State} {I : Issue} {o : CtlOp} (h : s.issue = some I) (hc : I.clear (.spawn o) = true)
    (hq : s.quiet I.core = true) : exec (.spawn o) s = .next ((I.spawn o).finish I.g.gid (instrBytes (.spawn o))) := by
  rw [exec_spawn, execSpawn, ctl_clear h hc, releasing_of_quiet h hq]

/-- A SPAWN that no check stops starts its child and counts one more in SPN (R264). -/
theorem exec_spawn_starts {s : State} {I : Issue} {o : CtlOp} (h : s.issue = some I) (hc : I.clear (.spawn o) = true)
    (hq : s.quiet I.core = true) (hfits : badSpawn (I.spawnDesc o) = false) (hdepth : I.t.depth ≠ 4) :
    exec (.spawn o) s = .next (I.jumps ({ s with nextId := s.nextId + 1, launches := s.launches ++ [I.child o s.nextId] }.onGroup
      I.g.gid fun g => g.addOp { seq := 0, cls := .spn, ref := s.nextId, acquire := true }) (Spec.long (I.cl.pc.toNat + 8))) := by
  have hrun := exec_spawn_runs h hc hq
  obtain ⟨rfl, -⟩ := issue_spec h
  rw [hrun, ← next_eq_long]
  unfold Issue.spawn
  rw [if_neg (by rw [hfits]; simp), if_neg hdepth]
  rfl

end Sys2Proof.Machine

open Sys2Proof Sys2Proof.Machine

/-- Settles O34: EXIT by what becomes of the split's record and of the last split, SPAWN by its child. -/
theorem exitAndSpawn : Obligations.ExitAndSpawn := by
  unfold Obligations.ExitAndSpawn
  intro s I o h others
  refine ⟨fun hc => ⟨fun hp hb => ?_, fun hnil hj hp hcpy hctr hops hcmds => ?_, fun hq d hd hmin => exit_traps_first h hc hq hd hmin,
    fun hq hd => ⟨fun k j hk hj => ?_, fun hne hj => exitLeaves_others h hc hq hd hne hj, fun hnil hj hb hl => ?_⟩⟩, fun hc hq => ?_⟩
  · refine exit_waits h hc hb (hp.imp_right (Or.imp_left fun ⟨hne, hj⟩ => ?_))
    rw [exitSplit_eq, hj, exitJoins_none]
    exact hne
  · have hempty : (I.g.exitSplit I.sp).splits = [] := by
      rw [exitSplit_eq, hj, exitJoins_none]
      exact hnil
    obtain ⟨t, g, hexec, hgrp, hst, hports, hcl, hsp, hregs, hend⟩ := exit_ends_ports h hc hempty hp hcpy hctr hops hcmds
    refine ⟨t, g, hexec, hgrp, hst, hports, hcl, hsp, hregs, fun p hp => ?_⟩
    obtain ⟨hread, hwrite⟩ := hend p hp
    exact ⟨fun hr e he => by simpa using List.find?_eq_none.1 (hread hr) e he, hwrite⟩
  · intro here goesOn
    have hwait : (∃ x ∈ I.g.splits, here x) ↔ ∃ x ∈ I.g.others I.sp, x.waitsAt k :=
      exists_congr fun x => by rw [mem_others, and_assoc]; rfl
    refine ⟨fun hs hr hlen => exitLeaves_rest h hc hq hd hk hj hs hr hlen, fun hs =>
      ⟨fun h2 hne => exitLeaves_counted h hc hq hd hk hj hs h2 hne, fun h1 hw => ?_,
        fun h1 hw hdone hlen => exitLeaves_done h hc hq hd hk hj hs h1 (mt hwait.2 hw) hdone hlen,
        fun h1 hw hdone hne hlen => exit_freed h hc hq hd hk hj hs h1 (mt hwait.2 hw) hdone hne hlen⟩⟩
    obtain ⟨one, hone, hgoes⟩ := exitLeaves_fused h hc hq hd hk hj hs h1 (hwait.1 hw)
    have hidx := joinAt_idx hj
    have hhere : ∀ p : Split → Prop, (∃ x ∈ I.g.others I.sp, x.waitsAt j.idx ∧ p x) ↔ ∃ x ∈ I.g.splits, here x ∧ p x := fun p =>
      exists_congr fun x => by rw [mem_others, and_assoc, hidx, ← and_assoc (a := x.label ≠ I.sp.label)]; rfl
    refine ⟨one, hone.join, hone.parked, fun n => ?_, (hhere _).1 hone.pc, fun hne => ?_, hgoes⟩
    · rw [hone.lanes]
      exact or_congr_right (hhere _)
    · obtain ⟨n, hlow, hcc⟩ := hone.cc hne
      exact ⟨n, hlow, hcc.imp_right (hhere _).1⟩
  · obtain ⟨l, hl, ho⟩ := hl
    exact exit_ends_group h hc hq hd (exitSplit_last hnil hj) hl ho
  · intro d fits
    have hd : I.spawnDesc o = BitVec.ofNat 64 d := xpair_eq_ofNat _ _ _ _
    have hlt : d < 2 ^ 64 := pairValue_lt _ _ _ _
    have hfield : ∀ a w, ((I.spawnDesc o).extractLsb' a w).toNat = d / 2 ^ a % 2 ^ w := fun a w => by
      rw [hd, toNat_extractLsb'_ofNat hlt]
    have hfits : badSpawn (I.spawnDesc o) = false ↔ fits := by
      rw [hd]
      exact badSpawn_iff hlt
    refine ⟨fun hbad => ?_, fun hgood hdepth => ?_, fun hgood hdepth => ⟨I.child o s.nextId,
      exec_spawn_starts h hc hq (hfits.2 hgood) hdepth, rfl, rfl, rfl, rfl, target_eq_long I o.imm, rfl, rfl, rfl, ?_, ?_, ?_, ?_, ?_,
      ?_, rfl, rfl, ?_, ?_⟩⟩
    · rw [exec_spawn_runs h hc hq]
      unfold Issue.spawn
      rw [if_pos (by simpa using mt hfits.1 hbad), trap_finish h]
    · rw [exec_spawn_runs h hc hq]
      unfold Issue.spawn
      rw [if_neg (by rw [hfits.2 hgood]; simp), if_pos hdepth, trap_finish h]
    · show ((I.spawnDesc o).extractLsb' 0 4).toNat + 1 = _
      rw [hfield]
      omega
    · exact congrArg (fun n => 16 * (n + 1)) (hfield 4 3)
    · exact hfield 8 6
    · exact hfield 14 5
    · exact congrArg _ (hfield 32 13)
    · exact congrArg _ (hfield 48 14)
    · show (I.xpair 0 o.w.b I.lane0).toNat = _
      rw [xpair_eq_ofNat, BitVec.toNat_ofNat, Nat.mod_eq_of_lt (pairValue_lt _ _ _ _)]
    · exact congrArg (fun n => min n I.c.ceiling) (hfield 19 2)
end

section
/-!
SUPPORT. What a group holds as placement leaves it (R68, R213, R245, R259).
-/
namespace Sys2Proof.Machine
set_option Elab.async false

/-! ### Writes to a group without port bindings -/

theorem port_of_no_ports {g : Group} (hp : g.ports = []) (v : Nat) : g.port v = none := by
  unfold Group.port
  rw [hp]
  exact ite_self _

/-- Two groups agree but for their registers. -/
def Group.onlyRegs (g h : Group) : Prop := ∃ r, h = { g with regs := r }

theorem Group.onlyRegs.refl (g : Group) : g.onlyRegs g := ⟨g.regs, rfl⟩

theorem Group.onlyRegs.trans {g h k : Group} (a : g.onlyRegs h) (b : h.onlyRegs k) : g.onlyRegs k := by
  obtain ⟨_, rfl⟩ := a
  obtain ⟨r, rfl⟩ := b
  exact ⟨r, rfl⟩

theorem Group.onlyRegs.no_ports {g h : Group} (a : g.onlyRegs h) (hp : g.ports = []) : h.ports = [] := by
  obtain ⟨_, rfl⟩ := a
  exact hp

/-- One register written in some lanes of a group without port bindings. -/
theorem writeLanes_of_no_ports {g : Group} (hp : g.ports = []) (v : Nat) {ls : List Nat} (hl : ∀ i ∈ ls, i < 64) (f : Nat → Word) :
    g.onlyRegs (g.writeLanes v ls f) ∧
      ∀ u j, j < 64 → (g.writeLanes v ls f).read u j = if u = v ∧ v ≠ 0 ∧ j ∈ ls then f j else g.read u j := by
  have hport := port_of_no_ports hp
  refine ⟨⟨_, writeLanes_eq ls f (hport v)⟩, fun u j hj => ?_⟩
  by_cases h0 : u = 0
  · subst h0
    rw [read_zero, read_zero, if_neg fun ⟨e, hv, _⟩ => hv e.symm]
  · rw [read_eq j h0 (hport u), read_eq j h0 ((port_writeLanes ls f (hport v) u).trans (hport u)), writeLanes_regs ls f (hport v) hl u j hj]

/-- Consecutive registers written in some lanes of a group without port bindings. -/
theorem foldl_writeLanes {g : Group} (hp : g.ports = []) {b : Nat} (hb : 1 ≤ b) {ls : List Nat} (hl : ∀ i ∈ ls, i < 64)
    (f : Nat → Nat → Word) (n : Nat) :
    let h := (List.range n).foldl (fun g k => g.writeLanes (b + k) ls (f k)) g
    g.onlyRegs h ∧
      ∀ u j, j < 64 → h.read u j = if b ≤ u ∧ u < b + n ∧ j ∈ ls then f (u - b) j else g.read u j := by
  induction n with
  | zero => exact ⟨.refl g, fun u j _ => (if_neg (by omega)).symm⟩
  | succ n ih =>
    obtain ⟨hsame, hread⟩ := ih
    rw [List.range_succ, List.foldl_append]
    intro h
    obtain ⟨hsame', hread'⟩ := writeLanes_of_no_ports (hsame.no_ports hp) (b + n) hl (f n)
    refine ⟨hsame.trans hsame', fun u j hj => (hread' u j hj).trans ?_⟩
    rw [hread u j hj]
    by_cases hu : u = b + n
    · subst hu
      by_cases hm : j ∈ ls
      · rw [if_pos ⟨rfl, by omega, hm⟩, if_pos ⟨by omega, by omega, hm⟩, Nat.add_sub_cancel_left]
      · rw [if_neg (by simp [hm]), if_neg (by simp [hm]), if_neg (by simp [hm])]
    · rw [if_neg (by simp [hu])]
      exact if_congr (and_congr_right fun _ => and_congr_left fun _ => by omega) rfl rfl

theorem mem_allLanes {i : Nat} : i ∈ allLanes ↔ i < 64 := List.mem_range

/-! ### A new group -/

/-- A new group before its registers are written (R259). -/
def placedGroup (l : Launch) (c : Cargo) (gid tid index cycle : Nat) : Group :=
  { gid := gid, team := tid, index := index, cls := BitVec.ofNat 2 l.cls, sched := BitVec.ofNat 2 l.cls, nregs := l.rcd.nregs
    lanes := c.lanes, splits := [{ label := 0, pc := l.entry, lanes := c.lanes }], lineage := l.lineage
    ageFrom := cycle, since := cycle }

/-- The launch arguments by register, for n registers (R259). -/
def Launch.tail (l : Launch) (n v : Nat) : Word :=
  if v = n - 4 ∧ n - 4 ≠ 0 then BitVec.ofNat 32 l.clusters
  else if v = n - 3 ∧ n - 3 ≠ 0 then BitVec.ofNat 32 l.depth
  else if v = n - 1 ∧ n - 1 ≠ 0 then hi32 l.rcd.arg
  else if v = n - 2 ∧ n - 2 ≠ 0 then lo32 l.rcd.arg else 0

/-- A new group with the launch arguments in its highest registers. -/
def argGroup (l : Launch) (g : Group) (n : Nat) : Group :=
  (((g.writeLanes (n - 2) allLanes fun _ => lo32 l.rcd.arg).writeLanes (n - 1) allLanes fun _ => hi32 l.rcd.arg).writeLanes
    (n - 3) allLanes fun _ => BitVec.ofNat 32 l.depth).writeLanes (n - 4) allLanes fun _ => BitVec.ofNat 32 l.clusters

theorem argGroup_spec (l : Launch) {g : Group} (hp : g.ports = []) (hr : g.regs = []) (n : Nat) :
    g.onlyRegs (argGroup l g n) ∧ ∀ v i, i < 64 → (argGroup l g n).read v i = l.tail n v := by
  have hl : ∀ i ∈ allLanes, i < 64 := fun i => mem_allLanes.1
  have hzero : ∀ v i, g.read v i = 0 := fun v i => by
    unfold Group.read
    rw [port_of_no_ports hp, hr]
    exact ite_self _
  obtain ⟨h1, r1⟩ := writeLanes_of_no_ports hp (n - 2) hl fun _ => lo32 l.rcd.arg
  have p1 := h1.no_ports hp
  obtain ⟨h2, r2⟩ := writeLanes_of_no_ports p1 (n - 1) hl fun _ => hi32 l.rcd.arg
  have p2 := h2.no_ports p1
  obtain ⟨h3, r3⟩ := writeLanes_of_no_ports p2 (n - 3) hl fun _ => BitVec.ofNat 32 l.depth
  have p3 := h3.no_ports p2
  obtain ⟨h4, r4⟩ := writeLanes_of_no_ports p3 (n - 4) hl fun _ => BitVec.ofNat 32 l.clusters
  refine ⟨((h1.trans h2).trans h3).trans h4, fun v i hi => ?_⟩
  unfold argGroup Launch.tail
  rw [r4 v i hi, r3 v i hi, r2 v i hi, r1 v i hi, hzero]
  simp only [mem_allLanes, hi, and_true]

/-- What a new group holds: the launch arguments, over them the values of its cargo, and over these the records. -/
theorem newGroup_spec (l : Launch) {c : Cargo} (hc : c.recs.length ≤ 64) (gid tid index cycle : Nat) :
    (placedGroup l c gid tid index cycle).onlyRegs (newGroup l c gid tid index cycle) ∧
      ∀ v i, i < 64 → (newGroup l c gid tid index cycle).read v i =
        if 1 ≤ v ∧ v < 1 + 16 ∧ i < c.recs.length then (c.recs.getD i []).getD (v - 1) 0
        else if 2 ≤ v ∧ v < 2 + c.vals.length then c.vals.getD (v - 2) 0 else l.tail l.rcd.nregs v := by
  have hl : ∀ i ∈ allLanes, i < 64 := fun i => mem_allLanes.1
  have hlr : ∀ i ∈ List.range c.recs.length, i < 64 := fun i hi => (List.mem_range.1 hi).trans_le hc
  obtain ⟨h1, r1⟩ := argGroup_spec l (g := placedGroup l c gid tid index cycle) rfl rfl l.rcd.nregs
  have p1 := h1.no_ports rfl
  obtain ⟨h2, r2⟩ := foldl_writeLanes p1 (b := 2) (by omega) hl (fun k _ => c.vals.getD k 0) c.vals.length
  have p2 := h2.no_ports p1
  obtain ⟨h3, r3⟩ := foldl_writeLanes p2 (b := 1) (by omega) hlr (fun k i => (c.recs.getD i []).getD k 0) 16
  refine ⟨(h1.trans h2).trans h3, fun v i hi => (r3 v i hi).trans ?_⟩
  rw [r2 v i hi, r1 v i hi]
  simp only [mem_allLanes, hi, and_true, List.mem_range]

/-- The words of an address (R4). -/
theorem words_of_addr (a : Addr) : lo32 a = BitVec.ofNat 32 (a.toNat / 2 ^ (32 * 0)) ∧ hi32 a = BitVec.ofNat 32 (a.toNat / 2 ^ (32 * 1)) := by
  constructor <;> refine BitVec.eq_of_toNat_eq ?_
  · rw [lo32, BitVec.extractLsb'_toNat, Nat.shiftRight_eq_div_pow, BitVec.toNat_ofNat]
  · rw [hi32, BitVec.extractLsb'_toNat, Nat.shiftRight_eq_div_pow, BitVec.toNat_ofNat]

/-- The launch arguments by register, as the spec numbers them (R259). -/
def Launch.argument (l : Launch) (v : Nat) : Word :=
  let n := 16 * l.rcd.regs16
  if v = n - 1 then BitVec.ofNat 32 (l.rcd.arg.toNat / 2 ^ (32 * 1))
  else if v = n - 2 then BitVec.ofNat 32 (l.rcd.arg.toNat / 2 ^ (32 * 0))
  else if v = n - 3 then BitVec.ofNat 32 l.depth else if v = n - 4 then BitVec.ofNat 32 l.clusters else 0

/-- With every register for them, the launch arguments stand where the spec says. -/
theorem tail_nregs {l : Launch} (h : 1 ≤ l.rcd.regs16) (v : Nat) : l.tail l.rcd.nregs v = l.argument v := by
  unfold Launch.argument
  dsimp only
  have hn : 16 ≤ 16 * l.rcd.regs16 := by omega
  rw [show l.rcd.nregs = 16 * l.rcd.regs16 from rfl]
  generalize 16 * l.rcd.regs16 = n at hn
  obtain ⟨hlo, hhi⟩ := words_of_addr l.rcd.arg
  unfold Launch.tail
  rw [hhi, hlo]
  obtain h1 | h2 | h3 | h4 | hv :
      v = n - 1 ∨ v = n - 2 ∨ v = n - 3 ∨ v = n - 4 ∨ (v ≠ n - 1 ∧ v ≠ n - 2 ∧ v ≠ n - 3 ∧ v ≠ n - 4) := by omega
  · rw [if_neg (by omega), if_neg (by omega), if_pos (by omega), if_pos h1]
  · rw [if_neg (by omega), if_neg (by omega), if_neg (by omega), if_pos (by omega), if_neg (by omega), if_pos h2]
  · rw [if_neg (by omega), if_pos (by omega), if_neg (by omega), if_neg (by omega), if_pos h3]
  · rw [if_pos (by omega), if_neg (by omega), if_neg (by omega), if_neg (by omega), if_pos h4]
  · rw [if_neg (by omega), if_neg (by omega), if_neg (by omega), if_neg (by omega), if_neg (by omega), if_neg (by omega), if_neg (by omega),
      if_neg (by omega)]

end Sys2Proof.Machine
end

section
/-!
SUPPORT. Rooms of cores and quads, and the teams of a cluster on its cores (R257, R258, R259).
-/
namespace Sys2Proof.Machine
set_option Elab.async false

/-! ### Free choices -/

theorem pickFrom_ne_nil {α : Type} (step : Nat) {l : List α} (h : l ≠ []) : ∃ x ∈ l, pickFrom step l = some x := by
  have hlt : Config.pick step % l.length < l.length := Nat.mod_lt _ (List.length_pos_iff.2 h)
  exact ⟨_, List.getElem_mem hlt, List.getElem?_eq_getElem hlt⟩

/-! ### A group as it begins (R74, R245, R259) -/

/-- A group at its launch's entry, with nothing behind it. -/
def Launch.begins (l : Launch) (h : Group) : Prop :=
  h.status = .resident ∧ h.window = false ∧ h.interval = true ∧
    h.splits = [{ label := 0, pc := l.entry, lanes := h.lanes }] ∧ h.joins = [] ∧ h.clause = none ∧ h.ops = [] ∧ h.mode = 0 ∧
    h.xset = 0 ∧ h.handling = false ∧ h.lineage = l.lineage ∧ h.cls.toNat = l.cls % 4 ∧ h.nregs = 16 * l.rcd.regs16

theorem newGroup_begins (l : Launch) {c : Cargo} (hc : c.recs.length ≤ 64) (gid tid index cycle : Nat) :
    l.begins (newGroup l c gid tid index cycle) ∧ (newGroup l c gid tid index cycle).team = tid ∧
      (newGroup l c gid tid index cycle).lanes = c.lanes := by
  obtain ⟨⟨r, hr⟩, -⟩ := newGroup_spec l hc gid tid index cycle
  rw [hr]
  exact ⟨⟨rfl, rfl, rfl, rfl, rfl, rfl, rfl, rfl, rfl, rfl, rfl, BitVec.toNat_ofNat _ _, rfl⟩, rfl, rfl⟩

theorem lanes_of_no_recs {c : Cargo} (h : c.recs = []) : c.lanes = ~~~0 := by
  refine BitVec.eq_of_getLsbD_eq fun i hi => ?_
  unfold Cargo.lanes
  rw [h]
  refine (getLsbD_laneSet (fun _ => true) i).trans ?_
  rw [BitVec.getLsbD_not]
  simp [hi]

theorem lanes_of_recs {c : Cargo} (h : c.recs ≠ []) {i : Nat} (hi : i < 64) : c.lanes.getLsbD i = decide (i < c.recs.length) := by
  unfold Cargo.lanes
  rw [if_neg (by simpa using h), getLsbD_laneSet]
  simp [hi]

/-! ### One team placed (R257) -/

/-- The team that placement makes. -/
def State.newTeam (s : State) (l : Launch) (cl : Cluster) (index : Nat) (q : QuadId) : Team :=
  let base := (s.coreRoom l.rcd.foot q.die q.core).getD (0, 0)
  { tid := s.nextId, ctx := l.ctx, launch := l.lid, cluster := cl.cid, index := index, place := q, origin := l.origin
    ngroups := l.rcd.groups, nregs := l.rcd.nregs, abytes := l.rcd.abytes, wbytes := l.rcd.wbytes, abase := base.1, wbase := base.2
    nbars := l.rcd.bars, quires := List.replicate l.rcd.quires {}, slots := l.rcd.slots, arg := l.rcd.arg, depth := l.depth
    nclusters := l.clusters, grid := l.rcd.grid }

/-- The groups of a team that placement makes. -/
def State.newGroups (s : State) (l : Launch) (cargo : Cargo) : List Group :=
  (List.range l.rcd.groups).map fun k => newGroup l cargo (s.nextId + 1 + k) s.nextId k s.cycle

/-- A machine with more teams and groups: launches, clusters, evaluations, the device and the bytes of memory are as they were,
and every context keeps its queues. -/
structure State.Gained (s t : State) (ts : List Team) (gs : List Group) : Prop where
  teams : t.teams = s.teams ++ ts
  groups : t.groups = s.groups ++ gs
  launches : t.launches = s.launches
  clusters : t.clusters = s.clusters
  evals : t.evals = s.evals
  dev : t.dev = s.dev
  mem : t.mem = { s.mem with sectors := t.mem.sectors }
  contexts : ∀ n c, s.context n = some c → ∃ c', t.context n = some c' ∧ c'.queues = c.queues

theorem State.Gained.refl (s : State) : s.Gained s [] [] :=
  ⟨(List.append_nil _).symm, (List.append_nil _).symm, rfl, rfl, rfl, rfl, rfl, fun _ c hc => ⟨c, hc, rfl⟩⟩

theorem State.Gained.trans {s t u : State} {ts us : List Team} {gs hs : List Group} (a : s.Gained t ts gs) (b : t.Gained u us hs) :
    s.Gained u (ts ++ us) (gs ++ hs) where
  teams := by rw [b.teams, a.teams, List.append_assoc]
  groups := by rw [b.groups, a.groups, List.append_assoc]
  launches := b.launches.trans a.launches
  clusters := b.clusters.trans a.clusters
  evals := b.evals.trans a.evals
  dev := b.dev.trans a.dev
  mem := by rw [b.mem, a.mem]
  contexts n c hc := by
    obtain ⟨d, hd, hq⟩ := a.contexts n c hc
    obtain ⟨e, he, hq'⟩ := b.contexts n d hd
    exact ⟨e, he, hq'.trans hq⟩

theorem openBudget_keeps (c : Context) (core scale : Nat) :
    (c.openBudget core scale).num = c.num ∧ (c.openBudget core scale).queues = c.queues := by
  unfold Context.openBudget
  split <;> exact ⟨rfl, rfl⟩

/-- A context replaced by one that keeps its queues. -/
theorem setContext_contexts {s : State} {n : Nat} {c d : Context} (h : s.context n = some c) (hn : d.num = n) (hq : d.queues = c.queues)
    (m : Nat) (x : Context) (hx : s.context m = some x) : ∃ y, (s.setContext d).context m = some y ∧ y.queues = x.queues := by
  by_cases hm : m = n
  · subst hm
    obtain rfl := Option.some.inj (h.symm.trans hx)
    exact ⟨d, context_setContext h hn, hq⟩
  · refine ⟨x, (find_replace_other (by simp [hn, Ne.symm hm]) fun y hy => ?_).trans hx, rfl⟩
    simp [beq_iff_eq.1 hy, hn, Ne.symm hm]

theorem placeTeam_gained (s : State) (l : Launch) (cargo : Cargo) (cl : Cluster) (index : Nat) (q : QuadId) :
    s.Gained (s.placeTeam l cargo cl index q) [s.newTeam l cl index q] (s.newGroups l cargo) ∧
      s.nextId < (s.placeTeam l cargo cl index q).nextId := by
  have hlt : s.nextId < s.nextId + 1 + l.rcd.groups := by omega
  unfold State.placeTeam
  dsimp only
  split
  · rename_i c hc
    obtain ⟨hn, hq⟩ := openBudget_keeps c (coreIdx q) s.dev.scale
    exact ⟨⟨rfl, rfl, rfl, rfl, rfl, rfl, rfl, setContext_contexts (s := s) hc (hn.trans (context_num hc)) hq⟩, hlt⟩
  · exact ⟨⟨rfl, rfl, rfl, rfl, rfl, rfl, rfl, fun _ c hc => ⟨c, hc, rfl⟩⟩, hlt⟩

/-! ### The room of other cores -/

/-- Every team's id has been given. -/
def State.idsGiven (s : State) : Prop := ∀ t ∈ s.teams, t.tid < s.nextId

section Other
variable {s t : State} {x : Team} {gs : List Group} (hgain : s.Gained t [x] gs)
include hgain

theorem Gained_idsGiven (hids : s.idsGiven) (hx : x.tid = s.nextId) (hnext : s.nextId < t.nextId) : t.idsGiven := fun y hy => by
  rw [hgain.teams, List.mem_append, List.mem_singleton] at hy
  rcases hy with hy | rfl
  · exact (hids y hy).trans hnext
  · exact hx ▸ hnext

/-- Whether a group's team stands on a quad of another core is as before. -/
theorem Gained_team_on {q : QuadId} (hq : x.place ≠ q) (n : Nat) :
    ((t.team n).any fun y => y.place == q) = (s.team n).any fun y => y.place == q := by
  have hfind : t.team n = (s.team n).or ([x].find? fun y => y.tid == n) := by
    unfold State.team
    rw [hgain.teams, List.find?_append]
  rw [hfind]
  cases s.team n with
  | some y => rfl
  | none =>
    show ([x].find? fun y => y.tid == n).any _ = false
    by_cases hn : x.tid = n <;> simp [hn, hq]

variable (hids : s.idsGiven) (hgs : ∀ g ∈ gs, g.team = s.nextId)
include hids hgs

theorem Gained_rowsUsed {q : QuadId} (hq : x.place ≠ q) : t.rowsUsed q = s.rowsUsed q := by
  have hnone : s.team s.nextId = none := List.find?_eq_none.2 fun y hy => by
    simpa using Nat.ne_of_lt (hids y hy)
  have hnew : gs.filter (fun g => !g.status.isSpilled && (t.team g.team).any fun y => y.place == q) = [] :=
    List.filter_eq_nil_iff.2 fun g hg => by
      rw [Gained_team_on hgain hq, hgs g hg, hnone]
      simp
  unfold State.rowsUsed
  rw [hgain.groups, List.filter_append, hnew, List.append_nil]
  simp only [Gained_team_on hgain hq]

theorem Gained_fitQuads (f : Foot) {die core : Nat} (hne : x.place.core ≠ core) : t.fitQuads f die core = s.fitQuads f die core := by
  have hteams : t.coreTeams die core = s.coreTeams die core := by
    unfold State.coreTeams
    rw [hgain.teams, List.filter_append, List.filter_cons_of_neg (by simp [hne]), List.filter_nil, List.append_nil]
  have hroom : t.coreRoom f die core = s.coreRoom f die core := by
    unfold State.coreRoom
    rw [hteams, hgain.dev]
  unfold State.fitQuads
  rw [hroom]
  refine if_congr Iff.rfl rfl (List.filter_congr fun q hq => ?_)
  obtain ⟨k, -, rfl⟩ := List.mem_map.1 hq
  have hq' : x.place ≠ ⟨die, core, k⟩ := fun e => hne (congrArg QuadId.core e)
  unfold State.quadRoom
  rw [Gained_rowsUsed hgain hids hgs hq']

end Other

theorem mem_fitQuads {s : State} {f : Foot} {die core : Nat} {q : QuadId} (h : q ∈ s.fitQuads f die core) : q.die = die ∧ q.core = core := by
  unfold State.fitQuads at h
  split at h
  · cases h
  · obtain ⟨hq, -⟩ := List.mem_filter.1 h
    obtain ⟨k, -, rfl⟩ := List.mem_map.1 hq
    exact ⟨rfl, rfl⟩

/-! ### The teams of a cluster (R258) -/

/-- A team of a cluster as it begins, on a quad that had room for it. -/
def State.teamBegins (s : State) (l : Launch) (cl : Cluster) (index core : Nat) (x : Team) : Prop :=
  x.index = index ∧ x.cluster = cl.cid ∧ x.launch = l.lid ∧ x.place.die = cl.die ∧ x.place.core = core ∧
    x.place ∈ s.fitQuads l.rcd.foot cl.die core ∧ x.abuf = [] ∧ x.wbuf = [] ∧ x.quires = List.replicate l.rcd.quires {} ∧
    x.slots = l.rcd.slots ∧ x.origin = l.origin

/-- The teams of a cluster on cores that have room for them, each core its own: one team to a core, with its groups. -/
theorem placeTeams_gained {s : State} (l : Launch) {cargo : Cargo} (hc : cargo.recs.length ≤ 64) (cl : Cluster) {cores : List (Nat × Nat)}
    (hids : cores.length ≤ 1 ∨ s.idsGiven) (hcores : (cores.map Prod.snd).Nodup)
    (hfit : ∀ c ∈ cores, s.fitQuads l.rcd.foot cl.die c.2 ≠ []) :
    ∃ ts gs, s.Gained (s.placeTeams l cargo cl cores) ts gs ∧ ts.length = cores.length ∧
      (∀ (k : Nat) (x : Team), ts[k]? = some x → ∃ c, cores[k]? = some c ∧ s.teamBegins l cl c.1 c.2 x) ∧
      gs.length = cores.length * l.rcd.groups ∧
      ∀ h ∈ gs, ∃ x ∈ ts, ∃ gid index cycle, h = newGroup l cargo gid x.tid index cycle := by
  induction cores generalizing s with
  | nil => exact ⟨[], [], .refl s, rfl, fun k x hx => by simp at hx, by simp, by simp⟩
  | cons c r ih =>
    obtain ⟨index, core⟩ := c
    rw [List.map_cons, List.nodup_cons] at hcores
    obtain ⟨hnotin, hnodup⟩ := hcores
    obtain ⟨q, hq, hpick⟩ := pickFrom_ne_nil (s.free + index + 1) (hfit _ List.mem_cons_self)
    obtain ⟨hdie, hcore⟩ := mem_fitQuads hq
    obtain ⟨hgain, hnext⟩ := placeTeam_gained s l cargo cl index q
    have hteam : ∀ g ∈ s.newGroups l cargo, g.team = s.nextId := fun g hg => by
      obtain ⟨k, -, rfl⟩ := List.mem_map.1 hg
      exact (newGroup_begins l hc _ _ _ _).2.1
    have hsame : ∀ d ∈ r, (s.placeTeam l cargo cl index q).fitQuads l.rcd.foot cl.die d.2 = s.fitQuads l.rcd.foot cl.die d.2 := fun d hd => by
      have hgiven : s.idsGiven := hids.resolve_left (by
        have := List.length_pos_of_mem hd
        rw [List.length_cons]
        omega)
      refine Gained_fitQuads hgain hgiven hteam _ fun e => hnotin ?_
      exact List.mem_map.2 ⟨d, hd, e.symm.trans hcore⟩
    obtain ⟨ts, gs, hgain', hlen, hts, hglen, hgs⟩ := ih (s := s.placeTeam l cargo cl index q)
      (hids.imp (fun h => by simp at h; simp [h]) fun h => Gained_idsGiven hgain h rfl hnext) hnodup fun d hd => by
        rw [hsame d hd]
        exact hfit d (List.mem_cons_of_mem _ hd)
    have hrun : s.placeTeams l cargo cl ((index, core) :: r) = (s.placeTeam l cargo cl index q).placeTeams l cargo cl r := by
      conv_lhs => unfold State.placeTeams
      rw [hpick]
    refine ⟨_, _, hrun ▸ hgain.trans hgain', by simp [hlen], fun k x hx => ?_, ?_, fun h hh => ?_⟩
    · cases k with
      | zero =>
        obtain rfl := Option.some.inj hx
        exact ⟨_, rfl, rfl, rfl, rfl, hdie, hcore, hq, rfl, rfl, rfl, rfl, rfl⟩
      | succ k =>
        obtain ⟨c, hk, hx⟩ := hts k x hx
        have hfits := hsame c (List.mem_of_getElem? hk)
        unfold State.teamBegins at hx
        rw [hfits] at hx
        exact ⟨c, hk, hx⟩
    · rw [List.length_append, hglen, List.length_cons, Nat.add_one_mul, Nat.add_comm]
      simp [State.newGroups]
    · rcases List.mem_append.1 hh with hh | hh
      · obtain ⟨k, -, rfl⟩ := List.mem_map.1 hh
        exact ⟨_, List.mem_cons_self, _, _, _, rfl⟩
      · obtain ⟨x, hx, hnew⟩ := hgs h hh
        exact ⟨x, List.mem_cons_of_mem _ hx, hnew⟩

end Sys2Proof.Machine
end

section
/-!
SUPPORT. A cluster placed on a rectangle (R257, R258, R260).
-/
namespace Sys2Proof.Machine
set_option Elab.async false

/-! ### Rectangles -/

theorem mem_allSpots {dies : List Nat} {rows cols : Nat} {p : Spot} (h : p ∈ allSpots dies rows cols) :
    p.die ∈ dies ∧ p.col + cols ≤ 16 := by
  obtain ⟨d, hd, h⟩ := List.mem_flatMap.1 h
  obtain ⟨y, -, h⟩ := List.mem_flatMap.1 h
  obtain ⟨x, hx, rfl⟩ := List.mem_map.1 h
  have hlt : x < 16 + 1 - cols := List.mem_range.1 hx
  exact ⟨hd, by show x + cols ≤ 16; omega⟩

/-- A place where a launch may stand has room, lies on the mesh, and, for a launch without a parent, on one of its dies. -/
theorem mem_spots {s : State} {l : Launch} {p : Spot} (hl : l.parent = none ∨ (l.rcd.rows = 1 ∧ l.rcd.cols = 1)) (h : p ∈ s.spots l) :
    s.fitsAt l.rcd p = true ∧ p.col + l.rcd.cols ≤ 16 ∧ (l.parent = none → p.die ∈ l.dies) := by
  unfold State.spots at h
  dsimp only at h
  split at h
  · rename_i q hq
    have hparent : l.parent ≠ none := fun e => by simp [e] at hq
    obtain ⟨-, hcols⟩ := hl.resolve_left hparent
    rw [hcols]
    split at h
    · obtain ⟨hp, hfit⟩ := List.mem_filter.1 h
      exact ⟨hfit, (mem_allSpots hp).2, fun e => absurd e hparent⟩
    · obtain ⟨hp, hfit⟩ := List.mem_filter.1 h
      exact ⟨hfit, (mem_allSpots (List.mem_filter.1 hp).1).2, fun e => absurd e hparent⟩
  · cases h
  · obtain ⟨hp, hfit⟩ := List.mem_filter.1 h
    obtain ⟨hdie, hcol⟩ := mem_allSpots hp
    exact ⟨hfit, hcol, fun _ => hdie⟩

/-- The cores of a rectangle, numbered. -/
def Spot.numbered (p : Spot) (rows cols : Nat) : List (Nat × Nat) := (List.range (p.cores rows cols).length).zip (p.cores rows cols)

theorem numbered_length (p : Spot) (rows cols : Nat) : (p.numbered rows cols).length = rows * cols := by
  unfold Spot.numbered Spot.cores
  rw [List.length_zip, List.length_range, Nat.min_self, List.length_map, List.length_range]

/-- The cores of a rectangle by their place in TEAM order. -/
theorem cores_getElem? {p : Spot} {rows cols k : Nat} {c : Nat × Nat}
    (h : (p.numbered rows cols)[k]? = some c) :
    c = (k, 16 * (p.row + k / cols) + p.col + k % cols) := by
  unfold Spot.numbered Spot.cores at h
  obtain ⟨hk, hc⟩ := List.getElem?_eq_some_iff.1 h
  rw [← hc, List.getElem_zip, List.getElem_range, List.getElem_map, List.getElem_range, Nat.add_assoc]
  rfl

theorem cores_nodup {p : Spot} {rows cols : Nat} (h : p.col + cols ≤ 16) : (p.cores rows cols).Nodup := by
  refine List.Nodup.map_on (fun a ha b hb heq => ?_) List.nodup_range
  have hcols : 0 < cols := by
    by_contra h0
    obtain rfl : cols = 0 := by omega
    simp at ha
  have hma := Nat.mod_lt a hcols
  have hmb := Nat.mod_lt b hcols
  have heq' : 16 * (p.row + a / cols) + (p.col + a % cols) = 16 * (p.row + b / cols) + (p.col + b % cols) := heq
  have hdiv : a / cols = b / cols := by omega
  have hmod : a % cols = b % cols := by omega
  rw [← Nat.div_add_mod a cols, ← Nat.div_add_mod b cols, hdiv, hmod]

/-! ### A cluster placed -/

/-- The cluster that placement makes on a rectangle. -/
def State.newCluster (s : State) (l : Launch) (p : Spot) : Cluster :=
  { cid := s.nextId, launch := l.lid, index := ((l.parent.bind { s with nextId := s.nextId + 1 }.cluster).map Cluster.index).getD l.placed
    die := p.die, row := p.row, col := p.col, rows := l.rcd.rows, cols := l.rcd.cols }

/-- A machine in which a launch has one more cluster, on a rectangle where each of its teams had room (R257 to R260). -/
structure State.ClusterPlaced (s t : State) (l : Launch) (cargo : Cargo) (p : Spot) (cl : Cluster) (ts : List Team) (gs : List Group) :
    Prop where
  clusters : t.clusters = s.clusters ++ [cl]
  launch : cl.launch = l.lid
  rows : cl.rows = l.rcd.rows
  cols : cl.cols = l.rcd.cols
  spot : (⟨cl.die, cl.row, cl.col⟩ : Spot) = p
  teams : t.teams = s.teams ++ ts
  team_count : ts.length = l.rcd.rows * l.rcd.cols
  team : ∀ (k : Nat) (x : Team), ts[k]? = some x → s.teamBegins l cl k (16 * (cl.row + k / l.rcd.cols) + cl.col + k % l.rcd.cols) x
  groups : t.groups = s.groups ++ gs
  group_count : gs.length = l.rcd.rows * l.rcd.cols * l.rcd.groups
  group : ∀ h ∈ gs, ∃ x ∈ ts, ∃ gid index cycle, h = newGroup l cargo gid x.tid index cycle
  launches : t.launches = (s.setLaunch { l with st := .running, placed := l.placed + 1 }).launches
  evals : t.evals = s.evals
  mem : t.mem = { s.mem with sectors := t.mem.sectors }
  contexts : ∀ n c, s.context n = some c → ∃ c', t.context n = some c' ∧ c'.queues = c.queues

theorem placeAt_placed {s : State} {l : Launch} {cargo : Cargo} (hc : cargo.recs.length ≤ 64) {p : Spot}
    (hids : l.rcd.rows * l.rcd.cols ≤ 1 ∨ s.idsGiven) (hfit : s.fitsAt l.rcd p = true) (hcol : p.col + l.rcd.cols ≤ 16) :
    ∃ cl ts gs, s.ClusterPlaced (s.placeAt l cargo p) l cargo p cl ts gs := by
  have hzip := numbered_length p l.rcd.rows l.rcd.cols
  have hcores : ((p.numbered l.rcd.rows l.rcd.cols).map Prod.snd).Nodup := by
    unfold Spot.numbered
    rw [List.map_snd_zip (by simp)]
    exact cores_nodup hcol
  have hroom : ∀ c ∈ p.numbered l.rcd.rows l.rcd.cols, s.fitQuads l.rcd.foot p.die c.2 ≠ [] := fun c hc => by
    simpa using List.all_eq_true.1 hfit c.2 (List.of_mem_zip hc).2
  obtain ⟨ts, gs, hgain, htlen, hts, hglen, hgs⟩ :=
    placeTeams_gained (s := { s with nextId := s.nextId + 1, clusters := s.clusters ++ [s.newCluster l p] }) l hc (s.newCluster l p)
      (hids.imp (fun h => hzip ▸ h) fun h t ht => (h t ht).trans (Nat.lt_succ_self _)) hcores hroom
  refine ⟨s.newCluster l p, ts, gs, hgain.clusters, rfl, rfl, rfl, rfl, hgain.teams, htlen.trans hzip, fun k x hx => ?_, hgain.groups,
    by rw [hglen, hzip], hgs, congrArg (replace _ _) hgain.launches, hgain.evals, hgain.mem, hgain.contexts⟩
  obtain ⟨c, hk, hx⟩ := hts k x hx
  rw [cores_getElem? hk] at hx
  exact hx

end Sys2Proof.Machine
end

section
/-!
SUPPORT. CLUSTER_PLACE and GATHERING_PLACE (R244, R245, R249, R258).
-/
namespace Sys2Proof.Machine
set_option Elab.async false

/-! ### The open dies of a launch (R249; log 37) -/

theorem mem_openDies {s : State} {l : Launch} {d : Nat} : d ∈ s.openDies l ↔ d < 4 ∧ s.mayPlace l = true ∧ s.evalFits d = false ∧
    ∀ x ∈ s.launches, x.lid ≠ l.lid → s.mayPlace x = true → s.precedes d x l = true → s.fitsNow d x = false := by
  unfold State.openDies
  split
  · rename_i hmay
    simp only [List.mem_filter, List.mem_range, Bool.and_eq_true, Bool.not_eq_true', List.all_eq_true, Bool.or_eq_true, beq_iff_eq,
      Bool.and_eq_false_iff, hmay, true_and]
    refine and_congr_right fun _ => and_congr_right fun _ => forall_congr' fun x => forall_congr' fun _ => ?_
    constructor
    · intro h hne hx hp
      simpa [hne, hx, hp] using h
    · intro h
      by_cases hlid : x.lid = l.lid
      · exact .inl hlid
      · cases hx : s.mayPlace x with
        | false => simp
        | true =>
          cases hp : s.precedes d x l with
          | false => simp
          | true => simp [h hlid hx hp]
  · rename_i hmay
    simp [hmay]

/-! ### The next cluster of a launch (R258) -/

/-- Without the grid-barrier flag a launch places one cluster, on a free choice of its places on some dies. -/
theorem placeNext_one {s : State} {l : Launch} (hl : s.launch l.lid = some l) (hgrid : l.rcd.grid = false) (dies : List Nat) (cargo : Cargo) :
    s.placeNext dies l cargo = (pickFrom s.free ((s.spots l).filter fun p => dies.contains p.die)).map (s.placeAt l cargo) := by
  unfold State.placeNext
  rw [hgrid]
  show State.placeMany l.lid cargo dies 1 s = _
  unfold State.placeMany
  rw [hl]
  dsimp only [Nat.mul_zero, Nat.add_zero]
  cases pickFrom s.free ((s.spots l).filter fun p => dies.contains p.die) <;> rfl

theorem launch_lid {s : State} {n : Nat} {l : Launch} (h : s.launch n = some l) : l.lid = n := by
  simpa using List.find?_some h

section Cluster
variable {s : State} {l : Launch} (hl : s.launch s.ev.launch = some l)
include hl

/-- Where a launch may not be placed now, or has no place, CLUSTER_PLACE changes nothing. -/
theorem exec_clusterPlace_none (h : s.mayPlace l = false ∨ (l.rcd.grid = false ∧
    ((s.spots l).filter fun p => (s.openDies l).contains p.die) = [])) : exec .clusterPlace s = .next s := by
  have hlid : s.launch l.lid = some l := (launch_lid hl).symm ▸ hl
  show execClusterPlace s = _
  unfold execClusterPlace
  rw [hl]
  dsimp only
  split
  · rfl
  · rcases h with h | ⟨hgrid, hnil⟩
    · rw [if_neg (by simp [h])]
    · rw [placeNext_one hlid hgrid, hnil]
      exact congrArg _ (ite_self _)

/-- CLUSTER_PLACE of a launch that has a place puts its next cluster there. -/
theorem exec_clusterPlace_places (ho : l.origin = .host ∨ ∃ p q, l.origin = .child p q) (hgrid : l.rcd.grid = false) (hrecs : l.recs = [])
    (hmay : s.mayPlace l = true) (hne : ((s.spots l).filter fun p => (s.openDies l).contains p.die) ≠ []) :
    ∃ p ∈ (s.spots l).filter (fun p => (s.openDies l).contains p.die), exec .clusterPlace s = .next (s.placeAt l {} p) := by
  have hlid : s.launch l.lid = some l := (launch_lid hl).symm ▸ hl
  obtain ⟨p, hp, hpick⟩ := pickFrom_ne_nil s.free hne
  refine ⟨p, hp, ?_⟩
  show execClusterPlace s = _
  unfold execClusterPlace
  rw [hl]
  dsimp only
  rw [if_pos hmay, hrecs, placeNext_one hlid hgrid, hpick]
  rcases ho with ho | ⟨a, b, ho⟩
  · rw [ho]
    rfl
  · rw [ho]
    rfl

end Cluster

/-! ### The oldest gathering of a queue (R244, R245) -/

/-- The machines agree but for the device, and for memory, whose bytes are the same. -/
structure State.onlyDevice (s t : State) : Prop where
  rest : t = { s with mem := t.mem, dev := t.dev }
  bytes : t.mem.bytes = s.mem.bytes

theorem State.onlyDevice.refl (s : State) : s.onlyDevice s := ⟨rfl, rfl⟩

theorem State.onlyDevice.trans {s t u : State} (h : s.onlyDevice t) (k : t.onlyDevice u) : s.onlyDevice u :=
  ⟨by rw [k.rest, h.rest], k.bytes.trans h.bytes⟩

theorem State.onlyDevice.keeps {s t : State} (h : s.onlyDevice t) :
    t.nextId = s.nextId ∧ t.teams = s.teams ∧ t.groups = s.groups ∧ t.evals = s.evals := by
  rw [h.rest]
  exact ⟨rfl, rfl, rfl, rfl⟩

theorem raise_onlyDevice (s : State) (r : List Byte) : s.onlyDevice (s.raise r) := by
  unfold State.raise
  split_ifs <;> exact ⟨rfl, rfl⟩

theorem queue_num {c : Context} {n : Nat} {q : NodeQueue} (h : c.queue n = some q) : q.num = n := by
  simpa using List.find?_some h

theorem queue_setQueue {c : Context} {n : Nat} {q x : NodeQueue} (h : c.queue n = some q) (hx : x.num = n) :
    (c.setQueue x).queue n = some x := by
  subst hx
  exact find_replace_same h (by simp)

/-- A queue that is looked at for its end keeps its gatherings, and the machine its groups and teams. -/
theorem settleQueue_keeps {s : State} {n m : Nat} {c : Context} {q : NodeQueue} (hc : s.context n = some c) (hq : c.queue m = some q) :
    (s.settleQueue n m).teams = s.teams ∧ (s.settleQueue n m).groups = s.groups ∧
      ∃ c' q', (s.settleQueue n m).context n = some c' ∧ c'.queue m = some q' ∧ q'.gatherings = q.gatherings := by
  have hof : s.queueOf n m = some (c, q) := by
    unfold State.queueOf
    rw [hc, Option.bind_some, hq, Option.map_some]
  unfold State.settleQueue
  rw [hof]
  dsimp only
  split
  · have hraise := raise_onlyDevice (s.setContext (c.setQueue { q with closed := true })) (completionEvent 0 n 0x17 0 q.closeTag)
    rw [hraise.rest]
    have hnum := queue_num hq
    have hctx := context_num hc
    exact ⟨rfl, rfl, _, _, context_setContext hc (by exact hctx), queue_setQueue hq (by exact hnum), rfl⟩
  · exact ⟨rfl, rfl, c, q, hc, hq, rfl⟩

theorem exec_gatheringPlace_none {s : State} {c : Context} {q : NodeQueue} (hc : s.context s.ev.ctx = some c)
    (hq : c.queue s.ev.queue = some q) (hnil : q.gatherings = []) : exec .gatheringPlace s = .next s := by
  have hof : s.queueOf s.ev.ctx s.ev.queue = some (c, q) := by
    unfold State.queueOf
    rw [hc, Option.bind_some, hq, Option.map_some]
  show execGatheringPlace s = _
  unfold execGatheringPlace
  rw [hof]
  dsimp only
  rw [hnil]

/-- GATHERING_PLACE puts the queue's oldest gathering on a place of its launch, and looks at the queue for its end. -/
theorem exec_gatheringPlace_places {s : State} {c : Context} {q : NodeQueue} {g : Gathering} {rest : List Gathering} {l : Launch}
    (hc : s.context s.ev.ctx = some c) (hq : c.queue s.ev.queue = some q) (hg : q.gatherings = g :: rest)
    (hl : s.launch g.lid = some l) (hmay : s.mayPlace l = true) (hgrid : l.rcd.grid = false)
    (hroom : ∃ p ∈ s.spots l, p.die ∈ s.openDies l) : ∃ p ∈ s.spots l, exec .gatheringPlace s = .next
      (((s.setContext (c.setQueue { q with gatherings := rest })).placeAt l { recs := g.recs.map Rec.words } p).settleQueue
        s.ev.ctx s.ev.queue) := by
  have hof : s.queueOf s.ev.ctx s.ev.queue = some (c, q) := by
    unfold State.queueOf
    rw [hc, Option.bind_some, hq, Option.map_some]
  have hlid : (s.setContext (c.setQueue { q with gatherings := rest })).launch l.lid = some l := (launch_lid hl).symm ▸ hl
  have hne : ((s.spots l).filter fun p => (s.openDies l).contains p.die) ≠ [] := by
    obtain ⟨p, hp, hd⟩ := hroom
    exact List.ne_nil_of_mem (List.mem_filter.2 ⟨hp, List.contains_iff_mem.2 hd⟩)
  obtain ⟨p, hp, hpick⟩ := pickFrom_ne_nil s.free hne
  refine ⟨p, (List.mem_filter.1 hp).1, ?_⟩
  have hplace : (s.setContext (c.setQueue { q with gatherings := rest })).placeNext (s.openDies l) l { recs := g.recs.map Rec.words } =
      some ((s.setContext (c.setQueue { q with gatherings := rest })).placeAt l { recs := g.recs.map Rec.words } p) := by
    rw [placeNext_one hlid hgrid]
    exact congrArg (Option.map _) hpick
  show execGatheringPlace s = _
  unfold execGatheringPlace
  rw [hof]
  dsimp only
  rw [hg]
  dsimp only
  rw [hl]
  dsimp only
  rw [if_pos hmay, hplace, context_num hc, queue_num hq]

end Sys2Proof.Machine
end

section
/-!
SUPPORT. EVALUATOR_LAUNCH (R205, R213).
-/
namespace Sys2Proof.Machine
set_option Elab.async false

/-! ### What the device's reads leave -/

theorem setMem_onlyDevice (s : State) {m : Memory} (h : s.mem.onlyLines m) : s.onlyDevice (s.setMem m) :=
  ⟨rfl, by unfold Memory.onlyLines at h; exact (congrArg Memory.bytes h :)⟩

theorem foldl_onlyDevice {α : Type} {f : State → α → State} (hf : ∀ (s : State) (a : α), s.onlyDevice (f s a))
    (l : List α) (s : State) : s.onlyDevice (l.foldl f s) :=
  List.foldlRecOn l f (motive := s.onlyDevice) (.refl s) fun t ht a _ => ht.trans (hf t a)

theorem memoryError_onlyDevice (s : State) (ctx : Option Nat) (u : Nat) : s.onlyDevice (s.memoryError ctx u) := by
  unfold State.memoryError State.uncorrectable
  refine .trans ?_ (raise_onlyDevice _ _)
  exact ⟨rfl, rfl⟩

theorem tableError_onlyDevice (s : State) (c : Context) (va : Addr) : s.onlyDevice (s.tableError c va) := by
  unfold State.tableError
  split
  · split
    · exact memoryError_onlyDevice s _ _
    · exact .refl s
  · exact .refl s

theorem useTables_onlyDevice (s : State) (die core : Nat) (c : Context) (va : Addr) : s.onlyDevice (s.useTables die core c va) := by
  unfold State.useTables
  dsimp only
  split_ifs
  · exact .refl s
  · exact setMem_onlyDevice s (readTables_onlyLines _ _ _)

theorem portWalks_onlyDevice (s : State) (c : Context) (ps : List (Addr × Nat)) : s.onlyDevice (s.portWalks c ps) :=
  foldl_onlyDevice (fun s _ => useTables_onlyDevice s _ _ _ _) ps s

theorem devSaw_onlyDevice (s : State) (c : Context) (va : Addr) (n : Nat) : s.onlyDevice (s.devSaw c va n) := by
  unfold State.devSaw
  refine (portWalks_onlyDevice s c _).trans (foldl_onlyDevice (fun s p => ?_) _ _)
  split
  · split_ifs
    · exact .refl s
    · exact memoryError_onlyDevice s _ _
    · exact setMem_onlyDevice s (l2Use_onlyLines _ _ _ _ _)
  · split_ifs
    · exact tableError_onlyDevice s _ _
    · exact .refl s
  · exact .refl s

theorem imageSaw_onlyDevice (s : State) (c : Context) (a : Addr) : s.onlyDevice (s.imageSaw c a) := by
  unfold State.imageSaw
  exact (devSaw_onlyDevice _ _ _ _).trans (devSaw_onlyDevice _ _ _ _)

theorem kernelSaw_onlyDevice (s : State) (c : Context) (a : Addr) : s.onlyDevice (s.kernelSaw c a) := by
  unfold State.kernelSaw
  exact (devSaw_onlyDevice _ _ _ _).trans (imageSaw_onlyDevice _ _ _)

/-! ### Numbers in memory -/

theorem ofLe_append (a b : List Byte) : ofLe (a ++ b) = ofLe a + 256 ^ a.length * ofLe b := by
  induction a with
  | nil => simp [ofLe]
  | cons x r ih =>
    rw [List.cons_append, ofLe, ofLe, ih, List.length_cons, pow_succ]
    ring

theorem ofLe_lt (a : List Byte) : ofLe a < 256 ^ a.length := by
  induction a with
  | nil => simp [ofLe]
  | cons x r ih =>
    have hx := x.isLt
    rw [ofLe, List.length_cons, pow_succ]
    omega

theorem lookups_add {α : Type} (d : α) (m : List (Nat × α)) (a n k : Nat) :
    lookups d m a (n + k) = lookups d m a n ++ lookups d m (a + n) k := by
  unfold lookups
  rw [List.range_add, List.map_append, List.map_map]
  congr 1
  exact List.map_congr_left fun i _ => by simp [Nat.add_assoc]

theorem length_lookups {α : Type} (d : α) (m : List (Nat × α)) (a n : Nat) : (lookups d m a n).length = n := by
  simp [lookups]

/-- A field of bytes in memory is the number at its place there. -/
theorem field_lookups (m : List (Nat × Byte)) (a : Nat) {n i k : Nat} (h : i + k ≤ n) :
    field (lookups 0 m a n) i k = ofLe (lookups 0 m (a + i) k) := by
  obtain ⟨j, rfl⟩ := Nat.exists_eq_add_of_le h
  unfold field
  rw [lookups_add, lookups_add, List.append_assoc, List.drop_left' (length_lookups _ _ _ _), List.take_left' (length_lookups _ _ _ _)]

/-- The words of a number of eight bytes. -/
theorem words_of_ofLe (m : List (Nat × Byte)) (a : Nat) :
    lo32 (BitVec.ofNat 64 (ofLe (lookups 0 m a 8))) = BitVec.ofNat 32 (ofLe (lookups 0 m a 4)) ∧
      hi32 (BitVec.ofNat 64 (ofLe (lookups 0 m a 8))) = BitVec.ofNat 32 (ofLe (lookups 0 m (a + 4) 4)) := by
  have hlo := ofLe_lt (lookups 0 m a 4)
  have hhi := ofLe_lt (lookups 0 m (a + 4) 4)
  have hsum : ofLe (lookups 0 m a 8) = ofLe (lookups 0 m a 4) + 256 ^ 4 * ofLe (lookups 0 m (a + 4) 4) := by
    rw [lookups_add 0 m a 4 4, ofLe_append, length_lookups]
  rw [length_lookups] at hlo hhi
  constructor
  · refine BitVec.eq_of_toNat_eq ?_
    rw [lo32, BitVec.extractLsb'_toNat, BitVec.toNat_ofNat, BitVec.toNat_ofNat, Nat.shiftRight_zero, hsum]
    omega
  · refine BitVec.eq_of_toNat_eq ?_
    rw [hi32, BitVec.extractLsb'_toNat, BitVec.toNat_ofNat, BitVec.toNat_ofNat, Nat.shiftRight_eq_div_pow, hsum]
    omega

/-! ### The launch of an evaluation record (R205, R213) -/

/-- What the launch of an evaluation record is: one team on the record's die, with the cell's address, the argument, the length
and the id. -/
structure EvalUnit (s : State) (e : Eval) (l : Launch) (hint : List Spot) (cargo : Cargo) : Prop where
  parent : l.parent = none
  rows : l.rcd.rows = 1
  cols : l.rcd.cols = 1
  groups : l.rcd.groups = (deferral (s.mem.unit e.head)).team
  origin : l.origin = .evaluator e.id
  lineage : l.lineage = (e.lineage <<< 16) ||| BitVec.ofNat 64 e.id
  dies : ∀ d ∈ l.dies, d = e.die
  hint : ∀ p ∈ hint, p.die = e.die ∧ p.col + 1 ≤ 16
  recs : cargo.recs = []
  vals : cargo.vals = [lo32 e.headVa, hi32 e.headVa, lo32 (deferral (s.mem.unit e.head)).arg, hi32 (deferral (s.mem.unit e.head)).arg,
    BitVec.ofNat 32 e.len, BitVec.ofNat 32 e.id]

theorem prepareUnit_dies {s : State} {c : Context} {r unit : LaunchRec} {k : LaunchKind} {sig : Addr} {die : Nat} {p : Prepared}
    (h : s.prepareUnit c r unit k sig (some die) = .ok p) : ∀ d ∈ p.dies, d = die := by
  unfold State.prepareUnit at h
  split at h
  · cases h
  · dsimp only at h
    split at h
    · cases h
      exact fun d hd => beq_iff_eq.1 (List.mem_filter.1 hd).2
    · cases h

theorem evalLaunch_unit {s : State} {c : Context} {e : Eval} {n : Nat} {l : Launch} {hint : List Spot} {cargo : Cargo}
    (h : s.evalLaunch c e n = .ok (l, hint, cargo)) : EvalUnit s e l hint cargo := by
  unfold State.evalLaunch at h
  dsimp only at h
  split at h
  · cases h
  · split at h
    · cases h
    · rename_i p hp
      cases h
      refine ⟨rfl, rfl, rfl, rfl, rfl, rfl, prepareUnit_dies hp, fun p hp => ?_, rfl, rfl⟩
      split at hp
      · rw [List.mem_singleton] at hp
        subst hp
        exact ⟨rfl, Nat.mod_lt _ (by decide)⟩
      · cases hp

/-! ### Its team placed (R213, R216) -/

/-- The machine in which an evaluation record has its launch. -/
def State.evalStarted (s : State) (e : Eval) (l : Launch) : State :=
  { s with
    nextId := s.nextId + 1, launches := s.launches ++ [l]
    evals := s.evals.map fun (x : Eval) => if x.id == e.id then { x with queued := false } else x }

/-- Where an evaluator's team may stand has room, and lies on the record's die. -/
theorem mem_evalSpots {s : State} {e : Eval} {l : Launch} {hint : List Spot} {cargo : Cargo} (hu : EvalUnit s e l hint cargo) {p : Spot}
    (hp : p ∈ s.evalSpots l hint) : s.fitsAt l.rcd p = true ∧ p.col + l.rcd.cols ≤ 16 ∧ p.die = e.die := by
  unfold State.evalSpots at hp
  dsimp only at hp
  split at hp
  · obtain ⟨hfit, hcol, hdie⟩ := mem_spots (.inl hu.parent) hp
    exact ⟨hfit, hcol, hu.dies _ (hdie hu.parent)⟩
  · obtain ⟨hp, hfit⟩ := List.mem_filter.1 hp
    obtain ⟨hdie, hcol⟩ := hu.hint p hp
    exact ⟨hfit, hu.cols.symm ▸ hcol, hdie⟩

/-- The machine once the device has read the kernel of a record that is whole. -/
def State.evalSaw (s : State) (c : Context) (e : Eval) : State :=
  if (deferral (s.mem.unit e.head)).ok = true then s.kernelSaw c (deferral (s.mem.unit e.head)).kernel else s

theorem evalSaw_onlyDevice (s : State) (c : Context) (e : Eval) : s.onlyDevice (s.evalSaw c e) := by
  unfold State.evalSaw
  split
  · exact kernelSaw_onlyDevice s _ _
  · exact .refl s

/-- The first record of a queue (R213, R215): the queue goes on with `rest` where the record has to wait. -/
def evalStep (e : Eval) (s : State) (rest : State → State) : State :=
  match s.context e.ctx with
  | none => rest s
  | some c =>
    let d := deferral (s.mem.unit e.head)
    let s := if d.ok then s.kernelSaw c d.kernel else s
    match s.evalLaunch c e s.nextId with
    | .error cause => s.endEval e.id cause
    | .ok (l, hint, cargo) =>
      match State.makeRoom e l hint cargo (s.groups.length + 1) s with
      | (s, true) => s
      | (s, false) => rest s

theorem takeEval_cons (e : Eval) (r : List Eval) (s : State) : State.takeEval (e :: r) s = evalStep e s (State.takeEval r) := by
  rfl

theorem takeEval_refused {s : State} {e : Eval} {c : Context} (r : List Eval) (hc : s.context e.ctx = some c) {cause : Byte}
    (h : (s.evalSaw c e).evalLaunch c e (s.evalSaw c e).nextId = .error cause) :
    State.takeEval (e :: r) s = (s.evalSaw c e).endEval e.id cause := by
  unfold State.evalSaw at h ⊢
  rw [takeEval_cons]
  unfold evalStep
  simp only [hc, h]

theorem takeEval_launched {s t : State} {e : Eval} {c : Context} (r : List Eval) (hc : s.context e.ctx = some c) {l : Launch}
    {hint : List Spot} {cargo : Cargo} (h : (s.evalSaw c e).evalLaunch c e (s.evalSaw c e).nextId = .ok (l, hint, cargo))
    (hroom : State.makeRoom e l hint cargo ((s.evalSaw c e).groups.length + 1) (s.evalSaw c e) = (t, true)) :
    State.takeEval (e :: r) s = t := by
  unfold State.evalSaw at h hroom
  rw [takeEval_cons]
  unfold evalStep
  simp only [hc, h, hroom]

/-- A record whose team has room is placed with no group spilled. -/
theorem makeRoom_placed {s t : State} {e : Eval} {l : Launch} {hint : List Spot} {cargo : Cargo} (n : Nat)
    (h : s.placeEval e l hint cargo = some t) : State.makeRoom e l hint cargo (n + 1) s = (t, true) := by
  unfold State.makeRoom
  rw [h]

section Launch
variable {s : State} {e : Eval} {r : List Eval} {c : Context} (hq : s.evalQueue s.ev.die = e :: r) (hc : s.context e.ctx = some c)
include hq hc

/-- A record that comes to no launch ends at its cause. -/
theorem exec_evaluatorLaunch_refused {cause : Byte} (h : (s.evalSaw c e).evalLaunch c e s.nextId = .error cause) :
    exec .evaluatorLaunch s = .next ((s.evalSaw c e).endEval e.id cause) := by
  obtain ⟨hnext, -⟩ := (evalSaw_onlyDevice s c e).keeps
  rw [← takeEval_refused r hc (hnext.symm ▸ h), ← hq]
  rfl

/-- A record whose team has room is launched on one of its places. -/
theorem exec_evaluatorLaunch_places {l : Launch} {hint : List Spot} {cargo : Cargo}
    (h : (s.evalSaw c e).evalLaunch c e s.nextId = .ok (l, hint, cargo)) (hroom : (s.evalSaw c e).evalSpots l hint ≠ []) :
    ∃ p ∈ (s.evalSaw c e).evalSpots l hint, exec .evaluatorLaunch s = .next (((s.evalSaw c e).evalStarted e l).placeAt l cargo p) := by
  obtain ⟨hnext, -⟩ := (evalSaw_onlyDevice s c e).keeps
  obtain ⟨p, hp, hpick⟩ := pickFrom_ne_nil (s.evalSaw c e).free hroom
  have hplace : (s.evalSaw c e).placeEval e l hint cargo = some (((s.evalSaw c e).evalStarted e l).placeAt l cargo p) := by
    unfold State.placeEval
    rw [hpick]
    rfl
  refine ⟨p, hp, ?_⟩
  rw [← takeEval_launched r hc (hnext.symm ▸ h) (makeRoom_placed _ hplace), ← hq]
  rfl

end Launch

end Sys2Proof.Machine
end

section
/-!
SUPPORT. GROUP_RELOAD, and the header that it writes (R216, R279).
-/
namespace Sys2Proof.Machine
set_option Elab.async false

/-! ### The write of a header -/

/-- What the write of 64 bytes at an address under a key may change of memory: no byte of another line, nor one outside the header
of a line that has the key already. -/
structure Memory.HeaderWrite (a : Nat) (key : List Byte) (m n : Memory) : Prop where
  rest : n = { m with bytes := n.bytes, tags := n.tags, keyed := n.keyed, lines := n.lines }
  frame : ∀ x, (x < a ∨ a + 64 ≤ x) → ((x / 128 ≠ a / 128 ∧ x / 128 ≠ (a + 63) / 128) ∨ m.keyOf (x / 128) = key) →
    n.byteAt x = m.byteAt x ∧ n.keyOf (x / 128) = m.keyOf (x / 128)

section Header
variable {a : Nat} {key : List Byte}

theorem Memory.HeaderWrite.refl (m : Memory) : HeaderWrite a key m m := ⟨rfl, fun _ _ _ => ⟨rfl, rfl⟩⟩

theorem Memory.HeaderWrite.trans {m n p : Memory} (h : HeaderWrite a key m n) (k : HeaderWrite a key n p) : HeaderWrite a key m p where
  rest := by rw [k.rest, h.rest]
  frame x hx hl := by
    obtain ⟨hb, hk⟩ := h.frame x hx hl
    obtain ⟨hb', hk'⟩ := k.frame x hx (hk.symm ▸ hl)
    exact ⟨hb'.trans hb, hk'.trans hk⟩

theorem mem_linesOf_header {l : Nat} (h : l ∈ linesOf a 64) : l = a / 128 ∨ l = (a + 63) / 128 := by
  unfold linesOf at h
  rw [if_neg (by decide)] at h
  obtain ⟨i, hi, rfl⟩ := List.mem_map.1 h
  rw [List.mem_range] at hi
  omega

theorem mem_unitsOf_header {u : Nat} (h : u ∈ unitsOf a 64) : ∃ k < 64, (a + k) / 64 = u := by
  unfold unitsOf at h
  rw [if_neg (by decide)] at h
  obtain ⟨i, hi, rfl⟩ := List.mem_map.1 h
  rw [List.mem_range] at hi
  by_cases h0 : i = 0
  · exact ⟨0, by omega, by omega⟩
  · exact ⟨63, by omega, by omega⟩

theorem rekey_headerWrite (m : Memory) (f : Nat) {l : Nat} (hl : l = a / 128 ∨ l = (a + 63) / 128) :
    Memory.HeaderWrite a key m (m.rekey f key l) := by
  unfold Memory.rekey
  split
  · exact .refl m
  · rename_i hkey
    refine ⟨rfl, fun x _ hx => ?_⟩
    have hne : x / 128 ≠ l := fun e => by
      rcases hx with ⟨h1, h2⟩ | hx
      · exact hl.elim (fun h => h1 (e.trans h)) fun h => h2 (e.trans h)
      · exact hkey (beq_iff_eq.2 (e ▸ hx))
    refine ⟨(lookup_puts _ _ _ _).trans (if_neg ?_), lookup_put_other _ hne⟩
    rw [List.length_map, List.length_range]
    omega

/-- A unit without poison is made ready for an ordinary write by its tag alone. -/
theorem openUnit_headerWrite {m : Memory} (ps : List Piece) {u : Nat} (hp : m.poisoned u = false) :
    Memory.HeaderWrite a key m (m.openUnit ps false u) := by
  have hnone : m.poison.filter (· != u) = m.poison := List.filter_eq_self.2 fun v hv => by
    unfold Memory.poisoned at hp
    simp only [List.contains_eq_mem, decide_eq_false_iff_not] at hp
    exact bne_iff_ne.2 fun e => hp (e ▸ hv)
  unfold Memory.openUnit
  simp only [Bool.false_and, Bool.false_eq_true, if_false]
  split
  · refine ⟨?_, fun _ _ _ => ⟨rfl, rfl⟩⟩
    show _ = { m with tags := _ }
    rw [show (m.setTag u .val).poison = m.poison from rfl, hnone]
    rfl
  · exact ⟨rfl, fun _ _ _ => ⟨rfl, rfl⟩⟩

theorem puts_headerWrite (m : Memory) {bs : List Byte} (hbs : bs.length = 64) :
    Memory.HeaderWrite a key m { m with bytes := puts 0 m.bytes a bs } :=
  ⟨rfl, fun x hx _ => ⟨(lookup_puts _ _ _ _).trans (if_neg (by omega)), rfl⟩⟩

theorem onlyLines_headerWrite {m n : Memory} (h : m.onlyLines n) : Memory.HeaderWrite a key m n := by
  unfold Memory.onlyLines at h
  rw [h]
  exact ⟨rfl, fun _ _ _ => ⟨rfl, rfl⟩⟩

/-- A header written where no unit is bad. -/
theorem physWrite_header {s : State} {bs : List Byte} (hbs : bs.length = 64) (hok : ∀ k < 64, s.unitBad ((a + k) / 64) = false) :
    ∃ m, s.physWrite a bs (some key) = s.setMem m ∧ Memory.HeaderWrite a key s.mem m := by
  have hunit : ∀ u ∈ unitsOf a bs.length, s.stackReady (64 * u) = true ∧ s.mem.poisoned u = false := fun u hu => by
    rw [hbs] at hu
    obtain ⟨k, hk, rfl⟩ := mem_unitsOf_header hu
    have hgood := hok k hk
    unfold State.unitBad at hgood
    simpa using hgood
  have hmay : s.physMay [{ pa := a, data := bs, cell := false, host := false, key := some key }] = true := by
    unfold State.physMay
    simp only [List.all_cons, List.all_nil, Bool.and_true, List.all_eq_true]
    intro u hu
    obtain ⟨hready, hpoison⟩ := hunit u hu
    simp [hready, hpoison]
  have hkeyed : Memory.HeaderWrite a key s.mem ((linesOf a bs.length).foldl (fun m l => m.rekey s.free key l) s.mem) :=
    List.foldlRecOn _ _ (motive := Memory.HeaderWrite a key s.mem) (.refl _) fun m hm l hl =>
      hm.trans (rekey_headerWrite m s.free (mem_linesOf_header (hbs ▸ hl)))
  have hopened : ∀ ps, Memory.HeaderWrite a key s.mem ((unitsOf a bs.length).foldl (fun m u => m.openUnit ps false u)
      ((linesOf a bs.length).foldl (fun m l => m.rekey s.free key l) s.mem)) := fun ps =>
    List.foldlRecOn _ _ (motive := Memory.HeaderWrite a key s.mem) hkeyed fun m hm u hu =>
      hm.trans (openUnit_headerWrite ps (by rw [hm.rest]; exact (hunit u hu).2))
  refine ⟨_, if_pos hmay, ?_⟩
  exact ((hopened _).trans (puts_headerWrite _ hbs)).trans (onlyLines_headerWrite (l2Lines_onlyLines _ true a bs.length 0 true))

end Header

/-! ### GROUP_RELOAD (R216) -/

theorem length_record (n : Nat) (fs : List (Nat × List Byte)) : (record n fs).length = n := by
  unfold record
  rw [List.length_map, List.length_range]

theorem spillHeader_eq {s : State} {n : Nat} {c : Context} (hc : s.context n = some c) (cycle : Nat) :
    ∃ bs, bs.length = 64 ∧ s.spillHeader n cycle = s.physWrite c.endBase bs (some (s.slotKey c.key)) := by
  unfold State.spillHeader
  rw [hc]
  exact ⟨_, length_record 64 _, rfl⟩

section Reload
variable {s : State} {g : Group} {t : Team} {c : Context} {w : Wait} {us : List Nat} (hg : s.group s.ev.g = some g)
  (hst : g.status = .spilled w) (hw : w = .cell us ∨ ∃ n, w = .tableFull n us) (ht : s.team g.team = some t)
  (hc : s.context t.ctx = some c)
include hg hst hw ht hc

/-- While every cell is awaited, or the context is not ACTIVE, the group stays spilled. -/
theorem exec_groupReload_waits (h : (∀ u ∈ us, s.awaits u = true) ∨ c.st ≠ .active) : exec .groupReload s = .next s := by
  have hcells : w.cells = some us := by
    rcases hw with rfl | ⟨n, rfl⟩ <;> rfl
  show execGroupReload s = _
  unfold execGroupReload
  simp only [hg, hst, ht, hcells, hc, Option.getD_some, Option.any_some]
  refine congrArg _ (if_pos ?_)
  rcases h with h | h
  · simp [List.all_eq_true.2 h]
  · simp [h]

variable (hfree : ∃ u ∈ us, s.awaits u = false) (hact : c.st = .active) (hsaved : t.saved = false)
include hfree hact hsaved

theorem exec_groupReload_reloads : exec .groupReload s = .next (s.reload g w) := by
  have hcells : w.cells = some us := by
    rcases hw with rfl | ⟨n, rfl⟩ <;> rfl
  have hall : us.all (s.awaits ·) = false := by
    obtain ⟨u, hu, hfree⟩ := hfree
    exact List.all_eq_false.2 ⟨u, hu, by simp [hfree]⟩
  show execGroupReload s = _
  unfold execGroupReload
  simp only [hg, hst, ht, hcells, hc, Option.getD_some, Option.any_some, hall, hact, hsaved]
  rfl

/-- Without room on its quad the group stays spilled. -/
theorem exec_groupReload_full (hroom : s.quadRoom ⟨1, g.nregs, 0, 0, 0, 0⟩ t.place = false) : exec .groupReload s = .next s := by
  rw [exec_groupReload_reloads hg hst hw ht hc hfree hact hsaved]
  unfold State.reload
  simp only [ht, hroom, Bool.false_eq_true, if_false]

/-- With room on its quad the group comes back parked, and the header is written. -/
theorem exec_groupReload_placed (hroom : s.quadRoom ⟨1, g.nregs, 0, 0, 0, 0⟩ t.place = true)
    (hok : ∀ k < 64, s.unitBad ((c.endBase + k) / 64) = false) :
    ∃ m, exec .groupReload s = .next ((s.placeGroup { g with status := .parked w }).setMem m) ∧
      Memory.HeaderWrite c.endBase (s.slotKey c.key) s.mem m := by
  have hctx : (s.placeGroup { g with status := .parked w }).context t.ctx = some c := hc
  obtain ⟨bs, hbs, hheader⟩ := spillHeader_eq hctx ((s.placeGroup { g with status := .parked w }).lastSave c)
  obtain ⟨m, hm, hwrite⟩ := physWrite_header (s := s.placeGroup { g with status := .parked w }) (a := c.endBase)
    (key := s.slotKey c.key) hbs hok
  have hreload : s.reload g w = (s.placeGroup { g with status := .parked w }).setMem m := by
    unfold State.reload
    simp only [ht, hroom, if_true, hctx]
    exact hheader.trans hm
  exact ⟨m, by rw [exec_groupReload_reloads hg hst hw ht hc hfree hact hsaved, hreload], hwrite⟩

end Reload

end Sys2Proof.Machine
end

section
/-!
PROOFS. Placement (O52).
-/
namespace Sys2Proof.Machine
set_option Elab.async false

/-! ### Registers of a new group -/

/-- A launch without records gives every lane the launch arguments alone. -/
theorem newGroup_arguments {l : Launch} (h : 1 ≤ l.rcd.regs16) (gid tid index cycle v : Nat) {i : Nat} (hi : i < 64) :
    (newGroup l {} gid tid index cycle).read v i = l.argument v := by
  obtain ⟨-, hread⟩ := newGroup_spec l (c := {}) (by decide) gid tid index cycle
  rw [hread v i hi, if_neg (by simp), if_neg (by simp; omega), tail_nregs h]

section Records
variable {l : Launch} {recs : List Rec} (h : 1 ≤ l.rcd.regs16) (hlen : recs.length ≤ 64) (gid tid index cycle v : Nat) {i : Nat}
  (hi : i < 64)
include h hlen hi

/-- A lane with a record holds it in v1 to v16 (R245). -/
theorem newGroup_record {r : Rec} (hr : recs[i]? = some r) :
    (newGroup l { recs := recs.map Rec.words } gid tid index cycle).read v i =
      if 1 ≤ v ∧ v ≤ 16 then r.words.getD (v - 1) 0 else l.argument v := by
  obtain ⟨-, hread⟩ := newGroup_spec l (c := { recs := recs.map Rec.words }) (by simpa using hlen) gid tid index cycle
  obtain ⟨hlt, hri⟩ := List.getElem?_eq_some_iff.1 hr
  have hwords : (recs.map Rec.words).getD i [] = r.words := by
    simp [List.getD, hr]
  rw [hread v i hi, if_neg (c := 2 ≤ v ∧ v < 2 + _) (by simp; omega), tail_nregs h, hwords]
  exact if_congr (by simp [hlt]; omega) rfl rfl

theorem newGroup_no_record (hr : recs[i]? = none) :
    (newGroup l { recs := recs.map Rec.words } gid tid index cycle).read v i = l.argument v := by
  obtain ⟨-, hread⟩ := newGroup_spec l (c := { recs := recs.map Rec.words }) (by simpa using hlen) gid tid index cycle
  have hge := List.getElem?_eq_none_iff.1 hr
  rw [hread v i hi, if_neg (by simp; omega), if_neg (by simp; omega), tail_nregs h]

end Records

/-- An evaluator's lanes hold its values from v2 on (R213). -/
theorem newGroup_values {l : Launch} {c : Cargo} (hrecs : c.recs = []) (gid tid index cycle : Nat) {k i : Nat} (hk : k < c.vals.length)
    (hi : i < 64) : (newGroup l c gid tid index cycle).read (2 + k) i = c.vals.getD k 0 := by
  obtain ⟨-, hread⟩ := newGroup_spec l (c := c) (by simp [hrecs]) gid tid index cycle
  rw [hread _ i hi, if_neg (by simp [hrecs]), if_pos (by omega), Nat.add_sub_cancel_left]

/-! ### The values of a deferral record (R205) -/

/-- The argument of the record in a unit, by words, and its number of groups. -/
theorem deferral_fields (m : Memory) (u : Nat) :
    lo32 (deferral (m.unit u)).arg = BitVec.ofNat 32 (ofLe (lookups 0 m.bytes (64 * u + 8) 4)) ∧
      hi32 (deferral (m.unit u)).arg = BitVec.ofNat 32 (ofLe (lookups 0 m.bytes (64 * u + 12) 4)) ∧
      (deferral (m.unit u)).team = (m.byteAt (64 * u + 18)).toNat := by
  have harg : (deferral (m.unit u)).arg = BitVec.ofNat 64 (ofLe (lookups 0 m.bytes (64 * u + 8) 8)) :=
    congrArg (BitVec.ofNat 64) (field_lookups m.bytes (64 * u) (n := 64) (i := 8) (k := 8) (by decide))
  have hteam : (deferral (m.unit u)).team = ofLe (lookups 0 m.bytes (64 * u + 18) 1) :=
    field_lookups m.bytes (64 * u) (n := 64) (i := 18) (k := 1) (by decide)
  obtain ⟨hlo, hhi⟩ := words_of_ofLe m.bytes (64 * u + 8)
  rw [harg, hteam]
  exact ⟨hlo, hhi, by simp [lookups, ofLe, Memory.byteAt]⟩

theorem launch_of_setLaunch {s t : State} {l x : Launch} (hl : s.launch l.lid = some l) (hx : x.lid = l.lid)
    (ht : t.launches = (s.setLaunch x).launches) : t.launch l.lid = some x := by
  unfold State.launch
  rw [ht, ← hx]
  exact find_replace_same (hx.symm ▸ hl) (by simp)

/-- A cluster of one core is one team. -/
theorem State.ClusterPlaced.single {s t : State} {l : Launch} {cargo : Cargo} {p : Spot} {cl : Cluster} {ts : List Team} {gs : List Group}
    (h : s.ClusterPlaced t l cargo p cl ts gs) (hrows : l.rcd.rows = 1) (hcols : l.rcd.cols = 1) :
    ∃ x, t.teams = s.teams ++ [x] ∧ x.place.die = cl.die ∧ x.origin = l.origin ∧ gs.length = l.rcd.groups ∧
      ∀ h ∈ gs, ∃ gid index cycle, h = newGroup l cargo gid x.tid index cycle := by
  have hcount := h.team_count
  rw [hrows, hcols] at hcount
  obtain ⟨x, rfl⟩ := List.length_eq_one_iff.1 hcount
  obtain ⟨-, -, -, hdie, -, -, -, -, -, -, horigin⟩ := h.team 0 x rfl
  refine ⟨x, h.teams, hdie, horigin, by simp [h.group_count, hrows, hcols], fun g hg => ?_⟩
  obtain ⟨y, hy, hnew⟩ := h.group g hg
  rw [List.mem_singleton] at hy
  exact hy ▸ hnew

/-- A gathering of a launch of one core is one team, and its entries are free (R244, R245). -/
theorem exec_gatheringPlace_team {s : State} {c : Context} {q : NodeQueue} {g : Gathering} {rest : List Gathering} {l : Launch}
    (hc : s.context s.ev.ctx = some c) (hq : c.queue s.ev.queue = some q) (hg : q.gatherings = g :: rest)
    (hl : s.launch g.lid = some l) (hmay : s.mayPlace l = true) (hgrid : l.rcd.grid = false)
    (hroom : ∃ p ∈ s.spots l, p.die ∈ s.openDies l) (hparent : l.parent = none) (hrows : l.rcd.rows = 1) (hcols : l.rcd.cols = 1)
    (hmany : g.recs.length ≤ 64) :
    ∃ t x gs c' q', exec .gatheringPlace s = .next t ∧ t.teams = s.teams ++ [x] ∧ t.groups = s.groups ++ gs ∧
      gs.length = l.rcd.groups ∧ t.context s.ev.ctx = some c' ∧ c'.queue s.ev.queue = some q' ∧ q'.gatherings = rest ∧
      ∀ h ∈ gs, ∃ gid index cycle, h = newGroup l { recs := g.recs.map Rec.words } gid x.tid index cycle := by
  obtain ⟨p, hp, hexec⟩ := exec_gatheringPlace_places hc hq hg hl hmay hgrid hroom
  obtain ⟨hfit, hcol, -⟩ := mem_spots (.inl hparent) hp
  obtain ⟨cl, ts, gs, hplaced⟩ := placeAt_placed (s := s.setContext (c.setQueue { q with gatherings := rest })) (l := l)
    (cargo := { recs := g.recs.map Rec.words }) (by simpa using hmany) (.inl (by rw [hrows, hcols])) hfit hcol
  obtain ⟨x, hteams, -, -, hcount, hgroups⟩ := hplaced.single hrows hcols
  have hcnum := context_num hc
  have hqnum := queue_num hq
  obtain ⟨c₁, hc₁, hqueues⟩ := hplaced.contexts s.ev.ctx _ (context_setContext hc (by exact hcnum))
  have hq₁ : c₁.queue s.ev.queue = some { q with gatherings := rest } := by
    unfold Context.queue
    rw [hqueues]
    exact queue_setQueue hq hqnum
  obtain ⟨hsteams, hsgroups, c', q', hc', hq', hrest⟩ := settleQueue_keeps hc₁ hq₁
  exact ⟨_, x, gs, c', q', hexec, hsteams.trans hteams, hsgroups.trans hplaced.groups, hcount, hc', hq', hrest, hgroups⟩

section Eval
variable {s k : State} {e : Eval} {l : Launch} {hint : List Spot} {cargo : Cargo} (hdev : s.onlyDevice k) (hunit : EvalUnit k e l hint cargo)
include hdev hunit

/-- The team of an evaluation record, where the device has read its kernel (R213). -/
theorem evalStarted_placed {p : Spot} (hp : p ∈ k.evalSpots l hint) :
    ∃ x gs, ((k.evalStarted e l).placeAt l cargo p).teams = s.teams ++ [x] ∧ x.place.die = e.die ∧ x.origin = .evaluator e.id ∧
      ((k.evalStarted e l).placeAt l cargo p).groups = s.groups ++ gs ∧ gs.length = (s.mem.byteAt (64 * e.head + 18)).toNat ∧
      ((k.evalStarted e l).placeAt l cargo p).evals = s.evals.map (fun (y : Eval) => if y.id = e.id then { y with queued := false } else y) ∧
      ∀ h ∈ gs, ∃ gid index cycle, h = newGroup l cargo gid x.tid index cycle := by
  obtain ⟨hfit, hcol, hdie⟩ := mem_evalSpots hunit hp
  obtain ⟨-, hkteams, hkgroups, hkevals⟩ := hdev.keeps
  obtain ⟨cl, ts, gs, hplaced⟩ := placeAt_placed (s := k.evalStarted e l) (l := l) (cargo := cargo)
    (by simp [hunit.recs]) (.inl (by rw [hunit.rows, hunit.cols])) hfit hcol
  obtain ⟨x, hteams, hplace, horigin, hcount, hgroups⟩ := hplaced.single hunit.rows hunit.cols
  obtain ⟨-, -, hteam⟩ := deferral_fields k.mem e.head
  refine ⟨x, gs, hteams.trans (congrArg (· ++ [x]) hkteams), ?_, horigin.trans hunit.origin,
    hplaced.groups.trans (congrArg (· ++ gs) hkgroups), ?_, hplaced.evals.trans ?_, hgroups⟩
  · exact hplace.trans ((congrArg Spot.die hplaced.spot).trans hdie)
  · rw [hcount, hunit.groups, hteam]
    unfold Memory.byteAt
    rw [hdev.bytes]
  · rw [← hkevals]
    exact List.map_congr_left fun y _ => by simp

/-- What the lanes of an evaluator hold (R213). -/
theorem evaluator_registers (gid tid index cycle : Nat) {i : Nat} (hi : i < 64) :
    let h := newGroup l cargo gid tid index cycle
    h.read 2 i = BitVec.ofNat 32 (e.headVa.toNat / 2 ^ (32 * 0)) ∧ h.read 3 i = BitVec.ofNat 32 (e.headVa.toNat / 2 ^ (32 * 1)) ∧
      h.read 4 i = BitVec.ofNat 32 (ofLe (lookups 0 s.mem.bytes (64 * e.head + 8) 4)) ∧
      h.read 5 i = BitVec.ofNat 32 (ofLe (lookups 0 s.mem.bytes (64 * e.head + 12) 4)) ∧
      h.read 6 i = BitVec.ofNat 32 e.len ∧ h.read 7 i = BitVec.ofNat 32 e.id := by
  obtain ⟨hlo, hhi, -⟩ := deferral_fields k.mem e.head
  obtain ⟨hvlo, hvhi⟩ := words_of_addr e.headVa
  have hvals := hunit.vals
  rw [hlo, hhi, hvlo, hvhi, hdev.bytes] at hvals
  have hread : ∀ n < 6, (newGroup l cargo gid tid index cycle).read (2 + n) i = cargo.vals.getD n 0 := fun n hn =>
    newGroup_values hunit.recs gid tid index cycle (by rw [hvals]; exact hn) hi
  rw [hvals] at hread
  exact ⟨hread 0 (by decide), hread 1 (by decide), hread 2 (by decide), hread 3 (by decide), hread 4 (by decide), hread 5 (by decide)⟩

end Eval

end Sys2Proof.Machine

open Sys2Proof Sys2Proof.Machine

/-- Settles O52: each event by the cluster that it places, whose teams and groups are those of `placeAt`; the reload by the header
that it writes. -/
theorem placement : Obligations.Placement := by
  unfold Obligations.Placement
  intro fresh half begins argument
  refine ⟨fun s l hl => ?_, fun s c q hc hq => ⟨exec_gatheringPlace_none hc hq, ?_⟩, fun s => ⟨fun hnil => ?_, ?_⟩, ?_⟩
  · intro open'
    refine ⟨fun d => mem_openDies, exec_clusterPlace_none hl, fun hfresh ho hparent hgrid hrecs h1 h8 hmay hne => ?_⟩
    obtain ⟨p, hp, hexec⟩ := exec_clusterPlace_places hl ho hgrid hrecs hmay hne
    obtain ⟨hfit, hcol, -⟩ := mem_spots hparent (List.mem_filter.1 hp).1
    obtain ⟨cl, ts, gs, hplaced⟩ := placeAt_placed (s := s) (l := l) (cargo := {}) (by decide) (.inr hfresh) hfit hcol
    refine ⟨_, cl, ts, gs, hexec, hplaced.clusters, hplaced.launch, hplaced.rows, hplaced.cols, hplaced.spot ▸ hp, hplaced.teams,
      hplaced.team_count, fun k x hx => ?_, hplaced.groups, hplaced.group_count, fun h hh => ?_, ?_, hplaced.mem⟩
    · obtain ⟨hindex, hcluster, hlaunch, hdie, hcore, hquad, habuf, hwbuf, hquires, hslots, -⟩ := hplaced.team k x hx
      exact ⟨hindex, hcluster, hlaunch, hdie, hcore, hcore.symm ▸ hquad, habuf, hwbuf, hquires, hslots⟩
    · obtain ⟨x, hx, gid, index, cycle, rfl⟩ := hplaced.group h hh
      obtain ⟨hbegins, hteam, hlanes⟩ := newGroup_begins l (c := {}) (by decide) gid x.tid index cycle
      exact ⟨⟨x, hx, hteam⟩, hbegins, hlanes.trans (lanes_of_no_recs rfl), fun v i _ hi => newGroup_arguments h1 _ _ _ _ v hi⟩
    · exact launch_of_setLaunch ((launch_lid hl).symm ▸ hl) rfl hplaced.launches
  · intro g rest l hg hl hmay hparent hrows hcols hgrid h2 h8 hroom hone hmany
    obtain ⟨t, x, gs, c', q', hexec, hteams, hgroups, hcount, hc', hq', hrest, hnew⟩ :=
      exec_gatheringPlace_team hc hq hg hl hmay hgrid hroom hparent hrows hcols hmany
    refine ⟨t, x, gs, c', q', hexec, hteams, hgroups, hcount, fun h hh => ?_, hc', hq', hrest⟩
    obtain ⟨gid, index, cycle, rfl⟩ := hnew h hh
    obtain ⟨hbegins, hteam, hlanes⟩ :=
      newGroup_begins l (c := { recs := g.recs.map Rec.words }) (by simpa using hmany) gid x.tid index cycle
    refine ⟨hteam, hbegins, fun i hi => ⟨?_, fun v _ => ?_⟩⟩
    · rw [hlanes, lanes_of_recs (by simpa using List.length_pos_iff.1 hone) hi, List.length_map]
    · cases hr : g.recs[i]? with
      | some r => exact newGroup_record (by omega) hmany _ _ _ _ v hi hr
      | none => exact newGroup_no_record (by omega) hmany _ _ _ _ v hi hr
  · show execEvaluatorLaunch s = _
    unfold execEvaluatorLaunch
    rw [hnil]
    rfl
  · intro e r c hq hc d k
    refine ⟨fun cause h => exec_evaluatorLaunch_refused hq hc h, fun l hint cargo h hroom => ?_⟩
    intro word
    obtain ⟨p, hp, hexec⟩ := exec_evaluatorLaunch_places hq hc h hroom
    have hdev := evalSaw_onlyDevice s c e
    have hunit := evalLaunch_unit h
    obtain ⟨x, gs, hteams, hplace, horigin, hgroups, hcount, hevals, hnew⟩ := evalStarted_placed hdev hunit hp
    refine ⟨_, x, gs, hexec, hteams, hplace, horigin, hgroups, hcount, hevals, fun h hh => ?_⟩
    obtain ⟨gid, index, cycle, rfl⟩ := hnew h hh
    obtain ⟨hbegins, hteam, -⟩ := newGroup_begins l (c := cargo) (by simp [hunit.recs]) gid x.tid index cycle
    obtain ⟨hstatus, -, -, -, -, -, -, -, -, -, hlineage, -⟩ := hbegins
    exact ⟨hteam, hstatus, hlineage.trans hunit.lineage, fun i hi => evaluator_registers hdev hunit gid x.tid index cycle hi⟩
  · intro s g t c w us hg hst hw ht hc room
    refine ⟨exec_groupReload_waits hg hst hw ht hc, fun hfree hact hsaved => ⟨exec_groupReload_full hg hst hw ht hc hfree hact hsaved,
      fun hroom hok => ?_⟩⟩
    obtain ⟨m, hexec, hwrite⟩ := exec_groupReload_placed hg hst hw ht hc hfree hact hsaved hroom hok
    exact ⟨m, hexec, hwrite.rest, fun x hx hl => (hwrite.frame x hx hl).1⟩
end

section
/-!
SUPPORT. Words of the two-source integer instructions by their values (R95, R96, R119).
-/
namespace Sys2Proof.Machine
set_option Elab.async false

/-! ### Sums and products -/

theorem word_natCast (n : Nat) : Spec.word n = BitVec.ofNat 32 n := BitVec.ofInt_natCast _ _

theorem word_toNat (x : Word) : Spec.word x.toNat = x := by
  rw [word_natCast, BitVec.ofNat_toNat, BitVec.setWidth_eq]

theorem word_toInt (x : Word) : Spec.word x.toInt = x := BitVec.ofInt_toInt

theorem add_eq_word (x y : Word) : x + y = Spec.word (x.toNat + y.toNat) := by
  conv_lhs => rw [← word_toNat x, ← word_toNat y]
  exact (BitVec.ofInt_add _ _).symm

theorem add_signExtend_eq_word (x : Word) (n : BitVec 9) : x + n.signExtend 32 = Spec.word (x.toNat + n.toInt) := by
  conv_lhs => rw [← word_toNat x]
  exact (BitVec.ofInt_add _ _).symm

theorem sub_eq_word (x y : Word) : x - y = Spec.word (x.toNat - y.toNat) := by
  conv_lhs => rw [← word_toNat x, ← word_toNat y]
  unfold Spec.word
  rw [Int.sub_eq_add_neg, BitVec.ofInt_add, BitVec.ofInt_neg, BitVec.sub_eq_add_neg]

theorem mul_eq_word (x y : Word) : x * y = Spec.word (x.toNat * y.toNat) := by
  conv_lhs => rw [← word_toNat x, ← word_toNat y]
  exact (BitVec.ofInt_mul _ _).symm

theorem add_mul_eq_word (c x y : Word) : c + x * y = Spec.word (c.toNat + x.toNat * y.toNat) := by
  conv_lhs => rw [mul_eq_word, ← word_toNat c]
  exact (BitVec.ofInt_add _ _).symm

/-- Bits [63:32] of a 64-bit number are its quotient by 2^32, modulo 2^32. -/
theorem extractLsb'_high_ofInt (p : Int) : (BitVec.ofInt 64 p).extractLsb' 32 32 = Spec.word (p / 2 ^ 32) := by
  apply BitVec.eq_of_toNat_eq
  unfold Spec.word
  rw [BitVec.extractLsb'_toNat, BitVec.toNat_ofInt, BitVec.toNat_ofInt, Nat.shiftRight_eq_div_pow]
  omega

theorem mulHi_eq_word (x y : Word) : mulHi x y = Spec.word (x.toInt * y.toInt / 2 ^ 32) := by
  rw [← extractLsb'_high_ofInt, BitVec.ofInt_mul]
  rfl

theorem mulHu_eq_word (x y : Word) : mulHu x y = Spec.word (x.toNat * y.toNat / 2 ^ 32) := by
  have hwide : ∀ z : Word, z.setWidth 64 = BitVec.ofInt 64 z.toNat := fun z => by
    rw [BitVec.ofInt_natCast, BitVec.ofNat_toNat]
  unfold mulHu
  rw [hwide, hwide, ← BitVec.ofInt_mul, extractLsb'_high_ofInt]

/-! ### Shifts -/

theorem shiftLeft_eq_word (x : Word) (k : Nat) : x <<< k = Spec.word (x.toNat * 2 ^ k) := by
  rw [show (x.toNat * 2 ^ k : Int) = ((x.toNat * 2 ^ k : Nat) : Int) by push_cast; rfl, word_natCast]
  apply BitVec.eq_of_toNat_eq
  rw [BitVec.toNat_shiftLeft, BitVec.toNat_ofNat, Nat.shiftLeft_eq]

theorem shlWord_eq_word (x y : Word) : shlWord x y = Spec.word (x.toNat * 2 ^ y.toNat) := by
  rw [← shiftLeft_eq_word]
  unfold shlWord
  split
  · rename_i h
    exact (BitVec.shiftLeft_eq_zero h).symm
  · rfl

theorem ushiftRight_eq_word (x : Word) (k : Nat) : x >>> k = Spec.word (x.toNat / 2 ^ k) := by
  rw [show (x.toNat / 2 ^ k : Int) = ((x >>> k).toNat : Int) by
    rw [BitVec.toNat_ushiftRight, Nat.shiftRight_eq_div_pow]; push_cast; rfl, word_toNat]

theorem sshiftRight_eq_word (x : Word) (k : Nat) : x.sshiftRight k = Spec.word (x.toInt / 2 ^ k) := by
  rw [← word_toInt (x.sshiftRight k), BitVec.toInt_sshiftRight, Int.shiftRight_eq_div_pow]
  norm_cast

/-! ### Minima, maxima and comparisons -/

theorem sMin_eq_word (x y : Word) : sMin x y = Spec.word (min x.toInt y.toInt) := by
  rw [min_comm, min_def_lt, apply_ite Spec.word, word_toInt, word_toInt]
  simp only [sMin, BitVec.slt, decide_eq_true_eq]

theorem sMax_eq_word (x y : Word) : sMax x y = Spec.word (max x.toInt y.toInt) := by
  rw [max_def_lt, apply_ite Spec.word, word_toInt, word_toInt]
  simp only [sMax, BitVec.slt, decide_eq_true_eq]

theorem uMin_eq_word (x y : Word) : uMin x y = Spec.word (min x.toNat y.toNat) := by
  rw [min_comm, min_def_lt, apply_ite Spec.word, word_toNat, word_toNat]
  simp only [uMin, BitVec.ult, decide_eq_true_eq, Nat.cast_lt]

theorem uMax_eq_word (x y : Word) : uMax x y = Spec.word (max x.toNat y.toNat) := by
  rw [max_def_lt, apply_ite Spec.word, word_toNat, word_toNat]
  simp only [uMax, BitVec.ult, decide_eq_true_eq, Nat.cast_lt]

theorem beq_eq_toNat_beq (x y : Word) : (x == y) = (x.toNat == y.toNat) := by
  rw [Bool.eq_iff_iff, beq_iff_eq, beq_iff_eq, BitVec.toNat_eq]

end Sys2Proof.Machine
end

section
/-!
SUPPORT. The instructions of the spec's tables: each runs the table's function in one form of effect (R91, R94).
-/
namespace Sys2Proof.Machine
set_option Elab.async false

/-- The instructions of `op` run the effect of `body` with the function `f`. -/
def RunsForm {α φ : Type} (run : Instr → (Issue → Eff) → State → Host.Outcome State Fault Refusal) (op : α → Instr)
    (body : α → φ → Issue → Eff) (f : φ) : Prop :=
  ∀ (o : α) (s : State), exec (op o) s = run (op o) (body o f) s

theorem runsForm_congr {α β γ δ : Type} {run : Instr → (Issue → Eff) → State → Host.Outcome State Fault Refusal}
    {op : α → Instr} {body : α → (β → γ → δ) → Issue → Eff} {f f' : β → γ → δ} (hf : ∀ x y, f x y = f' x y)
    (h : RunsForm run op body f) : RunsForm run op body f' :=
  funext₂ hf ▸ h

/-- An instruction of the vector ALU; one that multiplies waits for a gap (R94). -/
def vectorInstr (i : Instr) : (Issue → Eff) → State → Host.Outcome State Fault Refusal :=
  if Spec.multiplies i then mulInstr i else aluInstr i

theorem vector_clear {i : Instr} {s : State} {I : Issue} {body : Issue → Eff} (h : s.issue = some I) (hc : I.clear i = true)
    (ha : Spec.multiplies i = true → I.arrayRuns = false) :
    vectorInstr i body s = .next ((body I).finish I.g.gid (instrBytes i)) := by
  unfold vectorInstr
  split
  · rename_i hm
    exact mul_clear h hc (ha hm)
  · exact alu_clear h hc

end Sys2Proof.Machine
end

section
/-!
PROOFS. The integer instructions of two sources, the immediate forms and the long-immediate forms (O10).
-/
namespace Sys2Proof.Machine
set_option Elab.async false

/-- The three-register integer instructions run the functions of R95's table. -/
theorem integer_runs : ∀ p ∈ Spec.integer, RunsForm vectorInstr p.1 (fun o f I => I.lane2 o f) p.2 := by
  unfold Spec.integer
  simp only [List.forall_mem_cons]
  exact ⟨runsForm_congr add_eq_word fun _ _ => rfl,
    runsForm_congr sub_eq_word fun _ _ => rfl,
    runsForm_congr mul_eq_word fun _ _ => rfl,
    runsForm_congr mulHi_eq_word fun _ _ => rfl,
    runsForm_congr mulHu_eq_word fun _ _ => rfl,
    fun _ _ => rfl, fun _ _ => rfl, fun _ _ => rfl, fun _ _ => rfl,
    runsForm_congr shlWord_eq_word fun _ _ => rfl,
    runsForm_congr (fun x y => ushiftRight_eq_word x y.toNat) fun _ _ => rfl,
    runsForm_congr (fun x y => sshiftRight_eq_word x y.toNat) fun _ _ => rfl,
    runsForm_congr sMin_eq_word fun _ _ => rfl,
    runsForm_congr sMax_eq_word fun _ _ => rfl,
    runsForm_congr uMin_eq_word fun _ _ => rfl,
    runsForm_congr uMax_eq_word fun _ _ => rfl,
    runsForm_congr (fun x y => congrArg bool01 (beq_eq_toNat_beq x y)) fun _ _ => rfl,
    runsForm_congr (fun x y => congrArg (fun b => bool01 !b) (beq_eq_toNat_beq x y)) fun _ _ => rfl,
    fun _ _ => rfl, fun _ _ => rfl, fun _ _ => rfl, fun _ _ => rfl, fun _ h => by cases h⟩

/-- The immediate forms run the functions of R96's table. -/
theorem immediate_runs : ∀ p ∈ Spec.immediate, RunsForm aluInstr p.1 (fun o f I => I.laneImm o fun x => f x o.imm) p.2 := by
  unfold Spec.immediate
  simp only [List.forall_mem_cons]
  exact ⟨runsForm_congr add_signExtend_eq_word fun _ _ => rfl,
    runsForm_congr (fun x n => shiftLeft_eq_word x n.toNat) fun _ _ => rfl,
    runsForm_congr (fun x n => ushiftRight_eq_word x n.toNat) fun _ _ => rfl,
    runsForm_congr (fun x n => sshiftRight_eq_word x n.toNat) fun _ _ => rfl,
    fun _ h => by cases h⟩

/-- The long-immediate forms of one word run the functions of R119's table. -/
theorem longImmediate_runs :
    ∀ p ∈ Spec.longImmediate, RunsForm aluInstr p.1 (fun o f I => I.laneL o fun x => f x o.imm) p.2 := by
  unfold Spec.longImmediate
  simp only [List.forall_mem_cons]
  exact ⟨fun _ _ => rfl, runsForm_congr add_eq_word fun _ _ => rfl,
    fun _ _ => rfl, fun _ _ => rfl, fun _ _ => rfl, fun _ h => by cases h⟩

/-- NOP does nothing but end (R37). -/
theorem exec_nop_of_issue {s : State} {I : Issue} (h : s.issue = some I) : exec .nop s = .next (I.ended .nop s) := by
  rw [exec_nop]
  unfold execNop runInstr
  rw [h]
  obtain ⟨rfl, -⟩ := issue_spec h
  rfl

end Sys2Proof.Machine

open Sys2Proof Sys2Proof.Machine

/-- Settles O10: each instruction runs the function of the spec's table in its lanes, words by their values. -/
theorem integerResults : Obligations.IntegerResults := by
  unfold Obligations.IntegerResults
  refine ⟨fun s I h p hp o hc ha => ?_, fun s I h => ⟨fun p hp o hc _ => ?_, fun p hp o hc => ?_, exec_nop_of_issue h⟩⟩
  · exact (integer_runs p hp o s).trans (vector_clear h hc ha)
  · exact (immediate_runs p hp o s).trans (alu_clear h hc)
  · exact (longImmediate_runs p hp o s).trans (alu_clear h hc)
end

section
/-!
SUPPORT. FP32 and packed BF16 patterns: order and signs of values, and halves of a word (R93, R98, R100).
-/
namespace Sys2Proof.Machine
set_option Elab.async false

/-! ### FMIN, FMAX and FCPYS (R98) -/

theorem Num.lt_asymm {x y : Num} (h : x.lt y = true) : y.lt x = false := by
  cases x with
  | nan => cases h
  | inf a => cases y with
    | nan => cases h
    | inf b =>
      simp only [Num.lt, Bool.and_eq_true, Bool.not_eq_true'] at h
      simp [Num.lt, h]
    | fin _ _ _ =>
      simp only [Num.lt] at h
      simp [Num.lt, h]
  | fin n m e => cases y with
    | nan => cases h
    | inf b =>
      simp only [Num.lt, Bool.not_eq_true'] at h
      simp [Num.lt, h]
    | fin n' m' e' =>
      simp only [Num.lt, decide_eq_true_eq] at h
      simp only [Num.lt, decide_eq_false_iff_not, not_lt]
      rw [min_comm e' e]
      exact h.le

theorem Num.eq_eq_not_lt {x y : Num} (hx : x.isNan = false) (hy : y.isNan = false) : x.eq y = (!x.lt y && !y.lt x) := by
  unfold Num.isNan at hx hy
  simp [Num.eq, bne, hx, hy]

/-- The sign of a number is the topmost bit of its pattern (R45). -/
theorem sign_fp {x : Word} (h : (fp x).isNan = false) : (fp x).sign = x.msb := by
  rw [BitVec.msb_eq_getLsbD_last]
  have hfp := fp32_eq x
  rw [show Spec.fp32 x = fp x from rfl] at hfp
  rw [hfp] at h ⊢
  split_ifs at h ⊢ with htop hm
  · rfl
  · cases h
  · rfl

theorem fmin_eq (x y : Word) : fmin x y =
    if (Spec.fp32 x).isNan then (if (Spec.fp32 y).isNan then 0x7FC00000 else y)
    else if (Spec.fp32 y).isNan then x
    else if (Spec.fp32 x).lt (Spec.fp32 y) || ((Spec.fp32 x).eq (Spec.fp32 y) && x.msb) then x else y := by
  rw [show Spec.fp32 x = fp x from rfl, show Spec.fp32 y = fp y from rfl]
  unfold fmin
  cases hx : (fp x).isNan with
  | true => simp
  | false => cases hy : (fp y).isNan with
    | true => simp
    | false =>
      rw [Num.eq_eq_not_lt hx hy, sign_fp hx]
      cases (fp x).lt (fp y) <;> cases (fp y).lt (fp x) <;> simp

theorem fmax_eq (x y : Word) : fmax x y =
    if (Spec.fp32 x).isNan then (if (Spec.fp32 y).isNan then 0x7FC00000 else y)
    else if (Spec.fp32 y).isNan then x
    else if (Spec.fp32 y).lt (Spec.fp32 x) || ((Spec.fp32 x).eq (Spec.fp32 y) && !x.msb) then x else y := by
  rw [show Spec.fp32 x = fp x from rfl, show Spec.fp32 y = fp y from rfl]
  unfold fmax
  cases hx : (fp x).isNan with
  | true => simp
  | false => cases hy : (fp y).isNan with
    | true => simp
    | false =>
      rw [Num.eq_eq_not_lt hx hy, sign_fp hx]
      cases hlt : (fp x).lt (fp y) with
      | true => simp [Num.lt_asymm hlt]
      | false => cases (fp y).lt (fp x) <;> cases x.msb <;> simp

theorem fcpys_eq (x y : Word) : fcpys x y = y.extractLsb' 31 1 ++ x.extractLsb' 0 31 := by
  unfold fcpys
  apply BitVec.eq_of_getLsbD_eq
  intro i hi
  rw [show (0x80000000 : Word) = BitVec.twoPow 32 31 from rfl, fabs_eq, BitVec.getLsbD_or, BitVec.getLsbD_and,
    BitVec.getLsbD_twoPow, BitVec.getLsbD_append, BitVec.getLsbD_append]
  by_cases h : i < 31
  · simp [h, show ¬ 31 = i by omega]
  · obtain rfl : i = 31 := by omega
    simp

/-! ### Halves of a word (R100) -/

theorem bf_loHalf (x : Word) : bf (loHalf x) = Spec.bf16 x 0 := by
  unfold bf loHalf Spec.bf16
  rw [BitVec.extractLsb'_toNat, Nat.shiftRight_eq_div_pow]

theorem bf_hiHalf (x : Word) : bf (hiHalf x) = Spec.bf16 x 16 := by
  unfold bf hiHalf Spec.bf16
  rw [BitVec.extractLsb'_toNat, Nat.shiftRight_eq_div_pow]

theorem badd2_eq (x y : Word) : badd2 x y = Spec.packed fun k => (Spec.bf16 x k).add (Spec.bf16 y k) := by
  unfold badd2 halves badd
  rw [bf_hiHalf, bf_hiHalf, bf_loHalf, bf_loHalf]
  rfl

theorem bmul2_eq (x y : Word) : bmul2 x y = Spec.packed fun k => (Spec.bf16 x k).mul (Spec.bf16 y k) := by
  unfold bmul2 halves bmul
  rw [bf_hiHalf, bf_hiHalf, bf_loHalf, bf_loHalf]
  rfl

theorem bmac2_eq (c x y : Word) :
    bmac2 c x y = Spec.packed fun k => (Spec.bf16 c k).add ((Spec.bf16 x k).mul (Spec.bf16 y k)) := by
  unfold bmac2 bmac
  simp only [bf_hiHalf, bf_loHalf]
  rfl

end Sys2Proof.Machine
end

section
/-!
PROOFS. The floating-point instructions of two sources and those that add to their destination (O11).
-/
namespace Sys2Proof.Machine
set_option Elab.async false

/-- The floating-point instructions that do not multiply run the functions of the tables of R98 and R100. -/
theorem floating_runs : ∀ p ∈ Spec.floating, RunsForm aluInstr p.1 (fun o f I => I.lane2 o f) p.2 := by
  unfold Spec.floating
  simp only [List.forall_mem_cons]
  exact ⟨fun _ _ => rfl, fun _ _ => rfl, runsForm_congr fmin_eq fun _ _ => rfl,
    runsForm_congr fmax_eq fun _ _ => rfl, fun _ _ => rfl, fun _ _ => rfl, fun _ _ => rfl, fun _ _ => rfl,
    runsForm_congr fcpys_eq fun _ _ => rfl, runsForm_congr badd2_eq fun _ _ => rfl,
    fun _ h => by cases h⟩

/-- The multiplications run the functions of the tables of R98 and R100. -/
theorem multiplying_runs : ∀ p ∈ Spec.multiplying, RunsForm mulInstr p.1 (fun o f I => I.lane2 o f) p.2 := by
  unfold Spec.multiplying
  simp only [List.forall_mem_cons]
  exact ⟨fun _ _ => rfl, runsForm_congr bmul2_eq fun _ _ => rfl, fun _ h => by cases h⟩

/-- The instructions that add to their destination run the functions of the tables of R95, R99 and R100. -/
theorem accumulating_runs : ∀ p ∈ Spec.accumulating, RunsForm mulInstr p.1 (fun o f I => I.lane3 o f) p.2 := by
  unfold Spec.accumulating
  simp only [List.forall_mem_cons]
  exact ⟨runsForm_congr (fun c x => funext (add_mul_eq_word c x)) fun _ _ => rfl,
    fun _ _ => rfl, runsForm_congr (fun c x => funext (bmac2_eq c x)) fun _ _ => rfl, fun _ h => by cases h⟩

end Sys2Proof.Machine

open Sys2Proof Sys2Proof.Machine

/-- Settles O11: each instruction runs the function of the spec's table in its lanes, and FMAL FMAC's with its immediate. -/
theorem floatResults : Obligations.FloatResults := by
  unfold Obligations.FloatResults
  refine fun s I h => ⟨fun p hp o hc => ?_, fun ha => ⟨fun p hp o hc => ?_, fun p hp o hc => ?_, fun o hc => ?_⟩⟩
  · exact (floating_runs p hp o s).trans (alu_clear h hc)
  · exact (multiplying_runs p hp o s).trans (mul_clear h hc ha)
  · exact (accumulating_runs p hp o s).trans (mul_clear h hc ha)
  · exact (exec_fmal o s).trans (mul_clear h hc ha)
end

section
/-!
SUPPORT. REDL's tree and SCAN's ladder over the lanes (R109, R110).
-/
namespace Sys2Proof.Machine
set_option Elab.async false

/-! ### Levels of the tree (R109) -/

/-- Combining neighbours halves a list: entry j combines entries 2j and 2j + 1. -/
theorem pairUp_map_range (op : Word → Word → Word) (f : Nat → Word) (n : Nat) :
    pairUp op ((List.range (2 * n)).map f) = (List.range n).map fun j => op (f (2 * j)) (f (2 * j + 1)) := by
  induction n generalizing f with
  | zero => rfl
  | succ n ih =>
    have htail := ih (fun j => f (j + 2))
    rw [Nat.mul_succ, List.range_succ_eq_map (n := 2 * n + 1), List.range_succ_eq_map (n := 2 * n),
      List.range_succ_eq_map (n := n)]
    simp only [List.map_cons, List.map_map, pairUp]
    exact congrArg _ htail

/-- A level of the tree: entry j is the value of the subtree of 2^k lanes from lane 2^k * j. -/
theorem foldl_pairUp (op : Word → Word → Word) (t : Nat → Word) (k n : Nat) :
    (List.range k).foldl (fun u _ => pairUp op u) ((List.range (2 ^ k * n)).map t) =
      (List.range n).map fun j => Spec.tree op t k (2 ^ k * j) := by
  induction k generalizing n with
  | zero => simp [Spec.tree]
  | succ k ih =>
    rw [List.range_succ, List.foldl_append, pow_succ, Nat.mul_assoc, ih, List.foldl_cons, List.foldl_nil, pairUp_map_range]
    refine List.map_congr_left fun j _ => ?_
    rw [Spec.tree, Nat.mul_assoc, Nat.mul_add_one]

theorem treeReduce_eq_tree (op : Word → Word → Word) (t : Nat → Word) :
    treeReduce op ((List.range 64).map t) = Spec.tree op t 6 0 := by
  unfold treeReduce
  rw [show (64 : Nat) = 2 ^ 6 * 1 from rfl, foldl_pairUp]
  rfl

/-! ### Steps of the ladder (R110) -/

/-- One step of the scan: an entry at or above `sh` takes the one `sh` below first. -/
theorem scanStep_map_range (op : Word → Word → Word) (f : Nat → Word) (n sh : Nat) :
    scanStep op ((List.range n).map f) sh =
      (List.range n).map fun i => if sh ≤ i then op (f (i - sh)) (f i) else f i := by
  unfold scanStep
  apply List.ext_getElem
  · simp
    omega
  · intro i h1 h2
    have hn : i < n := by simpa using h2
    by_cases hi : sh ≤ i
    · rw [List.getElem_append_right (by simp; omega)]
      simp [hi, min_eq_left (hi.trans hn.le), Nat.add_sub_cancel' hi]
    · rw [List.getElem_append_left (by simp; omega)]
      simp [hi]

theorem treeScan_eq_ladder (op : Word → Word → Word) (t : Nat → Word) (n : Nat) :
    treeScan op ((List.range n).map t) = (List.range n).map (Spec.ladder op t 6) := by
  unfold treeScan
  simp only [List.foldl_cons, List.foldl_nil, scanStep_map_range]
  rfl

end Sys2Proof.Machine
end

section
/-!
PROOFS. SHFLX, REDL and SCAN (O14).
-/
namespace Sys2Proof.Machine
set_option Elab.async false

/-- REDL, SCAN and the exclusive SCAN of an operator with its identity. -/
def Combines (op : Word → Word → Word) (ident : Word) (redl scan scanX : UOp → Instr) : Prop :=
  RunsForm aluInstr redl (fun o op I => I.redl o op ident) op ∧ RunsForm aluInstr scan (fun o op I => I.scan o op ident) op ∧
    RunsForm aluInstr scanX (fun o op I => I.scanX o op ident) op

theorem combines_congr {op op' : Word → Word → Word} {ident : Word} {redl scan scanX : UOp → Instr}
    (hop : ∀ x y, op x y = op' x y) (h : Combines op ident redl scan scanX) : Combines op' ident redl scan scanX :=
  funext₂ hop ▸ h

/-- The operators and identities of REDL and SCAN are those of R108's table. -/
theorem combining_runs : ∀ p ∈ Spec.combining, Combines p.1 p.2.1 p.2.2.1 p.2.2.2.1 p.2.2.2.2 := by
  unfold Spec.combining
  simp only [List.forall_mem_cons]
  exact ⟨combines_congr add_eq_word ⟨fun _ _ => rfl, fun _ _ => rfl, fun _ _ => rfl⟩,
    ⟨fun _ _ => rfl, fun _ _ => rfl, fun _ _ => rfl⟩,
    combines_congr sMax_eq_word ⟨fun _ _ => rfl, fun _ _ => rfl, fun _ _ => rfl⟩,
    combines_congr sMin_eq_word ⟨fun _ _ => rfl, fun _ _ => rfl, fun _ _ => rfl⟩,
    ⟨fun _ _ => rfl, fun _ _ => rfl, fun _ _ => rfl⟩, ⟨fun _ _ => rfl, fun _ _ => rfl, fun _ _ => rfl⟩,
    ⟨fun _ _ => rfl, fun _ _ => rfl, fun _ _ => rfl⟩, ⟨fun _ _ => rfl, fun _ _ => rfl, fun _ _ => rfl⟩,
    ⟨fun _ _ => rfl, fun _ _ => rfl, fun _ _ => rfl⟩, fun _ h => by cases h⟩

variable (I : Issue) (i : Instr) (o : UOp) (op : Word → Word → Word) (ident : Word)

theorem contrib_eq : I.contrib o ident = (List.range 64).map (Spec.contribution I o ident) := rfl

theorem redl_finish : (I.redl o op ident).finish I.g.gid (instrBytes i) =
    I.wrote i o.d.toNat (I.maskOn o.m) fun _ => Spec.tree op (Spec.contribution I o ident) 6 0 := by
  unfold Issue.redl
  rw [contrib_eq, treeReduce_eq_tree, writeD_finish]

/-- An entry of the finished ladder. -/
theorem getD_treeScan_contrib {j : Nat} (hj : j < 64) :
    (treeScan op (I.contrib o ident)).getD j ident = Spec.ladder op (Spec.contribution I o ident) 6 j := by
  rw [contrib_eq, treeScan_eq_ladder]
  simp [hj]

theorem scan_finish : (I.scan o op ident).finish I.g.gid (instrBytes i) =
    I.wrote i o.d.toNat (I.maskOn o.m) (Spec.ladder op (Spec.contribution I o ident) 6) := by
  unfold Issue.scan
  rw [writeD_finish]
  exact wrote_congr I i _ _ fun j hj => getD_treeScan_contrib I o op ident hj

theorem scanX_finish : (I.scanX o op ident).finish I.g.gid (instrBytes i) =
    I.wrote i o.d.toNat (I.maskOn o.m) fun j =>
      if j = 0 then ident else Spec.ladder op (Spec.contribution I o ident) 6 (j - 1) := by
  unfold Issue.scanX
  rw [writeD_finish]
  exact wrote_congr I i _ _ fun j hj => by rw [getD_treeScan_contrib I o op ident (by omega)]

end Sys2Proof.Machine

open Sys2Proof Sys2Proof.Machine

/-- Settles O14: each instruction runs the operator of the spec's table over the lists of the lanes, whose levels are the
spec's tree and ladder. -/
theorem crossLaneResults : Obligations.CrossLaneResults := by
  unfold Obligations.CrossLaneResults
  refine fun s I h => ⟨fun o hc => (exec_shflx o s).trans (alu_clear h hc), fun p hp o => ?_⟩
  obtain ⟨hredl, hscan, hscanX⟩ := combining_runs p hp
  refine ⟨fun hc => ?_, fun hc => ?_, fun hc => ?_⟩
  · rw [hredl, alu_clear h hc, redl_finish]
  · rw [hscan, alu_clear h hc, scan_finish]
  · rw [hscanX, alu_clear h hc, scanX_finish]
end

section
/-!
PROOFS. Quires (O36): what an event of a side leaves of its team and of the groups that wait, and the end of each
instruction (R227 to R232, R235 to R237).
-/
namespace Sys2Proof.Machine
set_option Elab.async false

/-! ### Checks before an effect -/

/-- The team of an issue is found by its own id. -/
theorem issue_team {s : State} {I : Issue} (h : s.issue = some I) : s.team I.t.tid = some I.t := by
  obtain ⟨-, -, -, hteam, -⟩ := issue_spec h
  have htid : I.t.tid = I.g.team := by simpa using List.find?_some hteam
  rw [htid, hteam]

/-- A field beyond what the launch declares traps ILLEGAL_ENCODING, where nothing else stops the instruction (R37). -/
theorem run_clear_enc {i : Instr} {s : State} {I : Issue} {enc priv : Issue → Bool} {body : Issue → Eff} (h : s.issue = some I)
    (hc : I.clear i = true) (he : enc I = true) :
    runInstr i (prologue i enc priv body) s = .next (I.raises i { cause := 0x02, addr := 0 }) := by
  have hpend : pendHazard i I = false := by
    unfold Issue.clear at hc
    simp only [Bool.and_eq_true, Bool.not_eq_true'] at hc
    obtain ⟨⟨⟨-, hpend⟩, -⟩, -⟩ := hc
    exact hpend
  have hsame : prologue i enc priv body I = prologue i never never (fun I => I.trap ILLEGAL_ENCODING) I := by
    unfold prologue never
    simp only [he, hpend]
    rfl
  have hrun := run_clear_now (body := fun I => I.trap ILLEGAL_ENCODING) h hc (enc := never) (priv := never) rfl rfl
  rw [runInstr_of_issue h] at hrun ⊢
  rw [hsame, hrun, trap_finish h]

/-- The release of an issue changes nothing where no access of its core is on its way. -/
theorem releaseIn_of_quiet {s : State} {I : Issue} (h : s.issue = some I) (hq : s.quiet I.core = true) (wide : Bool) :
    I.releaseIn wide I.s = I.s :=
  congrArg Issue.s (releasing_of_quiet h hq wide)

/-- A stalled instruction stays where it is. -/
theorem stall_finish {s : State} {I : Issue} (h : s.issue = some I) (i : Instr) :
    (Eff.stall I.s).finish I.g.gid (instrBytes i) = I.stalls := by
  obtain ⟨rfl, hgrp, -⟩ := issue_spec h
  exact onGroup_eq _ hgrp

/-! ### The test after an event (R228) -/

theorem test_of_open {q : QSide} (h : q.owed ≠ 0 ∨ 0 < q.bytes) : q.test = q := by
  unfold QSide.test
  rw [if_neg (by omega), if_neg (by omega)]

theorem test_of_complete {q : QSide} (h0 : q.owed = 0) (hb : q.bytes = 0) :
    q.test = { q with phase := !q.phase, owed := q.owedEach, acq := q.glob, glob := false } := if_pos ⟨h0, hb⟩

theorem test_of_underflow {q : QSide} (h0 : q.owed = 0) (hb : q.bytes < 0) : q.test = { q with broken := true } := by
  unfold QSide.test
  rw [if_neg (by omega), if_pos ⟨h0, hb⟩]

/-! ### One side replaced -/

@[simp] theorem Quire.side_setSide (q : Quire) (b : Bool) (x : QSide) : (q.setSide b x).side b = x := by
  cases b <;> rfl

theorem side_of_team {s : State} {n : Nat} {t : Team} (ht : s.team n = some t) (k : Nat) (b : Bool) :
    s.side n k b = (t.quires.getD k {}).side b := by
  unfold State.side
  rw [ht]
  rfl

/-- The quire that a SYNC instruction names, and its side. -/
def Issue.quireOf (I : Issue) (o : SyncOp) : Quire := I.t.quires.getD o.index.toNat {}
def Issue.sideOf (I : Issue) (o : SyncOp) : QSide := (I.quireOf o).side o.side

/-- The machine with another side there, and nothing else changed. -/
def Issue.putSide (I : Issue) (o : SyncOp) (r : QSide) : State :=
  I.s.setTeam { I.t with quires := I.t.quires.set o.index.toNat ((I.quireOf o).setSide o.side r) }

/-- The machine after the phase of a side with nothing owed and no bytes pending has flipped: who waits for it goes on
(R228). -/
def Issue.flipSide (I : Issue) (o : SyncOp) (r : QSide) : State :=
  { I.putSide o { r with phase := !r.phase, owed := r.owedEach, acq := r.glob, glob := false } with
    groups := I.s.groups.map fun (g : Group) =>
      if g.team = I.t.tid ∧ g.prog = waitCode o.index.toNat o.side (I.sideOf o).phase then
        { g with woken := true, wokenGlobal := g.wokenGlobal || r.glob } else g }

section Side
variable {s : State} {I : Issue} {o : SyncOp} (h : s.issue = some I)
include h

theorem side_of_issue : I.s.side I.t.tid o.index.toNat o.side = I.sideOf o := by
  obtain ⟨rfl, -⟩ := issue_spec h
  exact side_of_team (issue_team h) _ _

theorem setSide_of_same_phase {r : QSide} (hp : r.phase = (I.sideOf o).phase) :
    I.s.setSide I.t.tid o.index.toNat o.side r = I.putSide o r := by
  obtain ⟨rfl, -⟩ := issue_spec h
  unfold State.setSide
  rw [issue_team h]
  exact if_pos (by rw [hp]; exact beq_self_eq_true _)

theorem setSide_of_flip {r : QSide} (hp : r.phase = (I.sideOf o).phase) :
    I.s.setSide I.t.tid o.index.toNat o.side { r with phase := !r.phase, owed := r.owedEach, acq := r.glob, glob := false } =
      I.flipSide o r := by
  obtain ⟨rfl, -⟩ := issue_spec h
  unfold State.setSide Issue.flipSide
  rw [issue_team h]
  refine (if_neg ?_).trans ?_
  · show ¬((I.sideOf o).phase == !r.phase) = true
    rw [hp]
    cases (I.sideOf o).phase <;> decide
  · simp only [Bool.and_eq_true, beq_iff_eq]
    rfl

/-- The team after one of its quires' sides was replaced. -/
theorem putSide_team (r : QSide) :
    (I.putSide o r).team I.t.tid = some { I.t with quires := I.t.quires.set o.index.toNat ((I.quireOf o).setSide o.side r) } := by
  obtain ⟨rfl, -⟩ := issue_spec h
  exact find_replace_same (issue_team h) (beq_self_eq_true _)

/-- A trap raised after a side was replaced: the group stops, and the side stays as it was left. -/
theorem putSide_traps (hx : o.index.toNat < I.t.quires.length) (i : Instr) (r : QSide) :
    ∃ t g, (Eff.trap (I.putSide o r) (underflow o)).finish I.g.gid (instrBytes i) = t ∧ t.group I.g.gid = some g ∧
      g.status = .trapped ∧ g.trapCause = 0x1B ∧ g.trapAddr = o.index.setWidth 64 ∧
      ∀ u, t.team I.t.tid = some u → (u.quires.getD o.index.toNat {}).side o.side = r := by
  have hteam := putSide_team (o := o) h r
  obtain ⟨rfl, hgrp, hcl, -⟩ := issue_spec h
  have hown : (I.putSide o r).group I.g.gid = some I.g := hgrp
  have hfinish : (Eff.trap (I.putSide o r) (underflow o)).finish I.g.gid (instrBytes i) =
      ((I.putSide o r).leaveEnq I.g).setGroup (I.g.trapped (I.g.resumeAt I.cl (underflow o) true I.cl.pc (instrBytes i))) := by
    unfold Eff.finish State.trapGroup
    simp only [hown, hcl]
  have hgroups : ((I.putSide o r).leaveEnq I.g).group I.g.gid = some I.g ∧
      ((I.putSide o r).leaveEnq I.g).team I.t.tid = (I.putSide o r).team I.t.tid := by
    unfold State.leaveEnq
    split <;> exact ⟨hown, rfl⟩
  obtain ⟨hleft, hsame⟩ := hgroups
  refine ⟨_, _, hfinish, group_setGroup_same hleft, rfl, rfl, rfl, fun u hu => ?_⟩
  have hu' : (I.putSide o r).team I.t.tid = some u := hsame ▸ hu
  rw [hteam] at hu'
  obtain rfl := Option.some.inj hu'
  simp [List.getD_eq_getElem?_getD, hx]

end Side

/-! ### Events of a side (R228, R231) -/

/-- How an event ends that makes a side `r` and then tests it. -/
def Issue.sideEvent (I : Issue) (o : SyncOp) (r : QSide) : Eff :=
  if r.test.broken then .trap (I.s.setSide I.t.tid o.index.toNat o.side r.test) (underflow o)
  else .done (I.s.setSide I.t.tid o.index.toNat o.side r.test)

/-- What an event of a side that nothing has broken comes to: it ends, with the phase flipped where nothing is owed and no bytes
are pending, or it breaks the side and traps. -/
theorem sideEvent_tests {s : State} {I : Issue} {o : SyncOp} (h : s.issue = some I) (hx : o.index.toNat < I.t.quires.length)
    {i : Instr} {r : QSide} (hi : exec i s = .next ((I.sideEvent o r).finish I.g.gid (instrBytes i)))
    (hp : r.phase = (I.sideOf o).phase) (hb : r.broken = false) :
    ((r.owed ≠ 0 ∨ 0 < r.bytes) → exec i s = .next (I.ended i (I.putSide o r))) ∧
    (r.owed = 0 → r.bytes = 0 → exec i s = .next (I.ended i (I.flipSide o r))) ∧
    (r.owed = 0 → r.bytes < 0 → ∃ t g, exec i s = .next t ∧ t.group I.g.gid = some g ∧ g.status = .trapped ∧
      g.trapCause = 0x1B ∧ g.trapAddr = o.index.setWidth 64 ∧ ∀ u, t.team I.t.tid = some u →
        (u.quires.getD o.index.toNat {}).side o.side = { r with broken := true }) := by
  rw [hi]
  unfold Issue.sideEvent
  refine ⟨fun hopen => ?_, fun h0 hz => ?_, fun h0 hneg => ?_⟩
  · rw [test_of_open hopen, if_neg (by simp [hb]), setSide_of_same_phase h hp]
    rfl
  · rw [test_of_complete h0 hz, if_neg (by simp [hb]), setSide_of_flip h hp]
    rfl
  · rw [test_of_underflow h0 hneg, if_pos rfl, setSide_of_same_phase (r := { r with broken := true }) h hp]
    obtain ⟨t, g, ht, hrest⟩ := putSide_traps h hx i { r with broken := true }
    exact ⟨t, g, congrArg _ ht, hrest⟩

/-- A side after SBEXP, before its test (R235). -/
def QSide.expected (q : QSide) (c : Nat) (n : Int) : QSide :=
  { q with bytes := q.bytes + n, owedEach := if c = 0 then q.owedEach else c
           owed := if c ≠ 0 ∧ q.owed = q.owedEach then c else q.owed }

theorem expect_eq {q : QSide} (hb : q.broken = false) {c n : Nat} (hn : q.bytes + n ≤ 2 ^ 31 - 1) :
    q.expect c n = some (q.expected c n).test := by
  unfold QSide.expect QSide.expected
  rw [if_neg (by simp [hb]), if_neg (by omega)]
  by_cases hc : c = 0 <;> by_cases ho : q.owed = q.owedEach <;> simp [hc, ho]

theorem arrive_of_owed {q : QSide} (hb : q.broken = false) (h0 : q.owed ≠ 0) :
    q.arrive = (({ q with owed := q.owed - 1 } : QSide).test, ({ q with owed := q.owed - 1 } : QSide).test.broken) := by
  unfold QSide.arrive
  rw [if_neg (by simp [hb]), if_neg h0]

theorem arrive_of_none_owed {q : QSide} (hb : q.broken = false) (h0 : q.owed = 0) :
    q.arrive = ({ q with broken := true }, true) := by
  unfold QSide.arrive
  rw [if_neg (by simp [hb]), if_pos h0]

/-! ### The instructions (R235 to R237) -/

theorem badQuire_false {I : Issue} {o : SyncOp} (hx : o.index.toNat < I.t.quires.length) : badQuire o I = false := by
  simp [badQuire, hx]

theorem badQuire_true {I : Issue} {o : SyncOp} (hx : I.t.quires.length ≤ o.index.toNat) : badQuire o I = true := by
  simp [badQuire, hx]

theorem arrivalOwed_iff (I : Issue) (o : SyncOp) :
    I.arrivalOwed o = true ↔ ∃ r ∈ I.g.ops, r.arrival = some (o.index.toNat, o.side) := by
  simp [Issue.arrivalOwed]

theorem arrivalOwed_false {I : Issue} {o : SyncOp} (ha : ∀ r ∈ I.g.ops, r.arrival ≠ some (o.index.toNat, o.side)) :
    I.arrivalOwed o = false :=
  Bool.eq_false_iff.2 fun ht => by
    obtain ⟨r, hr, he⟩ := (arrivalOwed_iff I o).1 ht
    exact ha r hr he

/-- STAGE_UNDERFLOW with the quire's number, raised with nothing changed (R231). -/
theorem underflow_finish {s : State} {I : Issue} (h : s.issue = some I) (o : SyncOp) (i : Instr) :
    (Eff.trap I.s (underflow o)).finish I.g.gid (instrBytes i) = I.raises i { cause := 0x1B, addr := o.index.setWidth 64 } :=
  trap_finish h i STAGE_UNDERFLOW (o.index.setWidth 64)

/-- A group that parks after its `prog` was set. -/
theorem park_prog_finish {s : State} {I : Issue} (h : s.issue = some I) (n len : Nat) (w : Wait) :
    (Eff.park (I.s.setGroup { I.g with prog := n }) w).finish I.g.gid len =
      ({ I with g := { I.g with prog := n } } : Issue).parksOn w := by
  obtain ⟨rfl, hgrp, -⟩ := issue_spec h
  exact onGroup_setGroup _ rfl hgrp rfl

section Exec
variable {s : State} {I : Issue} {o : SyncOp} (h : s.issue = some I) (hx : o.index.toNat < I.t.quires.length)
include h hx

theorem exec_sbexp_event (hc : I.clear (.sbexp o) = true) (ha : I.arrivalOwed o = false) (hb : (I.sideOf o).broken = false) {n : Nat}
    (hn : n = if o.side then 0 else (I.xbar o.w.xb o.w.b I.lane0).toNat) (hle : (I.sideOf o).bytes + n ≤ 2 ^ 31 - 1) :
    exec (.sbexp o) s =
      .next ((I.sideEvent o ((I.sideOf o).expected o.w.d.toNat n)).finish I.g.gid (instrBytes (.sbexp o))) := by
  have hexp := expect_eq hb (c := o.w.d.toNat) hle
  rw [exec_sbexp, execSbexp, run_clear h hc (badQuire_false hx) rfl]
  subst hn
  dsimp only [Issue.uniform]
  rw [ha, side_of_issue h, hexp]
  rfl

theorem exec_sbarv_runs (hc : I.clear (.sbarv o) = true) (hq : s.quiet I.core = true) (ha : I.arrivalOwed o = false) :
    exec (.sbarv o) s = .next ((if (I.sideOf o).arrive.2 then
        Eff.trap (I.s.setSide I.t.tid o.index.toNat o.side (I.sideOf o).arrive.1) (underflow o)
      else .done (I.s.setSide I.t.tid o.index.toNat o.side (I.sideOf o).arrive.1)).finish I.g.gid (instrBytes (.sbarv o))) := by
  rw [exec_sbarv, execSbarv, run_clear_now h hc (badQuire_false hx) rfl, ha, releaseIn_of_quiet h hq]
  unfold State.quireArrive
  rw [side_of_issue h]
  obtain ⟨r, u⟩ := (I.sideOf o).arrive
  cases u <;> rfl

theorem exec_sbarv_event (hc : I.clear (.sbarv o) = true) (hq : s.quiet I.core = true) (ha : I.arrivalOwed o = false)
    (hb : (I.sideOf o).broken = false) (h0 : (I.sideOf o).owed ≠ 0) :
    exec (.sbarv o) s =
      .next ((I.sideEvent o { I.sideOf o with owed := (I.sideOf o).owed - 1 }).finish I.g.gid (instrBytes (.sbarv o))) := by
  rw [exec_sbarv_runs h hx hc hq ha, arrive_of_owed hb h0]
  rfl

/-- An arrival where none is owed breaks the side and traps (R231). -/
theorem exec_sbarv_underflow (hc : I.clear (.sbarv o) = true) (hq : s.quiet I.core = true) (ha : I.arrivalOwed o = false)
    (hb : (I.sideOf o).broken = false) (h0 : (I.sideOf o).owed = 0) :
    exec (.sbarv o) s = .next ((Eff.trap (I.putSide o { I.sideOf o with broken := true }) (underflow o)).finish I.g.gid
      (instrBytes (.sbarv o))) := by
  have hput := setSide_of_same_phase (r := { I.sideOf o with broken := true }) h rfl
  rw [exec_sbarv_runs h hx hc hq ha, arrive_of_none_owed hb h0, if_pos rfl, ← hput]

/-- A wait that a flip has ended, or that finds the other phase, is over (R237). -/
theorem exec_sbwait_over (hc : I.clear (.sbwait o) = true) (hb : (I.sideOf o).broken = false)
    (hgo : I.g.woken = true ∨ (I.sideOf o).phase ≠ (I.xbar o.w.xa o.w.a I.lane0).getLsbD 0) :
    exec (.sbwait o) s = .next (I.ended (.sbwait o)
      (I.quireAcquire (if I.g.woken then I.g.wokenGlobal else (I.sideOf o).acq))) := by
  rw [exec_sbwait, execSbwait, run_clear h hc (badQuire_false hx) rfl]
  dsimp only [Issue.uniform]
  rw [side_of_issue h, hb]
  cases hw : I.g.woken
  · have hp := hgo.resolve_left (by simp [hw])
    rw [if_neg Bool.false_ne_true, if_neg Bool.false_ne_true, if_pos (bne_iff_ne.2 hp), if_neg Bool.false_ne_true]
    rfl
  · rfl

/-- A wait for the phase that the side has parks (R237). -/
theorem exec_sbwait_parks (hc : I.clear (.sbwait o) = true) (hb : (I.sideOf o).broken = false) (hw : I.g.woken = false)
    (hp : (I.sideOf o).phase = (I.xbar o.w.xa o.w.a I.lane0).getLsbD 0) :
    exec (.sbwait o) s = .next (({ I with g := { I.g with
      prog := waitCode o.index.toNat o.side ((I.xbar o.w.xa o.w.a I.lane0).getLsbD 0) } } : Issue).parksOn .retry) := by
  rw [exec_sbwait, execSbwait, run_clear h hc (badQuire_false hx) rfl, ← park_prog_finish h _ (instrBytes (.sbwait o))]
  dsimp only [Issue.uniform]
  rw [side_of_issue h, hb, hw, if_neg Bool.false_ne_true, if_neg Bool.false_ne_true, if_neg fun hne => bne_iff_ne.1 hne hp]

/-- SBTRY on a side that nothing has broken (R237). -/
theorem exec_sbtry_ends (hc : I.clear (.sbtry o) = true) (hb : (I.sideOf o).broken = false) :
    exec (.sbtry o) s = .next (I.ended (.sbtry o)
      ((if (I.sideOf o).phase ≠ (I.xbar o.w.xa o.w.a I.lane0).getLsbD 0 ∧ (I.sideOf o).acq = true then I.s.setMem (I.s.mem.flash I.core)
        else I.s).setGroup (I.g.writeLanes o.w.d.toNat (lanesOf I.active) fun _ =>
          Spec.flag ((I.sideOf o).phase != (I.xbar o.w.xa o.w.a I.lane0).getLsbD 0)))) := by
  rw [exec_sbtry, execSbtry, run_clear h hc (badQuire_false hx) rfl]
  dsimp only [Issue.uniform]
  rw [side_of_issue h, hb, if_neg Bool.false_ne_true]
  have hacquire : (if (I.sideOf o).phase ≠ (I.xbar o.w.xa o.w.a I.lane0).getLsbD 0 ∧ (I.sideOf o).acq = true then
      I.s.setMem (I.s.mem.flash I.core) else I.s) =
      if (I.sideOf o).phase != (I.xbar o.w.xa o.w.a I.lane0).getLsbD 0 then I.quireAcquire (I.sideOf o).acq else I.s := by
    rw [ite_and]
    exact if_congr bne_iff_ne.symm rfl rfl
  rw [hacquire]
  rfl

/-- A broken side traps SBEXP, SBWAIT and SBTRY (R231). -/
theorem exec_broken_raises (ha : I.arrivalOwed o = false) (hb : (I.sideOf o).broken = true) (hw : I.g.woken = false) :
    ∀ i ∈ [Instr.sbexp o, .sbwait o, .sbtry o], I.clear i = true →
      exec i s = .next (I.raises i { cause := 0x1B, addr := o.index.setWidth 64 }) := by
  have hside := side_of_issue (o := o) h
  simp only [List.forall_mem_cons, List.not_mem_nil, false_implies, implies_true, and_true]
  refine ⟨fun hc => ?_, fun hc => ?_, fun hc => ?_⟩
  · rw [exec_sbexp, execSbexp, run_clear h hc (badQuire_false hx) rfl, ← underflow_finish h]
    dsimp only
    rw [ha, hside]
    unfold QSide.expect
    rw [if_pos hb]
    rfl
  · rw [exec_sbwait, execSbwait, run_clear h hc (badQuire_false hx) rfl, ← underflow_finish h]
    dsimp only
    rw [hside, hw, hb]
    rfl
  · rw [exec_sbtry, execSbtry, run_clear h hc (badQuire_false hx) rfl, ← underflow_finish h]
    dsimp only
    rw [hside, hb]
    rfl

/-- An event stalls while an older operation of the group owes its arrival (R229). -/
theorem exec_owed_stalls (ha : I.arrivalOwed o = true) :
    ∀ i ∈ [Instr.sbexp o, .sbarv o], I.clear i = true → exec i s = .next I.stalls := by
  simp only [List.forall_mem_cons, List.not_mem_nil, false_implies, implies_true, and_true]
  refine ⟨fun hc => ?_, fun hc => ?_⟩
  · rw [exec_sbexp, execSbexp, run_clear h hc (badQuire_false hx) rfl, ← stall_finish h (.sbexp o)]
    dsimp only
    rw [ha]
    rfl
  · rw [exec_sbarv, execSbarv, run_clear_now h hc (badQuire_false hx) rfl, ← stall_finish h (.sbarv o), ha]
    rfl

end Exec

/-- A quire that the team has not traps ILLEGAL_ENCODING (R37, R232). -/
theorem exec_noQuire_raises {s : State} {I : Issue} {o : SyncOp} (h : s.issue = some I)
    (hx : I.t.quires.length ≤ o.index.toNat) :
    ∀ i ∈ [Instr.sbexp o, .sbarv o, .sbwait o, .sbtry o], I.clear i = true →
      exec i s = .next (I.raises i { cause := 0x02, addr := 0 }) := by
  simp only [List.forall_mem_cons, List.not_mem_nil, false_implies, implies_true, and_true]
  exact ⟨fun hc => run_clear_enc h hc (badQuire_true hx), fun hc => run_clear_enc h hc (badQuire_true hx),
    fun hc => run_clear_enc h hc (badQuire_true hx), fun hc => run_clear_enc h hc (badQuire_true hx)⟩

end Sys2Proof.Machine

open Sys2Proof Sys2Proof.Machine

/-- Settles O36: an event is a change of one side and the test of what it leaves; SBWAIT and SBTRY look at the side as it
is. -/
theorem quires : Obligations.Quires := by
  unfold Obligations.Quires
  intro s I o h
  dsimp only
  refine ⟨fun hx ha hb => ?_, fun hx ha hb hw => exec_broken_raises h hx (arrivalOwed_false ha) hb hw,
    fun hx ha => exec_owed_stalls h hx ((arrivalOwed_iff I o).2 ha), fun hx => exec_noQuire_raises h hx⟩
  have hna := arrivalOwed_false ha
  obtain ⟨rfl, -⟩ := issue_spec h
  refine ⟨fun hc hle => ?_, fun hc hq h0 => sideEvent_tests h hx (exec_sbarv_event h hx hc hq hna hb h0) rfl hb,
    fun hc hq h0 => ?_, fun hc => ⟨fun hgo => exec_sbwait_over h hx hc hb hgo, fun hw hp => ?_⟩,
    fun hc => exec_sbtry_ends h hx hc hb⟩
  · have hcast : (if o.side = true then (0 : Int) else ((I.xbar o.w.xb o.w.b I.lane0).toNat : Int)) =
        ((if o.side then 0 else (I.xbar o.w.xb o.w.b I.lane0).toNat : Nat) : Int) := by
      cases o.side <;> rfl
    rw [hcast] at hle ⊢
    exact sideEvent_tests h hx (exec_sbexp_event h hx hc hna hb rfl hle) rfl hb
  · obtain ⟨t, g, ht, hg, hst, hcause, haddr, -⟩ := putSide_traps h hx (.sbarv o) { I.sideOf o with broken := true }
    exact ⟨t, g, (exec_sbarv_underflow h hx hc hq hna hb h0).trans (congrArg _ ht), hg, hst, hcause, haddr⟩
  · exact exec_sbwait_parks h hx hc hb hw hp
end

section
/-!
PROOFS. A copy command's next word (O38): a unit in progress that lies in two 64 B units of its destination.
-/
namespace Sys2Proof.Machine
set_option Elab.async false

/-- A copy of the four bytes from 0x403E on, two of them in one 64 B unit and two in the next, all of them one unit in
progress, with its first source byte read. -/
def straddlingCopy : Engine :=
  { cid := 7, kind := .copy, ctx := 0, gid := 1, seq := 0, team := 1, place := ⟨0, 0, 0⟩, cls := 0, lineage := 0, srcSpace := 1
    dstSpace := 0, runs := [⟨0, 0x403E, 4⟩], rest := [⟨0, 0x403E, 4⟩], cur := some ⟨0, 0x403E, 4⟩, got := [0], teams := [1] }

/-- The smallest machine in which that command runs: its context's tables map the first 2^30 bytes to themselves, and the
second of its units, on a page without cells, bears the tag DEF. -/
def straddlingState : State :=
  { State.reset with
    mem := { bytes := [(0x10000, 1), (0x10002, 2), (0x20000, 7)], tags := [(0x101, .def')] }
    contexts := [bareContext 0 0], teams := [bareTeam 0 1], engines := [straddlingCopy]
    dev := { functions := [(.stack 0, .ready)] }, ev := { cmd := 7, n := 1 } }

/-- Where the command's destination begins. -/
def straddlingPlace : Place := { pa := 0x403E, leaf := ⟨7, 0, 2 ^ 30⟩ }

/-- Every byte of its destination translates to itself, in a unit without errors. -/
theorem straddling_translates : ∀ k < 4,
    straddlingState.translate (bareContext 0 0) 0 (coreIdx ⟨0, 0, 0⟩) .write (0x403E + BitVec.ofNat 64 k) =
        .ok { straddlingPlace with pa := straddlingPlace.pa + k } ∧
      straddlingState.unitBad ((straddlingPlace.pa + k) / 64) = false := by
  decide

/-- The tag of a unit after a step. -/
def tagAfter (u : Nat) : Host.Outcome State Fault Refusal → Option Tag
  | .next t => some (t.mem.tag u)
  | _ => none

/-- The write of its two last bytes makes the second unit VAL. -/
theorem straddling_tag : tagAfter 0x101 (exec .copyProgress straddlingState) = some .val := by
  decide

end Sys2Proof.Machine

open Sys2Proof Sys2Proof.Machine

/-- Refutes O38: its last case takes every unit in progress of at most four bytes that its run's ends or word boundaries bound.
Where a run of four bytes begins inside a word that takes in a unit that no command begins, of two words in two 64 B units:
its write makes both of them VAL, not the first alone. -/
theorem not_copyProgress : ¬ Obligations.CopyProgress := by
  unfold Obligations.CopyProgress
  intro h
  obtain ⟨hmoves, -⟩ := h straddlingState straddlingCopy (bareContext 0 0) rfl rfl rfl rfl rfl (by decide) (by decide) (by decide) rfl
  obtain ⟨-, hbegun⟩ := hmoves 0 0x403E 4 straddlingPlace straddlingPlace (bareTeam 0 1) rfl rfl rfl (by decide) rfl rfl
    (by decide) rfl rfl (.inr ⟨.inl rfl, by decide⟩) (.inl ⟨rfl, by decide, rfl, rfl, rfl, straddling_translates⟩)
  obtain ⟨t, hexec, -, -, -, hmem, -⟩ := hbegun 0 4 (by decide) rfl rfl rfl (by decide) (by decide)
  obtain ⟨-, -, htags⟩ := hmem rfl
  have htag := straddling_tag
  rw [hexec] at htag
  have hkept : t.mem.tag 0x101 = .def' := htags 0x101
  simp [tagAfter, hkept] at htag
end

section
/-!
PROOFS. The remote instructions at issue (O42): an RWAIT that an arrival has ended, where its group binds a port to a register
that is none of v124 to v127.
-/
namespace Sys2Proof.Machine
set_option Elab.async false

/-- A binding of v5, whose group waits for its next chunk. -/
def lowPort : Port := { reg := 5, dir := .read, wanted := true }

/-- A group inside a clause with that binding, whose RWAIT has been taken up by an arrival (R306, R320). -/
def lowPortGroup : Group := { bareGroup 1 with woken := true, ports := [lowPort] }

/-- The smallest machine in which that group issues. -/
def lowPortState : State :=
  { State.reset with cur := some 1, groups := [lowPortGroup], teams := [bareTeam 0 1], contexts := [bareContext 0 0] }

/-- What that group knows as it issues. -/
def lowPortIssue : Issue :=
  ⟨lowPortState, lowPortGroup, { label := 0, pc := 0xFFC, lanes := ~~~0 },
    { header := 0x1E000000, addr := 0xFFC, split := 0, pc := 0x1000 },
    bareTeam 0 1, bareContext 0 0⟩

theorem lowPortState_issue : lowPortState.issue = some lowPortIssue := inClause_eq_some rfl rfl rfl rfl rfl rfl

/-- An RWAIT that reads its count from v5. -/
def rwait5 : FabOp := ⟨⟨0, 0, 0, 5, 0, false⟩, 0, 0, 0⟩

/-- Whether some port of group 1 is waited for after a step. -/
def portWanted : Host.Outcome State Fault Refusal → Option Bool
  | .next t => (t.group 1).map fun g => g.ports.any Port.wanted
  | _ => none

/-- The end of the RWAIT uses up the chunk of every binding whose register it names (R344). -/
theorem rwait5_uses_port : portWanted (exec (.rwait rwait5) lowPortState) = some false := by
  rw [exec_rwait]
  unfold execRwait
  rw [runInstr_of_issue lowPortState_issue]
  decide

/-- The end of an instruction leaves the bindings alone. -/
theorem rwait5_ended_wants : portWanted (.next (lowPortIssue.ended (.rwait rwait5)
    (lowPortState.setMem (lowPortState.mem.flash lowPortIssue.core)))) = some true := by
  decide

end Sys2Proof.Machine

open Sys2Proof Sys2Proof.Machine

/-- Refutes O42: an RWAIT that was woken also uses up the chunks of the bindings that it names. In a machine with a binding of
a register below v124, which no QBIND that decodes makes, the hypothesis that nothing stops the instruction does not keep such
a binding out. -/
theorem not_remoteIssue : ¬ Obligations.RemoteIssue := by
  unfold Obligations.RemoteIssue
  intro h
  obtain ⟨-, -, -, -, hrwait, -⟩ := h lowPortState lowPortIssue rwait5 0 lowPortState_issue (by decide) (by decide)
  obtain ⟨hover, -⟩ := hrwait (by decide) (by decide)
  have hports := congrArg portWanted (hover (.inr rfl))
  rw [rwait5_uses_port] at hports
  exact absurd (hports.trans rwait5_ended_wants) (by decide)
end
